-- ==== Sys2Proof/Word.lean ====
section
/-! DEFINITION. The plainest data of the FLX8 model: bytes, dictionary values and sparse tables. -/

namespace Sys2Proof

/-- One byte of a payload, a string or a DOMAIN. -/
abbrev Byte := BitVec 8

/-- The value of one dictionary subindex (R293): a number of the entry's size, or the bytes of a
VISIBLE_STRING or DOMAIN. A BOOLEAN is `num 0` or `num 1`; a REAL32 is its 32 raw bits. -/
inductive Val where
  | num (n : Nat)
  | bytes (b : List Byte)
  deriving DecidableEq, Repr, Inhabited

/-- A sparse map from keys to values as plain data: keys strictly rising. What an absent key reads as
is said by the reader (`Table.get` of Machine/Ops). -/
abbrev Table (α : Type) := List (Nat × α)

/-- An IPv4 address and a UDP port (R332 SessionPeer, SessionTppEndpoint). -/
structure Endpoint where
  ip  : Nat
  udp : Nat
  deriving DecidableEq, Repr, Inhabited

abbrev Die := Fin 6
abbrev Ctl := Fin 2
/-- A die numbered as R427, R428 and R440 number them: 0 CA, 1 CB, 2 to 7 P0 to P5. -/
abbrev AnyDie := Fin 8
abbrev HeadNo := Fin 24
abbrev StreamNo := Fin 4
abbrev LayerNo := Fin 192
abbrev SourceNo := Fin 512
abbrev TagNo := Fin 4096
abbrev EthPort := Fin 4
abbrev CanPort := Fin 2
abbrev SessNo := Fin 8
abbrev SceneNo := Fin 64
abbrev CamPort := Fin 12
abbrev PipeNo := Fin 12
abbrev InputNo := Fin 128
abbrev TouchNo := Fin 12
abbrev MemIf := Fin 4

end Sys2Proof
end

