-- ==== Sys2Proof/Syntax.lean ====
section
/-! DEFINITION. The commands of the block: one constructor of `Instr` per row of spec/opcode_table.json,
with the operands the spec gives the event. Every command carries `dt`, the ns of the local reference
since the previous command (notes/assumptions/1.md). -/

namespace Sys2Proof

/-- Who makes a dictionary access (R294): an open DXP session, a CANopen FD client (its port and node ID,
R311), or a configuration bundle being applied (R354). -/
inductive Requester where
  | session (k : SessNo)
  | can (f : CanPort) (node : Nat)
  | bundle
  deriving DecidableEq, Repr

/-- What a sink and its branch device report over AUX (R174, R185, R196:04). `usable` is FALSE when the
link partner requires anything outside the subset of R174 or anything R7 excludes. -/
structure SinkCaps where
  dpcdRev : Nat
  rate    : Nat
  lanes   : Nat
  mst     : Bool
  branch  : Bool
  ports   : List Nat
  usable  : Bool
  deriving DecidableEq, Repr, Inhabited

/-- The three things an IRQ_HPD short pulse may announce (R186). -/
inductive IrqKind where
  | lossOfLock
  | sinkRemoved (k : StreamNo)
  | sinkAdded (k : StreamNo)
  deriving DecidableEq, Repr

/-- Bits of a header or a payload found flipped as a tile is fetched (R73, R77): `stored` says that they are flipped in
surface memory itself, else on the way from it. -/
structure Damage where
  bits   : List Nat
  stored : Bool
  deriving DecidableEq, Repr, Inhabited

/-- A CSI-2 packet that no input takes (R115, R117): its port, whether a bit of its header was corrected, and whether its
payload CRC-16 held, which a short packet has none to fail. -/
structure StrayPacket where
  port     : CamPort
  eccFixed : Bool
  crcOk    : Bool
  deriving DecidableEq, Repr, Inhabited

/-- The 16-byte header of a TPP datagram (R94), the UDP payload length it came with, and whether a
reserved field of its body (R95) is not zero. -/
structure TppHeader where
  magic    : Nat
  version  : Nat
  op       : Nat
  session  : Nat
  count    : Nat
  source   : Nat
  seq      : Nat
  flags    : Nat
  dseq     : Nat
  len      : Nat
  bodyRsvd : Bool
  deriving DecidableEq, Repr

/-- One tile of a TILE_UPDATE (R95): its index, its 16-byte header and its payload in canonical order. -/
structure TppTile where
  index   : Nat
  hdr     : BitVec 128
  payload : List Byte
  deriving DecidableEq, Repr

/-- The 16-byte frame close of an END_OF_FRAME (R95). -/
structure FrameClose where
  capture   : Nat
  signature : Nat
  count     : Nat
  deriving DecidableEq, Repr

/-- One sample row data segment of an ST 2110-20 packet (R101, R103): its row, its first pixel, and its samples as the
packing of ST 2110-20 orders them: Cb, Y0, Cr, Y1 for each pair of YCbCr-4:2:2 pixels, R, G, B for each RGB pixel. -/
structure RowData where
  row     : Nat
  first   : Nat
  samples : List Nat
  deriving DecidableEq, Repr

/-- An ST 2110-20 RTP packet (R101 to R105). -/
structure RtpPacket where
  payloadType : Nat
  seq         : Nat
  extSeqHi    : Nat
  timestamp   : Nat
  marker      : Bool
  field       : Bool
  rows        : List RowData
  deriving DecidableEq, Repr

/-- One entry of a TAG_TELEGRAM (R325). `rsvd` says that a zero byte or reserved bit is not zero. -/
structure TagEntry where
  tag   : Nat
  stamp : Option Nat
  value : Nat
  rsvd  : Bool
  deriving DecidableEq, Repr

/-- The HELLO message of a handshake (R320). `key` is the host's ephemeral key, `chain` its certificate chain. -/
structure Hello where
  session : Nat
  roles   : Nat
  nonce   : List Byte
  key     : List Byte
  chain   : List Byte
  deriving DecidableEq, Repr

/-- How the training of one memory interface at reset ended (R218, R451). -/
inductive TrainResult where
  | notPresent
  | failed
  | trained (densityGb ranks : Nat)
  deriving DecidableEq, Repr

/-- The refresh rate field of mode register 4 (R226). -/
inductive Mr4Rate where
  | oneOrSlower
  | two
  | faster
  deriving DecidableEq, Repr

/-- How a periodic training step ended (R230, R240:09). -/
inductive StepResult where
  | pass
  | outOfRange
  | noResponse
  deriving DecidableEq, Repr

/-- A Sync message as it arrives (R276): one-step with its origin time, or two-step. `arrival` is not
carried: the receiving base's own time is the arrival stamp. -/
structure PtpSyncMsg where
  seq         : Nat
  grandmaster : Nat
  domain      : Nat
  twoStep     : Bool
  origin      : Nat
  logInterval : Int
  deriving DecidableEq, Repr

/-- An Announce message (R276) with the fields the default BMCA compares, in its order. -/
structure PtpAnnounceMsg where
  grandmaster : Nat
  domain      : Nat
  rank        : List Nat
  logInterval : Int
  deriving DecidableEq, Repr

/-- The two heartbeat paths of R365; a SADDLE copy comes through one pixel die. -/
inductive HbPath where
  | saddle (p : Die)
  | wire
  deriving DecidableEq, Repr

/-- The PLLs of R410. -/
inductive Pll where
  | dot (k : Fin 4)
  | sup
  | fab
  | pix
  | mem
  | net
  deriving DecidableEq, Repr

/-- The kinds of die-to-die crossing (R413). -/
inductive LinkKind where
  | saddle
  | spur
  | heartbeatWire
  deriving DecidableEq, Repr

/-- The states of a camera port's lanes (R133:07). -/
inductive PortLink where
  | down
  | lpIdle
  | ulps
  | receiving
  deriving DecidableEq, Repr

/-- The CAN FD error states (R314:06). -/
inductive CanErr where
  | busOff
  | passive
  | active
  deriving DecidableEq, Repr

/-- Why a DXP datagram is dropped without an answer (R316, R319). -/
inductive DxpDrop where
  | header
  | tag (k : SessNo)
  | noSession (k : Nat)
  deriving DecidableEq, Repr

/-- Activity on the TAP (R469): a boundary-scan instruction, or an access of the DEBUG master (R338, R345).
An access with data writes them; one without reads `len` bytes. -/
inductive TapOp where
  | bypass
  | idcode
  | sample
  | extest (pins : List Bool)
  | access (addr len : Nat) (data : Option (List Byte))
  deriving DecidableEq, Repr

/-- The commands, in the order of the opcode table; each docstring names the rule of the row. DESIGN CHOICE: notes/assumptions/1.md. DESIGN CHOICE: notes/assumptions/168.md. -/
inductive Instr where
  /-- COMMIT_WINDOW_CLOSE, R14. -/
  | commitWindowClose (dt : Nat) (p : Die)
  /-- TICK_LATCH, R15. -/
  | tickLatch (dt : Nat) (p : Die)
  /-- HEAD_FRAME_LAUNCH, R179. -/
  | headFrameLaunch (dt : Nat) (h : HeadNo)
  /-- RASTER_LINE, R187. -/
  | rasterLine (dt : Nat) (h : HeadNo) (k : StreamNo) (line : Nat) (parity : List (LayerNo × Nat)) (stuck : Bool)
  /-- TILE_FETCH_DONE, R73. -/
  | tileFetchDone (dt : Nat) (n : LayerNo) (ahead : Bool) (tile : Nat) (hdrFlips : Damage) (payFlips : Damage)
  /-- HEAD_PIPE_RESET_DONE, R191. -/
  | headPipeResetDone (dt : Nat) (h : HeadNo)
  /-- DOT_PLL_LOCK, R184. -/
  | dotPllLock (dt : Nat) (h : HeadNo)
  /-- LINK_TRAINING_RESULT, R185. -/
  | linkTrainingResult (dt : Nat) (h : HeadNo) (ok : Bool)
  /-- LINK_TRAINING_RETRY, R185. -/
  | linkTrainingRetry (dt : Nat) (h : HeadNo) (caps : SinkCaps)
  /-- HPD_LOW_TIMEOUT, R186. -/
  | hpdLowTimeout (dt : Nat) (h : HeadNo)
  /-- HPD_HIGH, R186. -/
  | hpdHigh (dt : Nat) (h : HeadNo) (caps : SinkCaps)
  /-- IRQ_HPD, R186. -/
  | irqHpd (dt : Nat) (h : HeadNo) (ev : IrqKind)
  /-- TPP_TILE_UPDATE, R96. -/
  | tppTileUpdate (dt : Nat) (port : EthPort) (peer : Endpoint) (hd : TppHeader) (tiles : List TppTile)
  /-- TPP_RESEAL, R100. -/
  | tppReseal (dt : Nat) (port : EthPort) (peer : Endpoint) (hd : TppHeader) (tiles : List (Nat × BitVec 128))
  /-- TPP_END_OF_FRAME, R98. -/
  | tppEndOfFrame (dt : Nat) (port : EthPort) (peer : Endpoint) (hd : TppHeader) (fc : FrameClose)
  /-- TPP_KEEPALIVE, R88. -/
  | tppKeepalive (dt : Nat) (port : EthPort) (peer : Endpoint) (hd : TppHeader) (time : Nat) (st : Nat)
  /-- UNATTRIBUTED_DATAGRAM, R92. -/
  | unattributedDatagram (dt : Nat) (port : EthPort)
  /-- INGRESS_UNIT_STORED, R210. -/
  | ingressUnitStored (dt : Nat) (p : Die) (q : Fin 16)
  /-- RTP_PACKET, R103. -/
  | rtpPacket (dt : Nat) (port : EthPort) (group : Nat) (udp : Nat) (pkt : RtpPacket)
  /-- ST2110_MERGE_WAIT_END, R104. -/
  | st2110MergeWaitEnd (dt : Nat) (s : SourceNo)
  /-- ST2110_FRAME_RECORD, R106. -/
  | st2110FrameRecord (dt : Nat) (s : SourceNo)
  /-- ST2110_PATH_SILENCE, R107. -/
  | st2110PathSilence (dt : Nat) (s : SourceNo) (path : Fin 2)
  /-- SIGNAL_LOSS_TIMEOUT, R88. -/
  | signalLossTimeout (dt : Nat) (s : SourceNo) (p : Die)
  /-- INT_PATTERN_FRAME, R473. -/
  | intPatternFrame (dt : Nat) (p : Die)
  /-- SPUR_TILE_ARRIVAL, R109. -/
  | spurTileArrival (dt : Nat) (p : Die) (q : Fin 4)
  /-- SPUR_PUBLISH_RECORD, R110. -/
  | spurPublishRecord (dt : Nat) (p : Die) (q : Fin 4)
  /-- SPUR_STATUS_RECORD, R111. -/
  | spurStatusRecord (dt : Nat) (p : Die) (q : Fin 4)
  /-- CSI_FRAME_START, R121. -/
  | csiFrameStart (dt : Nat) (c : CamPort) (vc : Fin 16) (eccFixed : Bool)
  /-- CSI_LONG_PACKET, R121. -/
  | csiLongPacket (dt : Nat) (c : CamPort) (vc : Fin 16) (dtype : Nat) (samples : List Nat) (crcOk : Bool) (eccFixed : Bool)
  /-- CSI_FRAME_END, R121. -/
  | csiFrameEnd (dt : Nat) (c : CamPort) (vc : Fin 16) (eccFixed : Bool)
  /-- CSI_HEADER_ECC_UNCORRECTABLE, R117. -/
  | csiHeaderEccUncorrectable (dt : Nat) (c : CamPort)
  /-- CSI_PACKET_IGNORED, R115. -/
  | csiPacketIgnored (dt : Nat) (c : StrayPacket)
  /-- CSI_FRAME_GAP, R121. -/
  | csiFrameGap (dt : Nat) (i : InputNo)
  /-- PIPELINE_LINE_DONE, R130. -/
  | pipelineLineDone (dt : Nat) (j : PipeNo)
  /-- COMMIT_MESSAGE, R158. -/
  | commitMessage (dt : Nat) (p : Die)
  /-- LAYER_COMMIT, R158. -/
  | layerCommit (dt : Nat) (who : Requester) (n : LayerNo)
  /-- HEAD_COMMIT, R184. -/
  | headCommit (dt : Nat) (who : Requester) (h : HeadNo)
  /-- GUARD_COMMIT, R152. -/
  | guardCommit (dt : Nat) (who : Requester) (h : HeadNo)
  /-- GUARD_LOCK, R152. -/
  | guardLock (dt : Nat) (who : Requester) (h : HeadNo)
  /-- TAG_COMMIT, R169. -/
  | tagCommit (dt : Nat) (who : Requester) (t : TagNo)
  /-- WRITEBACK_COMMIT, R170. -/
  | writebackCommit (dt : Nat) (who : Requester) (p : Die)
  /-- WRITEBACK_HOLD, R172. -/
  | writebackHold (dt : Nat) (who : Requester) (p : Die)
  /-- WRITEBACK_RELEASE, R172. -/
  | writebackRelease (dt : Nat) (who : Requester) (p : Die)
  /-- SCENE_LAUNCH_AT_TIME, R161. -/
  | sceneLaunchAtTime (dt : Nat) (who : Requester) (k : SceneNo)
  /-- SCENE_LAUNCH_NOW, R161. -/
  | sceneLaunchNow (dt : Nat) (who : Requester) (k : SceneNo)
  /-- SCENE_CANCEL, R161. -/
  | sceneCancel (dt : Nat) (who : Requester) (k : SceneNo)
  /-- POLICY_LOCK, R45. -/
  | policyLock (dt : Nat) (who : Requester)
  /-- TAG_VALUE_WRITE, R168. -/
  | tagValueWrite (dt : Nat) (who : Requester) (t : TagNo) (v : Nat)
  /-- SOURCE_ENABLE_WRITE, R87. -/
  | sourceEnableWrite (dt : Nat) (who : Requester) (s : SourceNo) (on : Bool)
  /-- CAMERA_INPUT_ENABLE, R119. -/
  | cameraInputEnable (dt : Nat) (who : Requester) (i : InputNo) (on : Bool)
  /-- CAMERA_INPUT_COMMIT, R120. -/
  | cameraInputCommit (dt : Nat) (who : Requester) (i : InputNo)
  /-- TOUCH_ENABLE_WRITE, R269. -/
  | touchEnableWrite (dt : Nat) (who : Requester) (k : TouchNo) (on : Bool)
  /-- TOUCH_SELF_TEST, R259. -/
  | touchSelfTest (dt : Nat) (who : Requester) (k : TouchNo)
  /-- MEM_IF_RETIRE, R237. -/
  | memIfRetire (dt : Nat) (who : Requester) (p : Die) (m : MemIf)
  /-- MEM_FSP_LIMIT_WRITE, R231. -/
  | memFspLimitWrite (dt : Nat) (who : Requester) (p : Die) (v : Nat)
  /-- CLOCK_MEASURE_REQUEST, R428. -/
  | clockMeasureRequest (dt : Nat) (who : Requester) (v : Nat)
  /-- SUPPLY_TEST_STAGE, R426. -/
  | supplyTestStage (dt : Nat) (who : Requester) (v : Nat)
  /-- TIMEBASE_CONFIG_WRITE, R277. -/
  | timebaseConfigWrite (dt : Nat) (who : Requester) (b : Fin 4) (sub : Nat) (v : Nat)
  /-- RULE_COMMIT, R342. -/
  | ruleCommit (dt : Nat) (who : Requester) (e : Fin 128)
  /-- RULE_LOCK, R343. -/
  | ruleLock (dt : Nat) (who : Requester) (e : Fin 128)
  /-- REGISTER_WRITE, R295. -/
  | registerWrite (dt : Nat) (who : Requester) (idx : Nat) (sub : Nat) (v : Val)
  /-- SESSION_CLAIM_LAYER, R330. -/
  | sessionClaimLayer (dt : Nat) (who : Requester) (k : SessNo) (n : Nat)
  /-- SESSION_RELEASE_LAYER, R330. -/
  | sessionReleaseLayer (dt : Nat) (who : Requester) (k : SessNo) (n : Nat)
  /-- SESSION_CLOSE_WRITE, R327. -/
  | sessionCloseWrite (dt : Nat) (who : Requester) (k : SessNo)
  /-- ERROR_RING_ACK, R433. -/
  | errorRingAck (dt : Nat) (who : Requester) (d : AnyDie) (num : Nat)
  /-- ATTEST_NONCE_WRITE, R352. -/
  | attestNonceWrite (dt : Nat) (who : Requester) (nonce : List Byte)
  /-- BUNDLE_APPLY, R354. -/
  | bundleApply (dt : Nat) (who : Requester)
  /-- DEBUG_REQUEST, R346. -/
  | debugRequest (dt : Nat) (who : Requester)
  /-- DEBUG_CLOSE, R347. -/
  | debugClose (dt : Nat) (who : Requester)
  /-- DEBUG_APPROVE_MAINT, R346. -/
  | debugApproveMaint (dt : Nat) (who : Requester) (sig : List Byte)
  /-- DEBUG_APPROVE_AUDIT, R346. -/
  | debugApproveAudit (dt : Nat) (who : Requester) (sig : List Byte)
  /-- DEBUG_CHALLENGE_EXPIRY, R346. -/
  | debugChallengeExpiry (dt : Nat)
  /-- DEBUG_MAX_OPEN_EXPIRY, R347. -/
  | debugMaxOpenExpiry (dt : Nat)
  /-- DXP_HELLO, R320. -/
  | dxpHello (dt : Nat) (port : EthPort) (peer : Endpoint) (m : Hello)
  /-- DXP_PROVE, R321. -/
  | dxpProve (dt : Nat) (port : EthPort) (peer : Endpoint) (sig : List Byte)
  /-- HANDSHAKE_TIMEOUT, R320. -/
  | handshakeTimeout (dt : Nat) (peer : Endpoint)
  /-- DXP_READ, R317. -/
  | dxpRead (dt : Nat) (port : EthPort) (peer : Endpoint) (k : SessNo) (seq : Nat) (idx : Nat) (sub : Nat)
  /-- DXP_WRITE, R317. -/
  | dxpWrite (dt : Nat) (port : EthPort) (peer : Endpoint) (k : SessNo) (seq : Nat) (idx : Nat) (sub : Nat) (v : Val)
  /-- DXP_READ_ALL, R297. -/
  | dxpReadAll (dt : Nat) (port : EthPort) (peer : Endpoint) (k : SessNo) (seq : Nat) (idx : Nat)
  /-- DXP_BLOCK_READ, R324. -/
  | dxpBlockRead (dt : Nat) (port : EthPort) (peer : Endpoint) (k : SessNo) (seq : Nat) (idx : Nat) (sub : Nat) (off : Nat) (len : Nat)
  /-- DXP_BLOCK_WRITE, R324. -/
  | dxpBlockWrite (dt : Nat) (port : EthPort) (peer : Endpoint) (k : SessNo) (seq : Nat) (idx : Nat) (sub : Nat) (off : Nat) (last : Bool) (total : Nat) (data : List Byte)
  /-- DXP_TAG_TELEGRAM, R325. -/
  | dxpTagTelegram (dt : Nat) (port : EthPort) (peer : Endpoint) (k : SessNo) (seq : Nat) (count : Nat) (len : Nat) (entries : List TagEntry)
  /-- DXP_KEEPALIVE, R317. -/
  | dxpKeepalive (dt : Nat) (port : EthPort) (peer : Endpoint) (k : SessNo) (seq : Nat)
  /-- DXP_CLOSE, R327. -/
  | dxpClose (dt : Nat) (port : EthPort) (peer : Endpoint) (k : SessNo) (seq : Nat)
  /-- SESSION_IDLE_TIMEOUT, R327. -/
  | sessionIdleTimeout (dt : Nat) (k : SessNo)
  /-- EVENT_MESSAGE_SEND, R439. -/
  | eventMessageSend (dt : Nat) (k : SessNo)
  /-- RPDO, R310. -/
  | rpdo (dt : Nat) (f : CanPort) (cobId : Nat) (data : List Byte)
  /-- USDO_DOWNLOAD, R311. -/
  | usdoDownload (dt : Nat) (f : CanPort) (node : Nat) (idx : Nat) (sub : Nat) (v : Val)
  /-- USDO_UPLOAD, R311. -/
  | usdoUpload (dt : Nat) (f : CanPort) (node : Nat) (idx : Nat) (sub : Nat)
  /-- NMT_START_REMOTE_NODE, R309. -/
  | nmtStartRemoteNode (dt : Nat) (f : CanPort) (node : Nat)
  /-- NMT_ENTER_PRE_OPERATIONAL, R309. -/
  | nmtEnterPreOperational (dt : Nat) (f : CanPort) (node : Nat)
  /-- NMT_STOP_REMOTE_NODE, R309. -/
  | nmtStopRemoteNode (dt : Nat) (f : CanPort) (node : Nat)
  /-- NMT_RESET_COMMUNICATION, R309. -/
  | nmtResetCommunication (dt : Nat) (f : CanPort) (node : Nat)
  /-- NMT_RESET_NODE, R309. -/
  | nmtResetNode (dt : Nat) (f : CanPort) (node : Nat)
  /-- CAN_HEARTBEAT, R308. -/
  | canHeartbeat (dt : Nat) (f : CanPort)
  /-- TPDO_EVENT_TIMER, R313. -/
  | tpdoEventTimer (dt : Nat) (m : Fin 16)
  /-- EMCY_INHIBIT_END, R437. -/
  | emcyInhibitEnd (dt : Nat)
  /-- TELEGRAM_LAUNCH, R335. -/
  | telegramLaunch (dt : Nat) (who : Requester) (rec : List Byte)
  /-- TELEGRAM_DUE, R288. -/
  | telegramDue (dt : Nat)
  /-- TOUCH_UPSTREAM_IDLE, R247. -/
  | touchUpstreamIdle (dt : Nat) (k : TouchNo)
  /-- TOUCH_BRINGUP_RETRY, R247. -/
  | touchBringupRetry (dt : Nat) (k : TouchNo)
  /-- TOUCH_IDENT, R247. -/
  | touchIdent (dt : Nat) (k : TouchNo) (ver : Nat) (rows : Nat) (cols : Nat) (part : Nat)
  /-- TOUCH_ACK, R244. -/
  | touchAck (dt : Nat) (k : TouchNo) (addr : Nat)
  /-- TOUCH_REG, R244. -/
  | touchReg (dt : Nat) (k : TouchNo) (addr : Nat) (v : Nat)
  /-- TOUCH_STATUS, R249. -/
  | touchStatus (dt : Nat) (k : TouchNo) (code : Nat)
  /-- TOUCH_FRAME_SLOT, R252. -/
  | touchFrameSlot (dt : Nat) (k : TouchNo)
  /-- TOUCH_SAMPLE, R245. -/
  | touchSample (dt : Nat) (k : TouchNo) (frame : Nat) (chip : Nat) (samples : List Int)
  /-- TOUCH_REPORT_RELEASE, R262. -/
  | touchReportRelease (dt : Nat) (k : TouchNo)
  /-- TOUCH_LINK_TIMEOUT, R248. -/
  | touchLinkTimeout (dt : Nat) (k : TouchNo)
  /-- TOUCH_HOLD_LIMIT, R258. -/
  | touchHoldLimit (dt : Nat) (k : TouchNo) (id : Fin 10)
  /-- MEM_TRAINING_DONE, R218. -/
  | memTrainingDone (dt : Nat) (p : Die) (res : List TrainResult)
  /-- REFRESH_ACCRUAL, R225. -/
  | refreshAccrual (dt : Nat) (p : Die) (m : MemIf) (rank : Fin 2)
  /-- MR4_POLL, R226. -/
  | mr4Poll (dt : Nat) (p : Die) (m : MemIf) (rank : Fin 2) (rate : Mr4Rate)
  /-- PERIODIC_TRAINING_STEP, R229. -/
  | periodicTrainingStep (dt : Nat) (p : Die) (m : MemIf) (fsp : Fin 3)
  /-- TRAINING_STEP_END, R230. -/
  | trainingStepEnd (dt : Nat) (p : Die) (m : MemIf) (res : StepResult)
  /-- FSP_SWITCH_START, R232. -/
  | fspSwitchStart (dt : Nat) (p : Die)
  /-- FSP_SWITCH_DONE, R233. -/
  | fspSwitchDone (dt : Nat) (p : Die)
  /-- FSP_SWITCH_NO_WINDOW, R235. -/
  | fspSwitchNoWindow (dt : Nat) (p : Die)
  /-- MIGRATION_COMPLETE, R237. -/
  | migrationComplete (dt : Nat) (p : Die) (m : MemIf)
  /-- RETIRE_DEADLINE, R238. -/
  | retireDeadline (dt : Nat) (p : Die) (m : MemIf)
  /-- MEM_IF_TIMEOUT, R238. -/
  | memIfTimeout (dt : Nat) (p : Die) (m : MemIf)
  /-- MEM_REQUEST_ENQUEUE, R211. -/
  | memRequestEnqueue (dt : Nat) (p : Die) (port : Fin 11) (mq : Fin 8) (m : MemIf) (addr : Nat)
  /-- REQUEST_LATE, R224. -/
  | requestLate (dt : Nat) (p : Die) (id : Nat)
  /-- DRAIN_END, R213. -/
  | drainEnd (dt : Nat) (p : Die) (returned : List Nat)
  /-- QUEUE_DEQUEUE, R209. -/
  | queueDequeue (dt : Nat) (p : AnyDie) (q : Fin 64) (desc : List Byte)
  /-- DESCRIPTOR_RESEND, R209. -/
  | descriptorResend (dt : Nat) (p : AnyDie) (q : Fin 64) (desc : List Byte)
  /-- TIME_FEED_SEND, R274. -/
  | timeFeedSend (dt : Nat)
  /-- TIME_FEED_MESSAGE, R274. -/
  | timeFeedMessage (dt : Nat) (p : Die) (c : Ctl)
  /-- TIME_FEED_TIMEOUT, R274. -/
  | timeFeedTimeout (dt : Nat) (p : Die)
  /-- SADDLE_DELAY_MEASURE, R274. -/
  | saddleDelayMeasure (dt : Nat) (c : Ctl) (p : Die) (roundTrip : Nat)
  /-- PEER_TIME_ALIGN, R275. -/
  | peerTimeAlign (dt : Nat)
  /-- TB3_PERSIST, R275. -/
  | tb3Persist (dt : Nat)
  /-- OSC_TRIM, R289. -/
  | oscTrim (dt : Nat) (d : AnyDie) (errPpm : Int)
  /-- PTP_SYNC, R278. -/
  | ptpSync (dt : Nat) (c : Ctl) (b : Fin 2) (m : PtpSyncMsg)
  /-- PTP_FOLLOW_UP, R276. -/
  | ptpFollowUp (dt : Nat) (c : Ctl) (b : Fin 2) (seq : Nat) (origin : Nat)
  /-- PTP_DELAY_RESP, R276. -/
  | ptpDelayResp (dt : Nat) (c : Ctl) (b : Fin 2) (seq : Nat) (receive : Nat) (logInterval : Int)
  /-- PTP_ANNOUNCE, R276. -/
  | ptpAnnounce (dt : Nat) (c : Ctl) (b : Fin 2) (a : PtpAnnounceMsg)
  /-- PTP_ANNOUNCE_TIMEOUT, R277. -/
  | ptpAnnounceTimeout (dt : Nat) (c : Ctl) (b : Fin 2)
  /-- PTP_SYNC_TIMEOUT, R277. -/
  | ptpSyncTimeout (dt : Nat) (c : Ctl) (b : Fin 2)
  /-- HEARTBEAT_SEND, R365. -/
  | heartbeatSend (dt : Nat)
  /-- HEARTBEAT_ARRIVAL, R365. -/
  | heartbeatArrival (dt : Nat) (c : Ctl) (path : HbPath)
  /-- HEARTBEAT_PATH_SILENT, R366. -/
  | heartbeatPathSilent (dt : Nat) (c : Ctl) (path : HbPath)
  /-- BOTH_PATHS_SILENT, R369. -/
  | bothPathsSilent (dt : Nat) (c : Ctl)
  /-- TOKEN_REQUEST, R368. -/
  | tokenRequest (dt : Nat) (p : Die) (c : Ctl)
  /-- TOKEN_GRANT, R369. -/
  | tokenGrant (dt : Nat) (c : Ctl) (p : Die)
  /-- TAKEOVER_TOKEN_RETRY, R369. -/
  | takeoverTokenRetry (dt : Nat) (c : Ctl)
  /-- TAKEOVER_NO_MAJORITY, R369. -/
  | takeoverNoMajority (dt : Nat) (c : Ctl)
  /-- CONTROL_DEMOTION, R371. -/
  | controlDemotion (dt : Nat) (c : Ctl)
  /-- CHECKPOINT_COMMIT, R374. -/
  | checkpointCommit (dt : Nat)
  /-- SHADOW_DIGEST, R377. -/
  | shadowDigest (dt : Nat) (digest : List Byte)
  /-- DIGEST_LATE, R377. -/
  | digestLate (dt : Nat)
  /-- COMPARISON_PASS, R378. -/
  | comparisonPass (dt : Nat)
  /-- DRILL_INTERVAL, R379. -/
  | drillInterval (dt : Nat)
  /-- RED_COMMAND_DRILL, R379. -/
  | redCommandDrill (dt : Nat) (who : Requester)
  /-- RED_COMMAND_HANDOVER, R383. -/
  | redCommandHandover (dt : Nat) (who : Requester)
  /-- RED_COMMAND_CLEAR_SUSPECT, R381. -/
  | redCommandClearSuspect (dt : Nat) (who : Requester)
  /-- TAKE_BACK_HOLDOFF_END, R382. -/
  | takeBackHoldoffEnd (dt : Nat) (c : Ctl)
  /-- CONTROL_RESTART_MAINT, R384. -/
  | controlRestartMaint (dt : Nat) (who : Requester)
  /-- CONTROL_RESTART_AUDIT, R384. -/
  | controlRestartAudit (dt : Nat) (who : Requester)
  /-- FW_STAGE_COMMIT, R386. -/
  | fwStageCommit (dt : Nat) (who : Requester)
  /-- FW_STAGING_DONE, R386. -/
  | fwStagingDone (dt : Nat)
  /-- FW_ACTIVATE_STAGED, R386. -/
  | fwActivateStaged (dt : Nat) (who : Requester)
  /-- FW_ACTIVATE_FALLBACK, R386. -/
  | fwActivateFallback (dt : Nat) (who : Requester)
  /-- FW_SECURITY_VERSION_RAISE, R349. -/
  | fwSecurityVersionRaise (dt : Nat)
  /-- MC_SWAP_ARM, R387. -/
  | mcSwapArm (dt : Nat) (who : Requester) (p : Die)
  /-- MC_SWAP_CANCEL, R388. -/
  | mcSwapCancel (dt : Nat) (who : Requester) (p : Die)
  /-- MC_INSTALL_NEXT_RESET, R387. -/
  | mcInstallNextReset (dt : Nat) (who : Requester) (p : Die)
  /-- PROBATION_END, R389. -/
  | probationEnd (dt : Nat) (p : Die)
  /-- RED_PIXEL_RESET, R390. -/
  | redPixelReset (dt : Nat) (who : Requester) (p : Die)
  /-- RED_PIXEL_RESET_WITH_REPAIR, R391. -/
  | redPixelResetWithRepair (dt : Nat) (who : Requester) (p : Die)
  /-- RED_PIXEL_RELEASE_HELD, R392. -/
  | redPixelReleaseHeld (dt : Nat) (who : Requester) (p : Die)
  /-- PIXEL_DIE_RESET_RELEASE, R390. -/
  | pixelDieResetRelease (dt : Nat) (p : Die)
  /-- DIE_REPAIR_TEST_DONE, R391. -/
  | dieRepairTestDone (dt : Nat) (p : Die) (failing : Nat)
  /-- PIXEL_DIE_CONFIG_RELOADED, R390. -/
  | pixelDieConfigReloaded (dt : Nat) (p : Die)
  /-- CONTROL_DIE_BOOT, R348. -/
  | controlDieBoot (dt : Nat) (c : Ctl) (selfTest : Bool)
  /-- PWRGOOD_RISE, R416. -/
  | pwrgoodRise (dt : Nat)
  /-- PWRGOOD_FALL, R412. -/
  | pwrgoodFall (dt : Nat)
  /-- RESETN_LOW, R457. -/
  | resetnLow (dt : Nat)
  /-- RESETN_RISE, R457. -/
  | resetnRise (dt : Nat)
  /-- OSCILLATOR_READY, R401. -/
  | oscillatorReady (dt : Nat) (d : AnyDie) (straps : Fin 8)
  /-- CRYSTAL_START_DELAY_END, R403. -/
  | crystalStartDelayEnd (dt : Nat) (c : Ctl)
  /-- CRYSTAL_QUALIFY_TIMEOUT, R403. -/
  | crystalQualifyTimeout (dt : Nat) (c : Ctl)
  /-- FREQ_WINDOW_END, R405. -/
  | freqWindowEnd (dt : Nat) (d : AnyDie) (count : Nat)
  /-- MISSING_EDGE, R407. -/
  | missingEdge (dt : Nat) (d : AnyDie)
  /-- CLOCK_HOLDOVER_TIMEOUT, R409. -/
  | clockHoldoverTimeout (dt : Nat) (d : AnyDie)
  /-- PLL_FAULT, R410. -/
  | pllFault (dt : Nat) (d : AnyDie) (pll : Pll)
  /-- SUPPLY_DWELL_EXPIRY, R418. -/
  | supplyDwellExpiry (dt : Nat) (d : AnyDie) (level : Fin 5) (mv : Nat)
  /-- SUPPLY_RECOVERY_EXPIRY, R419. -/
  | supplyRecoveryExpiry (dt : Nat) (d : AnyDie) (mv : Nat)
  /-- SUPPLY_BROWNOUT, R420. -/
  | supplyBrownout (dt : Nat) (d : AnyDie) (lowest : Nat)
  /-- SUPPLY_HOLD_RELEASE, R423. -/
  | supplyHoldRelease (dt : Nat) (d : AnyDie) (mv : Nat)
  /-- D2D_PEER_RESET, R413. -/
  | d2dPeerReset (dt : Nat) (d : AnyDie) (kind : LinkKind) (o : AnyDie)
  /-- D2D_PEER_UP, R413. -/
  | d2dPeerUp (dt : Nat) (d : AnyDie) (kind : LinkKind) (o : AnyDie)
  /-- THERMN_ASSERT, R463. -/
  | thermnAssert (dt : Nat) (d : AnyDie) (temp : Int)
  /-- THERMN_RELEASE, R463. -/
  | thermnRelease (dt : Nat) (temps : List Int)
  /-- HBTEST_HIGH, R462. -/
  | hbtestHigh (dt : Nat)
  /-- HBTEST_LOW, R462. -/
  | hbtestLow (dt : Nat)
  /-- PORT_LINK_STATE_CHANGE, R133. -/
  | portLinkStateChange (dt : Nat) (c : CamPort) (st : PortLink)
  /-- CAN_ERROR_STATE_CHANGE, R314. -/
  | canErrorStateChange (dt : Nat) (f : CanPort) (st : CanErr)
  /-- PTP_DELAY_REQ_SEND, R276. -/
  | ptpDelayReqSend (dt : Nat) (c : Ctl) (b : Fin 2)
  /-- DXP_DATAGRAM_DROPPED, R319. -/
  | dxpDatagramDropped (dt : Nat) (port : EthPort) (why : DxpDrop)
  /-- ARP_ICMP_ECHO_REQUEST, R315. -/
  | arpIcmpEchoRequest (dt : Nat) (port : EthPort) (echo : Bool) (from_ : Endpoint)
  /-- TOUCH_PACKET_DISCARDED, R243. -/
  | touchPacketDiscarded (dt : Nat) (k : TouchNo) (inFrame : Bool)
  /-- MICROCODE_CHECK_FAIL, R389. -/
  | microcodeCheckFail (dt : Nat) (p : Die)
  /-- PLL_LOCK_ACQUIRED, R416. -/
  | pllLockAcquired (dt : Nat) (d : AnyDie)
  /-- CHECKPOINT_COMMIT_DONE, R374. -/
  | checkpointCommitDone (dt : Nat)
  /-- AUDIT_RECORD_PROGRAMMED, R357. -/
  | auditRecordProgrammed (dt : Nat)
  /-- DEBUG_TAP_ACCESS, R469. -/
  | debugTapAccess (dt : Nat) (op : TapOp)
  deriving DecidableEq, Repr

end Sys2Proof
end

