-- ==== Sys2Proof/Decode.lean ====
section
/-! DEFINITION. The commands that words spell. No row of spec/opcode_table.json gives bits: every row is an event of
the block, taken with its operands (notes/assumptions/5.md). -/

namespace Sys2Proof

/-- The command a word of the opcode table spells: none, for no row of the table gives bits. -/
def decodeTableWord (nbits w : Nat) : Option Instr :=
  match nbits, w with
  | _, _ => none

end Sys2Proof
end

