-- ==== Sys2Proof/Machine/Crc.lean ====
section
/-! DEFINITION. The check codes the spec names: CRC-32C of R65, the 12-bit header check of R66, the CRC-16 of
the queue descriptors and of the touch link, and SHA-256. All over plain numbers. -/

namespace Sys2Proof.Machine

/-- Bits of a number, most significant first. -/
def bitsMsb : (n : Nat) → Nat → List Bool
  | 0, _ => []
  | n + 1, v => v.testBit n :: bitsMsb n v

/-- One step of a CRC that shifts left: `w` bits, polynomial `poly`. -/
def crcLeftStep (w poly crc : Nat) (b : Bool) : Nat :=
  let top := crc.testBit (w - 1)
  let sh := (2 * crc) % 2 ^ w
  if top == b then sh else sh ^^^ poly

def crcLeft (w poly : Nat) (crc : Nat) (bits : List Bool) : Nat := bits.foldl (crcLeftStep w poly) crc

/-- One step of CRC-32C, reflected (R65). -/
def crc32cStep (crc : Nat) : Nat := if crc % 2 = 1 then (crc / 2) ^^^ 0x82F63B78 else crc / 2

def crc32cByte (crc : Nat) (b : Byte) : Nat :=
  crc32cStep (crc32cStep (crc32cStep (crc32cStep
    (crc32cStep (crc32cStep (crc32cStep (crc32cStep (crc ^^^ b.toNat))))))))

/-- The running state of CRC-32C over bytes, before the final complement. -/
def crc32cRun (crc : Nat) (bs : List Byte) : Nat := bs.foldl crc32cByte crc

/-- CRC-32C (R65). -/
def crc32c (bs : List Byte) : Nat := crc32cRun 0xFFFFFFFF bs ^^^ 0xFFFFFFFF

/-- The 12-bit header check: polynomial 0x80F, initial value 0xFFF (R66). -/
def crc12 (bits : List Bool) : Nat := crcLeft 12 0x80F 0xFFF bits

/-- CRC-16 with polynomial 0x1021 and initial value 0xFFFF (R209, R243). -/
def crc16 (bs : List Byte) : Nat := crcLeft 16 0x1021 0xFFFF (bs.flatMap fun b => bitsMsb 8 b.toNat)

/-! ### SHA-256, which the spec names for digests, the hash chain and the measurement registers (R351, R359) -/

/-- Word `i` of a number of 256 bits, counted from its top. -/
def wordOf256 (n i : Nat) : Nat := n / 2 ^ (32 * (7 - i)) % 2 ^ 32

/-- The constants of the 64 rounds, eight to a number. -/
def roundConstants : List Nat :=
  [0x428a2f9871374491b5c0fbcfe9b5dba53956c25b59f111f1923f82a4ab1c5ed5,
   0xd807aa9812835b01243185be550c7dc372be5d7480deb1fe9bdc06a7c19bf174,
   0xe49b69c1efbe47860fc19dc6240ca1cc2de92c6f4a7484aa5cb0a9dc76f988da,
   0x983e5152a831c66db00327c8bf597fc7c6e00bf3d5a7914706ca635114292967,
   0x27b70a852e1b21384d2c6dfc53380d13650a7354766a0abb81c2c92e92722c85,
   0xa2bfe8a1a81a664bc24b8b70c76c51a3d192e819d6990624f40e3585106aa070,
   0x19a4c1161e376c082748774c34b0bcb5391c0cb34ed8aa4a5b9cca4f682e6ff3,
   0x748f82ee78a5636f84c878148cc7020890befffaa4506cebbef9a3f7c67178f2]

def roundConstant (t : Nat) : Nat := wordOf256 (roundConstants.getD (t / 8) 0) (t % 8)

/-- The eight words that a hash begins with, as one number. -/
def hashStart : Nat := 0x6a09e667bb67ae853c6ef372a54ff53a510e527f9b05688c1f83d9ab5be0cd19

/-- The exclusive or of a 32-bit word turned right by each of some places. -/
def turns (x : Nat) (places : List Nat) : Nat := places.foldl (fun acc n => acc ^^^ (x / 2 ^ n + x * 2 ^ (32 - n) % 2 ^ 32)) 0

def bigEndian (bs : List Byte) : Nat := bs.foldl (fun a b => 256 * a + b.toNat) 0

/-- The window moves on by one word. -/
def nextWindow (w : List Nat) : List Nat :=
  let near := w.getD 14 0
  let far := w.getD 1 0
  w.drop 1 ++ [(w.getD 0 0 + w.getD 9 0 + (turns far [7, 18] ^^^ far / 8) + (turns near [17, 19] ^^^ near / 1024)) % 2 ^ 32]

/-- One round: the eight working words `v` move down by one, with a new first and a changed fifth. -/
def hashRound (v : List Nat) (input : Nat) : List Nat :=
  let at_ (i : Nat) : Nat := v.getD i 0
  let choice := at_ 6 ^^^ (at_ 4 &&& (at_ 5 ^^^ at_ 6))
  let majority := (at_ 0 &&& (at_ 1 ||| at_ 2)) ||| (at_ 1 &&& at_ 2)
  let sum := at_ 7 + turns (at_ 4) [6, 11, 25] + choice + input
  ((sum + turns (at_ 0) [2, 13, 22] + majority) % 2 ^ 32 :: v.take 3) ++ ((at_ 3 + sum) % 2 ^ 32 :: (v.drop 4).take 3)

/-- Rounds `t` and on, `n` of them. -/
def hashRounds : (n t : Nat) → (window v : List Nat) → List Nat
  | 0, _, _, v => v
  | n + 1, t, w, v => hashRounds n (t + 1) (nextWindow w) (hashRound v (roundConstant t + w.getD 0 0))

/-- The hash so far with one block of 64 bytes taken in. -/
def hashBlock (v : List Nat) (block : List Byte) : List Nat :=
  let window := (List.range 16).map fun i => bigEndian ((block.drop (4 * i)).take 4)
  List.zipWith (fun x y => (x + y) % 2 ^ 32) v (hashRounds 64 0 window v)

def hashBlocks : (n : Nat) → List Nat → List Byte → List Nat
  | 0, v, _ => v
  | n + 1, v, bs => hashBlocks n (hashBlock v (bs.take 64)) (bs.drop 64)

def word32Bytes (v : Nat) : List Byte := (List.range 4).map fun i => BitVec.ofNat 8 (v / 256 ^ (3 - i))

/-- SHA-256 (FIPS 180-4): the message, a byte 0x80, zeros, and its length in bits fill whole blocks. -/
def sha256 (m : List Byte) : List Byte :=
  let blocks := (m.length + 72) / 64
  let zeros := 64 * blocks - m.length - 9
  let filled := m ++ (0x80#8 :: List.replicate zeros 0#8) ++ word32Bytes (m.length / 2 ^ 29) ++ word32Bytes (8 * m.length % 2 ^ 32)
  (hashBlocks blocks ((List.range 8).map (wordOf256 hashStart)) filled).flatMap word32Bytes

end Sys2Proof.Machine
end

