-- ==== Sys2Proof/Config.lean ====
section
/-! DEFINITION. What an implementation fixes and what the spec leaves open: constants without a body, so
that no proof can see a value of theirs. Each names the rule that leaves it open. -/

namespace Sys2Proof.Config

/-- The value the model takes where the spec states no value: applied to a counter of State
(notes/assumptions/2.md). DESIGN CHOICE: notes/assumptions/2.md. -/
opaque freeValue : Nat → Nat
/-- The rate correction, in ppb against the last rate, that a servo uses to slew toward its master; R278 and
R274 bound it, the model clamps it. -/
opaque slewPpb : Nat → Int
/-- The frequency correction a servo adds at one Sync, in ppb (R278): the spec bounds it, the model clamps it and
gives it the direction toward the master. -/
opaque servoPpb : Nat → Int
/-- A 32-byte random number drawn by the device (R320 device nonce, R346 challenge). -/
opaque randomBytes : Nat → List Byte
/-- IdentitySerial, R304: factory. DESIGN CHOICE: notes/assumptions/6.md. -/
opaque serial : List Byte
/-- IdentityEui64, R304: factory. -/
opaque eui64 : Nat
/-- IdentityDeviceCertificate, R304: factory. -/
opaque deviceCertificate : List Byte
/-- ManufacturerHardwareVersion, R305: factory. -/
opaque hardwareVersion : List Byte
/-- RevisionNumber, R305: factory. -/
opaque revisionNumber : Nat
/-- SerialNumber of 0x1018, R305: factory. -/
opaque serialNumber : Nat
/-- OTP contents at manufacture that no rule gives: FirmwareSecurityVersion (R349). -/
opaque otpSecurityVersion : Nat
/-- The firmware image held in a slot of a control die's NOR at manufacture (R385, R466). -/
opaque factoryFirmware : Nat → List Byte
/-- The microcode image held for a pixel die at manufacture (R466). -/
opaque factoryMicrocode : Nat → List Byte
/-- The bundle placed in QSPI NOR before the first boot (R355); empty: none. -/
opaque factoryBundle : List Byte
/-- The built-in rule table's entries that firmware enforces when no bundle is held (R348): enable, masters,
base, size in pages, access, per entry. -/
opaque builtinRule : Nat → Option (Nat × Nat × Nat × Nat)
/-- The version string of an image (R398:03, R399:02). The image layout is Cereth's. -/
opaque imageVersion : List Byte → List Byte
/-- The security version of a firmware image (R348, R349). -/
opaque imageSecurityVersion : List Byte → Nat
/-- The state layout version of a microcode image (R387). -/
opaque imageLayout : List Byte → Nat
/-- Whether an image's ECDSA P-256 signature verifies against an unrevoked Cereth key (R348). -/
opaque imageSigned : List Byte → Bool
/-- ECDSA P-256 verification of a signature by a public key over a SHA-256 digest. DESIGN CHOICE: notes/assumptions/10.md. -/
opaque ecdsaVerify : (key digest sig : List Byte) → Bool
/-- ECDSA P-256 signature of a digest by the device key (R304, R320, R352). -/
opaque deviceSign : (digest : List Byte) → List Byte
/-- The device's ephemeral public key for one handshake (R320). -/
opaque ephemeralKey : Nat → List Byte
/-- The x-coordinate of the ECDH shared point (R322). -/
opaque ecdhShared : (deviceSeed : Nat) → (hostKey : List Byte) → List Byte
/-- HKDF-SHA-256 to 72 bytes from input keying material, salt and info (R322). -/
opaque hkdf72 : (ikm salt info : List Byte) → List Byte
/-- AES-256-GCM (R319): key, nonce, additional data and plaintext to ciphertext and tag. -/
opaque gcmSeal : (key nonce aad plain : List Byte) → List Byte
/-- The trust anchor (0 to 3) among the given anchors at which a certificate chain ends (R321). -/
opaque chainAnchor : (anchors chain : List Byte) → Option Nat
/-- Whether every signature in a chain verifies (R321). -/
opaque chainSigned : (anchors chain : List Byte) → Bool
/-- Whether every certificate of a chain is within its dates at a TB0 time (R321). -/
opaque chainInDate : (chain : List Byte) → (tb0 : Nat) → Bool
/-- The leaf certificate of a chain (R321). -/
opaque chainLeaf : List Byte → List Byte
/-- The organisational units of a leaf certificate's subject (R321). -/
opaque leafUnits : List Byte → List (List Byte)
/-- The public key of a leaf certificate. -/
opaque leafKey : List Byte → List Byte
/-- Glyph bitmaps (R40): whether cell pixel (x, y) of a character is ink at a font size. -/
opaque glyphInk : (char size x y : Nat) → Bool
/-- Whether the polyphase scaler of R148 filters the horizontal axis first; the spec gives no order. -/
opaque scalerHorizontalFirst : Bool
/-- Stage 4 spatial noise reduction (R124): strength, colour filter code, image, row, column. -/
opaque spatialFilter : (strength cfa : Nat) → List (List Nat) → (y x : Nat) → Nat
/-- Stage 6 edge-directed demosaic (R124): filter code, image, row, column, giving R, G, B. -/
opaque demosaic : (cfa : Nat) → List (List Nat) → (y x : Nat) → Nat × Nat × Nat
/-- The output stream scaler (R127) along one axis: input and output sizes, taps, the samples. The spec gives no
coefficients. DESIGN CHOICE: notes/assumptions/37.md. -/
opaque streamAxis : (inN outN taps : Nat) → List Nat → List Nat
/-- The pixel of a line-sized neighbourhood that the defect pixel and noise stages use beyond the frame's
edge (R125 does not say). DESIGN CHOICE: notes/assumptions/38.md. -/
opaque edgeSample : (y x : Int) → Nat
/-- The delay value that training of an interface yields (R218, R229): interface, set point, instant. DESIGN CHOICE: notes/assumptions/195.md. -/
opaque delayValue : (mem fsp now : Nat) → Nat
/-- The highest fill, in per cent, of a hardware queue whose entries no command of the table carries (R207, R212): die, queue,
instant. -/
opaque queueFill : (die q now : Nat) → Nat
/-- How many control messages past the 64 of Q52 or Q53 a control die's queue holds before it overflows (R208): queue number. -/
opaque ctlDepth : Nat → Nat
/-- What a stuck output stage resends in place of a pixel (R191's fault): the draw and the column. DESIGN CHOICE: notes/assumptions/182.md. -/
opaque stuckPixel : Nat → Nat → Nat
/-- The byte a device address holds before any write (R337 gives no map of the address space). DESIGN CHOICE: notes/assumptions/9.md. -/
opaque addressByte : Nat → Byte
/-- The measured frequency of a clock, Hz (R428): die, clock code, measurement. -/
opaque measuredHz : (die code n : Nat) → Nat
/-- The digest of the boot ROM itself (R348). -/
opaque bootRomDigest : List Byte
/-- The bytes over which the rule table digest of R342 is formed: R342 does not lay them out. The argument is the
table's entries and lock states in order. DESIGN CHOICE: notes/assumptions/19.md. -/
opaque ruleImage : List Nat → List Byte
/-- The bytes that MEAS0 is extended with for the OTP configuration (R348 gives no layout): security version, debug
fuse, owner key slot states. -/
opaque otpImage : (secVer fuse keys : Nat) → List Byte
/-- The bytes of changed records, and of the pending scene and telegram lists, in a decision digest (R377 lays neither
out). -/
opaque recordImage : Table Val → List Byte
opaque pendingImage : List (Nat × Nat) → List Byte

end Sys2Proof.Config
end

