-- ==== Sys2Proof/Machine/State.lean ====
section
/-! DEFINITION. The state of the FLX8 as plain data: every register of the object dictionary in one sparse
store (`regs`), the configuration in force (`force`) and the supervisor's record of it (`record`, R302) in
two more of the same shape, and the units' own state beside them. Dies, units and sources are kept in
sparse tables by number; what an absent unit is, is its `reset` value here.

Codes of status subindexes stand as the numbers their object tables give them. Instants are ns: `mono` is
the count since device reset, TB0 to TB3 count as R272 says. -/

namespace Sys2Proof.Machine

/-! ### Tiles, frames and sources (spec/02, spec/03) -/

/-- A tile slot of surface memory: header and payload (R219), the interface each of the two lies on, and the number
the allocator of its die gave it. -/
structure Slot where
  num     : Nat
  hdr     : BitVec 128
  payload : List Byte
  hif     : Nat
  pif     : Nat
  deriving DecidableEq, Repr, Inhabited

/-- A published frame with its frame record (R64, R219). `published` is the 64-bit TB2 count of R21, `base` the time
base of the capture time; `recNum` and `recIf` are the slot of the frame record and its interface. -/
structure Frame where
  source    : Nat
  seq       : Nat
  capture   : Nat
  signature : Nat
  declUnc   : Nat
  origin    : Bool
  expired   : Bool
  published : Nat
  width     : Nat
  height    : Nat
  format    : Nat
  base      : Nat
  recNum    : Nat
  recIf     : Nat
  tiles     : Table Slot
  deriving DecidableEq, Repr, Inhabited

/-- The open frame of a TPP source (R97, R98, R100): an update with the tiles received, or a reseal with
the indices covered and those whose CRC differed. -/
structure OpenFrame where
  seq     : Nat
  reseal  : Bool
  got     : Table Slot
  covered : List Nat
  differ  : List Nat
  spoiled : Bool
  deriving DecidableEq, Repr, Inhabited

/-- A source as one die holds it, owner or replica (R84, R88, R109 to R111, R27). `state` is SourceState. `lost` lists
(sequence, index) of tiles that were sent and dropped, `owed` (die, index) of tiles owed to a replica; `prior` is the newest
frame of before the instant at which the present one was published, `before` the repeats, first capture and differing tiles
as they stood then (R201). -/
structure SrcUnit where
  present    : Bool
  owner      : Bool
  state      : Nat
  lastSignal : Nat
  frame      : Option Frame
  opn        : Option OpenFrame
  repeats    : Nat
  firstCap   : Nat
  differ     : List Nat
  differAt   : Nat
  count      : Nat
  held       : Table Slot
  owed       : List (Nat × Nat)
  lost       : List (Nat × Nat)
  prior      : Option Frame
  before     : Nat × Nat × List Nat
  deriving DecidableEq, Repr, Inhabited

def SrcUnit.reset : SrcUnit :=
  { present := false, owner := false, state := 0, lastSignal := 0, frame := none, opn := none, repeats := 0,
    firstCap := 0, differ := [], differAt := 0, count := 0, held := [], owed := [], lost := [],
    prior := none, before := (0, 0, []) }

/-- A frame record on its way from a switch to the owner die (R104, R106). -/
structure FrameRec where
  source    : Nat
  seq       : Nat
  capture   : Nat
  signature : Nat
  deriving DecidableEq, Repr, Inhabited

/-- The assembly of one ST 2110 source in its ingress switch (R103 to R107). `words` holds the 32-bit pixel
words of the bands in assembly by pixel number, at most two (R103), `bands` the bands sealed, `crcs` the seals of their tiles, `seen` the
extended sequence numbers kept in this frame, `prevMax` the highest of the frame before; `marker` is when the marker
packet arrived, in mono ns and in the source's time base; `lateTs` are the timestamps of the frames closed. -/
structure St2110Unit where
  timestamp : Option Nat
  seen      : List Nat
  prevMax   : Option Nat
  words     : Table Nat
  bands     : List Nat
  crcs      : Table Nat
  marker    : Option (Nat × Nat)
  lateTs    : List Nat
  spoiled   : Bool
  count     : Nat
  records   : List FrameRec
  lastPath  : List Nat
  downPath  : List Bool
  deriving DecidableEq, Repr, Inhabited

def St2110Unit.reset : St2110Unit :=
  { timestamp := none, seen := [], prevMax := none, words := [], bands := [], crcs := [], marker := none, lateTs := [],
    spoiled := false, count := 0, records := [], lastPath := [0, 0], downPath := [false, false] }

/-- What travels in a Spur queue (R108 to R111). -/
inductive SpurItem where
  | tile (src dest idx : Nat) (slot : Slot)
  | publish (src dest : Nat) (frame : Frame)
  | status (src dest : Nat) (state : Nat) (differ : List Nat)
  deriving DecidableEq, Repr, Inhabited

/-! ### Camera ports and pipelines (spec/04) -/

/-- A frame of a camera input on its way through the pipeline (R121 to R130): the number of its Frame Start, its capture
time, its parameters, the stored lines not yet processed and those processed, whether its Frame End came and as which completed frame of the
input (R127), and whether shedding had temporal noise reduction off at its Frame Start (R421). -/
structure CamJob where
  start   : Nat
  capture : Nat
  params  : Table Val
  lines   : List (List Nat)
  done    : List (List Nat)
  ended   : Bool
  number  : Nat
  shed    : Bool
  deriving DecidableEq, Repr, Inhabited

/-- A camera input (R121 to R132). `opened` says that a frame is open at the port, its job the last of `jobs`; `skipping`
that the rest of the frame is dropped; `ref` is the temporal reference of R126 and `refStart` its Frame Start; `params` the
processing parameters in force. -/
structure CamUnit where
  opened    : Bool
  skipping  : Bool
  received  : Nat
  longFrame : Bool
  lastPkt   : Nat
  jobs      : List CamJob
  ref       : List (List Nat)
  refStart  : Nat
  params    : Table Val
  pending   : Option (Table Val)
  starts    : Nat
  completed : Nat
  startTimes : List Nat
  lastEvent : Option Nat
  discards  : Nat
  highWater : Nat
  deriving DecidableEq, Repr, Inhabited

def CamUnit.reset : CamUnit :=
  { opened := false, skipping := false, received := 0, longFrame := false, lastPkt := 0, jobs := [], ref := [], refStart := 0,
    params := [], pending := none, starts := 0, completed := 0, startTimes := [], lastEvent := none, discards := 0,
    highWater := 0 }

/-- An image pipeline: the input, Frame Start and content of the line it is processing (R130). -/
structure PipeUnit where
  service   : Option (Nat × Nat × List Nat)
  deriving DecidableEq, Repr, Inhabited

def PipeUnit.reset : PipeUnit := { service := none }

/-! ### Commits, layers and heads (spec/01, spec/05, spec/06) -/

/-- A commit on its way or pending (R158, R159): the staged values that differ from reset as its write captured them
(R140), the close it aims at, or for a scene launched at a time its launch time, `aim` then the tick aimed at (R161, R287),
whether it arrived after its close, the scene it belongs to and whether AUDIT alone made it (R194). A scene record carries no LayerPreLut:
`lut` says whether the commit does. -/
structure Commit where
  vals   : Table Val
  aim    : Nat
  at_    : Option Nat
  late   : Bool
  scene  : Option Nat
  audit  : Bool
  lut    : Bool
  deriving DecidableEq, Repr, Inhabited

/-- What Cairn found for a layer at the snapshot, latched at the tick (R16, R56). -/
structure LayerEval where
  verdict  : Nat
  cause    : Nat
  age      : Option Nat
  unc      : Option Nat
  capture  : Option Nat
  tb       : Nat
  seq      : Option Nat
  source   : Option Nat
  sealCls  : Nat
  freeze   : Nat
  deriving DecidableEq, Repr, Inhabited

/-- A layer's own state beside its registers (R14, R33, R155). `posted`: a failure was posted since the last
snapshot; `scanFailed`: the last completed scan held a failure. -/
structure LayerUnit where
  committed  : Bool
  pending    : Option Commit
  eval       : Option LayerEval
  latched    : Option LayerEval
  selected   : Option Frame
  posted     : Bool
  scanFailed : Bool
  kib        : Nat
  oldKib     : Nat
  oldHead    : Nat
  owner      : Option Nat
  deriving DecidableEq, Repr, Inhabited

def LayerUnit.reset : LayerUnit :=
  { committed := false, pending := none, eval := none, latched := none, selected := none, posted := false,
    scanFailed := false, kib := 0, oldKib := 0, oldHead := 0xFF, owner := none }

/-- One layer in one head frame: configuration and frame as the close took them, the verdict latched for that frame with
age, uncertainty and capture time in TB1 (ns), the tiles to fetch in their order, the tiles verified as they arrived, the
tiles that failed (index, kind, first line shown broken) and those whose descriptor was lost (R209). -/
structure ScanLayer where
  n        : Nat
  cfg      : Table Val
  frame    : Option Frame
  verdict  : Nat
  cause    : Nat
  ageUs    : Nat
  unc      : Nat
  capTb1   : Nat
  wanted   : List Nat
  verified : Table Slot
  failed   : List (Nat × Nat × Nat)
  dropped  : List Nat
  deriving DecidableEq, Repr, Inhabited

/-- A full-screen GREY of R52. -/
inductive Grey where
  | none
  | starting
  | maintenance
  | powerShed
  | supply
  deriving DecidableEq, Repr, Inhabited

/-- A tag field as drawn in one head frame (R165, R167). -/
structure TagField where
  t       : Nat
  cfg     : Table Val
  verdict : Nat
  ageUs   : Nat
  value   : Nat
  deriving DecidableEq, Repr, Inhabited

/-- The frame a head is showing or preparing: its head and guard configuration, its layers in ascending number, tag
fields, the GREY it carries (R199), whether the forced banner shows (R151) and whether its die is shed to S2 or deeper
(R148). -/
structure Scan where
  grey   : Grey
  hcfg   : Table Val
  gcfg   : Table Val
  layers : List ScanLayer
  tags   : List TagField
  forced : Bool
  shed   : Bool
  deriving DecidableEq, Repr, Inhabited

/-- A pane map with its frame record (R260). `cells` run in raster order over the stream's 16 x 16 blocks, `cols` to a row;
`height` is that of its raster. -/
structure PaneMap where
  stream    : Nat
  launch    : Nat
  count     : Nat
  sent      : Bool
  cols      : Nat
  height    : Nat
  cells     : List Nat
  disturbed : List Nat
  shown     : List (Nat × Nat × Option Nat × Nat)
  linesDone : Nat
  deriving DecidableEq, Repr, Inhabited

/-- Where a head's link stands (R184 to R186, R191). -/
inductive LinkPhase where
  | idle
  | waitHpd
  | training
  | failed
  | up
  | frozen (since : Nat)
  | latched
  deriving DecidableEq, Repr, Inhabited

/-- A display head (spec/06): the link and the settings still to try, the raster's lock to the tick, the ticks of its
start and of its last launch, and the TB1 time and monotonic time of the launch. `hpd` is HeadHpdState, `lock` HeadLockState;
`rising` lists the streams whose payload came back and that come up at their next frame start, `fallen` the streams whose sink
was removed with the records that said so, `dropped` says that a link that was up retrains after an IRQ_HPD; `phaseShown` is the
phase error as the last tick formed it (R196). -/
structure HeadUnit where
  applied   : Bool
  pending   : Option Commit
  guardPend : Option Commit
  running   : Bool
  link      : LinkPhase
  tries     : List (Nat × Nat)
  everUp    : Bool
  payloads  : List Bool
  rising    : List Nat
  fallen    : List (Nat × Nat)
  dropped   : Bool
  hpd       : Nat
  caps      : Option SinkCaps
  trained   : Option (Nat × Nat)
  retryAt   : Nat
  lock      : Nat
  goodTicks : Nat
  phaseErr  : Option Int
  phaseShown : Option Int
  frameCount : Nat
  curTick   : Nat
  launchAt  : Nat
  deriving DecidableEq, Repr, Inhabited

def HeadUnit.reset : HeadUnit :=
  { applied := false, pending := none, guardPend := none, running := false, link := .idle, tries := [], everUp := false,
    payloads := [false, false, false, false], rising := [], fallen := [], dropped := false, hpd := 1, caps := none, trained := none, retryAt := 0, lock := 0,
    goodTicks := 0, phaseErr := none, phaseShown := none, frameCount := 0, curTick := 0, launchAt := 0 }

/-- The scanning side of a head: the frame built at the close, the one latched at the tick, the one on screen, whether it
is sent, the monotonic time of its launch, the lines of each stream launched (one more than the active ones once its scan has
ended, R199), the last line each stream sent (R175), CRC accumulators, underrun and frozen bookkeeping, retained pane maps. -/
structure HeadScan where
  next      : Option Scan
  ready     : Option Scan
  cur       : Option Scan
  sent      : Bool
  begun     : Nat
  lines     : List Nat
  out       : List (List Nat)
  marks     : List Nat
  outs      : List Nat
  lastMark  : List Nat
  markState : List Nat
  underFrame : Bool
  underSince : Nat
  underEvent : Option Nat
  frozenTimes : List Nat
  frozen    : Bool
  resumeTick : Nat
  maps      : List PaneMap
  deriving DecidableEq, Repr, Inhabited

def HeadScan.reset : HeadScan :=
  { next := none, ready := none, cur := none, sent := false, begun := 0, lines := [0, 0, 0, 0], out := [[], [], [], []], marks := [0, 0, 0, 0], outs := [0, 0, 0, 0],
    lastMark := [0, 0, 0, 0], markState := [0, 0, 0, 0], underFrame := false, underSince := 0, underEvent := none,
    frozenTimes := [], frozen := false, resumeTick := 0, maps := [] }

/-- A tag's value and its place (R164 to R169); `copy` is what a mirroring tag holds of a mirrored tag of another die:
value, stamp, TB2 count of acceptance, whether it was old then. `before` and `copyBefore` are value and copy as they stood
before the instant of the last update (R201). -/
structure TagUnit where
  applied  : Bool
  pending  : Option Commit
  value    : Nat
  stamp    : Option Nat
  accepted : Nat
  old      : Bool
  takenV   : Nat
  takenS   : Option Nat
  takenAt  : Nat
  takenOld : Bool
  copy     : Option (Nat × Nat × Nat × Bool)
  before   : Option (Nat × Option Nat × Nat × Bool)
  copyBefore : Option (Nat × Nat × Nat × Bool)
  verdict  : Nat
  ageUs    : Nat
  deriving DecidableEq, Repr, Inhabited

def TagUnit.reset : TagUnit :=
  { applied := false, pending := none, value := 0, stamp := none, accepted := 0, old := false, takenV := 0,
    takenS := none, takenAt := 0, takenOld := false, copy := none, before := none, copyBefore := none, verdict := 0, ageUs := 0 }

/-- A scene (R161): the layers of its last launch not yet decided. -/
structure SceneUnit where
  waiting : List Nat
  missed  : List Nat
  refused : List Nat
  session : Option Nat
  deriving DecidableEq, Repr, Inhabited

def SceneUnit.reset : SceneUnit := { waiting := [], missed := [], refused := [], session := none }

/-- A writeback engine (R170 to R172): the configuration of the tick, that of the frame in capture and its rows, the held
frame. -/
structure WbUnit where
  pending  : Option Commit
  applied  : Bool
  live     : Table Val
  capture  : Table Val
  frames   : Nat
  rows     : List (List Nat)
  held     : Option Frame
  launch   : Nat
  spoiled  : Bool
  deriving DecidableEq, Repr, Inhabited

def WbUnit.reset : WbUnit :=
  { pending := none, applied := false, live := [], capture := [], frames := 0, rows := [], held := none, launch := 0, spoiled := false }

/-- What the control dies send a pixel die (R158, R161, R209): a commit of a unit, by object index. -/
inductive CtlMsg where
  | layer (n : Nat) (c : Commit)
  | head (h : Nat) (c : Commit)
  | guard (h : Nat) (c : Commit)
  | tag (t : Nat) (c : Commit)
  | writeback (c : Commit)
  deriving DecidableEq, Repr, Inhabited

/-! ### Surface memory and queues (spec/07, spec/08) -/

/-- Refresh state of one rank (R225 to R228): debt, rate (1 NORMAL, 2 HIGH, 3 OVERTEMP), the instant of the last accrual, a rate
read while a switch runs (R236), the delay values in use and those that the next refresh applies (R229). -/
structure RankUnit where
  debt : Nat
  rate : Nat
  last : Nat
  crossing : Option Nat
  inUse : Nat
  fresh : Option Nat
  deriving DecidableEq, Repr, Inhabited

def RankUnit.reset : RankUnit := { debt := 0, rate := 0, last := 0, crossing := none, inUse := 0, fresh := none }

/-- One memory interface (R216 to R240); `state` is MemIfState, `serving` the request it works on (R222), `stored` the delay
values of each set point, `burstTill` the end of a refresh burst, which holds every request (R228), `ownStep` the start of the last step for the set point in force and `stepped` the set points that have
had their step since (R229). -/
structure MemIfUnit where
  state     : Nat
  density   : Nat
  ranks     : Nat
  rank0     : RankUnit
  rank1     : RankUnit
  failRun   : Nat
  step      : Option Nat
  retiring  : Bool
  since     : Option Nat
  migTick   : Nat
  slotsAt   : Nat
  openRows  : Table Nat
  serving   : Option Nat
  burstTill : Nat
  stored    : Table Nat
  ownStep   : Option Nat
  stepped   : List Nat
  deriving DecidableEq, Repr, Inhabited

def MemIfUnit.reset : MemIfUnit :=
  { state := 0, density := 0, ranks := 0, rank0 := RankUnit.reset, rank1 := RankUnit.reset, failRun := 0, step := none,
    retiring := false, since := none, migTick := 0, slotsAt := 0, openRows := [], serving := none, burstTill := 0,
    stored := [], ownStep := none, stepped := [] }

/-- A memory request waiting or in service (R211, R222 to R224). -/
structure MemReq where
  id     : Nat
  port   : Nat
  mq     : Nat
  mem    : Nat
  addr   : Nat
  since  : Nat
  shared : Bool
  late   : Bool
  deriving DecidableEq, Repr, Inhabited

/-- An open page of surface memory (R219): its interface and the slots handed out of it. -/
structure Page where
  mem  : Nat
  used : Nat
  deriving DecidableEq, Repr, Inhabited

/-- A pixel die's memory controller and credits (R211 to R214, R231 to R236). `armed` says that a qualifying moment came while
a training step or a burst ran (R234, R236), `startAt` when a switch without a window opens, in TB1 (R235), and `lateRun` that
the switch in progress is such a one; `pages` are the open pages by kind and `nextIf` the turn of the round-robin (R219). -/
structure MemUnit where
  inForce   : Nat
  pending   : Option Nat
  asked     : Nat
  switching : Option Nat
  switchEnd : Nat
  scheduled : Bool
  burstEnd  : Nat
  retireEnd : Nat
  alloc     : Nat
  nextReq   : Nat
  active    : List MemReq
  waiting   : List MemReq
  draining  : Option Nat
  latency   : List Nat
  exhausted : Nat
  armed     : Bool
  startAt   : Nat
  lateRun   : Bool
  pages     : Table Page
  nextIf    : Nat
  deriving DecidableEq, Repr, Inhabited

def MemUnit.reset : MemUnit :=
  { inForce := 0, pending := none, asked := 0, switching := none, switchEnd := 0, scheduled := false, burstEnd := 0,
    retireEnd := 0, alloc := 0, nextReq := 1, active := [], waiting := [], draining := none,
    latency := [20, 20, 20, 20, 50, 50, 100, 100, 50, 10, 50], exhausted := 0,
    armed := false, startAt := 0, lateRun := false, pages := [], nextIf := 0 }

/-- A pixel die's hardware queues (R207, R209, R210): entries waiting per queue, the credits each switch has spent and the
units they went to (source and tile indices, oldest first), the interfaces that hold the descriptors of their entries, highest fill in per cent since last read, the entries of a queue that
failed their descriptor, oldest first: when, and the control message that each held; which of IQk and IQ(8+k) was served last (1 or 2),
the bytes that the round robin has granted each k and not yet used, the k it served last, the Spur queues
with their content, the dies to which export goes the other way round (R414), and the control messages on their way. Keys 6 and 7 are the control dies CA and CB (R208). -/
structure QueueUnit where
  fill     : Table Nat
  high     : Table Nat
  credits  : Table Nat
  flight   : Table (List (Nat × List Nat))
  descs    : Table (List Nat)
  failed   : Table (List (Nat × Option CtlMsg))
  lastIq   : Table Nat
  deficit  : Table Nat
  turn     : Nat
  spurOut  : Table (List SpurItem)
  detour   : List Nat
  ctl      : List CtlMsg
  deriving DecidableEq, Repr, Inhabited

def QueueUnit.reset : QueueUnit :=
  { fill := [], high := [], credits := [], flight := [], descs := [], failed := [], lastIq := [], deficit := [], turn := 7, spurOut := [], detour := [], ctl := [] }

/-! ### Touch (spec/09) -/

/-- A tracked touch (R255 to R258), or the FINGER of one frame that may become one. `row` and `col` are the position in
1/64 of the pitch, `x` and `y` that on the raster in px, `node` the peak node; `missing` counts unmatched frames, the first
of which sampled it at `goneAt`; `born` is when it became a touch; `nodes` are the nodes of its candidate. -/
structure Touch where
  id         : Nat
  row        : Nat
  col        : Nat
  x          : Nat
  y          : Nat
  sample     : Nat
  born       : Nat
  lastX      : Nat
  lastY      : Nat
  lastReport : Nat
  missing    : Nat
  goneAt     : Nat
  persistent : Bool
  degraded   : Bool
  peak       : Nat
  node       : Nat
  nodes      : List Nat
  deriving DecidableEq, Repr, Inhabited

/-- A report decided but not yet released (R262). `event` is that of R265, `flags` its byte 27. -/
structure Report where
  id      : Nat
  event   : Nat
  x       : Nat
  y       : Nat
  sample  : Nat
  flags   : Nat
  peak    : Nat
  deriving DecidableEq, Repr, Inhabited

/-- A touch link (R242 to R266). `step` walks the rows of R247: 0 disabled, 1 idle awaited, 2 IDENT awaited, 3 registers
being written, 4 the SELFTEST slot, 5 to 8 the baseline slots, 9 the slot of RUNNING, 10 RUNNING, 11 FAULT, 12 down with its
die in S5. `stepAt` is when the step began and `since` when the bring-up did; `slotAt` is the last slot and `frameAt` its
TB1 time; `scanning` says that a frame is in progress: 1 SCAN, 2 SELFTEST, 3 a SELFTEST on demand; `samples` holds its
chips; `base` the node baselines in 1/16 counts; `hop`, `enter` and `leave` what the next FRAME_START changes (R251), `off` that FALSE was written to TouchEnable since the last slot, `cfg` the configuration of the last slot. -/
structure TouchUnit where
  step      : Nat
  since     : Nat
  stepAt    : Nat
  downSaid  : Bool
  acked     : List Nat
  frameNo   : Nat
  frameAt   : Nat
  slotAt    : Nat
  rate      : Nat
  scanning  : Nat
  selfTest  : Bool
  carrier   : Nat
  carrierBad : Nat
  noisy     : Nat
  quiet     : Nat
  charger   : Bool
  hop       : Option Nat
  enter     : Bool
  leave     : Bool
  samples   : Table (List Int)
  spoiled   : Bool
  badRun    : Nat
  warm      : List Int
  base      : List Int
  lastUp    : Nat
  front     : Table Nat
  off       : Bool
  cfg       : Table Val
  deriving DecidableEq, Repr, Inhabited

def TouchUnit.reset : TouchUnit :=
  { step := 0, since := 0, stepAt := 0, downSaid := false, acked := [], frameNo := 0, frameAt := 0, slotAt := 0, rate := 0,
    scanning := 0, selfTest := false, carrier := 0, carrierBad := 0, noisy := 0, quiet := 0, charger := false, hop := none,
    enter := false, leave := false, samples := [], spoiled := false, badRun := 0, warm := [], base := [], lastUp := 0,
    front := [], off := false, cfg := [] }

/-- The tracking side of a touch link: touches and first-frame FINGERs, reports not released, the ring of released ones
with how many of it no session could be sent, WATER_FILM and fast re-calibration (R254, R257), the DownItem of each ID. -/
structure TrackUnit where
  touches   : List Touch
  fresh     : List Touch
  reports   : List Report
  ring      : List (List Byte)
  seq       : Nat
  waiting   : Nat
  film      : Bool
  filmRun   : Nat
  dryRun    : Nat
  negRun    : Nat
  recal     : Nat
  recalRaw  : List Int
  recalSet  : List Nat
  masked    : List Nat
  downs     : Table Nat
  deriving DecidableEq, Repr, Inhabited

def TrackUnit.reset : TrackUnit :=
  { touches := [], fresh := [], reports := [], ring := [], seq := 0, waiting := 0, film := false, filmRun := 0,
    dryRun := 0, negRun := 0, recal := 0, recalRaw := [], recalSet := [], masked := [], downs := [] }

/-! ### Time (spec/10) -/

/-- A foreign master heard by an ordinary clock (R276): its grandmaster, the fields the default BMCA compares, when
and at what interval it last announced, and whether it is qualified. -/
structure Foreign where
  gm   : Nat
  rank : List Nat
  at_  : Nat
  log  : Int
  good : Bool
  deriving DecidableEq, Repr, Inhabited

/-- A time base of a control die's time unit (R272 to R282); `st` is the code of R280, `reset` when the die's reset ended,
`setAt` when the base was last stepped or started, `msAt` when the Sync of `ms` arrived, `last` the last Sync used, `reqAt` the Delay_Req that awaits its answer and `asked` when the last
Delay_Req left and its sequence number. -/
structure TimeBase where
  ns     : Nat
  frac   : Nat
  st     : Nat
  ppb    : Int
  slew   : Int
  reset  : Nat
  last   : Nat
  streak : Nat
  gm     : Nat
  rank   : List Nat
  others : List Foreign
  wasSet : Bool
  off    : Option Int
  syncAt : Nat
  delay  : Option Nat
  check  : Bool
  corr   : List Int
  twoStep : Option (Nat × Nat)
  ms     : Option Int
  msAt   : Nat
  reqAt  : Option (Nat × Nat)
  reqLog : Int
  syncLog : Int
  annAt  : Nat
  annLog : Int
  setAt  : Nat
  asked  : Option (Nat × Nat)
  deriving DecidableEq, Repr, Inhabited

def TimeBase.fresh (st : Nat) : TimeBase :=
  { ns := 0, frac := 0, st := st, ppb := 0, slew := 0, reset := 0, last := 0, streak := 0, gm := 0, rank := [],
    others := [], wasSet := false, off := none, syncAt := 0, delay := none, check := false, corr := [], twoStep := none, ms := none, msAt := 0, reqAt := none, reqLog := 0,
    syncLog := 0, annAt := 0, annLog := 0, setAt := 0, asked := none }

/-- A pixel die's copy of a base (R274, R281): the carried state and uncertainty and when they were carried. -/
structure TimeCopy where
  ns     : Nat
  frac   : Nat
  st     : Nat
  ppb    : Int
  slew   : Int
  loaded : Bool
  follow : Bool
  unc    : Nat
  feedAt : Nat
  sentAt : Nat
  deriving DecidableEq, Repr, Inhabited

def TimeCopy.reset : TimeCopy :=
  { ns := 0, frac := 0, st := 0, ppb := 0, slew := 0, loaded := false, follow := false, unc := 0, feedAt := 0, sentAt := 0 }

/-- A feed message on a Saddle link (R274): times, states, uncertainties, corrections of the four bases. -/
structure FeedMsg where
  times : List Nat
  sts   : List Nat
  uncs  : List Nat
  ppbs  : List Int
  sent  : Nat
  setAt : Nat
  deriving DecidableEq, Repr, Inhabited

/-! ### Dies: clocks, supply, microcode (spec/13, spec/14) -/

/-- A die's clocks (R401 to R410): `src`, `mon` and `pll` are the codes of R428, 0 unknown. `startAt` is when the oscillator
started, `stepAt` when the last trim step, REF switch or relock began; `crystal` 1 being measured, 2 qualified, 3 failed;
`good` and `bad` count REF-pair windows in a row, `pllBad` the bad windows in a row per clock code; `tripAt` is when the
monitor tripped; `measure` is a requested measurement: the request, windows left, edges counted. `stepped` says that a trim step made
the oscillator not ready, `relockAt` when a MEM or DOT PLL last finished a relock, `faults` the codes of faulty DOT and SUP PLLs. -/
structure ClockUnit where
  src     : Nat
  mon     : Nat
  trim    : Int
  ready   : Bool
  startAt : Nat
  stepAt  : Nat
  crystal : Nat
  noTrim  : Bool
  quiet   : Bool
  windows : Nat
  good    : Nat
  bad     : Nat
  pllBad  : Table Nat
  pll     : Nat
  tripAt  : Option Nat
  measure : Option (Nat × Nat × Nat)
  stepped : Bool
  relockAt : Nat
  faults  : List Nat
  deriving DecidableEq, Repr, Inhabited

def ClockUnit.reset : ClockUnit :=
  { src := 0, mon := 0, trim := 0, ready := false, startAt := 0, stepAt := 0, crystal := 0, noTrim := false, quiet := true,
    windows := 0, good := 0, bad := 0, pllBad := [], pll := 0, tripAt := none, measure := none,
    stepped := false, relockAt := 0, faults := [] }

/-- A core rail and its stage (R417 to R426): 0 NORMAL to 5 S5; `seen` says that it has been sampled, `stageAt` the instant of the last stage change, `real` the
deepest stage whose timer has completed, `low` the lowest sample since last read, `heldAt` when a supply reset began to
hold the die. -/
structure RailUnit where
  seen    : Bool
  mv      : Nat
  low     : Nat
  stage   : Nat
  real    : Nat
  forced  : Nat
  stageAt : Nat
  ticks   : Nat
  held    : Bool
  heldAt  : Nat
  deriving DecidableEq, Repr, Inhabited

def RailUnit.reset : RailUnit :=
  { seen := false, mv := 0, low := 0, stage := 0, real := 0, forced := 0, stageAt := 0, ticks := 0, held := false, heldAt := 0 }

/-- A pixel die's microcode banks (R387 to R389); states are the codes of R399. -/
structure McUnit where
  state0  : Nat
  state1  : Nat
  image0  : List Byte
  image1  : List Byte
  running : Nat
  armed   : Option Nat
  probation : Nat
  fault   : Bool
  install : Option (List Byte)
  deriving DecidableEq, Repr, Inhabited

def McUnit.reset : McUnit :=
  { state0 := 0, state1 := 0, image0 := [], image1 := [], running := 0, armed := none, probation := 0, fault := false,
    install := none }

/-- A rule table entry in force (R339). -/
structure Rule where
  masters : Nat
  base    : Nat
  pages   : Nat
  access  : Nat
  deriving DecidableEq, Repr, Inhabited

/-- A die's copy of the access rule table (R338 to R343). -/
structure RuleCopy where
  rules   : Table Rule
  locked  : Nat
  differ  : Nat
  denyAll : Bool
  deriving DecidableEq, Repr, Inhabited

def RuleCopy.reset : RuleCopy := { rules := [], locked := 0, differ := 0, denyAll := false }

/-- A pixel die (spec/00, spec/13, spec/14). `state` is the code of 0x2300:12; `token` 1 NONE, 2 CA, 3 CB;
`gridTick` how far steps of TB1 have moved the grid since the last tick, `spare` the spare rows left, `repairs` the counter PixelRepairs of R391, `again` that the die comes back from a reset of its own, `aimAt` the TB1 instant of the tick the last
close belongs to, `tickAt` that of the last tick; `closedAt` is when the last snapshot was made, `closeStage` and `tickStage`
the shedding stage as of the last close and the last tick (R421), `stepped` the step of a control die's TB1 that this die's
copy last followed (R283), `resetAt` when its reset last began (R390), `behind` the commits that came at the instant of a close still to be made (R201). -/
structure PixelDie where
  out      : Bool
  state    : Nat
  tb0      : TimeCopy
  tb1      : TimeCopy
  tb2      : TimeCopy
  tb3      : TimeCopy
  holdover : Bool
  token    : Nat
  released : Bool
  heard    : List Nat
  closes   : Nat
  ticks    : Nat
  gridTick : Int
  aimAt    : Nat
  tickAt   : Nat
  closedAt : Nat
  closeStage : Nat
  tickStage : Nat
  stepped  : Option (Nat × Nat)
  resets   : List Nat
  greyLeft : Nat
  endTick  : Nat
  repair   : Bool
  spare    : Nat
  repairs  : Nat
  intCount : Table Nat
  intTick  : Nat
  feed     : List (Nat × FeedMsg)
  delays   : List Nat
  disagree : Table Nat
  again    : Bool
  resetAt  : Nat
  behind   : List CtlMsg
  deriving DecidableEq, Repr, Inhabited

def PixelDie.reset : PixelDie :=
  { out := false, state := 0, tb0 := TimeCopy.reset, tb1 := TimeCopy.reset, tb2 := TimeCopy.reset, tb3 := TimeCopy.reset,
    holdover := false, token := 1, released := false, heard := [0, 0], closes := 0, ticks := 0, gridTick := 0, aimAt := 0, tickAt := 0, closedAt := 0, closeStage := 0, tickStage := 0,
    stepped := none, resets := [],
    greyLeft := 0, endTick := 0, repair := false, spare := 64, repairs := 0, intCount := [], intTick := 0, feed := [], delays := [0, 0], disagree := [], again := false, resetAt := 0, behind := [] }

/-! ### Errors, audit, sessions (spec/11, spec/12, spec/15) -/

/-- A record of R430. -/
structure EventRec where
  code   : Nat
  sev    : Nat
  die    : Nat
  flags  : Nat
  num    : Nat
  tb3    : Nat
  whil   : Nat
  unit   : Nat
  count  : Nat
  detail : List Nat
  deriving DecidableEq, Repr, Inhabited

/-- One die's error ring as both stores hold it (R432 to R434), with its records in handling, newest first, the newest record
it formed and when it last formed a FATAL one. -/
structure Ring where
  recs     : List EventRec
  lost     : Option EventRec
  last     : Nat
  handling : List EventRec
  newest   : Option EventRec
  fatalAt  : Option Nat
  deriving DecidableEq, Repr, Inhabited

def Ring.reset : Ring := { recs := [], lost := none, last := 0, handling := [], newest := none, fatalAt := none }

/-- An audit record (R358), hashes included. -/
structure AuditRec where
  kind    : Nat
  num     : Nat
  tb3     : Nat
  die     : Nat
  session : Nat
  roles   : Nat
  target  : Nat
  detail  : List Byte
  prev    : List Byte
  hash    : List Byte
  deriving DecidableEq, Repr, Inhabited

/-- A stored response of a session (R323, R328); `ckpt` and `audit` while it waits for a checkpoint or an audit record, `closes`
where the session closes once it has left (R327). -/
structure Answer where
  seq     : Nat
  status  : Nat
  payload : List Byte
  op      : Nat
  idx     : Nat
  sub     : Nat
  ckpt    : Bool
  audit   : Option Nat
  sent    : Bool
  port    : Nat
  closes  : Bool
  deriving DecidableEq, Repr, Inhabited

/-- A DXP session (R323, R324, R327, R332); `state` is SessionState. -/
structure Session where
  state    : Nat
  roles    : Nat
  peer     : Endpoint
  port     : Nat
  leaf     : List Byte
  openedAt : Nat
  lastReq  : Nat
  top      : Nat
  counter  : Nat
  answers  : List Answer
  keys     : List Byte
  endpoint : Option Endpoint
  wr       : Option (Nat × Nat × List Byte)
  rdCopy   : Option (Nat × Nat × List Byte)
  events   : List EventRec
  touches  : Table Nat
  deriving DecidableEq, Repr, Inhabited

def Session.reset : Session :=
  { state := 0, roles := 0, peer := { ip := 0, udp := 0 }, port := 0, leaf := [], openedAt := 0, lastReq := 0, top := 0,
    counter := 0, answers := [], keys := [], endpoint := none, wr := none, rdCopy := none, events := [], touches := [] }

/-- A handshake in progress (R320). -/
structure Handshake where
  peer    : Endpoint
  port    : Nat
  session : Nat
  hello   : Hello
  nonce   : List Byte
  seed    : Nat
  challenge : List Byte
  since   : Nat
  deriving DecidableEq, Repr

/-- A pending status telegram (R288, R335). -/
structure Telegram where
  tpdo  : Nat
  base  : Nat
  time  : Nat
  late  : Bool
  deriving DecidableEq, Repr, Inhabited

/-- The debug port and its ceremony (R345 to R347): whether it is open, the challenge awaiting approvals and since when, when
the port opened, the approvals held (signature and leaf certificate), whether it closes at the next tick. -/
structure DebugUnit where
  opened    : Bool
  challenge : List Byte
  since     : Option Nat
  openedAt  : Nat
  maint     : Option (List Byte × List Byte)
  audit     : Option (List Byte × List Byte)
  closing   : Bool
  deriving DecidableEq, Repr, Inhabited

def DebugUnit.reset : DebugUnit :=
  { opened := false, challenge := [], since := none, openedAt := 0, maint := none, audit := none, closing := false }

/-- The CAN side (R307 to R314, R437). `errs` are the port states of CanPortState, `nodes` and `rates` the node IDs and bit
rates in force. Per TPDO: when it was last sent, the values it was last sent with and those of the last latch, each value as
its size and content. `waiting` is the record that EMCY owes, `errReg` ErrorRegister as last looked at. `held` are the USDO answers that wait until an audit
record is programmed: its number, the port and the answer (R357). -/
structure CanUnit where
  nmt      : Nat
  errs     : List Nat
  nodes    : List Nat
  rates    : Nat × Nat
  sentAt   : Table Nat
  sent     : Table (List (Nat × Nat))
  latched  : Table (List (Nat × Nat))
  beatAt   : List Nat
  emcyAt   : Option Nat
  waiting  : Option EventRec
  errReg   : Nat
  held     : List (Nat × Nat × List Byte)
  deriving DecidableEq, Repr, Inhabited

def CanUnit.reset : CanUnit :=
  { nmt := 0, errs := [0, 0], nodes := [32, 32], rates := (500, 2000), sentAt := [], sent := [], latched := [], beatAt := [0, 0],
    emcyAt := none, waiting := none, errReg := 0, held := [] }

/-- A shadowing run (R377 to R382): `kind` 0 none, 1 election, 2 drill, 3 recovery, 4 standby trial, 5 peer trial, 6 a
leader that runs alone, 7 the run of a planned handover to a COLD die; `shown` the code of RedCompareState. `based` says that the base checkpoint is made, `base` and `auditAt`
are the record and the audit head at the last tick, `decided` the requests executed since, `digest` the leader's digest of that
tick, formed at `formedAt`, until the shadow's arrives. -/
structure CompareUnit where
  kind    : Nat
  shown   : Nat
  matched : Nat
  failed  : Nat
  based   : Bool
  digest  : List Byte
  decided : List Byte
  base    : Table Val
  auditAt : Nat
  formedAt : Nat
  deriving DecidableEq, Repr, Inhabited

def CompareUnit.reset : CompareUnit :=
  { kind := 0, shown := 1, matched := 0, failed := 0, based := false, digest := [], decided := [], base := [], auditAt := 0, formedAt := 0 }

/-- What the active supervisor holds and checkpoints (R376): sessions, handshakes, telegrams, scenes, debug state, the list of
measurement extensions, FwUpdateState, the two halves of a control restart (instant and leaf), when the last drill started and
whether one is due, whether control is to be handed over, the last record delivered of each ring, how many entries of the rule table
are LOCKED (R343), whether a leader has run since a device reset or a control restart (R356), the image that FwStageCommit took
(R386), from when DXP and USDO are served after a failover (R370), when control was last handed back to each control die and those
that failed again within 600 s of it (R382). -/
structure Sup where
  sessions   : Table Session
  handshakes : List Handshake
  telegrams  : List Telegram
  scenes     : Table SceneUnit
  dbg        : DebugUnit
  meas       : List (Nat × List Byte)
  fwState    : Nat
  restartM   : Option (Nat × List Byte)
  restartA   : Option (Nat × List Byte)
  drillAt    : Nat
  drillDue   : Bool
  handover   : Bool
  delivered  : Table Nat
  ruleLocked : Nat
  started    : Bool
  fwImage    : List Byte
  serveFrom  : Nat
  tookBack   : Table Nat
  suspects   : List Nat
  deriving DecidableEq, Repr, Inhabited

def Sup.reset : Sup :=
  { sessions := [], handshakes := [], telegrams := [], scenes := [], dbg := DebugUnit.reset, meas := [], fwState := 0,
    restartM := none, restartA := none, drillAt := 0, drillDue := false, handover := false, delivered := [],
    ruleLocked := 0, started := false, fwImage := [], serveFrom := 0, tookBack := [], suspects := [] }

/-- A checkpoint slot of retained SRAM (R372 to R376): 1 INVALID, 2 WRITING, 3 VALID, its commit sequence and TB3, and what
it holds: the supervisor's state, its record, its dictionary, the owners of layers, the microcode update states, the audit head and
the records not yet programmed. -/
structure CkptSlot where
  st   : Nat
  seq  : Nat
  tb3  : Nat
  sup  : Sup
  rec_ : Table Val
  regs : Table Val
  owners : List (Nat × Nat)
  mcs  : Table McUnit
  auditHead : Nat
  tail : List AuditRec
  record : List Byte
  deriving DecidableEq, Repr, Inhabited

def CkptSlot.reset : CkptSlot :=
  { st := 0, seq := 0, tb3 := 0, sup := Sup.reset, rec_ := [], regs := [], owners := [], mcs := [], auditHead := 0, tail := [], record := [] }

/-- A control die's QSPI NOR (R385, R465, R466): firmware slots, whose states are the codes of R398, the newer and the older copy of
the applied bundle, the persisted TB3, microcode and the audit log programmed there. -/
structure Flash where
  slotA  : Nat
  slotB  : Nat
  imageA : List Byte
  imageB : List Byte
  used   : Bool
  bundle : List Byte
  bundleOld : List Byte
  tb3    : Nat
  micro  : Table (List Byte)
  log    : List AuditRec
  deriving DecidableEq, Repr, Inhabited

/-- A control die (spec/13). `role` is the code of R395, `was` that before a takeover and `warm` says that it shadowed then;
`heardS` and `heardW` are the last arrivals on its heartbeat paths, `lost` that REDUNDANCY_LOST was raised since, `takeover` and
`minority` when its takeover began and failed, `retry` its last round of token requests, `mismatch` that it shadows no more, `few`
since when it has held fewer than 4 tokens (R371). `downS` and `downW` say that HEARTBEAT_PATH_DOWN stands for a path; `beat` counts
what it sends, `beatSeq` and `beatState` are the checkpoint sequence of its last heartbeat and the state of its last beacon, and
`gotBeat` is what last arrived over SADDLE: sender, count, and sequence or state (R365). `retained` is the firmware image in retained
SRAM with its slot, `mirrored` the mirrored requests (R372). -/
structure CtlDie where
  out      : Bool
  role     : Nat
  tb0      : TimeBase
  tb1      : TimeBase
  tb2      : TimeBase
  tb3      : TimeBase
  meas     : List (List Byte)
  slot0    : CkptSlot
  slot1    : CkptSlot
  flash    : Flash
  booted   : Nat
  bootAt   : Nat
  heardS   : Nat
  heardW   : Nat
  silentS  : Bool
  silentW  : Bool
  lost     : Bool
  beat     : Nat
  takeover : Option Nat
  minority : Option Nat
  retry    : Nat
  was      : Nat
  warm     : Bool
  mismatch : Bool
  few      : Option Nat
  downS    : Bool
  downW    : Bool
  beatSeq  : Nat
  beatState : Nat
  gotBeat  : Option (Nat × Nat × Nat)
  retained : Option (Nat × List Byte)
  mirrored : List Byte
  deriving DecidableEq, Repr, Inhabited

/-- Pins and OTP (spec/16, R345, R349, R355). -/
structure Pins where
  pwrgood : Bool
  resetn  : Bool
  hbtest  : Bool
  thermn  : List Nat
  hbmon   : List Bool
  straps  : Option Nat
  scan    : List Bool
  secVer  : Nat
  owners  : List (Nat × List Byte)
  fuse    : Bool
  deriving DecidableEq, Repr, Inhabited

/-- A message the block has sent (R208 CQ4, CQ5, CQ25): the port or bus, what it is, and its bytes. DESIGN CHOICE: notes/assumptions/4.md. -/
structure Msg where
  port : Nat
  kind : Nat
  to_  : Nat
  body : List Byte
  deriving DecidableEq, Repr, Inhabited

/-- Everything of the device but the queue of commands. `crossings` lists the links whose far side is known to be in reset:
die, link kind, die at the other end (R413). `layout` is the model's own: the address
within a die at which a master of the rule table accesses it, which the spec leaves open; key 8 times the die plus the master. -/
structure Device where
  mono   : Nat
  fresh  : Nat
  regs   : Table Val
  force  : Table Val
  record : Table Val
  pins   : Pins
  ctls   : Table CtlDie
  pix    : Table PixelDie
  rails  : Table RailUnit
  clocks : Table ClockUnit
  rules  : Table RuleCopy
  rings  : Table Ring
  sup    : Sup
  cmp    : CompareUnit
  can    : CanUnit
  audit  : List AuditRec
  awaiting : List Nat
  srcs   : Table SrcUnit
  st2110 : Table St2110Unit
  cams   : Table CamUnit
  pipes  : Table PipeUnit
  layers : Table LayerUnit
  heads  : Table HeadUnit
  scans  : Table HeadScan
  tags   : Table TagUnit
  wbs    : Table WbUnit
  ifs    : Table MemIfUnit
  mems   : Table MemUnit
  queues : Table QueueUnit
  links  : Table TouchUnit
  tracks : Table TrackUnit
  mcs    : Table McUnit
  unattr : Table (Nat × Nat)
  crossings : List (Nat × Nat × Nat)
  limits : Table (Nat × Nat)
  layout : Table Nat
  memory : Table Byte
  tx     : List Msg
  deriving DecidableEq, Repr

/-- The state of the block: the waiting commands, first in first out, and the device. -/
structure State where
  pending : List Instr
  dev     : Device
  deriving DecidableEq, Repr

/-- Nothing in the spec stops the block as a whole: every refusal, drop, error and reset it describes is a
next state. No meaning raises a fault. -/
inductive Fault where
  deriving DecidableEq, Repr

/-- A command without a meaning. `notModelled` stands in Machine/Dispatch.lean alone; raising it is safe (the
model stops where the hardware goes on). -/
inductive Refusal where
  | notModelled (mnemonic : String)
  deriving DecidableEq, Repr

def Flash.reset : Flash :=
  { slotA := 0, slotB := 0, imageA := [], imageB := [], used := false, bundle := [], bundleOld := [], tb3 := 0, micro := [],
    log := [] }

def CtlDie.reset : CtlDie :=
  { out := false, role := 0, tb0 := TimeBase.fresh 1, tb1 := TimeBase.fresh 1, tb2 := TimeBase.fresh 4,
    tb3 := TimeBase.fresh 4, meas := [], slot0 := CkptSlot.reset, slot1 := CkptSlot.reset, flash := Flash.reset,
    booted := 0, bootAt := 0, heardS := 0, heardW := 0, silentS := false, silentW := false, lost := false, beat := 0,
    takeover := none, minority := none, retry := 0, was := 0, warm := false, mismatch := false, few := none,
    downS := false, downW := false, beatSeq := 0, beatState := 0, gotBeat := none, retained := none, mirrored := [] }

/-- DESIGN CHOICE: notes/assumptions/3.md. -/
def Pins.reset : Pins :=
  { pwrgood := false, resetn := true, hbtest := false, thermn := [], hbmon := [false, false], straps := none, scan := [],
    secVer := 0, owners := [], fuse := false }

def Device.reset : Device :=
  { mono := 0, fresh := 0, regs := [], force := [], record := [], pins := Pins.reset, ctls := [], pix := [], rails := [],
    clocks := [], rules := [], rings := [], sup := Sup.reset, cmp := CompareUnit.reset, can := CanUnit.reset, audit := [],
    awaiting := [], srcs := [], st2110 := [], cams := [], pipes := [], layers := [], heads := [], scans := [], tags := [],
    wbs := [], ifs := [], mems := [], queues := [], links := [], tracks := [], mcs := [], unattr := [], crossings := [], limits := [], layout := [],
    memory := [], tx := [] }

/-- The block right after power-on reset, PWRGOOD still low (R412, R415): every register at the value its
object table gives for reset, no unit running, no command waiting. DESIGN CHOICE: notes/assumptions/165.md. -/
def State.reset : State := { pending := [], dev := Device.reset }

end Sys2Proof.Machine
end

