-- ==== Sys2Proof/Machine/Dict.lean ====
section
/-! DEFINITION. The object dictionary as its object tables give it (R292 to R294, R303): for every entry its
type, access, reset value, reserved bits and listed range. Generated from the object tables of spec/. -/

namespace Sys2Proof.Machine

/-- A CiA data type (R293): a number of so many bytes, a string of at most so many, or a DOMAIN of lo to hi
bytes. -/
inductive Ty where
  | num (bytes : Nat)
  | str (max : Nat)
  | dom (lo hi : Nat)
  deriving DecidableEq, Repr

inductive Acc where
  | ro
  | rw
  | wo
  deriving DecidableEq, Repr

/-- The standing an access may name beside roles (R294). `mapping` is CanPdoTimestamp's. -/
inductive Own where
  | none
  | layer
  | head
  | self
  | selfWith (role : Nat)
  | bundle
  | mapping
  deriving DecidableEq, Repr

/-- One row of an object table: first subindex, how many, type, access, roles (bits of R320: 1 OPS, 2 SRC,
4 PLANT, 8 MAINT, 16 AUDIT; 32 everyone), standing, value restriction (R294), reset, reserved bits, listed
ranges of fields (lowest bit, width, ranges), and whether 0 is allowed besides. -/
structure Entry where
  sub   : Nat
  subs  : Nat
  ty    : Ty
  acc   : Acc
  roles : Nat
  own   : Own
  only  : Option (Nat × Nat)
  rst   : Nat
  rsvd  : Nat
  chk   : List (Nat × Nat × List (Nat × Nat))
  zero  : Bool
  deriving DecidableEq, Repr

def obj1000 : List Entry :=
  [ ⟨0x00, 1, .num 4, .ro, 32, .none, none, 0, 0, [], false⟩ ]

def obj1001 : List Entry :=
  [ ⟨0x00, 1, .num 1, .ro, 32, .none, none, 0, 0, [], false⟩ ]

def obj1008 : List Entry :=
  [ ⟨0x00, 1, .str 16, .ro, 32, .none, none, 0, 0, [], false⟩ ]

def obj1009 : List Entry :=
  [ ⟨0x00, 1, .str 16, .ro, 32, .none, none, 0, 0, [], false⟩ ]

def obj100A : List Entry :=
  [ ⟨0x00, 1, .str 16, .ro, 32, .none, none, 0, 0, [], false⟩ ]

def obj1014 : List Entry :=
  [ ⟨0x00, 1, .num 4, .rw, 8, .none, none, 0, 2147481600, [], false⟩ ]

def obj1015 : List Entry :=
  [ ⟨0x00, 1, .num 2, .rw, 8, .none, none, 10, 0, [], false⟩ ]

def obj1017 : List Entry :=
  [ ⟨0x00, 1, .num 2, .rw, 8, .none, none, 100, 0, [(0, 64, [(10, 10000)])], false⟩ ]

def obj1018 : List Entry :=
  [ ⟨0x00, 1, .num 1, .ro, 32, .none, none, 4, 0, [], false⟩,
    ⟨0x01, 4, .num 4, .ro, 32, .none, none, 0, 0, [], false⟩ ]

def obj1400 : List Entry :=
  [ ⟨0x00, 1, .num 1, .ro, 32, .none, none, 2, 0, [], false⟩,
    ⟨0x01, 1, .num 4, .rw, 8, .none, none, 2147483648, 2147481600, [], false⟩,
    ⟨0x02, 1, .num 1, .rw, 8, .none, none, 254, 0, [(0, 64, [(254, 254), (255, 255)])], false⟩ ]

def obj1600 : List Entry :=
  [ ⟨0x00, 1, .num 1, .rw, 8, .none, none, 0, 0, [(0, 64, [(0, 15)])], false⟩,
    ⟨0x01, 15, .num 4, .rw, 8, .none, none, 0, 0, [], false⟩ ]

def obj1800 : List Entry :=
  [ ⟨0x00, 1, .num 1, .ro, 32, .none, none, 5, 0, [], false⟩,
    ⟨0x01, 1, .num 4, .rw, 8, .none, none, 2147483648, 2147481600, [], false⟩,
    ⟨0x02, 1, .num 1, .rw, 8, .none, none, 254, 0, [(0, 64, [(254, 254), (255, 255)])], false⟩,
    ⟨0x03, 1, .num 2, .rw, 8, .none, none, 0, 0, [], false⟩,
    ⟨0x05, 1, .num 2, .rw, 8, .none, none, 1000, 0, [(0, 64, [(10, 65535)])], false⟩ ]

def obj1A00 : List Entry :=
  [ ⟨0x00, 1, .num 1, .rw, 8, .none, none, 0, 0, [(0, 64, [(0, 16)])], false⟩,
    ⟨0x01, 16, .num 4, .rw, 8, .none, none, 0, 0, [], false⟩ ]

def obj2000 : List Entry :=
  [ ⟨0x00, 1, .num 1, .ro, 32, .none, none, 7, 0, [], false⟩,
    ⟨0x01, 1, .str 16, .ro, 32, .none, none, 0, 0, [], false⟩,
    ⟨0x02, 1, .str 16, .ro, 32, .none, none, 0, 0, [], false⟩,
    ⟨0x03, 1, .str 16, .ro, 32, .none, none, 0, 0, [], false⟩,
    ⟨0x04, 1, .num 8, .ro, 32, .none, none, 0, 0, [], false⟩,
    ⟨0x05, 1, .dom 0 1024, .ro, 32, .none, none, 0, 0, [], false⟩,
    ⟨0x06, 1, .dom 32 32, .ro, 32, .none, none, 0, 0, [], false⟩,
    ⟨0x07, 1, .num 1, .ro, 32, .none, none, 0, 0, [], false⟩ ]

def obj2010 : List Entry :=
  [ ⟨0x00, 1, .num 1, .ro, 32, .none, none, 10, 0, [], false⟩,
    ⟨0x01, 1, .num 1, .rw, 8, .none, none, 32, 0, [(0, 64, [(1, 127)])], false⟩,
    ⟨0x02, 1, .num 1, .rw, 8, .none, none, 32, 0, [(0, 64, [(1, 127)])], false⟩,
    ⟨0x03, 1, .num 2, .rw, 8, .none, none, 500, 0, [(0, 64, [(125, 125), (250, 250), (500, 500), (1000, 1000)])], false⟩,
    ⟨0x04, 1, .num 2, .rw, 8, .none, none, 2000, 0, [(0, 64, [(1000, 1000), (2000, 2000), (4000, 4000), (5000, 5000)])], false⟩,
    ⟨0x05, 1, .dom 16 16, .rw, 8, .none, none, 0, 0, [], false⟩,
    ⟨0x06, 1, .num 1, .ro, 32, .none, none, 0, 0, [], false⟩,
    ⟨0x07, 1, .num 1, .ro, 32, .none, none, 0, 0, [], false⟩,
    ⟨0x08, 1, .num 4, .ro, 32, .none, none, 0, 0, [], false⟩,
    ⟨0x09, 1, .num 4, .ro, 32, .none, none, 0, 0, [], false⟩,
    ⟨0x0A, 1, .num 6, .rw, 0, .mapping, none, 0, 0, [], false⟩ ]

def obj2020 : List Entry :=
  [ ⟨0x00, 1, .num 1, .ro, 32, .none, none, 14, 0, [], false⟩,
    ⟨0x01, 1, .num 2, .rw, 8, .none, none, 4861, 0, [(0, 64, [(1024, 65535)])], false⟩,
    ⟨0x02, 1, .num 2, .rw, 8, .none, none, 4862, 0, [(0, 64, [(1024, 65535)])], false⟩,
    ⟨0x03, 1, .num 2, .rw, 8, .none, none, 30, 0, [(0, 64, [(5, 3600)])], false⟩,
    ⟨0x04, 1, .num 2, .rw, 8, .none, none, 2000, 0, [(0, 64, [(500, 10000)])], false⟩,
    ⟨0x05, 4, .num 8, .rw, 8, .none, none, 0, 18446742974197923840, [(0, 8, [(8, 30)])], true⟩,
    ⟨0x09, 1, .dom 0 4096, .rw, 0, .bundle, none, 0, 0, [], false⟩,
    ⟨0x0A, 1, .dom 128 128, .ro, 32, .none, none, 0, 0, [], false⟩,
    ⟨0x0B, 1, .num 4, .ro, 32, .none, none, 0, 0, [], false⟩,
    ⟨0x0C, 1, .num 4, .ro, 32, .none, none, 0, 0, [], false⟩,
    ⟨0x0D, 1, .num 1, .ro, 32, .none, none, 0, 0, [], false⟩,
    ⟨0x0E, 1, .num 4, .ro, 32, .none, none, 0, 0, [], false⟩ ]

def obj2030 : List Entry :=
  [ ⟨0x00, 1, .num 1, .ro, 32, .none, none, 15, 0, [], false⟩,
    ⟨0x01, 1, .num 1, .ro, 32, .none, none, 0, 0, [], false⟩,
    ⟨0x02, 1, .num 1, .ro, 32, .none, none, 0, 0, [], false⟩,
    ⟨0x03, 1, .num 8, .ro, 32, .none, none, 0, 0, [], false⟩,
    ⟨0x04, 1, .dom 32 32, .ro, 32, .none, none, 0, 0, [], false⟩,
    ⟨0x05, 1, .num 8, .ro, 32, .none, none, 0, 0, [], false⟩,
    ⟨0x06, 1, .num 8, .rw, 8, .selfWith 2, none, 0, 18446462598732840960, [], false⟩,
    ⟨0x07, 1, .num 1, .wo, 8, .selfWith 1, none, 0, 0, [(0, 64, [(0, 191)])], false⟩,
    ⟨0x08, 1, .num 1, .wo, 8, .self, none, 0, 0, [(0, 64, [(0, 191)])], false⟩,
    ⟨0x09, 1, .dom 24 24, .ro, 32, .none, none, 0, 0, [], false⟩,
    ⟨0x0A, 1, .num 4, .ro, 32, .none, none, 0, 0, [], false⟩,
    ⟨0x0B, 1, .num 4, .ro, 32, .none, none, 0, 0, [], false⟩,
    ⟨0x0C, 1, .num 4, .ro, 32, .none, none, 0, 0, [], false⟩,
    ⟨0x0D, 1, .num 4, .ro, 32, .none, none, 0, 0, [], false⟩,
    ⟨0x0E, 1, .num 1, .wo, 8, .self, none, 0, 0, [(0, 64, [(1, 1)])], false⟩,
    ⟨0x0F, 1, .num 1, .ro, 32, .none, none, 0, 0, [], false⟩ ]

def obj2040 : List Entry :=
  [ ⟨0x00, 1, .num 1, .ro, 32, .none, none, 5, 0, [], false⟩,
    ⟨0x01, 1, .str 8, .ro, 32, .none, none, 0, 0, [], false⟩,
    ⟨0x02, 1, .str 32, .rw, 0, .bundle, none, 0, 0, [], false⟩,
    ⟨0x03, 1, .num 1, .rw, 0, .bundle, none, 0, 240, [], false⟩,
    ⟨0x04, 1, .num 1, .rw, 8, .none, none, 88422, 0, [(0, 64, [(1, 8)])], false⟩,
    ⟨0x05, 1, .num 1, .ro, 32, .none, none, 0, 0, [], false⟩ ]

def obj2100 : List Entry :=
  [ ⟨0x00, 1, .num 1, .ro, 32, .none, none, 28, 0, [], false⟩,
    ⟨0x01, 1, .num 1, .rw, 8, .none, none, 0, 0, [(0, 64, [(1, 2)])], false⟩,
    ⟨0x02, 1, .num 1, .rw, 8, .none, none, 0, 0, [(0, 64, [(1, 2)])], false⟩,
    ⟨0x03, 1, .num 1, .rw, 8, .none, none, 0, 0, [(0, 64, [(0, 127)])], false⟩,
    ⟨0x04, 1, .num 1, .rw, 8, .none, none, 0, 0, [(0, 64, [(0, 1)])], false⟩,
    ⟨0x05, 1, .num 1, .rw, 8, .none, none, 2, 0, [(0, 64, [(2, 3)])], false⟩,
    ⟨0x06, 1, .num 1, .rw, 8, .none, none, 3, 0, [(0, 64, [(2, 10)])], false⟩,
    ⟨0x07, 1, .num 4, .rw, 8, .none, none, 500, 0, [(0, 64, [(1, 1000000)])], false⟩,
    ⟨0x08, 1, .num 4, .rw, 8, .none, none, 1000, 0, [(0, 64, [(10, 1000000)])], false⟩,
    ⟨0x09, 1, .num 4, .rw, 8, .none, none, 1000, 0, [(0, 64, [(50, 100000)])], false⟩,
    ⟨0x10, 1, .num 1, .ro, 32, .none, none, 0, 0, [], false⟩,
    ⟨0x11, 1, .num 1, .ro, 32, .none, none, 0, 0, [], false⟩,
    ⟨0x12, 1, .num 8, .ro, 32, .none, none, 0, 0, [], false⟩,
    ⟨0x13, 1, .num 4, .ro, 32, .none, none, 0, 0, [], false⟩,
    ⟨0x14, 1, .num 4, .ro, 32, .none, none, 0, 0, [], false⟩,
    ⟨0x15, 1, .num 4, .ro, 32, .none, none, 0, 0, [], false⟩,
    ⟨0x16, 1, .num 8, .ro, 32, .none, none, 0, 0, [], false⟩,
    ⟨0x17, 1, .num 4, .ro, 32, .none, none, 0, 0, [], false⟩,
    ⟨0x18, 1, .num 4, .ro, 32, .none, none, 0, 0, [], false⟩,
    ⟨0x19, 1, .num 4, .ro, 32, .none, none, 0, 0, [], false⟩,
    ⟨0x1A, 1, .num 4, .ro, 32, .none, none, 0, 0, [], false⟩,
    ⟨0x1B, 1, .num 2, .ro, 32, .none, none, 0, 0, [], false⟩,
    ⟨0x1C, 1, .num 8, .ro, 32, .none, none, 0, 0, [], false⟩ ]

def obj2110 : List Entry :=
  [ ⟨0x00, 1, .num 1, .ro, 32, .none, none, 7, 0, [], false⟩,
    ⟨0x01, 1, .num 4, .rw, 8, .none, none, 60000, 0, [(0, 64, [(24000, 120000)])], false⟩,
    ⟨0x02, 1, .num 4, .rw, 8, .none, none, 0, 0, [], false⟩,
    ⟨0x03, 1, .num 1, .ro, 32, .none, none, 0, 0, [], false⟩,
    ⟨0x04, 1, .num 2, .rw, 8, .none, none, 500, 0, [(0, 64, [(200, 2000)])], false⟩,
    ⟨0x05, 1, .num 8, .ro, 32, .none, none, 0, 0, [], false⟩,
    ⟨0x06, 1, .num 8, .ro, 32, .none, none, 0, 0, [], false⟩,
    ⟨0x07, 1, .num 4, .ro, 32, .none, none, 0, 0, [], false⟩ ]

def obj2200 : List Entry :=
  [ ⟨0x00, 1, .num 1, .ro, 32, .none, none, 9, 0, [], false⟩,
    ⟨0x01, 1, .dom 16 16, .ro, 32, .none, none, 0, 0, [], false⟩,
    ⟨0x02, 1, .dom 16 16, .ro, 32, .none, none, 0, 0, [], false⟩,
    ⟨0x03, 1, .num 4, .ro, 32, .none, none, 0, 0, [], false⟩,
    ⟨0x04, 1, .num 4, .ro, 32, .none, none, 0, 0, [], false⟩,
    ⟨0x05, 1, .num 8, .ro, 32, .none, none, 0, 0, [], false⟩,
    ⟨0x06, 1, .num 4, .ro, 32, .none, none, 0, 0, [], false⟩,
    ⟨0x07, 1, .num 4, .ro, 32, .none, none, 0, 0, [], false⟩,
    ⟨0x08, 1, .num 4, .rw, 8, .none, none, 0, 4278190080, [(0, 4, [(0, 4)]), (4, 4, [(0, 4)]), (8, 4, [(0, 4)]), (12, 4, [(0, 4)]), (16, 4, [(0, 4)]), (20, 4, [(0, 4)])], false⟩,
    ⟨0x09, 1, .num 1, .ro, 32, .none, none, 0, 0, [], false⟩ ]

def obj2210 : List Entry :=
  [ ⟨0x00, 1, .num 1, .ro, 32, .none, none, 11, 0, [], false⟩,
    ⟨0x01, 1, .dom 8 8, .ro, 32, .none, none, 0, 0, [], false⟩,
    ⟨0x02, 1, .num 1, .ro, 32, .none, none, 0, 0, [], false⟩,
    ⟨0x03, 1, .dom 8 8, .ro, 32, .none, none, 0, 0, [], false⟩,
    ⟨0x04, 1, .num 4, .ro, 32, .none, none, 0, 0, [], false⟩,
    ⟨0x05, 1, .dom 16 16, .ro, 32, .none, none, 0, 0, [], false⟩,
    ⟨0x06, 1, .dom 8 8, .ro, 32, .none, none, 0, 0, [], false⟩,
    ⟨0x07, 1, .dom 16 16, .ro, 32, .none, none, 0, 0, [], false⟩,
    ⟨0x08, 1, .dom 8 8, .ro, 32, .none, none, 0, 0, [], false⟩,
    ⟨0x09, 1, .dom 32 32, .ro, 32, .none, none, 0, 0, [], false⟩,
    ⟨0x0A, 1, .num 4, .wo, 8, .none, none, 0, 0, [(24, 8, [(0, 7)]), (0, 8, [(1, 255)])], false⟩,
    ⟨0x0B, 1, .num 8, .ro, 32, .none, none, 0, 0, [], false⟩ ]

def obj2300 : List Entry :=
  [ ⟨0x00, 1, .num 1, .ro, 32, .none, none, 19, 0, [], false⟩,
    ⟨0x01, 1, .num 1, .rw, 0, .bundle, none, 1, 0, [(0, 64, [(1, 2)])], false⟩,
    ⟨0x02, 1, .num 1, .ro, 32, .none, none, 0, 0, [], false⟩,
    ⟨0x03, 1, .num 2, .ro, 32, .none, none, 0, 0, [], false⟩,
    ⟨0x04, 1, .num 1, .ro, 32, .none, none, 0, 0, [], false⟩,
    ⟨0x05, 1, .num 4, .ro, 32, .none, none, 0, 0, [], false⟩,
    ⟨0x06, 1, .num 4, .ro, 32, .none, none, 0, 0, [], false⟩,
    ⟨0x07, 1, .num 4, .rw, 8, .none, none, 86400, 0, [(0, 64, [(0, 0), (3600, 604800)])], false⟩,
    ⟨0x08, 1, .num 1, .ro, 32, .none, none, 0, 0, [], false⟩,
    ⟨0x09, 1, .num 8, .ro, 32, .none, none, 0, 0, [], false⟩,
    ⟨0x0A, 1, .num 2, .rw, 8, .none, none, 60, 0, [(0, 64, [(10, 3600)])], false⟩,
    ⟨0x0B, 1, .num 1, .rw, 0, .bundle, none, 0, 0, [(0, 64, [(0, 1)])], false⟩,
    ⟨0x0C, 1, .num 1, .wo, 8, .none, none, 0, 0, [(0, 64, [(1, 3)])], false⟩,
    ⟨0x0D, 1, .num 1, .ro, 32, .none, none, 0, 0, [], false⟩,
    ⟨0x0E, 1, .num 1, .wo, 8, .none, none, 0, 0, [(0, 64, [(1, 1)])], false⟩,
    ⟨0x0F, 1, .num 1, .wo, 16, .none, none, 0, 0, [(0, 64, [(1, 1)])], false⟩,
    ⟨0x10, 1, .num 2, .wo, 8, .none, none, 0, 0, [(8, 8, [(0, 5)]), (0, 8, [(1, 3)])], false⟩,
    ⟨0x11, 1, .num 1, .ro, 32, .none, none, 0, 0, [], false⟩,
    ⟨0x12, 1, .num 4, .ro, 32, .none, none, 0, 0, [], false⟩,
    ⟨0x13, 1, .num 4, .ro, 32, .none, none, 0, 0, [], false⟩ ]

def obj2310 : List Entry :=
  [ ⟨0x00, 1, .num 1, .ro, 32, .none, none, 7, 0, [], false⟩,
    ⟨0x01, 1, .num 8, .ro, 32, .none, none, 0, 0, [], false⟩,
    ⟨0x02, 1, .num 1, .ro, 32, .none, none, 0, 0, [], false⟩,
    ⟨0x03, 1, .num 4, .ro, 32, .none, none, 0, 0, [], false⟩,
    ⟨0x04, 1, .num 8, .ro, 32, .none, none, 0, 0, [], false⟩,
    ⟨0x05, 1, .num 4, .ro, 32, .none, none, 0, 0, [], false⟩,
    ⟨0x06, 1, .num 2, .ro, 32, .none, none, 0, 0, [], false⟩,
    ⟨0x07, 1, .num 8, .ro, 32, .none, none, 0, 0, [], false⟩ ]

def obj2400 : List Entry :=
  [ ⟨0x00, 1, .num 1, .ro, 32, .none, none, 10, 0, [], false⟩,
    ⟨0x01, 1, .num 1, .rw, 8, .none, none, 0, 0, [(0, 64, [(0, 1)])], false⟩,
    ⟨0x02, 1, .num 1, .rw, 8, .none, none, 0, 192, [], false⟩,
    ⟨0x03, 1, .num 8, .rw, 8, .none, none, 0, 18446462598732845055, [], false⟩,
    ⟨0x04, 1, .num 4, .rw, 8, .none, none, 1, 0, [(0, 64, [(1, 4294967295)])], false⟩,
    ⟨0x05, 1, .num 1, .rw, 8, .none, none, 0, 252, [], false⟩,
    ⟨0x06, 1, .num 1, .wo, 16, .none, none, 0, 0, [(0, 64, [(1, 1)])], false⟩,
    ⟨0x07, 1, .num 1, .ro, 32, .none, none, 0, 0, [], false⟩,
    ⟨0x08, 1, .num 4, .ro, 32, .none, none, 0, 0, [], false⟩,
    ⟨0x09, 1, .num 1, .wo, 8, .none, none, 0, 0, [(0, 64, [(1, 1)])], false⟩,
    ⟨0x0A, 1, .num 1, .ro, 32, .none, none, 0, 0, [], false⟩ ]

def obj2500a : List Entry :=
  [ ⟨0x00, 1, .num 1, .ro, 32, .none, none, 28, 0, [], false⟩,
    ⟨0x01, 1, .dom 32 32, .wo, 31, .none, none, 0, 0, [], false⟩,
    ⟨0x02, 1, .dom 476 476, .ro, 32, .none, none, 0, 0, [], false⟩,
    ⟨0x03, 1, .dom 256 256, .ro, 32, .none, none, 0, 0, [], false⟩,
    ⟨0x04, 1, .num 8, .ro, 32, .none, none, 0, 0, [], false⟩,
    ⟨0x05, 1, .dom 32 32, .ro, 32, .none, none, 0, 0, [], false⟩,
    ⟨0x06, 1, .num 8, .ro, 32, .none, none, 0, 0, [], false⟩,
    ⟨0x07, 1, .num 8, .rw, 16, .none, none, 0, 0, [], false⟩,
    ⟨0x08, 1, .num 4, .ro, 32, .none, none, 0, 0, [], false⟩,
    ⟨0x09, 1, .dom 0 65536, .wo, 8, .none, none, 0, 0, [], false⟩,
    ⟨0x0A, 1, .num 1, .wo, 8, .none, none, 0, 0, [(0, 64, [(1, 1)])], false⟩,
    ⟨0x0B, 1, .num 4, .ro, 32, .none, none, 0, 0, [], false⟩,
    ⟨0x0C, 1, .num 8, .ro, 32, .none, none, 0, 0, [], false⟩,
    ⟨0x0D, 1, .dom 32 32, .ro, 32, .none, none, 0, 0, [], false⟩,
    ⟨0x0E, 1, .dom 128 128, .ro, 32, .none, none, 0, 0, [], false⟩,
    ⟨0x0F, 1, .num 1, .ro, 32, .none, none, 0, 0, [], false⟩,
    ⟨0x10, 1, .dom 34 34, .wo, 0, .bundle, none, 0, 0, [], false⟩,
    ⟨0x11, 1, .num 1, .ro, 32, .none, none, 0, 0, [], false⟩,
    ⟨0x12, 1, .num 1, .wo, 8, .none, some (2, 24), 0, 0, [(0, 64, [(1, 2)])], false⟩,
    ⟨0x13, 1, .dom 32 32, .ro, 32, .none, none, 0, 0, [], false⟩,
    ⟨0x14, 1, .dom 64 64, .wo, 8, .none, none, 0, 0, [], false⟩,
    ⟨0x15, 1, .dom 64 64, .wo, 16, .none, none, 0, 0, [], false⟩,
    ⟨0x16, 1, .num 1, .ro, 32, .none, none, 0, 0, [], false⟩,
    ⟨0x17, 1, .num 2, .rw, 16, .none, none, 3600, 0, [(0, 64, [(60, 28800)])], false⟩,
    ⟨0x18, 1, .num 8, .ro, 32, .none, none, 0, 0, [], false⟩,
    ⟨0x19, 1, .num 2, .ro, 32, .none, none, 0, 0, [], false⟩,
    ⟨0x1A, 1, .dom 32 32, .ro, 32, .none, none, 0, 0, [], false⟩,
    ⟨0x1B, 1, .num 1, .ro, 32, .none, none, 0, 0, [], false⟩ ]

def obj2500b : List Entry :=
  [ ⟨0x1C, 1, .num 1, .wo, 0, .bundle, none, 0, 0, [(0, 64, [(1, 1)])], false⟩ ]

def obj2510 : List Entry :=
  [ ⟨0x00, 1, .num 1, .ro, 32, .none, none, 2, 0, [], false⟩,
    ⟨0x01, 1, .num 8, .rw, 24, .none, none, 0, 0, [], false⟩,
    ⟨0x02, 1, .dom 8192 8192, .ro, 24, .none, none, 0, 0, [], false⟩ ]

def obj2520 : List Entry :=
  [ ⟨0x00, 1, .num 1, .ro, 32, .none, none, 10, 0, [], false⟩,
    ⟨0x01, 1, .num 1, .ro, 32, .none, none, 0, 0, [], false⟩,
    ⟨0x02, 1, .num 1, .ro, 32, .none, none, 0, 0, [], false⟩,
    ⟨0x03, 1, .dom 64 64, .ro, 32, .none, none, 0, 0, [], false⟩,
    ⟨0x04, 1, .dom 8 8, .ro, 32, .none, none, 0, 0, [], false⟩,
    ⟨0x05, 1, .dom 0 3145728, .wo, 8, .none, none, 0, 0, [], false⟩,
    ⟨0x06, 1, .num 1, .wo, 8, .none, none, 0, 0, [(0, 64, [(1, 1)])], false⟩,
    ⟨0x07, 1, .num 1, .wo, 8, .none, none, 0, 0, [(0, 64, [(1, 2)])], false⟩,
    ⟨0x08, 1, .num 1, .ro, 32, .none, none, 0, 0, [], false⟩,
    ⟨0x09, 1, .num 1, .ro, 32, .none, none, 0, 0, [], false⟩,
    ⟨0x0A, 1, .dom 128 128, .ro, 32, .none, none, 0, 0, [], false⟩ ]

def obj2600 : List Entry :=
  [ ⟨0x00, 1, .num 1, .ro, 32, .none, none, 9, 0, [], false⟩,
    ⟨0x01, 1, .dom 2048 2048, .ro, 32, .none, none, 0, 0, [], false⟩,
    ⟨0x02, 1, .num 1, .ro, 32, .none, none, 0, 0, [], false⟩,
    ⟨0x03, 1, .num 4, .ro, 32, .none, none, 0, 0, [], false⟩,
    ⟨0x04, 1, .num 4, .ro, 32, .none, none, 0, 0, [], false⟩,
    ⟨0x05, 1, .num 4, .wo, 8, .none, none, 0, 0, [], false⟩,
    ⟨0x06, 1, .num 1, .ro, 32, .none, none, 0, 0, [], false⟩,
    ⟨0x07, 1, .num 1, .ro, 32, .none, none, 0, 0, [], false⟩,
    ⟨0x08, 1, .num 1, .rw, 8, .none, none, 0, 0, [(0, 64, [(0, 1)])], false⟩,
    ⟨0x09, 1, .num 4, .ro, 32, .none, none, 0, 0, [], false⟩ ]

def obj2700 : List Entry :=
  [ ⟨0x00, 1, .num 1, .ro, 32, .none, none, 20, 0, [], false⟩,
    ⟨0x01, 8, .num 4, .rw, 8, .self, none, 0, 4294950912, [], false⟩,
    ⟨0x09, 8, .num 2, .rw, 8, .self, none, 0, 61440, [], false⟩,
    ⟨0x11, 1, .dom 12 12, .wo, 13, .none, none, 0, 0, [], false⟩,
    ⟨0x12, 1, .num 1, .ro, 32, .none, none, 0, 0, [], false⟩,
    ⟨0x13, 1, .num 4, .ro, 32, .none, none, 0, 0, [], false⟩,
    ⟨0x14, 1, .num 4, .ro, 32, .none, none, 0, 0, [], false⟩ ]

def obj3010 : List Entry :=
  [ ⟨0x00, 1, .num 1, .ro, 32, .none, none, 12, 0, [], false⟩,
    ⟨0x01, 1, .num 1, .ro, 32, .none, none, 0, 0, [], false⟩,
    ⟨0x02, 1, .num 1, .ro, 32, .none, none, 0, 0, [], false⟩,
    ⟨0x03, 1, .num 1, .ro, 32, .none, none, 0, 0, [], false⟩,
    ⟨0x04, 1, .num 2, .ro, 32, .none, none, 0, 0, [], false⟩,
    ⟨0x05, 1, .num 1, .ro, 32, .none, none, 0, 0, [], false⟩,
    ⟨0x06, 1, .num 1, .ro, 32, .none, none, 0, 0, [], false⟩,
    ⟨0x07, 1, .num 4, .ro, 32, .none, none, 0, 0, [], false⟩,
    ⟨0x08, 1, .num 4, .ro, 32, .none, none, 0, 0, [], false⟩,
    ⟨0x09, 1, .num 1, .ro, 32, .none, none, 0, 0, [], false⟩,
    ⟨0x0A, 1, .num 1, .wo, 8, .none, none, 0, 0, [(0, 64, [(1, 1)])], false⟩,
    ⟨0x0B, 1, .num 1, .ro, 32, .none, none, 0, 0, [], false⟩,
    ⟨0x0C, 1, .num 4, .ro, 32, .none, none, 0, 0, [], false⟩ ]

def obj3014 : List Entry :=
  [ ⟨0x00, 1, .num 1, .ro, 32, .none, none, 14, 0, [], false⟩,
    ⟨0x01, 1, .num 1, .rw, 8, .none, none, 3, 0, [(0, 64, [(1, 3)])], false⟩,
    ⟨0x02, 1, .num 1, .ro, 32, .none, none, 0, 0, [], false⟩,
    ⟨0x03, 1, .num 1, .rw, 8, .none, none, 1, 0, [(0, 64, [(1, 3)])], false⟩,
    ⟨0x04, 1, .num 1, .ro, 32, .none, none, 0, 0, [], false⟩,
    ⟨0x05, 1, .num 4, .ro, 32, .none, none, 0, 0, [], false⟩,
    ⟨0x06, 1, .num 4, .ro, 32, .none, none, 0, 0, [], false⟩,
    ⟨0x07, 1, .num 2, .ro, 32, .none, none, 0, 0, [], false⟩,
    ⟨0x08, 1, .num 4, .ro, 32, .none, none, 0, 0, [], false⟩,
    ⟨0x09, 1, .dom 22 22, .rw, 8, .none, none, 0, 0, [], false⟩,
    ⟨0x0A, 1, .num 4, .ro, 32, .none, none, 0, 0, [], false⟩,
    ⟨0x0B, 1, .num 1, .rw, 8, .none, none, 1, 0, [(0, 64, [(0, 1)])], false⟩,
    ⟨0x0C, 1, .num 1, .ro, 32, .none, none, 0, 0, [], false⟩,
    ⟨0x0D, 1, .num 4, .ro, 32, .none, none, 0, 0, [], false⟩,
    ⟨0x0E, 1, .num 4, .ro, 32, .none, none, 0, 0, [], false⟩ ]

def obj3020 : List Entry :=
  [ ⟨0x00, 1, .num 1, .ro, 32, .none, none, 5, 0, [], false⟩,
    ⟨0x01, 1, .num 2, .ro, 32, .none, none, 0, 0, [], false⟩,
    ⟨0x02, 1, .num 2, .ro, 32, .none, none, 0, 0, [], false⟩,
    ⟨0x03, 1, .num 2, .ro, 32, .none, none, 0, 0, [], false⟩,
    ⟨0x04, 1, .num 4, .ro, 32, .none, none, 0, 0, [], false⟩,
    ⟨0x05, 1, .dom 64 64, .ro, 32, .none, none, 0, 0, [], false⟩ ]

def obj3030 : List Entry :=
  [ ⟨0x00, 1, .num 1, .ro, 32, .none, none, 6, 0, [], false⟩,
    ⟨0x01, 1, .dom 64 64, .ro, 32, .none, none, 0, 0, [], false⟩,
    ⟨0x02, 1, .num 4, .ro, 32, .none, none, 0, 0, [], false⟩,
    ⟨0x03, 1, .num 4, .ro, 32, .none, none, 0, 0, [], false⟩,
    ⟨0x04, 1, .num 4, .ro, 32, .none, none, 0, 0, [], false⟩,
    ⟨0x05, 1, .num 2, .ro, 32, .none, none, 0, 0, [], false⟩,
    ⟨0x06, 1, .dom 16 16, .ro, 32, .none, none, 0, 0, [], false⟩ ]

def obj3040 : List Entry :=
  [ ⟨0x00, 1, .num 1, .ro, 32, .none, none, 13, 0, [], false⟩,
    ⟨0x01, 1, .num 4, .rw, 8, .none, none, 2000, 0, [(0, 64, [(0, 40000)])], false⟩,
    ⟨0x02, 1, .num 4, .ro, 32, .none, none, 0, 0, [], false⟩,
    ⟨0x03, 1, .num 4, .ro, 32, .none, none, 0, 0, [], false⟩,
    ⟨0x04, 1, .num 4, .ro, 32, .none, none, 0, 0, [], false⟩,
    ⟨0x05, 1, .num 4, .ro, 32, .none, none, 0, 0, [], false⟩,
    ⟨0x06, 1, .num 4, .ro, 32, .none, none, 0, 0, [], false⟩,
    ⟨0x07, 1, .num 4, .ro, 32, .none, none, 0, 0, [], false⟩,
    ⟨0x08, 1, .num 4, .ro, 32, .none, none, 0, 0, [], false⟩,
    ⟨0x09, 1, .num 4, .ro, 32, .none, none, 0, 0, [], false⟩,
    ⟨0x0A, 1, .num 1, .ro, 32, .none, none, 0, 0, [], false⟩,
    ⟨0x0B, 1, .num 4, .ro, 32, .none, none, 0, 0, [], false⟩,
    ⟨0x0C, 1, .num 4, .ro, 32, .none, none, 0, 0, [], false⟩,
    ⟨0x0D, 1, .dom 8 8, .ro, 32, .none, none, 0, 0, [], false⟩ ]

def obj3050 : List Entry :=
  [ ⟨0x00, 1, .num 1, .ro, 32, .none, none, 10, 0, [], false⟩,
    ⟨0x01, 1, .num 1, .ro, 32, .none, none, 0, 0, [], false⟩,
    ⟨0x02, 1, .dom 32 32, .ro, 32, .none, none, 0, 0, [], false⟩,
    ⟨0x03, 1, .num 2, .ro, 32, .none, none, 0, 0, [], false⟩,
    ⟨0x04, 1, .dom 0 524288, .wo, 8, .none, none, 0, 0, [], false⟩,
    ⟨0x05, 1, .num 8, .rw, 8, .none, none, 0, 18446462598732840960, [], false⟩,
    ⟨0x06, 1, .num 1, .wo, 8, .none, none, 0, 0, [(0, 64, [(1, 3)])], false⟩,
    ⟨0x07, 1, .num 1, .ro, 32, .none, none, 0, 0, [], false⟩,
    ⟨0x08, 1, .num 2, .rw, 8, .none, none, 600, 0, [(0, 64, [(60, 36000)])], false⟩,
    ⟨0x09, 1, .num 4, .ro, 32, .none, none, 0, 0, [], false⟩,
    ⟨0x0A, 1, .num 4, .ro, 32, .none, none, 0, 0, [], false⟩ ]

def obj3060 : List Entry :=
  [ ⟨0x00, 1, .num 1, .ro, 32, .none, none, 15, 0, [], false⟩,
    ⟨0x01, 1, .num 1, .rw, 8, .none, none, 0, 0, [(0, 64, [(0, 1)])], false⟩,
    ⟨0x02, 1, .num 1, .rw, 8, .none, none, 255, 0, [(0, 64, [(0, 23), (255, 255)])], false⟩,
    ⟨0x03, 1, .num 1, .rw, 8, .none, none, 0, 0, [(0, 64, [(0, 3)])], false⟩,
    ⟨0x04, 1, .num 2, .rw, 8, .none, none, 65535, 0, [(0, 64, [(0, 511), (65535, 65535)])], false⟩,
    ⟨0x05, 1, .num 1, .rw, 8, .none, none, 1, 0, [(0, 64, [(1, 8)])], false⟩,
    ⟨0x06, 1, .num 1, .wo, 8, .none, none, 0, 0, [(0, 64, [(1, 1)])], false⟩,
    ⟨0x07, 1, .num 1, .wo, 24, .none, none, 0, 0, [(0, 64, [(1, 2)])], false⟩,
    ⟨0x08, 1, .num 1, .ro, 32, .none, none, 0, 0, [], false⟩,
    ⟨0x09, 1, .num 4, .ro, 32, .none, none, 0, 0, [], false⟩,
    ⟨0x0A, 1, .num 4, .ro, 32, .none, none, 0, 0, [], false⟩,
    ⟨0x0B, 1, .num 4, .ro, 32, .none, none, 0, 0, [], false⟩,
    ⟨0x0C, 1, .dom 0 4294967295, .ro, 24, .none, none, 0, 0, [], false⟩,
    ⟨0x0D, 1, .num 1, .ro, 32, .none, none, 0, 0, [], false⟩,
    ⟨0x0E, 1, .num 1, .ro, 32, .none, none, 0, 0, [], false⟩,
    ⟨0x0F, 1, .num 1, .ro, 32, .none, none, 0, 0, [], false⟩ ]

def obj4000 : List Entry :=
  [ ⟨0x00, 1, .num 1, .ro, 32, .none, none, 26, 0, [], false⟩,
    ⟨0x01, 1, .num 1, .rw, 8, .layer, none, 0, 0, [(0, 64, [(0, 1)])], false⟩,
    ⟨0x02, 1, .num 2, .rw, 8, .layer, none, 65535, 0, [(0, 64, [(0, 511), (65535, 65535)])], false⟩,
    ⟨0x03, 1, .num 2, .rw, 8, .layer, none, 1000, 0, [(0, 64, [(1, 65535)])], false⟩,
    ⟨0x04, 1, .num 2, .rw, 8, .layer, none, 800, 0, [], false⟩,
    ⟨0x05, 1, .num 1, .rw, 8, .layer, some (2, 8), 0, 0, [(0, 64, [(0, 2)])], false⟩,
    ⟨0x06, 1, .num 1, .rw, 8, .none, none, 0, 0, [(0, 64, [(0, 1)])], false⟩,
    ⟨0x07, 1, .num 1, .rw, 8, .layer, none, 255, 0, [(0, 64, [(0, 23), (255, 255)])], false⟩,
    ⟨0x08, 1, .num 1, .rw, 8, .layer, none, 0, 0, [(0, 64, [(0, 3)])], false⟩,
    ⟨0x09, 1, .num 4, .rw, 8, .layer, none, 0, 0, [(16, 16, [(0, 8191), (57344, 65535)]), (0, 16, [(0, 8191), (57344, 65535)])], false⟩,
    ⟨0x0A, 1, .num 4, .rw, 8, .layer, none, 0, 0, [(16, 16, [(1, 8192)]), (0, 16, [(1, 8192)])], false⟩,
    ⟨0x0B, 1, .num 4, .rw, 8, .layer, none, 0, 0, [], false⟩,
    ⟨0x0C, 1, .num 4, .rw, 8, .layer, none, 0, 0, [(16, 16, [(1, 4096)]), (0, 16, [(1, 4096)])], true⟩,
    ⟨0x0D, 1, .num 1, .rw, 8, .layer, none, 0, 0, [(0, 64, [(0, 7)])], false⟩,
    ⟨0x0E, 1, .num 1, .rw, 8, .layer, none, 1, 0, [(0, 64, [(1, 2)])], false⟩,
    ⟨0x0F, 1, .num 2, .rw, 8, .layer, none, 1023, 0, [(0, 64, [(0, 1023)])], false⟩,
    ⟨0x10, 1, .num 1, .rw, 8, .layer, none, 1, 0, [(0, 64, [(1, 2)])], false⟩,
    ⟨0x11, 1, .num 1, .rw, 8, .layer, none, 1, 0, [(0, 64, [(1, 2)])], false⟩,
    ⟨0x12, 1, .num 1, .rw, 8, .layer, none, 0, 0, [(0, 64, [(0, 1)])], false⟩,
    ⟨0x13, 1, .dom 6144 6144, .rw, 8, .layer, none, 0, 0, [], false⟩,
    ⟨0x14, 1, .num 1, .wo, 8, .layer, none, 0, 0, [(0, 64, [(1, 1)])], false⟩,
    ⟨0x15, 1, .num 1, .ro, 32, .none, none, 0, 0, [], false⟩,
    ⟨0x16, 1, .num 1, .ro, 32, .none, none, 0, 0, [], false⟩,
    ⟨0x17, 1, .num 4, .ro, 32, .none, none, 0, 0, [], false⟩,
    ⟨0x18, 1, .num 2, .ro, 32, .none, none, 0, 0, [], false⟩,
    ⟨0x19, 1, .num 1, .ro, 32, .none, none, 0, 0, [], false⟩,
    ⟨0x1A, 1, .num 8, .ro, 32, .none, none, 0, 0, [], false⟩ ]

def obj4100 : List Entry :=
  [ ⟨0x00, 1, .num 1, .ro, 32, .none, none, 14, 0, [], false⟩,
    ⟨0x01, 1, .num 1, .ro, 32, .none, none, 0, 0, [], false⟩,
    ⟨0x02, 1, .num 1, .ro, 32, .none, none, 0, 0, [], false⟩,
    ⟨0x03, 1, .num 4, .ro, 32, .none, none, 0, 0, [], false⟩,
    ⟨0x04, 1, .num 4, .ro, 32, .none, none, 0, 0, [], false⟩,
    ⟨0x05, 1, .num 8, .ro, 32, .none, none, 0, 0, [], false⟩,
    ⟨0x06, 1, .num 1, .ro, 32, .none, none, 0, 0, [], false⟩,
    ⟨0x07, 1, .num 4, .ro, 32, .none, none, 0, 0, [], false⟩,
    ⟨0x08, 1, .num 2, .ro, 32, .none, none, 0, 0, [], false⟩,
    ⟨0x09, 1, .num 1, .ro, 32, .none, none, 0, 0, [], false⟩,
    ⟨0x0A, 1, .num 1, .ro, 32, .none, none, 0, 0, [], false⟩,
    ⟨0x0B, 1, .num 4, .ro, 32, .none, none, 0, 0, [], false⟩,
    ⟨0x0C, 1, .num 4, .ro, 32, .none, none, 0, 0, [], false⟩,
    ⟨0x0D, 1, .num 1, .ro, 32, .none, none, 0, 0, [], false⟩,
    ⟨0x0E, 1, .num 4, .ro, 32, .none, none, 0, 0, [], false⟩ ]

def obj4800 : List Entry :=
  [ ⟨0x00, 1, .num 1, .ro, 32, .none, none, 27, 0, [], false⟩,
    ⟨0x01, 1, .num 1, .rw, 8, .none, none, 0, 0, [(0, 64, [(0, 1)])], false⟩,
    ⟨0x02, 1, .num 1, .rw, 8, .none, none, 4, 0, [(0, 64, [(1, 5)])], false⟩,
    ⟨0x03, 1, .num 1, .rw, 8, .none, none, 4, 0, [(0, 64, [(1, 1), (2, 2), (4, 4)])], false⟩,
    ⟨0x04, 1, .num 1, .rw, 8, .none, none, 1, 0, [(0, 64, [(1, 2)])], false⟩,
    ⟨0x05, 1, .num 1, .rw, 8, .none, none, 1, 0, [(0, 64, [(1, 4)])], false⟩,
    ⟨0x06, 1, .num 1, .rw, 8, .none, none, 10, 0, [(0, 64, [(8, 8), (10, 10)])], false⟩,
    ⟨0x07, 1, .num 4, .rw, 8, .none, none, 0, 0, [], false⟩,
    ⟨0x08, 1, .num 4, .rw, 8, .none, none, 0, 0, [], false⟩,
    ⟨0x09, 1, .num 4, .rw, 8, .none, none, 0, 0, [], false⟩,
    ⟨0x0A, 1, .num 4, .rw, 8, .none, none, 0, 0, [], false⟩,
    ⟨0x0B, 1, .num 1, .rw, 8, .none, none, 0, 252, [], false⟩,
    ⟨0x0C, 1, .num 2, .rw, 8, .none, none, 17185, 0, [(0, 4, [(1, 15)]), (4, 4, [(1, 15)]), (8, 4, [(1, 15)]), (12, 4, [(1, 15)])], false⟩,
    ⟨0x0D, 1, .num 1, .rw, 8, .none, none, 1, 0, [(0, 64, [(1, 2)])], false⟩,
    ⟨0x0E, 1, .num 4, .rw, 8, .none, none, 1000, 0, [], false⟩,
    ⟨0x0F, 1, .num 4, .rw, 8, .head, none, 0, 3221225472, [], false⟩,
    ⟨0x10, 1, .num 1, .rw, 8, .none, none, 0, 0, [(0, 64, [(0, 1)])], false⟩,
    ⟨0x11, 1, .dom 24576 24576, .rw, 8, .none, none, 0, 0, [], false⟩,
    ⟨0x12, 4, .num 4, .rw, 8, .none, none, 0, 0, [], false⟩,
    ⟨0x16, 1, .num 1, .rw, 8, .none, none, 2, 0, [(0, 64, [(1, 3)])], false⟩,
    ⟨0x17, 1, .num 1, .rw, 24, .none, none, 1, 0, [(0, 64, [(1, 2)])], false⟩,
    ⟨0x18, 1, .num 1, .rw, 24, .none, none, 0, 0, [(0, 64, [(0, 1)])], false⟩,
    ⟨0x19, 1, .num 1, .wo, 24, .none, none, 0, 0, [(0, 64, [(1, 1)])], false⟩,
    ⟨0x1A, 1, .num 1, .ro, 32, .none, none, 0, 0, [], false⟩,
    ⟨0x1B, 1, .num 1, .ro, 32, .none, none, 0, 0, [], false⟩ ]

def obj4880 : List Entry :=
  [ ⟨0x00, 1, .num 1, .ro, 32, .none, none, 19, 0, [], false⟩,
    ⟨0x01, 1, .num 1, .ro, 32, .none, none, 0, 0, [], false⟩,
    ⟨0x02, 1, .num 2, .ro, 32, .none, none, 0, 0, [], false⟩,
    ⟨0x03, 1, .num 1, .ro, 32, .none, none, 0, 0, [], false⟩,
    ⟨0x04, 1, .num 4, .ro, 32, .none, none, 0, 0, [], false⟩,
    ⟨0x05, 1, .num 1, .ro, 32, .none, none, 0, 0, [], false⟩,
    ⟨0x06, 1, .num 1, .ro, 32, .none, none, 0, 0, [], false⟩,
    ⟨0x07, 1, .num 4, .ro, 32, .none, none, 0, 0, [], false⟩,
    ⟨0x08, 1, .num 4, .ro, 32, .none, none, 0, 0, [], false⟩,
    ⟨0x09, 1, .num 1, .ro, 32, .none, none, 0, 0, [], false⟩,
    ⟨0x0A, 1, .num 4, .ro, 32, .none, none, 0, 0, [], false⟩,
    ⟨0x0B, 1, .num 4, .ro, 32, .none, none, 0, 0, [], false⟩,
    ⟨0x0C, 1, .num 1, .ro, 32, .none, none, 0, 0, [], false⟩,
    ⟨0x0D, 1, .num 4, .ro, 32, .none, none, 0, 0, [], false⟩,
    ⟨0x0E, 1, .num 4, .ro, 32, .none, none, 0, 0, [], false⟩,
    ⟨0x0F, 1, .num 1, .ro, 32, .none, none, 0, 0, [], false⟩,
    ⟨0x10, 1, .num 4, .ro, 32, .none, none, 0, 0, [], false⟩,
    ⟨0x11, 1, .dom 16 16, .ro, 32, .none, none, 0, 0, [], false⟩,
    ⟨0x12, 1, .dom 20 20, .ro, 32, .none, none, 0, 0, [], false⟩,
    ⟨0x13, 1, .num 1, .ro, 32, .none, none, 0, 0, [], false⟩ ]

def obj4900 : List Entry :=
  [ ⟨0x00, 1, .num 1, .ro, 32, .none, none, 12, 0, [], false⟩,
    ⟨0x01, 1, .num 1, .rw, 24, .none, none, 1, 0, [(0, 64, [(1, 6)])], false⟩,
    ⟨0x02, 1, .str 48, .rw, 8, .none, none, 0, 0, [], false⟩,
    ⟨0x03, 1, .num 1, .rw, 8, .none, none, 0, 0, [(0, 64, [(0, 1)])], false⟩,
    ⟨0x04, 1, .num 1, .wo, 24, .none, none, 0, 0, [(0, 64, [(1, 1)])], false⟩,
    ⟨0x05, 1, .num 1, .ro, 32, .none, none, 0, 0, [], false⟩,
    ⟨0x06, 1, .num 2, .ro, 32, .none, none, 0, 0, [], false⟩,
    ⟨0x07, 1, .num 2, .ro, 32, .none, none, 0, 0, [], false⟩,
    ⟨0x08, 1, .num 2, .ro, 32, .none, none, 0, 0, [], false⟩,
    ⟨0x09, 1, .num 1, .wo, 16, .none, none, 0, 0, [(0, 64, [(1, 1)])], false⟩,
    ⟨0x0A, 1, .num 1, .ro, 32, .none, none, 0, 0, [], false⟩,
    ⟨0x0B, 1, .num 1, .ro, 32, .none, none, 0, 0, [], false⟩,
    ⟨0x0C, 1, .num 1, .ro, 32, .none, none, 0, 0, [], false⟩ ]

def obj4A00 : List Entry :=
  [ ⟨0x00, 1, .num 1, .ro, 32, .none, none, 9, 0, [], false⟩,
    ⟨0x01, 1, .str 16, .rw, 9, .none, none, 0, 0, [], false⟩,
    ⟨0x02, 1, .dom 0 7680, .rw, 9, .none, none, 0, 0, [], false⟩,
    ⟨0x03, 1, .num 8, .rw, 9, .none, none, 0, 18446462598732840960, [], false⟩,
    ⟨0x04, 1, .num 1, .wo, 9, .none, none, 0, 0, [(0, 64, [(1, 3)])], false⟩,
    ⟨0x05, 1, .num 1, .ro, 32, .none, none, 0, 0, [], false⟩,
    ⟨0x06, 1, .num 8, .ro, 32, .none, none, 0, 0, [], false⟩,
    ⟨0x07, 1, .dom 25 25, .ro, 32, .none, none, 0, 0, [], false⟩,
    ⟨0x08, 1, .dom 25 25, .ro, 32, .none, none, 0, 0, [], false⟩,
    ⟨0x09, 1, .num 1, .ro, 32, .none, none, 0, 0, [], false⟩ ]

def obj5000 : List Entry :=
  [ ⟨0x00, 1, .num 1, .ro, 32, .none, none, 26, 0, [], false⟩,
    ⟨0x01, 1, .num 1, .rw, 8, .none, none, 0, 0, [(0, 64, [(0, 5)])], false⟩,
    ⟨0x02, 1, .num 1, .rw, 8, .none, none, 0, 0, [(0, 64, [(0, 1)])], false⟩,
    ⟨0x03, 1, .num 1, .rw, 8, .none, none, 255, 0, [(0, 64, [(0, 5), (255, 255)])], false⟩,
    ⟨0x04, 1, .num 1, .rw, 8, .none, none, 0, 0, [(0, 64, [(0, 4)])], false⟩,
    ⟨0x05, 1, .num 2, .rw, 8, .none, none, 0, 0, [(0, 64, [(16, 4096)])], false⟩,
    ⟨0x06, 1, .num 2, .rw, 8, .none, none, 0, 0, [(0, 64, [(16, 4096)])], false⟩,
    ⟨0x07, 1, .num 1, .rw, 8, .none, none, 2, 0, [(0, 64, [(1, 2)])], false⟩,
    ⟨0x08, 1, .num 4, .rw, 8, .none, none, 0, 0, [(0, 64, [(0, 10000000)])], false⟩,
    ⟨0x09, 1, .num 1, .rw, 8, .none, none, 1, 0, [(0, 64, [(1, 3)])], false⟩,
    ⟨0x0A, 1, .num 1, .rw, 8, .none, none, 3, 0, [(0, 64, [(1, 255)])], false⟩,
    ⟨0x0B, 1, .num 2, .rw, 8, .none, none, 1000, 0, [(0, 64, [(1, 65535)])], false⟩,
    ⟨0x0C, 1, .num 2, .rw, 8, .none, none, 1000, 0, [(0, 64, [(10, 65535)])], false⟩,
    ⟨0x0D, 1, .num 1, .rw, 8, .none, none, 0, 0, [(0, 64, [(0, 1)])], false⟩,
    ⟨0x0E, 1, .num 1, .rw, 8, .none, none, 0, 192, [], false⟩,
    ⟨0x0F, 1, .num 1, .rw, 8, .none, none, 255, 0, [(0, 64, [(0, 7), (255, 255)])], false⟩,
    ⟨0x10, 1, .num 1, .rw, 8, .none, none, 0, 0, [(0, 64, [(0, 7)])], false⟩,
    ⟨0x11, 1, .num 1, .rw, 8, .none, none, 255, 0, [(0, 64, [(0, 3), (255, 255)])], false⟩,
    ⟨0x12, 1, .num 4, .rw, 8, .none, none, 0, 0, [], false⟩,
    ⟨0x13, 1, .num 2, .rw, 8, .none, none, 0, 0, [(0, 64, [(1, 65535)])], false⟩,
    ⟨0x14, 1, .num 1, .rw, 8, .none, none, 255, 0, [(0, 64, [(0, 3), (255, 255)])], false⟩,
    ⟨0x15, 1, .num 4, .rw, 8, .none, none, 0, 0, [], false⟩,
    ⟨0x16, 1, .num 2, .rw, 8, .none, none, 0, 0, [(0, 64, [(1, 65535)])], false⟩,
    ⟨0x17, 1, .num 1, .rw, 8, .none, none, 0, 0, [(0, 64, [(96, 127)])], false⟩,
    ⟨0x18, 1, .num 1, .rw, 8, .none, none, 0, 0, [(0, 64, [(1, 3)])], false⟩,
    ⟨0x19, 1, .num 1, .rw, 8, .none, none, 10, 0, [(0, 64, [(1, 10)])], false⟩,
    ⟨0x1A, 1, .num 1, .rw, 8, .none, none, 3, 0, [(0, 64, [(1, 3)])], false⟩ ]

def obj5200 : List Entry :=
  [ ⟨0x00, 1, .num 1, .ro, 32, .none, none, 15, 0, [], false⟩,
    ⟨0x01, 1, .num 1, .ro, 32, .none, none, 0, 0, [], false⟩,
    ⟨0x02, 1, .num 4, .ro, 32, .none, none, 0, 0, [], false⟩,
    ⟨0x03, 1, .num 8, .ro, 32, .none, none, 0, 0, [], false⟩,
    ⟨0x04, 1, .num 8, .ro, 32, .none, none, 0, 0, [], false⟩,
    ⟨0x05, 1, .num 4, .ro, 32, .none, none, 0, 0, [], false⟩,
    ⟨0x06, 1, .num 4, .ro, 32, .none, none, 0, 0, [], false⟩,
    ⟨0x07, 1, .num 4, .ro, 32, .none, none, 0, 0, [], false⟩,
    ⟨0x08, 1, .num 4, .ro, 32, .none, none, 0, 0, [], false⟩,
    ⟨0x09, 1, .num 4, .ro, 32, .none, none, 0, 0, [], false⟩,
    ⟨0x0A, 1, .num 1, .ro, 32, .none, none, 0, 0, [], false⟩,
    ⟨0x0B, 1, .num 4, .ro, 32, .none, none, 0, 0, [], false⟩,
    ⟨0x0C, 1, .num 4, .ro, 32, .none, none, 0, 0, [], false⟩,
    ⟨0x0D, 1, .num 4, .ro, 32, .none, none, 0, 0, [], false⟩,
    ⟨0x0E, 1, .num 1, .ro, 32, .none, none, 0, 0, [], false⟩,
    ⟨0x0F, 1, .num 4, .ro, 32, .none, none, 0, 0, [], false⟩ ]

def obj5400 : List Entry :=
  [ ⟨0x00, 1, .num 1, .ro, 32, .none, none, 12, 0, [], false⟩,
    ⟨0x01, 1, .num 1, .rw, 8, .none, none, 0, 0, [(0, 64, [(0, 1)])], false⟩,
    ⟨0x02, 1, .num 1, .rw, 8, .none, none, 4, 0, [(0, 64, [(1, 1), (2, 2), (4, 4)])], false⟩,
    ⟨0x03, 1, .num 2, .rw, 8, .none, none, 1500, 0, [(0, 64, [(80, 4500)])], false⟩,
    ⟨0x04, 1, .num 1, .rw, 8, .none, none, 2, 0, [(0, 64, [(1, 1), (2, 2)])], false⟩,
    ⟨0x05, 1, .num 2, .rw, 8, .none, none, 12816, 0, [(0, 4, [(0, 3)]), (4, 4, [(0, 3)]), (8, 4, [(0, 3)]), (12, 4, [(0, 3)])], false⟩,
    ⟨0x06, 1, .num 1, .rw, 8, .none, none, 0, 224, [], false⟩,
    ⟨0x07, 1, .num 1, .ro, 32, .none, none, 0, 0, [], false⟩,
    ⟨0x08, 1, .num 4, .ro, 32, .none, none, 0, 0, [], false⟩,
    ⟨0x09, 1, .num 4, .ro, 32, .none, none, 0, 0, [], false⟩,
    ⟨0x0A, 1, .num 4, .ro, 32, .none, none, 0, 0, [], false⟩,
    ⟨0x0B, 1, .num 4, .ro, 32, .none, none, 0, 0, [], false⟩,
    ⟨0x0C, 1, .num 2, .ro, 32, .none, none, 0, 0, [], false⟩ ]

def obj5440 : List Entry :=
  [ ⟨0x00, 1, .num 1, .ro, 32, .none, none, 6, 0, [], false⟩,
    ⟨0x01, 1, .num 1, .ro, 32, .none, none, 0, 0, [], false⟩,
    ⟨0x02, 1, .num 2, .ro, 32, .none, none, 0, 0, [], false⟩,
    ⟨0x03, 1, .num 1, .ro, 32, .none, none, 0, 0, [], false⟩,
    ⟨0x04, 1, .num 4, .ro, 32, .none, none, 0, 0, [], false⟩,
    ⟨0x05, 1, .num 4, .ro, 32, .none, none, 0, 0, [], false⟩,
    ⟨0x06, 1, .num 1, .ro, 32, .none, none, 0, 0, [], false⟩ ]

def obj5480a : List Entry :=
  [ ⟨0x00, 1, .num 1, .ro, 32, .none, none, 74, 0, [], false⟩,
    ⟨0x01, 1, .num 1, .rw, 8, .none, none, 0, 0, [(0, 64, [(0, 1)])], false⟩,
    ⟨0x02, 1, .num 1, .rw, 8, .none, none, 255, 0, [(0, 64, [(0, 11), (255, 255)])], false⟩,
    ⟨0x03, 1, .num 1, .rw, 8, .none, none, 0, 0, [(0, 64, [(0, 15)])], false⟩,
    ⟨0x04, 1, .num 1, .rw, 8, .none, none, 0, 0, [(0, 64, [(0, 0), (42, 42), (43, 43), (44, 44), (45, 45), (46, 46), (30, 30), (31, 31), (36, 36)])], false⟩,
    ⟨0x05, 1, .num 1, .rw, 8, .none, none, 0, 0, [(0, 64, [(0, 5)])], false⟩,
    ⟨0x06, 1, .num 1, .rw, 8, .none, none, 255, 0, [(0, 64, [(0, 11), (255, 255)])], false⟩,
    ⟨0x07, 1, .num 2, .rw, 8, .none, none, 0, 0, [(0, 64, [(16, 8192)])], false⟩,
    ⟨0x08, 1, .num 2, .rw, 8, .none, none, 0, 0, [(0, 64, [(16, 8192)])], false⟩,
    ⟨0x09, 1, .num 4, .rw, 8, .none, none, 0, 0, [(0, 64, [(1000, 240000)])], false⟩,
    ⟨0x0A, 1, .num 4, .rw, 8, .none, none, 0, 0, [], false⟩,
    ⟨0x0B, 1, .num 4, .rw, 8, .none, none, 0, 0, [(0, 16, [(16, 4096)]), (16, 16, [(16, 4096)])], true⟩,
    ⟨0x10, 1, .num 1, .rw, 8, .none, none, 4, 0, [(0, 64, [(1, 8)])], false⟩,
    ⟨0x11, 1, .num 4, .rw, 8, .none, none, 0, 0, [(0, 64, [(0, 1000000)])], false⟩,
    ⟨0x12, 1, .num 8, .rw, 8, .none, none, 0, 0, [(0, 16, [(0, 32767)]), (16, 16, [(0, 32767)]), (32, 16, [(0, 32767)]), (48, 16, [(0, 32767)])], false⟩,
    ⟨0x13, 1, .num 2, .rw, 8, .none, none, 0, 0, [], false⟩,
    ⟨0x14, 1, .num 1, .rw, 8, .none, none, 0, 0, [(0, 64, [(0, 15)])], false⟩,
    ⟨0x15, 1, .num 1, .rw, 8, .none, none, 0, 0, [(0, 64, [(0, 14)])], false⟩,
    ⟨0x16, 1, .num 2, .rw, 8, .none, none, 2048, 0, [], false⟩,
    ⟨0x17, 3, .num 2, .rw, 8, .none, none, 1024, 0, [], false⟩,
    ⟨0x1A, 1, .dom 18 18, .rw, 8, .none, none, 0, 0, [], false⟩,
    ⟨0x1B, 1, .dom 6144 6144, .rw, 8, .none, none, 0, 0, [], false⟩,
    ⟨0x1C, 1, .num 1, .wo, 8, .none, none, 0, 0, [(0, 64, [(1, 1)])], false⟩,
    ⟨0x20, 1, .num 2, .rw, 8, .none, none, 65535, 0, [(0, 64, [(0, 511), (65535, 65535)])], false⟩,
    ⟨0x21, 1, .num 4, .rw, 8, .none, none, 0, 0, [], false⟩,
    ⟨0x22, 1, .num 4, .rw, 8, .none, none, 0, 0, [], false⟩,
    ⟨0x23, 1, .num 4, .rw, 8, .none, none, 0, 0, [], false⟩,
    ⟨0x24, 1, .num 1, .rw, 8, .none, none, 0, 0, [(0, 64, [(0, 4)])], false⟩ ]

def obj5480b : List Entry :=
  [ ⟨0x25, 1, .num 1, .rw, 8, .none, none, 1, 0, [(0, 64, [(1, 8)])], false⟩,
    ⟨0x28, 1, .num 2, .rw, 8, .none, none, 65535, 0, [(0, 64, [(0, 511), (65535, 65535)])], false⟩,
    ⟨0x29, 1, .num 4, .rw, 8, .none, none, 0, 0, [], false⟩,
    ⟨0x2A, 1, .num 4, .rw, 8, .none, none, 0, 0, [], false⟩,
    ⟨0x2B, 1, .num 4, .rw, 8, .none, none, 0, 0, [], false⟩,
    ⟨0x2C, 1, .num 1, .rw, 8, .none, none, 0, 0, [(0, 64, [(0, 4)])], false⟩,
    ⟨0x2D, 1, .num 1, .rw, 8, .none, none, 1, 0, [(0, 64, [(1, 8)])], false⟩,
    ⟨0x30, 1, .num 2, .rw, 8, .none, none, 65535, 0, [(0, 64, [(0, 511), (65535, 65535)])], false⟩,
    ⟨0x31, 1, .num 4, .rw, 8, .none, none, 0, 0, [], false⟩,
    ⟨0x32, 1, .num 4, .rw, 8, .none, none, 0, 0, [], false⟩,
    ⟨0x33, 1, .num 4, .rw, 8, .none, none, 0, 0, [], false⟩,
    ⟨0x34, 1, .num 1, .rw, 8, .none, none, 0, 0, [(0, 64, [(0, 4)])], false⟩,
    ⟨0x35, 1, .num 1, .rw, 8, .none, none, 1, 0, [(0, 64, [(1, 8)])], false⟩,
    ⟨0x38, 1, .num 2, .rw, 8, .none, none, 65535, 0, [(0, 64, [(0, 511), (65535, 65535)])], false⟩,
    ⟨0x39, 1, .num 4, .rw, 8, .none, none, 0, 0, [], false⟩,
    ⟨0x3A, 1, .num 4, .rw, 8, .none, none, 0, 0, [], false⟩,
    ⟨0x3B, 1, .num 4, .rw, 8, .none, none, 0, 0, [], false⟩,
    ⟨0x3C, 1, .num 1, .rw, 8, .none, none, 0, 0, [(0, 64, [(0, 4)])], false⟩,
    ⟨0x3D, 1, .num 1, .rw, 8, .none, none, 1, 0, [(0, 64, [(1, 8)])], false⟩,
    ⟨0x40, 1, .num 1, .ro, 32, .none, none, 0, 0, [], false⟩,
    ⟨0x41, 1, .num 1, .ro, 32, .none, none, 0, 0, [], false⟩,
    ⟨0x42, 1, .num 4, .ro, 32, .none, none, 0, 0, [], false⟩,
    ⟨0x43, 1, .num 4, .ro, 32, .none, none, 0, 0, [], false⟩,
    ⟨0x44, 1, .num 4, .ro, 32, .none, none, 0, 0, [], false⟩,
    ⟨0x45, 1, .num 4, .ro, 32, .none, none, 0, 0, [], false⟩,
    ⟨0x46, 1, .num 4, .ro, 32, .none, none, 0, 0, [], false⟩,
    ⟨0x47, 1, .num 1, .ro, 32, .none, none, 0, 0, [], false⟩,
    ⟨0x48, 1, .num 4, .ro, 32, .none, none, 0, 0, [], false⟩ ]

def obj5480c : List Entry :=
  [ ⟨0x49, 1, .num 1, .ro, 32, .none, none, 0, 0, [], false⟩,
    ⟨0x4A, 1, .num 1, .ro, 32, .none, none, 0, 0, [], false⟩ ]

def obj5800 : List Entry :=
  [ ⟨0x00, 1, .num 1, .ro, 32, .none, none, 21, 0, [], false⟩,
    ⟨0x01, 1, .num 1, .rw, 8, .none, none, 0, 0, [(0, 64, [(0, 1)])], false⟩,
    ⟨0x02, 1, .num 1, .rw, 8, .none, none, 0, 0, [(0, 64, [(16, 128)])], false⟩,
    ⟨0x03, 1, .num 2, .rw, 8, .none, none, 0, 0, [(0, 64, [(1, 256)])], false⟩,
    ⟨0x04, 1, .num 2, .rw, 8, .none, none, 240, 0, [(0, 64, [(60, 60), (120, 120), (240, 240)])], false⟩,
    ⟨0x05, 1, .num 1, .rw, 8, .none, none, 255, 0, [(0, 64, [(1, 255)])], false⟩,
    ⟨0x06, 1, .num 2, .rw, 8, .none, none, 200, 0, [(0, 64, [(20, 4000)])], false⟩,
    ⟨0x07, 1, .num 2, .rw, 8, .none, none, 100, 0, [(0, 64, [(10, 4000)])], false⟩,
    ⟨0x08, 1, .num 1, .rw, 8, .none, none, 3, 0, [(0, 64, [(1, 30)])], false⟩,
    ⟨0x09, 1, .num 2, .rw, 8, .none, none, 600, 0, [(0, 64, [(10, 3600)])], false⟩,
    ⟨0x0A, 1, .num 2, .rw, 8, .none, none, 150, 0, [(0, 64, [(10, 10000)])], false⟩,
    ⟨0x0B, 1, .num 2, .rw, 8, .none, none, 40, 0, [(0, 64, [(8, 4096)])], false⟩,
    ⟨0x0C, 1, .num 1, .rw, 8, .none, none, 255, 0, [(0, 64, [(0, 23), (255, 255)])], false⟩,
    ⟨0x0D, 1, .num 1, .rw, 8, .none, none, 0, 0, [(0, 64, [(0, 3)])], false⟩,
    ⟨0x0E, 1, .num 1, .rw, 8, .none, none, 0, 0, [(0, 64, [(0, 7)])], false⟩,
    ⟨0x0F, 1, .num 4, .rw, 8, .none, none, 0, 0, [], false⟩,
    ⟨0x10, 1, .num 4, .rw, 8, .none, none, 0, 0, [(16, 16, [(1, 65535)]), (0, 16, [(1, 65535)])], false⟩,
    ⟨0x11, 1, .num 2, .rw, 8, .none, none, 0, 0, [(0, 64, [(0, 20000)])], false⟩,
    ⟨0x12, 1, .num 1, .rw, 8, .none, none, 2, 0, [(0, 64, [(1, 64)])], false⟩,
    ⟨0x13, 1, .num 1, .rw, 8, .none, none, 8, 0, [(0, 64, [(1, 15)])], false⟩,
    ⟨0x14, 1, .num 1, .rw, 8, .none, none, 4, 0, [(0, 64, [(1, 8)])], false⟩,
    ⟨0x15, 1, .num 1, .wo, 8, .none, none, 0, 0, [(0, 64, [(1, 1)])], false⟩ ]

def obj5840 : List Entry :=
  [ ⟨0x00, 1, .num 1, .ro, 32, .none, none, 21, 0, [], false⟩,
    ⟨0x01, 1, .num 1, .ro, 32, .none, none, 0, 0, [], false⟩,
    ⟨0x02, 1, .num 8, .ro, 32, .none, none, 0, 0, [], false⟩,
    ⟨0x03, 1, .num 2, .ro, 32, .none, none, 0, 0, [], false⟩,
    ⟨0x04, 1, .num 2, .ro, 32, .none, none, 0, 0, [], false⟩,
    ⟨0x05, 1, .num 1, .ro, 32, .none, none, 0, 0, [], false⟩,
    ⟨0x06, 1, .num 1, .ro, 32, .none, none, 0, 0, [], false⟩,
    ⟨0x07, 1, .num 1, .ro, 32, .none, none, 0, 0, [], false⟩,
    ⟨0x08, 1, .num 1, .ro, 32, .none, none, 0, 0, [], false⟩,
    ⟨0x09, 1, .num 4, .ro, 32, .none, none, 0, 0, [], false⟩,
    ⟨0x0A, 1, .num 4, .ro, 32, .none, none, 0, 0, [], false⟩,
    ⟨0x0B, 1, .num 4, .ro, 32, .none, none, 0, 0, [], false⟩,
    ⟨0x0C, 1, .num 4, .ro, 32, .none, none, 0, 0, [], false⟩,
    ⟨0x0D, 1, .num 4, .ro, 32, .none, none, 0, 0, [], false⟩,
    ⟨0x0E, 1, .num 4, .ro, 32, .none, none, 0, 0, [], false⟩,
    ⟨0x0F, 1, .num 1, .ro, 32, .none, none, 0, 0, [], false⟩,
    ⟨0x10, 1, .dom 48 48, .ro, 32, .none, none, 0, 0, [], false⟩,
    ⟨0x11, 1, .dom 2048 2048, .ro, 32, .none, none, 0, 0, [], false⟩,
    ⟨0x12, 1, .num 4, .ro, 32, .none, none, 0, 0, [], false⟩,
    ⟨0x13, 1, .num 4, .ro, 32, .none, none, 0, 0, [], false⟩,
    ⟨0x14, 1, .num 4, .ro, 32, .none, none, 0, 0, [], false⟩,
    ⟨0x15, 1, .num 4, .ro, 32, .none, none, 0, 0, [], false⟩ ]

def obj5C00 : List Entry :=
  [ ⟨0x00, 1, .num 1, .ro, 32, .none, none, 8, 0, [], false⟩,
    ⟨0x01, 1, .num 1, .rw, 16, .none, none, 1, 0, [(0, 64, [(1, 4)])], false⟩,
    ⟨0x02, 1, .num 1, .rw, 16, .none, none, 1, 0, [(0, 64, [(1, 3)])], false⟩,
    ⟨0x03, 1, .num 1, .rw, 16, .none, none, 0, 0, [(0, 64, [(0, 0), (16, 16), (24, 24), (32, 32)])], false⟩,
    ⟨0x04, 1, .num 1, .rw, 16, .none, none, 4, 0, [(0, 64, [(4, 4), (8, 8)])], false⟩,
    ⟨0x05, 1, .num 1, .rw, 16, .none, none, 0, 0, [(0, 64, [(0, 1)])], false⟩,
    ⟨0x06, 1, .num 1, .wo, 16, .none, none, 0, 0, [(0, 64, [(1, 1)])], false⟩,
    ⟨0x07, 1, .num 1, .ro, 32, .none, none, 0, 0, [], false⟩,
    ⟨0x08, 1, .num 4, .ro, 32, .none, none, 0, 0, [], false⟩ ]

def obj6000 : List Entry :=
  [ ⟨0x00, 1, .num 1, .ro, 32, .none, none, 38, 0, [], false⟩,
    ⟨0x01, 1, .num 1, .rw, 12, .none, none, 0, 0, [(0, 64, [(0, 1)])], false⟩,
    ⟨0x02, 1, .num 1, .rw, 12, .none, none, 1, 0, [(0, 64, [(1, 2)])], false⟩,
    ⟨0x03, 1, .num 1, .rw, 12, .none, none, 255, 0, [(0, 64, [(0, 23), (255, 255)])], false⟩,
    ⟨0x04, 1, .num 1, .rw, 12, .none, none, 0, 0, [(0, 64, [(0, 3)])], false⟩,
    ⟨0x05, 1, .num 4, .rw, 12, .none, none, 0, 0, [], false⟩,
    ⟨0x06, 1, .num 4, .rw, 12, .none, none, 0, 0, [(16, 16, [(16, 1024)]), (0, 16, [(16, 128)])], false⟩,
    ⟨0x07, 1, .num 1, .rw, 12, .none, none, 24, 0, [(0, 64, [(16, 16), (24, 24), (32, 32)])], false⟩,
    ⟨0x08, 1, .str 24, .rw, 12, .none, none, 0, 0, [], false⟩,
    ⟨0x09, 1, .num 1, .rw, 12, .none, none, 1, 0, [(0, 64, [(1, 3)])], false⟩,
    ⟨0x0A, 1, .num 8, .rw, 12, .none, none, 1152921503533105152, 17293822569102704640, [], false⟩,
    ⟨0x0B, 1, .num 2, .rw, 12, .none, none, 1000, 0, [(0, 64, [(1, 65535)])], false⟩,
    ⟨0x0C, 1, .num 2, .rw, 12, .none, none, 800, 0, [], false⟩,
    ⟨0x0D, 1, .num 4, .rw, 12, .none, none, 0, 0, [(0, 64, [(0, 10000000)])], false⟩,
    ⟨0x0E, 1, .num 1, .rw, 12, .none, none, 1, 0, [(0, 64, [(1, 2)])], false⟩,
    ⟨0x0F, 1, .num 1, .rw, 12, .none, none, 1, 0, [(0, 64, [(1, 2)])], false⟩,
    ⟨0x10, 1, .num 4, .rw, 12, .none, none, 0, 0, [(0, 64, [(0, 1000000)])], false⟩,
    ⟨0x11, 1, .num 2, .rw, 12, .none, none, 65535, 0, [(0, 64, [(0, 4095), (65535, 65535)])], false⟩,
    ⟨0x12, 1, .num 1, .wo, 12, .none, none, 0, 0, [(0, 64, [(1, 1)])], false⟩,
    ⟨0x20, 1, .num 4, .rw, 4, .none, none, 0, 0, [], false⟩,
    ⟨0x21, 1, .num 8, .ro, 32, .none, none, 0, 0, [], false⟩,
    ⟨0x22, 1, .num 1, .ro, 32, .none, none, 0, 0, [], false⟩,
    ⟨0x23, 1, .num 4, .ro, 32, .none, none, 0, 0, [], false⟩,
    ⟨0x24, 1, .num 4, .ro, 32, .none, none, 0, 0, [], false⟩,
    ⟨0x25, 1, .num 4, .ro, 32, .none, none, 0, 0, [], false⟩,
    ⟨0x26, 1, .num 1, .ro, 32, .none, none, 0, 0, [], false⟩ ]

/-- The rows of the object table whose first object is `base`. -/
def entriesOf (base : Nat) : List Entry :=
  if base = 0x1000 then obj1000
  else if base = 0x1001 then obj1001
  else if base = 0x1008 then obj1008
  else if base = 0x1009 then obj1009
  else if base = 0x100A then obj100A
  else if base = 0x1014 then obj1014
  else if base = 0x1015 then obj1015
  else if base = 0x1017 then obj1017
  else if base = 0x1018 then obj1018
  else if base = 0x1400 then obj1400
  else if base = 0x1600 then obj1600
  else if base = 0x1800 then obj1800
  else if base = 0x1A00 then obj1A00
  else if base = 0x2000 then obj2000
  else if base = 0x2010 then obj2010
  else if base = 0x2020 then obj2020
  else if base = 0x2030 then obj2030
  else if base = 0x2040 then obj2040
  else if base = 0x2100 then obj2100
  else if base = 0x2110 then obj2110
  else if base = 0x2200 then obj2200
  else if base = 0x2210 then obj2210
  else if base = 0x2300 then obj2300
  else if base = 0x2310 then obj2310
  else if base = 0x2400 then obj2400
  else if base = 0x2500 then obj2500a ++ obj2500b
  else if base = 0x2510 then obj2510
  else if base = 0x2520 then obj2520
  else if base = 0x2600 then obj2600
  else if base = 0x2700 then obj2700
  else if base = 0x3010 then obj3010
  else if base = 0x3014 then obj3014
  else if base = 0x3020 then obj3020
  else if base = 0x3030 then obj3030
  else if base = 0x3040 then obj3040
  else if base = 0x3050 then obj3050
  else if base = 0x3060 then obj3060
  else if base = 0x4000 then obj4000
  else if base = 0x4100 then obj4100
  else if base = 0x4800 then obj4800
  else if base = 0x4880 then obj4880
  else if base = 0x4900 then obj4900
  else if base = 0x4A00 then obj4A00
  else if base = 0x5000 then obj5000
  else if base = 0x5200 then obj5200
  else if base = 0x5400 then obj5400
  else if base = 0x5440 then obj5440
  else if base = 0x5480 then obj5480a ++ obj5480b ++ obj5480c
  else if base = 0x5800 then obj5800
  else if base = 0x5840 then obj5840
  else if base = 0x5C00 then obj5C00
  else if base = 0x6000 then obj6000
  else []

/-- The highest subindex of the object whose first object is `base` (R292). -/
def highestOf (base : Nat) : Nat :=
  if base = 0x1000 then 0x00
  else if base = 0x1001 then 0x00
  else if base = 0x1008 then 0x00
  else if base = 0x1009 then 0x00
  else if base = 0x100A then 0x00
  else if base = 0x1014 then 0x00
  else if base = 0x1015 then 0x00
  else if base = 0x1017 then 0x00
  else if base = 0x1018 then 0x04
  else if base = 0x1400 then 0x02
  else if base = 0x1600 then 0x0F
  else if base = 0x1800 then 0x05
  else if base = 0x1A00 then 0x10
  else if base = 0x2000 then 0x07
  else if base = 0x2010 then 0x0A
  else if base = 0x2020 then 0x0E
  else if base = 0x2030 then 0x0F
  else if base = 0x2040 then 0x05
  else if base = 0x2100 then 0x1C
  else if base = 0x2110 then 0x07
  else if base = 0x2200 then 0x09
  else if base = 0x2210 then 0x0B
  else if base = 0x2300 then 0x13
  else if base = 0x2310 then 0x07
  else if base = 0x2400 then 0x0A
  else if base = 0x2500 then 0x1C
  else if base = 0x2510 then 0x02
  else if base = 0x2520 then 0x0A
  else if base = 0x2600 then 0x09
  else if base = 0x2700 then 0x14
  else if base = 0x3010 then 0x0C
  else if base = 0x3014 then 0x0E
  else if base = 0x3020 then 0x05
  else if base = 0x3030 then 0x06
  else if base = 0x3040 then 0x0D
  else if base = 0x3050 then 0x0A
  else if base = 0x3060 then 0x0F
  else if base = 0x4000 then 0x1A
  else if base = 0x4100 then 0x0E
  else if base = 0x4800 then 0x1B
  else if base = 0x4880 then 0x13
  else if base = 0x4900 then 0x0C
  else if base = 0x4A00 then 0x09
  else if base = 0x5000 then 0x1A
  else if base = 0x5200 then 0x0F
  else if base = 0x5400 then 0x0C
  else if base = 0x5440 then 0x06
  else if base = 0x5480 then 0x4A
  else if base = 0x5800 then 0x15
  else if base = 0x5840 then 0x15
  else if base = 0x5C00 then 0x08
  else if base = 0x6000 then 0x26
  else 0

/-- Per-unit objects outside the pixel dies' range: first index and number of units (R303). -/
def unitObjects : List (Nat × Nat) :=
  [(0x1000, 1), (0x1001, 1), (0x1008, 1), (0x1009, 1), (0x100A, 1), (0x1014, 1), (0x1015, 1), (0x1017, 1), (0x1018, 1),
   (0x1400, 64), (0x1600, 64), (0x1800, 16), (0x1A00, 16), (0x2000, 1), (0x2010, 1), (0x2020, 1), (0x2030, 8), (0x2040, 5),
   (0x2100, 4), (0x2110, 1), (0x2200, 1), (0x2210, 1), (0x2300, 1), (0x2310, 1), (0x2400, 128), (0x2500, 1), (0x2510, 1),
   (0x2520, 1), (0x2600, 8), (0x2700, 1), (0x4000, 192), (0x4100, 192), (0x4800, 24), (0x4880, 24), (0x4900, 24), (0x4A00, 64),
   (0x5000, 512), (0x5200, 512), (0x5400, 12), (0x5440, 12), (0x5480, 128), (0x5800, 12), (0x5840, 12), (0x5C00, 1),
   (0x6000, 4096)]

def findUnit (idx : Nat) : List (Nat × Nat) → Option (Nat × Nat)
  | [] => none
  | (b, n) :: r => if b ≤ idx ∧ idx < b + n then some (b, idx - b) else findUnit idx r

/-- The object an index names (R292, R303): the first index of its table and the unit number; interface n of
die p is unit 4p + n. None is NO_OBJECT. -/
def objOf (idx : Nat) : Option (Nat × Nat) :=
  if 0x3000 ≤ idx ∧ idx < 0x3600 then
    let p := idx / 256 - 0x30
    let low := idx % 256
    if 0x10 ≤ low ∧ low ≤ 0x13 then some (0x3010, 4 * p + (low - 0x10))
    else if low = 0x14 ∨ low = 0x20 ∨ low = 0x30 ∨ low = 0x40 ∨ low = 0x50 ∨ low = 0x60 then some (0x3000 + low, p)
    else none
  else findUnit idx unitObjects

def findEntry (sub : Nat) : List Entry → Option Entry
  | [] => none
  | e :: r => if e.sub ≤ sub ∧ sub < e.sub + e.subs then some e else findEntry sub r

/-- Subindexes an object names as reserved although its table lists them (R290). -/
def reservedHere (base unit sub : Nat) : Bool :=
  base == 0x2100 && ((2 ≤ unit && 2 ≤ sub && sub ≤ 9) || (unit < 3 && sub == 0x1C))

def ascii (s : String) : List Byte := s.toList.map fun c => BitVec.ofNat 8 c.toNat

/-- The bytes of a number, most significant first (R8, R293). -/
def beBytes : (n : Nat) → Nat → List Byte
  | 0, _ => []
  | n + 1, v => BitVec.ofNat 8 (v / 256 ^ n) :: beBytes n v

/-- Big-endian 16-bit words. -/
def be16s (l : List Nat) : List Byte := l.flatMap (beBytes 2)

/-- The identity of R144, T[i] = (i << 2) | (i >> 8), three times. -/
def identityPreLut : List Byte :=
  let one := be16s ((List.range 1024).map fun i => 4 * i + i / 256)
  one ++ one ++ one
/-- The identity of R153, T[i] = i >> 2, three times. -/
def identityPostLut : List Byte :=
  let one := be16s ((List.range 4096).map fun i => i / 4)
  one ++ one ++ one
/-- The reset tone curves of R135, T[n] = 4n, three times. -/
def resetTone : List Byte :=
  let one := be16s ((List.range 1024).map fun i => 4 * i)
  one ++ one ++ one

def roleNames : List String := ["OPS", "SRC", "PLANT", "MAINT", "AUDIT"]

/-- Reserved credits of MQ0 to MQ7 (R211). -/
def creditReserve : List Nat := [256, 64, 128, 96, 96, 32, 16, 16]

/-- Latency targets of MP0 to MP10 at reset, in µs (R223). -/
def resetTargets : List Nat := [20, 20, 20, 20, 50, 50, 100, 100, 50, 10, 50]

/-- The value an entry has at reset: its Reset column (R304, R305 and the other object tables). -/
def resetVal (idx sub : Nat) : Val :=
  match objOf idx with
  | none => .num 0
  | some (base, u) =>
    if base = 0x2000 then
      if sub = 1 then .bytes (ascii "Cereth Devices")
      else if sub = 2 then .bytes (ascii "FLX8-4761-I")
      else if sub = 3 then .bytes Config.serial
      else if sub = 4 then .num Config.eui64
      else if sub = 5 then .bytes Config.deviceCertificate
      else if sub = 0 then .num 7
      else if sub = 6 then .bytes []
      else .num 0
    else if base = 0x1008 then .bytes (ascii "FLX8")
    else if base = 0x1009 then .bytes Config.hardwareVersion
    else if base = 0x1014 then .num 0xA0
    else if base = 0x1018 then
      .num (if sub = 0 then 4 else if sub = 1 then 0xCE7 else if sub = 2 then 0x4761
        else if sub = 3 then Config.revisionNumber else if sub = 4 then Config.serialNumber else 0)
    else if base = 0x2040 ∧ sub = 1 then .bytes (ascii (roleNames.getD u ""))
    else if base = 0x2040 ∧ sub = 2 then .bytes (ascii ("FLX8-" ++ roleNames.getD u ""))
    else if base = 0x2040 ∧ sub = 4 then .num ([8, 8, 4, 2, 2].getD u 0)
    else if base = 0x2100 ∧ 1 ≤ sub ∧ sub ≤ 9 ∧ 2 ≤ u then .num (if sub = 1 then 3 else 0)
    else if base = 0x2100 ∧ sub = 1 then .num 2
    else if base = 0x2100 ∧ sub = 2 then .num (u + 1)
    else if base = 0x2100 ∧ sub = 3 then .num (if u = 0 then 0 else 127)
    else if base = 0x4000 ∧ sub = 0x13 then .bytes identityPreLut
    else if base = 0x4800 ∧ sub = 0x11 then .bytes identityPostLut
    else if base = 0x5480 ∧ sub = 0x1A then .bytes (be16s [1024, 0, 0, 0, 1024, 0, 0, 0, 1024])
    else if base = 0x5480 ∧ sub = 0x1B then .bytes resetTone
    else if base = 0x3030 ∧ sub = 6 then .bytes (be16s creditReserve)
    else if base = 0x3014 ∧ sub = 9 then .bytes (be16s resetTargets)
    else if base = 0x6000 ∧ sub = 8 then .bytes (ascii "%d")
    else if base = 0x2500 ∧ sub = 2 then .bytes []
    else if base = 0x2510 ∧ sub = 2 then .bytes []
    else if base = 0x5840 ∧ sub = 0x11 then .bytes []
    else match findEntry sub (entriesOf base) with
      | none => .num 0
      | some e =>
        match e.ty with
        | .num _ => .num e.rst
        | .str _ => .bytes []
        | .dom lo hi => if lo = hi then .bytes (List.replicate lo 0) else .bytes []

end Sys2Proof.Machine
end

