-- ==== Sys2Proof/Machine/Ops.lean ====
section
/-! DEFINITION. The named operations every meaning is built from: sparse tables, the units of the device, the
dictionary's registers and counters, the passing of time, and the recording of events. -/

namespace Sys2Proof.Machine

/-! ### Sparse tables -/

def tget {α : Type} (t : Table α) (k : Nat) (dflt : α) : α :=
  match t with
  | [] => dflt
  | (j, a) :: r => if j = k then a else tget r k dflt

def tfind {α : Type} (t : Table α) (k : Nat) : Option α :=
  match t with
  | [] => none
  | (j, a) :: r => if j = k then some a else tfind r k

/-- Writes a key, keeping keys strictly rising. -/
def tput {α : Type} (t : Table α) (k : Nat) (v : α) : Table α :=
  match t with
  | [] => [(k, v)]
  | (j, a) :: r => if k < j then (k, v) :: (j, a) :: r else if k = j then (k, v) :: r else (j, a) :: tput r k v

def tdel {α : Type} (t : Table α) (k : Nat) : Table α := t.filter fun e => e.1 != k

/-- Writes a key of a table in which an absent key reads `dflt`: the canonical form lists no such entry. -/
def tset {α : Type} [DecidableEq α] (dflt : α) (t : Table α) (k : Nat) (v : α) : Table α :=
  if v = dflt then tdel t k else tput t k v

def tmap {α β : Type} (f : Nat → α → β) (t : Table α) : Table β := t.map fun e => (e.1, f e.1 e.2)

/-! ### Units -/

/-- A free value of the spec: the next of an unknown sequence (notes/assumptions/2.md). -/
def freshVal (d : Device) : Nat := Config.freeValue d.fresh
def spend (d : Device) : Device := { d with fresh := d.fresh + 1 }

/-- Control die c: 0 CA, 1 CB. -/
def ctlAt (d : Device) (k : Nat) : CtlDie := tget d.ctls k CtlDie.reset
def setCtl (d : Device) (k : Nat) (v : CtlDie) : Device := { d with ctls := tput d.ctls k v }
def modCtl (d : Device) (k : Nat) (f : CtlDie → CtlDie) : Device := setCtl d k (f (ctlAt d k))

/-- Pixel die p. -/
def pixAt (d : Device) (k : Nat) : PixelDie := tget d.pix k PixelDie.reset
def setPix (d : Device) (k : Nat) (v : PixelDie) : Device := { d with pix := tput d.pix k v }
def modPix (d : Device) (k : Nat) (f : PixelDie → PixelDie) : Device := setPix d k (f (pixAt d k))

/-- Rail r of R427. -/
def railAt (d : Device) (k : Nat) : RailUnit := tget d.rails k RailUnit.reset
def setRail (d : Device) (k : Nat) (v : RailUnit) : Device := { d with rails := tput d.rails k v }
def modRail (d : Device) (k : Nat) (f : RailUnit → RailUnit) : Device := setRail d k (f (railAt d k))

/-- Clocks of die d of R428. -/
def clockAt (d : Device) (k : Nat) : ClockUnit := tget d.clocks k ClockUnit.reset
def setClock (d : Device) (k : Nat) (v : ClockUnit) : Device := { d with clocks := tput d.clocks k v }
def modClock (d : Device) (k : Nat) (f : ClockUnit → ClockUnit) : Device := setClock d k (f (clockAt d k))

/-- Die d of R428. -/
def ruleCopyAt (d : Device) (k : Nat) : RuleCopy := tget d.rules k RuleCopy.reset
def setRuleCopy (d : Device) (k : Nat) (v : RuleCopy) : Device := { d with rules := tput d.rules k v }
def modRuleCopy (d : Device) (k : Nat) (f : RuleCopy → RuleCopy) : Device := setRuleCopy d k (f (ruleCopyAt d k))

/-- Die d of R440. -/
def ringAt (d : Device) (k : Nat) : Ring := tget d.rings k Ring.reset
def setRing (d : Device) (k : Nat) (v : Ring) : Device := { d with rings := tput d.rings k v }
def modRing (d : Device) (k : Nat) (f : Ring → Ring) : Device := setRing d k (f (ringAt d k))

/-- Source s as die p holds it, key 6s + p. -/
def srcAt (d : Device) (k : Nat) : SrcUnit := tget d.srcs k SrcUnit.reset
def setSrc (d : Device) (k : Nat) (v : SrcUnit) : Device := { d with srcs := tput d.srcs k v }
def modSrc (d : Device) (k : Nat) (f : SrcUnit → SrcUnit) : Device := setSrc d k (f (srcAt d k))

/-- Source s. -/
def st2110At (d : Device) (k : Nat) : St2110Unit := tget d.st2110 k St2110Unit.reset
def setSt2110 (d : Device) (k : Nat) (v : St2110Unit) : Device := { d with st2110 := tput d.st2110 k v }
def modSt2110 (d : Device) (k : Nat) (f : St2110Unit → St2110Unit) : Device := setSt2110 d k (f (st2110At d k))

/-- Camera input i. -/
def camAt (d : Device) (k : Nat) : CamUnit := tget d.cams k CamUnit.reset
def setCam (d : Device) (k : Nat) (v : CamUnit) : Device := { d with cams := tput d.cams k v }
def modCam (d : Device) (k : Nat) (f : CamUnit → CamUnit) : Device := setCam d k (f (camAt d k))

/-- Image pipeline j. -/
def pipeAt (d : Device) (k : Nat) : PipeUnit := tget d.pipes k PipeUnit.reset
def setPipe (d : Device) (k : Nat) (v : PipeUnit) : Device := { d with pipes := tput d.pipes k v }
def modPipe (d : Device) (k : Nat) (f : PipeUnit → PipeUnit) : Device := setPipe d k (f (pipeAt d k))

/-- Layer n. -/
def layerAt (d : Device) (k : Nat) : LayerUnit := tget d.layers k LayerUnit.reset
def setLayer (d : Device) (k : Nat) (v : LayerUnit) : Device := { d with layers := tput d.layers k v }
def modLayer (d : Device) (k : Nat) (f : LayerUnit → LayerUnit) : Device := setLayer d k (f (layerAt d k))

/-- Head h. -/
def headAt (d : Device) (k : Nat) : HeadUnit := tget d.heads k HeadUnit.reset
def setHead (d : Device) (k : Nat) (v : HeadUnit) : Device := { d with heads := tput d.heads k v }
def modHead (d : Device) (k : Nat) (f : HeadUnit → HeadUnit) : Device := setHead d k (f (headAt d k))

/-- Head h. -/
def scanAt (d : Device) (k : Nat) : HeadScan := tget d.scans k HeadScan.reset
def setScan (d : Device) (k : Nat) (v : HeadScan) : Device := { d with scans := tput d.scans k v }
def modScan (d : Device) (k : Nat) (f : HeadScan → HeadScan) : Device := setScan d k (f (scanAt d k))

/-- Tag t. -/
def tagAt (d : Device) (k : Nat) : TagUnit := tget d.tags k TagUnit.reset
def setTag (d : Device) (k : Nat) (v : TagUnit) : Device := { d with tags := tput d.tags k v }
def modTag (d : Device) (k : Nat) (f : TagUnit → TagUnit) : Device := setTag d k (f (tagAt d k))

/-- Pixel die p. -/
def wbAt (d : Device) (k : Nat) : WbUnit := tget d.wbs k WbUnit.reset
def setWb (d : Device) (k : Nat) (v : WbUnit) : Device := { d with wbs := tput d.wbs k v }
def modWb (d : Device) (k : Nat) (f : WbUnit → WbUnit) : Device := setWb d k (f (wbAt d k))

/-- Interface m of die p, key 4p + m. -/
def memIfAt (d : Device) (k : Nat) : MemIfUnit := tget d.ifs k MemIfUnit.reset
def setMemIf (d : Device) (k : Nat) (v : MemIfUnit) : Device := { d with ifs := tput d.ifs k v }
def modMemIf (d : Device) (k : Nat) (f : MemIfUnit → MemIfUnit) : Device := setMemIf d k (f (memIfAt d k))

/-- Pixel die p. -/
def memAt (d : Device) (k : Nat) : MemUnit := tget d.mems k MemUnit.reset
def setMem (d : Device) (k : Nat) (v : MemUnit) : Device := { d with mems := tput d.mems k v }
def modMem (d : Device) (k : Nat) (f : MemUnit → MemUnit) : Device := setMem d k (f (memAt d k))

/-- Pixel die p. -/
def queueAt (d : Device) (k : Nat) : QueueUnit := tget d.queues k QueueUnit.reset
def setQueue (d : Device) (k : Nat) (v : QueueUnit) : Device := { d with queues := tput d.queues k v }
def modQueue (d : Device) (k : Nat) (f : QueueUnit → QueueUnit) : Device := setQueue d k (f (queueAt d k))

/-- Touch link k. -/
def linkAt (d : Device) (k : Nat) : TouchUnit := tget d.links k TouchUnit.reset
def setLink (d : Device) (k : Nat) (v : TouchUnit) : Device := { d with links := tput d.links k v }
def modLink (d : Device) (k : Nat) (f : TouchUnit → TouchUnit) : Device := setLink d k (f (linkAt d k))

/-- Touch link k. -/
def trackAt (d : Device) (k : Nat) : TrackUnit := tget d.tracks k TrackUnit.reset
def setTrack (d : Device) (k : Nat) (v : TrackUnit) : Device := { d with tracks := tput d.tracks k v }
def modTrack (d : Device) (k : Nat) (f : TrackUnit → TrackUnit) : Device := setTrack d k (f (trackAt d k))

/-- Pixel die p. -/
def mcAt (d : Device) (k : Nat) : McUnit := tget d.mcs k McUnit.reset
def setMc (d : Device) (k : Nat) (v : McUnit) : Device := { d with mcs := tput d.mcs k v }
def modMc (d : Device) (k : Nat) (f : McUnit → McUnit) : Device := setMc d k (f (mcAt d k))

def srcKey (s p : Nat) : Nat := 6 * s + p
def ifKey (p m : Nat) : Nat := 4 * p + m

/-- The pixel die that owns a layer, head, camera port, pipeline or touch link (R3). -/
def dieOfLayer (n : Nat) : Nat := n / 32
def dieOfHead (h : Nat) : Nat := h / 4
def dieOfPort (c : Nat) : Nat := c / 2
def dieOfPipe (j : Nat) : Nat := j / 2
def dieOfLink (k : Nat) : Nat := k / 2
/-- The control die of an Ethernet port. -/
def ctlOfPort (e : Nat) : Nat := e / 2
/-- Pixel die p as R427, R428 and R440 number the dies. -/
def dieNo (p : Nat) : Nat := p + 2

def pixUp (d : Device) (p : Nat) : Bool := (pixAt d p).out
def ctlUp (d : Device) (c : Nat) : Bool := (ctlAt d c).out
/-- Whether die d of R440 is out of reset. -/
def dieUp (d : Device) (k : Nat) : Bool := if k < 2 then ctlUp d k else pixUp d (k - 2)

/-- Pixel dies whose token control die c holds (R367). -/
def tokensOf (d : Device) (c : Nat) : List Nat :=
  (List.range 6).filter fun p => pixUp d p && (pixAt d p).token == c + 2

/-- Whether a control die acts as active: ACTIVE, or the leader of the election, with 4 tokens or more (R368, R378). -/
def isActive (d : Device) (c : Nat) : Bool :=
  ctlUp d c && ((ctlAt d c).role == 3 || (ctlAt d c).role == 2) && decide (4 ≤ (tokensOf d c).length)

def activeCtl (d : Device) : Option Nat :=
  if isActive d 0 then some 0 else if isActive d 1 then some 1 else none

/-- Each of a list in turn. -/
def forEach {α : Type} (d : Device) (l : List α) (f : Device → α → Device) : Device := l.foldl f d

/-- The tokens have moved: since when each control die has held fewer than 4 (R371). -/
def tokensMoved (d : Device) : Device :=
  forEach d [0, 1] fun d c => modCtl d c fun x => { x with few := if (tokensOf d c).length < 4 then some (x.few.getD d.mono) else none }

/-! ### Registers -/

def regKey (idx sub : Nat) : Nat := 256 * idx + sub
def keyIdx (k : Nat) : Nat := k / 256
def keySub (k : Nat) : Nat := k % 256
def keyReset (k : Nat) : Val := resetVal (keyIdx k) (keySub k)

def storeGet (t : Table Val) (idx sub : Nat) : Val :=
  match tfind t (regKey idx sub) with
  | some v => v
  | none => resetVal idx sub

/-- Writes an entry of a store; the reset value is not listed. -/
def storePut (t : Table Val) (idx sub : Nat) (v : Val) : Table Val := tset (resetVal idx sub) t (regKey idx sub) v

def valNum (v : Val) : Nat :=
  match v with
  | .num n => n
  | .bytes _ => 0
def valBytes (v : Val) : List Byte :=
  match v with
  | .num _ => []
  | .bytes b => b

def reg (d : Device) (idx sub : Nat) : Val := storeGet d.regs idx sub
def regN (d : Device) (idx sub : Nat) : Nat := valNum (reg d idx sub)
def regB (d : Device) (idx sub : Nat) : List Byte := valBytes (reg d idx sub)
def regT (d : Device) (idx sub : Nat) : Bool := regN d idx sub == 1
def setReg (d : Device) (idx sub : Nat) (v : Val) : Device := { d with regs := storePut d.regs idx sub v }
def setN (d : Device) (idx sub n : Nat) : Device := setReg d idx sub (.num n)
def setB (d : Device) (idx sub : Nat) (b : List Byte) : Device := setReg d idx sub (.bytes b)

/-- The configuration in force of a staged object (R140). -/
def frc (d : Device) (idx sub : Nat) : Val := storeGet d.force idx sub
def frcN (d : Device) (idx sub : Nat) : Nat := valNum (frc d idx sub)
def frcT (d : Device) (idx sub : Nat) : Bool := frcN d idx sub == 1
def setForce (d : Device) (idx sub : Nat) (v : Val) : Device := { d with force := storePut d.force idx sub v }

/-- The supervisor's record of delivered configuration (R302). -/
def setRecord (d : Device) (idx sub : Nat) (v : Val) : Device := { d with record := storePut d.record idx sub v }

/-- The values of subindexes `lo` to `hi` of an object, keyed by subindex. -/
def stagedVals (t : Table Val) (idx lo hi : Nat) : Table Val :=
  (List.range' lo (hi + 1 - lo)).map fun sub => (sub, storeGet t idx sub)

/-- Puts values keyed by subindex into a store as object `idx`. -/
def putVals (t : Table Val) (idx : Nat) (vals : Table Val) : Table Val :=
  vals.foldl (fun t e => storePut t idx e.1 e.2) t

/-- The subindexes `lo` to `hi` of an object that differ from reset, keyed by subindex. -/
def pickVals (t : Table Val) (idx lo hi : Nat) : Table Val :=
  (List.range' lo (hi + 1 - lo)).filterMap fun sub => (tfind t (regKey idx sub)).map fun v => (sub, v)

/-- Makes subindexes `lo` to `hi` of object `idx` what `pickVals` gave; the rest of the range returns to reset. -/
def placeVals (t : Table Val) (idx lo hi : Nat) (vals : Table Val) : Table Val :=
  (List.range' lo (hi + 1 - lo)).foldl (fun t sub => match tfind vals sub with
    | some v => storePut t idx sub v
    | none => tdel t (regKey idx sub)) t

/-- A subindex of values as `pickVals` gives them, of an object of the shape of `idx`. -/
def pickN (idx : Nat) (vals : Table Val) (sub : Nat) : Nat := match tfind vals sub with
  | some v => valNum v
  | none => valNum (resetVal idx sub)
def pickB (idx : Nat) (vals : Table Val) (sub : Nat) : List Byte := match tfind vals sub with
  | some v => valBytes v
  | none => valBytes (resetVal idx sub)

def cfgN (vals : Table Val) (sub : Nat) : Nat := valNum (tget vals sub (.num 0))
def cfgB (vals : Table Val) (sub : Nat) : List Byte := valBytes (tget vals sub (.bytes []))

/-- A counter of R58 rises, saturating at 0x7FFF_FFFF. Its bit [31] is added by the read. -/
def bumpBy (d : Device) (idx sub k : Nat) : Device :=
  if k = 0 then d else setN d idx sub (min (regN d idx sub + k) 0x7FFFFFFF)
def bump (d : Device) (idx sub : Nat) : Device := bumpBy d idx sub 1

/-- High 16 bits and low 16 bits of a packed pair, and as signed. -/
def hi16 (v : Nat) : Nat := (v / 65536) % 65536
def lo16 (v : Nat) : Nat := v % 65536
def int16 (v : Nat) : Int := if v % 65536 < 32768 then Int.ofNat (v % 65536) else Int.ofNat (v % 65536) - 65536
/-- Two 48-bit times compared as a signed difference modulo 2^48 (R272). -/
def diff48 (a b : Nat) : Int :=
  let m := (a % 2 ^ 48 + 2 ^ 48 - b % 2 ^ 48) % 2 ^ 48
  if m < 2 ^ 47 then Int.ofNat m else Int.ofNat m - 2 ^ 48

def ceilDiv (a b : Nat) : Nat := if b = 0 then 0 else (a + b - 1) / b

/-- A field of `w` bits at `lsb` of a number is replaced. -/
def putField (v lsb w f : Nat) : Nat := v - (v / 2 ^ lsb % 2 ^ w) * 2 ^ lsb + (f % 2 ^ w) * 2 ^ lsb
def getField (v lsb w : Nat) : Nat := v / 2 ^ lsb % 2 ^ w

/-- Bytes at an offset of a byte list are replaced; the list keeps its length. -/
def patch (l : List Byte) (off : Nat) (b : List Byte) : List Byte :=
  (l.take off ++ b ++ l.drop (off + b.length)).take l.length

/-! ### The passing of time (R272, R274, R275) -/

/-- ns and remaining 10^-9 ns after `dt` ns of the local reference at `ppb`. -/
def advance (dt : Nat) (ppb : Int) (ns frac : Nat) : Nat × Nat :=
  let t : Nat := (Int.ofNat (dt * 10 ^ 9 + frac) + Int.ofNat dt * ppb).toNat
  (ns + t / 10 ^ 9, t % 10 ^ 9)

/-- The slew made in `dt`: of what is left, at most the unit's rate (R274, R278), which the spec bounds by
`lim` ppb. DESIGN CHOICE: notes/assumptions/11.md. -/
def slewStep (dt : Nat) (left : Int) (lim which : Nat) : Int :=
  if left = 0 then 0
  else
    let rate := min lim (max 1 (Config.slewPpb which).toNat)
    let m : Nat := min left.natAbs (dt * rate / 10 ^ 9)
    if left < 0 then -(Int.ofNat m) else Int.ofNat m

def elapseBase (dt : Nat) (ppb : Int) (lim : Nat) (t : TimeBase) : TimeBase :=
  let a := advance dt ppb t.ns t.frac
  let m := slewStep dt t.slew lim lim
  { t with ns := (Int.ofNat a.1 + m).toNat, frac := a.2, slew := t.slew - m }

def elapseCopy (dt lim : Nat) (t : TimeCopy) : TimeCopy :=
  if t.loaded then
    let a := advance dt t.ppb t.ns t.frac
    let m := slewStep dt t.slew lim lim
    { t with ns := (Int.ofNat a.1 + m).toNat, frac := a.2, slew := t.slew - m }
  else t

/-- The frequency correction of base b on a control die: TB3 runs at TB0's while that is LOCKED (R275). -/
def baseRate (c : CtlDie) (b : Nat) : Int :=
  if b = 0 ∨ (b = 3 ∧ c.tb0.st = 2) then c.tb0.ppb else if b = 1 then c.tb1.ppb else 0

def elapseCtl (dt : Nat) (c : CtlDie) : CtlDie :=
  if c.out then
    { c with tb0 := elapseBase dt (baseRate c 0) 100000 c.tb0, tb1 := elapseBase dt (baseRate c 1) 100000 c.tb1,
             tb2 := elapseBase dt (baseRate c 2) 50000 c.tb2, tb3 := elapseBase dt (baseRate c 3) 50000 c.tb3 }
  else c

def elapsePix (dt : Nat) (p : PixelDie) : PixelDie :=
  if p.out then
    { p with tb0 := elapseCopy dt 100000 p.tb0, tb1 := elapseCopy dt 100000 p.tb1, tb2 := elapseCopy dt 50000 p.tb2,
             tb3 := elapseCopy dt 50000 p.tb3 }
  else p

/-- `dt` ns of the local reference pass (notes/assumptions/1.md). DESIGN CHOICE: notes/assumptions/167.md. -/
def elapse (d : Device) (dt : Nat) : Device :=
  if dt = 0 then d
  else { d with mono := d.mono + dt, ctls := tmap (fun _ c => elapseCtl dt c) d.ctls, pix := tmap (fun _ p => elapsePix dt p) d.pix }

/-- The bytes of the address space that were written, in canonical form: an address whose byte is what it holds before any
write is not listed. -/
def settleMem (t : Table Byte) : Table Byte := t.foldr (fun e r => tset (Config.addressByte e.1) r e.1 e.2) []

/-- A store of registers in canonical form: keys rising, no entry at its reset value. What it reads as is unchanged. -/
def settleStore (t : Table Val) : Table Val := t.foldr (fun e r => tset (keyReset e.1) r e.1 e.2) []

/-- Every store of the device in its canonical form, so that equal contents are equal data. DESIGN CHOICE: notes/assumptions/157.md. -/
def settle (d : Device) : Device :=
  { d with regs := settleStore d.regs, force := settleStore d.force, record := settleStore d.record, memory := settleMem d.memory }

/-- The one shape of a meaning: time passes, then the device changes. The queue is not touched. -/
def act (dt : Nat) (s : State) (f : Device → Device) : Host.Outcome State Fault Refusal :=
  .next { s with dev := settle (f (elapse s.dev dt)) }

def baseOf (c : CtlDie) (b : Nat) : TimeBase :=
  if b = 0 then c.tb0 else if b = 1 then c.tb1 else if b = 2 then c.tb2 else c.tb3
def setBase (c : CtlDie) (b : Nat) (t : TimeBase) : CtlDie :=
  if b = 0 then { c with tb0 := t } else if b = 1 then { c with tb1 := t } else if b = 2 then { c with tb2 := t }
  else { c with tb3 := t }
def copyOf (p : PixelDie) (b : Nat) : TimeCopy :=
  if b = 0 then p.tb0 else if b = 1 then p.tb1 else if b = 2 then p.tb2 else p.tb3

/-- The time of base b on the active control die. -/
def nowBase (d : Device) (b : Nat) : Nat :=
  match activeCtl d with
  | some c => (baseOf (ctlAt d c) b).ns
  | none => 0

/-- TB3 as die k of R440 stamps it, with its valid bit [63] (R430). -/
def tb3Stamp (d : Device) (k : Nat) : Nat :=
  if k < 2 then (if ctlUp d k then 2 ^ 63 + (ctlAt d k).tb3.ns % 2 ^ 63 else 0)
  else
    let p := pixAt d (k - 2)
    if p.out && p.tb3.loaded then 2 ^ 63 + p.tb3.ns % 2 ^ 63 else 0

/-- Whether an Ethernet port takes traffic: it has an address, and its control die is out of reset (R315). -/
def hostPort (d : Device) (e : Nat) : Bool := regN d 0x2020 (5 + e) != 0 && ctlUp d (ctlOfPort e)

/-! ### What the block sends -/

def send (d : Device) (port kind to_ : Nat) (body : List Byte) : Device :=
  if port < 4 ∧ !ctlUp d (ctlOfPort port) then d else { d with tx := d.tx ++ [{ port := port, kind := kind, to_ := to_, body := body }] }

/-- Little-endian bytes of a number (CAN, R293). -/
def leBytes (n v : Nat) : List Byte := (beBytes n v).reverse

/-- Whether CAN port f sends and receives: its controller is out of reset and not bus-off. -/
def canLive (d : Device) (f : Nat) : Bool := ctlUp d f && 2 ≤ d.can.errs.getD f 0

/-- Whether the peer path of the control dies is there: a pixel die in service forwards it (R364). DEDUCED: notes/assumptions/214.md. -/
def peerPath (d : Device) : Bool := (List.range 6).any fun p => pixUp d p && (pixAt d p).state == 1

/-- Whether requests are answered: not in the course of a failover (R370). -/
def serving (d : Device) : Bool := decide (d.sup.serveFrom ≤ d.mono)

/-- Whether the active supervisor serves CAN port f: the cold die's port over the peer path (R308). -/
def canServed (d : Device) (f : Nat) : Bool := canLive d f && (isActive d f || peerPath d)

/-- A CAN frame of a port's controller, and one of the active supervisor on both ports (R308, notes/assumptions/4.md). -/
def sendCanOn (d : Device) (f cob : Nat) (body : List Byte) : Device := if canLive d f then send d (4 + f) 5 cob body else d
def sendCan (d : Device) (cob : Nat) (body : List Byte) : Device :=
  forEach d [0, 1] fun d f => if canServed d f then sendCanOn d f cob body else d

/-! ### Events (R430 to R441) -/

/-- The severity of an event code (R441): 1 NOTE, 2 DEGRADE, 3 FAULT, 4 FATAL. SUPPLY_STAGE, 92, is given by
its raiser. -/
def sevOf (code : Nat) : Nat :=
  if code ∈ [30, 87, 89, 93] then 4
  else if code ∈ [16, 19, 20, 21, 23, 28, 29, 32, 35, 38, 56, 59, 63, 66, 67, 70, 72, 73, 75, 81, 83, 84, 85, 86, 94, 95] then 3
  else if code ∈ [1, 8, 11, 17, 18, 22, 24, 25, 26, 31, 34, 36, 37, 43, 44, 45, 46, 49, 50, 55, 57, 61, 64, 69, 77, 80, 88] then 2
  else 1

/-- The 32 bytes of a record (R430). Its detail words are kept as 16-bit patterns. -/
def recBytes (r : EventRec) : List Byte :=
  beBytes 2 r.code ++ beBytes 1 (r.sev + 16 * r.die) ++ beBytes 1 r.flags ++ beBytes 4 r.num ++ beBytes 8 r.tb3 ++
  beBytes 4 r.whil ++ beBytes 2 r.unit ++ beBytes 2 r.count ++ ((r.detail.take 4).flatMap (beBytes 2)) ++
  List.replicate (8 - 2 * (r.detail.take 4).length) 0

/-- A detail word: an UNSIGNED16, saturating (R430). -/
def word16 (v : Nat) : Nat := min v 0xFFFF
/-- A detail word: a signed value as an INTEGER16, saturating (R430). -/
def wordI16 (v : Int) : Nat := if v < -32768 then 0x8000 else if 32767 < v then 0x7FFF else (v % 65536).toNat

/-- Records held by a ring, the LOST summary included: the open records of R438. -/
def ringOpen (r : Ring) : List EventRec :=
  match r.lost with
  | some l => r.recs ++ [l]
  | none => r.recs

def openRecords (d : Device) : List EventRec := (List.range 8).flatMap fun k => ringOpen (ringAt d k)

/-- SupplyStage of rail r as R427 codes it. -/
def railOut (d : Device) (r : Nat) : Bool := dieUp d r
def stageCode (d : Device) (r : Nat) : Nat :=
  if !(railAt d r).seen then 0 else if railOut d r then (railAt d r).stage + 1 else 7

/-- ErrorRegister, 0x1001:00 (R306, R438). -/
def errorRegister (d : Device) : Nat :=
  let o := openRecords d
  let has (cs : List Nat) : Bool := o.any fun r => cs.contains r.code
  let b (x : Bool) (w : Nat) : Nat := if x then w else 0
  match activeCtl d with
  | none => 0
  | some _ =>
    b (o.any fun r => 3 ≤ r.sev) 1 +
    b (((List.range 8).any fun r => let s := stageCode d r; 2 ≤ s && s ≤ 6) || has [92, 93, 94]) 4 +
    b (has [32]) 8 + b (has [8, 18, 19, 20, 21, 38, 44, 64, 66]) 16 + 128

/-- EMCY is produced by the active supervisor, but not in NMT state STOPPED. -/
def emcyOn (d : Device) : Bool := regN d 0x1014 0 < 2 ^ 31 && (activeCtl d).isSome && d.can.nmt != 1

def emcyBody (d : Device) (r : EventRec) : List Byte :=
  leBytes 2 (0xFF00 + r.code) ++ beBytes 1 (errorRegister d) ++ beBytes 1 (r.sev + 16 * r.die) ++ leBytes 4 r.num

def emcyInhibited (d : Device) : Bool :=
  match d.can.emcyAt with
  | none => false
  | some t => d.mono < t + regN d 0x1015 0 * 100000

/-- DEDUCED: notes/assumptions/139.md. -/
def emcySend (d : Device) (r : EventRec) : Device :=
  let d := sendCan d (regN d 0x1014 0 % 2048) (emcyBody d r)
  { d with can := { d.can with emcyAt := some d.mono, waiting := none } }

/-- The record kept while EMCY is inhibited or no supervisor is active: the highest severity, the earliest
among equals (R437). DEDUCED: notes/assumptions/18.md. -/
def emcyKeep (w : Option EventRec) (r : EventRec) : EventRec :=
  match w with
  | none => r
  | some o => if o.sev < r.sev then r else o

def emcyRecord (d : Device) (r : EventRec) : Device :=
  if r.sev < 2 then d
  else if regN d 0x1014 0 ≥ 2 ^ 31 then d
  else if emcyOn d && !emcyInhibited d && d.can.waiting.isNone then emcySend d r
  else { d with can := { d.can with waiting := some (emcyKeep d.can.waiting r) } }

/-- ErrorRegister is looked at again: when it returns to 0x80 an EMCY of error code 0 is sent (R437). -/
def emcyCheck (d : Device) : Device :=
  let e := errorRegister d
  let d' := { d with can := { d.can with errReg := if (activeCtl d).isSome then e else max e d.can.errReg } }
  if e = 0x80 ∧ d.can.errReg ≠ 0x80 ∧ 0x80 < d.can.errReg ∧ emcyOn d then
    sendCan d' (regN d 0x1014 0 % 2048) (leBytes 2 0 ++ [0x80, 0, 0, 0, 0, 0])
  else d'

/-- Whether session k gets the event (R334); `src` is the source of a source event. -/
def subscribed (d : Device) (k : Nat) (r : EventRec) (src : Option Nat) : Bool :=
  let m := regN d 0x2700 (k + 1)
  let bySev := m.testBit (r.sev - 1) && m.testBit (3 + r.die) && 1 ≤ r.die
  let own := match src with
    | some s => m.testBit 12 && [1, 2, 3, 4, 5].contains r.code && regN d (0x5000 + s) 0x0F == k
    | none => false
  bySev || own

def sessAt (d : Device) (k : Nat) : Session := tget d.sup.sessions k Session.reset
def setSess (d : Device) (k : Nat) (v : Session) : Device :=
  { d with sup := { d.sup with sessions := tput d.sup.sessions k v } }
def modSess (d : Device) (k : Nat) (f : Session → Session) : Device := setSess d k (f (sessAt d k))
def sessOpen (d : Device) (k : Nat) : Bool := (sessAt d k).state == 3

/-- Places a record in the event queue of session k; more than 256 EVENT messages of 40 records waiting drop
the oldest message (R326). -/
def queueEvent (d : Device) (k : Nat) (r : EventRec) : Device :=
  let ev := (sessAt d k).events ++ [r]
  if 256 * 40 < ev.length then
    bump (modSess d k fun s => { s with events := ev.drop 40 }) (0x2030 + k) 0x0D
  else modSess d k fun s => { s with events := ev }

/-- DEDUCED: notes/assumptions/17.md. -/
def deliverEvent (d : Device) (r : EventRec) (src : Option Nat) : Device :=
  (List.range 8).foldl (fun d k => if sessOpen d k && subscribed d k r src then queueEvent d k r else d) d

/-- A record enters its die's ring, or updates the LOST summary of a full one (R433). -/
def ringEnter (g : Ring) (r : EventRec) : Ring :=
  if g.recs.length < 63 then { g with recs := g.recs ++ [r] }
  else
    let l := match g.lost with
      | none => { r with code := 255, flags := 0x82, whil := r.num, unit := 0, count := 1, detail := [r.code] }
      | some o => { o with sev := max o.sev r.sev, num := r.num, tb3 := r.tb3, count := min (o.count + 1) 0xFFFF }
    { g with lost := some l }

/-- The FAULT events whose rule's whole action is done at their recording: MEM_ORG_MISMATCH, FIRMWARE_REFUSED,
AUDIT_LOG_UNEXPORTED_LOST, REDUNDANCY_LOST, TAKEOVER_NO_MAJORITY, CHECKPOINT_NONE, STANDBY_SUSPECT, DRILL_FAILED, DIE_REPAIR_FAILED,
CLOCK_CRYSTAL_FAILED. DEDUCED: notes/assumptions/160.md. -/
def doneAtOnce (code : Nat) : Bool := [29, 59, 63, 66, 67, 72, 73, 75, 83, 85].contains code

/-- FAULT and FATAL records are in handling until their rule's action completes, at most four (R434). -/
def ringHandle (g : Ring) (r : EventRec) : Ring :=
  if 3 ≤ r.sev ∧ !doneAtOnce r.code then { g with handling := (r :: g.handling).take 4 } else g

/-- Die k (R440) forms a record: code, severity, unit, occurrences and detail words (R430, R432 to R434). -/
def raiseFull (d : Device) (k code sev unit count : Nat) (detail : List Nat) (src : Option Nat) : Device :=
  let g := ringAt d k
  let num := if g.last + 1 < 2 ^ 32 then g.last + 1 else 1
  let whil := match g.handling with
    | [] => 0
    | h :: _ => h.num
  let r : EventRec :=
    { code := code, sev := sev, die := k + 1, flags := (if whil = 0 then 0x80 else 0x81), num := num, tb3 := tb3Stamp d k,
      whil := whil, unit := unit, count := min count 0xFFFF, detail := detail }
  let enters := 2 ≤ sev || regT d (0x2600 + k) 8
  let lost := enters && 63 ≤ g.recs.length
  let g := ringHandle (if enters then ringEnter g r else g) r
  let d := setRing d k { g with last := num, newest := some r, fatalAt := if sev = 4 then some d.mono else g.fatalAt }
  let d := bump d (0x2600 + k) 9
  let d := if lost then bump d (0x2600 + k) 4 else d
  emcyCheck (emcyRecord (deliverEvent d r src) r)

def raiseD (d : Device) (k code unit : Nat) (detail : List Nat) : Device := raiseFull d k code (sevOf code) unit 1 detail none
def raise (d : Device) (k code unit : Nat) : Device := raiseD d k code unit []
/-- An event of source s: it also reaches the session of the source (R334). -/
def raiseSrc (d : Device) (k code unit s : Nat) (detail : List Nat) : Device :=
  raiseFull d k code (sevOf code) unit 1 detail (some s)

/-- An event limited to one per `period` ns for its die, code and selector: the ones held back are counted into bytes 22
and 23 of the next record (R430). -/
def raiseLimited (d : Device) (k code unit sel : Nat) (detail : List Nat) (period : Nat) (src : Option Nat) : Device :=
  let key := (code * 8 + k) * 65536 + sel
  match tfind d.limits key with
  | some (t, n) =>
    if d.mono < t + period then { d with limits := tput d.limits key (t, n + 1) }
    else raiseFull { d with limits := tput d.limits key (d.mono, 0) } k code (sevOf code) unit (n + 1) detail src
  | none => raiseFull { d with limits := tput d.limits key (d.mono, 0) } k code (sevOf code) unit 1 detail src

/-- The action of a record of code and unit has completed on die k: it leaves handling (R434). -/
def handled (d : Device) (k : Nat) (codes : List Nat) (unit : Nat) : Device :=
  modRing d k fun g => { g with handling := g.handling.filter fun r => !(codes.contains r.code && r.unit == unit) }

/-- Every record in handling on die k is complete (its restart). -/
def handledAll (d : Device) (k : Nat) : Device := modRing d k fun g => { g with handling := [] }

/-- The control die whose error unit records what its supervisor finds: the active one, else one that is being elected, else
CA. -/
def supDie (d : Device) : Nat :=
  (activeCtl d).getD (if (ctlAt d 0).role ≠ 2 ∧ (ctlAt d 1).role = 2 then 1 else 0)

end Sys2Proof.Machine
end

