-- ==== Sys2Proof/Machine/Operands.lean ====
section
/-! DEFINITION. The form of a dictionary access: who may make it and which of the checks 1 to 9 of R295 it passes (R292 to
R299, R311). -/

namespace Sys2Proof.Machine

/-- The node bit of 0x2010:05 CanPlantClients (R314). -/
def plantNode (d : Device) (node : Nat) : Bool := ((regB d 0x2010 5).getD (node / 8) 0).getLsbD (node % 8) && decide (1 ≤ node ∧ node ≤ 127)

/-- The roles a requester holds, as bits of R320. A bundle has the authority of every role (R354). -/
def rolesOf (d : Device) (who : Requester) : Nat := match who with
  | .session k => if sessOpen d k then (sessAt d k).roles % 32 else 0
  | .can _ node => if plantNode d node then 4 else 0
  | .bundle => 31

def holds (have_ want : Nat) : Bool := (have_ &&& want) != 0

/-- The session of a requester. -/
def whoSession (who : Requester) : Option Nat := match who with
  | .session k => some k.val
  | _ => none

/-- The session number as audit records carry it; 0xFF none. -/
def whoNumber (who : Requester) : Nat := (whoSession who).getD 0xFF

/-- Whether session k owns layer n, or any layer assigned to head h in force. -/
def ownsLayer (d : Device) (k n : Nat) : Bool := (layerAt d n).owner == some k
def ownsOnHead (d : Device) (k h : Nat) : Bool :=
  d.layers.any fun (e : Nat × LayerUnit) => e.2.owner == some k && frcN d (0x4000 + e.1) 7 == h

/-- Owner or self standing of a requester for an entry of object `base`, unit `u` (R294). -/
def standing (d : Device) (who : Requester) (own : Own) (base u sub : Nat) : Bool := match whoSession who with
  | none => false
  | some k => sessOpen d k && match own with
    | .layer => ownsLayer d k u
    | .head => ownsOnHead d k u
    | .self => if base = 0x2700 then (if sub ≤ 8 then sub == k + 1 else sub == k + 9) else u == k
    | .selfWith _ => u == k
    | _ => false

/-- Checks 5 and 6: 0 passed, else the code of R299. (R329.) DEDUCED: notes/assumptions/53.md. DEDUCED: notes/assumptions/54.md. DEDUCED: notes/assumptions/55.md. -/
def roleRefusal (d : Device) (who : Requester) (e : Entry) (base u sub : Nat) (wr : Option Nat) : Nat :=
  let r := rolesOf d who
  let st := standing d who e.own base u sub
  match who with
  | .bundle => if e.own = .mapping then 6 else 0
  | .can _ _ =>
    if wr.isSome then (if base = 0x6000 ∧ holds e.roles 4 ∧ holds r 4 then 0 else 6)
    else if e.roles &&& 32 ≠ 0 ∨ e.own = .bundle then 0 else 6
  | .session _ => if e.own = .mapping then 6 else
    let restricted := match e.only, wr with
      | some (v, rs), some w => if v = w then some rs else none
      | _, _ => none
    match restricted with
    | some rs => if holds r rs then 0 else 6
    | none =>
      if wr.isNone ∧ (e.own = .bundle ∨ holds r 16) then 0
      else if e.roles &&& 32 ≠ 0 ∨ holds r e.roles then 0
      else match e.own with
        | .layer => if st then 0 else 7
        | .head => if st then 0 else 7
        | .self => if st then 0 else 7
        | .selfWith x => if !st then 7 else if holds r x then 0 else 6
        | _ => 6

/-- Whether the entry is covered by a lock in force (R45, R152, R298, R343). DEDUCED: notes/assumptions/71.md. -/
def lockedEntry (d : Device) (base u sub : Nat) : Bool :=
  (base == 0x5C00 && decide (1 ≤ sub ∧ sub ≤ 6) && regN d 0x5C00 7 == 2) ||
  (base == 0x4900 && sub == 1 && regN d (0x4900 + u) 0x0A == 2) ||
  (base == 0x2400 && (decide (1 ≤ sub ∧ sub ≤ 5) || sub == 9) && decide (u < d.sup.ruleLocked))

/-- Check 7. -/
def typeRefusal (t : Ty) (v : Val) : Nat := match t, v with
  | .num b, .num n => if n < 256 ^ b then 0 else 9
  | .str m, .bytes l => if l.length ≤ m then 0 else 9
  | .dom lo hi, .bytes l => if lo ≤ l.length ∧ l.length ≤ hi then 0 else 9
  | _, _ => 9

/-- Every 16-bit word of a table has its bits from `bit` upward clear. -/
def wordsBelow (b : List Byte) (bit : Nat) : Bool := match b with
  | h :: _ :: r => decide (h.toNat < 2 ^ (bit - 8)) && wordsBelow r bit
  | _ => true

/-- Check 8: reserved bits set to one (R9), those inside LUTs and tables included (R144, R153, R135). -/
def reservedRefusal (e : Entry) (base sub : Nat) (v : Val) : Nat := match v with
  | .num n => if n &&& e.rsvd = 0 then 0 else 10
  | .bytes b =>
    if (base = 0x4000 ∧ sub = 0x13 ∧ !wordsBelow b 12) ∨ (base = 0x4800 ∧ sub = 0x11 ∧ !wordsBelow b 10) ∨
        (base = 0x5480 ∧ sub = 0x1B ∧ !wordsBelow b 12) ∨ (base = 0x2010 ∧ sub = 5 ∧ (b.getD 0 0).getLsbD 0) then 10
    else 0

/-- Check 9: the listed ranges of the entry's fields. -/
def rangeRefusal (e : Entry) (v : Val) : Nat := match v with
  | .num n =>
    if e.zero && n == 0 then 0
    else if e.chk.all fun c => c.2.2.any fun r => decide (r.1 ≤ getField n c.1 c.2.1 ∧ getField n c.1 c.2.1 ≤ r.2) then 0 else 11
  | .bytes _ => 0

/-- Whether an entry is read-only for its unit: the mode of TB2 and TB3 (R290), and what the FLX8 sets itself for CAM, WB and
INT sources (R86). -/
def roHere (d : Device) (base u sub : Nat) : Bool :=
  let kind := regN d (0x5000 + u) 1
  (base == 0x2100 && decide (2 ≤ u) && sub == 1) ||
  (base == 0x5000 && ((decide (3 ≤ sub ∧ sub ≤ 6) && (kind == 3 || kind == 4)) || (sub == 7 && decide (3 ≤ kind))))

/-- The code of the first of a list of checks that fails; 1 ACCEPTED. -/
def firstCode (l : List Nat) : Nat := match l.find? (· != 0) with
  | some c => c
  | none => 1

/-- Checks 1 to 9 of R295 on a write: 1 accepted, else the code of R299. -/
def writeCode (d : Device) (who : Requester) (idx sub : Nat) (v : Val) : Nat := match objOf idx with
  | none => 2
  | some (base, u) =>
    if highestOf base < sub then 3
    else match findEntry sub (entriesOf base) with
      | none => 10
      | some e =>
        if reservedHere base u sub then 10
        else firstCode [if e.acc = .ro ∨ roHere d base u sub then 4 else 0, if lockedEntry d base u sub then 8 else 0,
          roleRefusal d who e base u sub (some (valNum v)), typeRefusal e.ty v, reservedRefusal e base sub v, rangeRefusal e v]

/-- Checks of R295 on a read of one subindex. -/
def readCode (d : Device) (who : Requester) (idx sub : Nat) : Nat := match objOf idx with
  | none => 2
  | some (base, u) =>
    if highestOf base < sub then 3
    else match findEntry sub (entriesOf base) with
      | none => 1
      | some e => if reservedHere base u sub then 1 else firstCode [if e.acc = .wo then 5 else 0, roleRefusal d who e base u sub none]

/-- The readable subindexes of an object, in ascending order (R297, R317). -/
def readableSubs (idx : Nat) : List Nat := match objOf idx with
  | none => []
  | some (base, u) => (List.range' 1 (highestOf base)).filter fun sub =>
      match findEntry sub (entriesOf base) with
      | none => false
      | some e => e.acc != .wo && !reservedHere base u sub

end Sys2Proof.Machine
end

