-- ==== Sys2Proof/Machine/Audit.lean ====
section
/-! DEFINITION. The measurement registers, the audit log and the rule tables (R337 to R363 but for the sessions'
side of them). -/

namespace Sys2Proof.Machine

def padTo (n : Nat) (b : List Byte) : List Byte := (b ++ List.replicate n 0).take n

/-- IdentityCertificateDigest (R304). -/
def certDigest : List Byte := sha256 Config.deviceCertificate

def auditLast (d : Device) : Option AuditRec := d.audit.getLast?
/-- AuditLogHeadNumber and AuditLogHeadHash; AuditLogOldest (R362). -/
def auditHead (d : Device) : Nat := match auditLast d with
  | some r => r.num
  | none => 0
def auditHeadHash (d : Device) : List Byte := match auditLast d with
  | some r => r.hash
  | none => []
def auditOldest (d : Device) : Nat := match d.audit with
  | r :: _ => r.num
  | [] => 0

/-- A die's NOR; as made, slot A is ACTIVE with the factory image and slot B EMPTY (notes/assumptions/6.md). -/
def norOf (d : Device) (c : Nat) : Flash :=
  let f := (ctlAt d c).flash
  let f := if f.slotA = 0 then { f with slotA := 4, slotB := 1, imageA := Config.factoryFirmware c } else f
  if f.bundle = [] then { f with bundle := Config.factoryBundle } else f
def setNor (d : Device) (c : Nat) (f : Flash) : Device := modCtl d c fun x => { x with flash := f }
def modNor (d : Device) (c : Nat) (g : Flash → Flash) : Device := setNor d c (g (norOf d c))

/-- The records up to number n lie in the NOR of die c (R359, R466). -/
def logProgram (d : Device) (c n : Nat) : Device := modNor d c fun f => { f with log := d.audit.filter fun r => decide (r.num ≤ n) }

/-- Bytes 0 to 95 of an audit record (R358). -/
def auditBody (r : AuditRec) : List Byte :=
  beBytes 2 0xCE74 ++ beBytes 2 r.kind ++ beBytes 8 r.num ++ beBytes 8 r.tb3 ++ beBytes 1 r.die ++ beBytes 1 r.session ++
  beBytes 1 r.roles ++ beBytes 1 0 ++ beBytes 4 r.target ++ padTo 32 r.detail ++ beBytes 4 0 ++ padTo 32 r.prev
def auditBytes (r : AuditRec) : List Byte := auditBody r ++ padTo 32 r.hash

/-- One record is appended to the chain (R358, R359); it waits to be programmed. -/
def auditPush (d : Device) (kind session roles target : Nat) (detail : List Byte) : Device :=
  let num := auditHead d + 1
  let prev := match auditLast d with
    | some r => r.hash
    | none => certDigest
  let c := supDie d
  let r : AuditRec :=
    { kind := kind, num := num, tb3 := (ctlAt d c).tb3.ns % 2 ^ 63, die := c + 1, session := session, roles := roles,
      target := target, detail := padTo 32 detail, prev := prev, hash := [] }
  { d with audit := d.audit ++ [{ r with hash := sha256 (auditBody r) }], awaiting := d.awaiting ++ [num] }

/-- The sector of a record number in the log of R360. -/
def auditSector (num : Nat) : Nat := (num - 1) / 512

/-- Appends a record, wrapping the log when fewer than two sectors are free (R360). DESIGN CHOICE: notes/assumptions/15.md. DEDUCED: notes/assumptions/115.md. -/
def auditAdd (d : Device) (kind session roles target : Nat) (detail : List Byte) : Device :=
  let d := auditPush d kind session roles target detail
  let used := auditSector (auditHead d) - auditSector (auditOldest d) + 1
  if used ≤ 510 then d
  else
    let s := auditSector (auditOldest d)
    let gone := d.audit.filter fun r => auditSector r.num == s
    let lost := gone.filter fun r => regN d 0x2500 7 < r.num
    let d := { d with audit := d.audit.filter fun r => auditSector r.num != s }
    match lost with
    | [] => raise (auditPush d 19 0xFF 0 0 []) (supDie d) 62 0x2500
    | r :: _ => raise (auditPush d 19 0xFF 0 0 (beBytes 8 r.num)) (supDie d) 63 0x2500

/-- A record of the device itself: no session. -/
def auditDev (d : Device) (kind target : Nat) (detail : List Byte) : Device := auditAdd d kind 0xFF 0 target detail

/-- The newest record die k formed, as bytes. -/
def newestFormed (d : Device) (k : Nat) : List Byte := match (ringAt d k).newest with
  | some r => recBytes r
  | none => []

/-- A FATAL record: recorded and appended to the audit log before its reset (R436). -/
def raiseFatal (d : Device) (k code unit : Nat) (detail : List Nat) : Device :=
  let d := raiseD d k code unit detail
  auditDev d 16 (256 * unit) (newestFormed d k)

/-- PolicyLockState. -/
def policyLock (d : Device) : Nat := if regN d 0x5C00 7 = 2 then 2 else 1

/-! ### Measurement registers (R351) -/

def measOf (c : CtlDie) (i : Nat) : List Byte := c.meas.getD i (List.replicate 32 0)

def extendDie (d : Device) (c i : Nat) (dg : List Byte) : Device :=
  modCtl d c fun x =>
    { x with meas := (List.range 8).map fun j => if j = i then sha256 (measOf x i ++ padTo 32 dg) else measOf x j }

/-- MEASi of control die c is extended with a digest; MEAS3 to MEAS6 are listed for the checkpoint. -/
def extendMeas (d : Device) (c i : Nat) (dg : List Byte) : Device :=
  let d := extendDie d c i dg
  let d := if 3 ≤ i ∧ i ≤ 6 then { d with sup := { d.sup with meas := d.sup.meas ++ [(i, dg)] } } else d
  auditDev d 13 0 dg

/-! ### The access rule table (R339 to R343) -/

/-- The copy's rules as numbers in entry order, lock states included. -/
def ruleNumbers (c : RuleCopy) : List Nat :=
  (List.range 128).flatMap fun e =>
    let r := tget c.rules e { masters := 0, base := 0, pages := 1, access := 0 }
    [if (tfind c.rules e).isSome then 1 else 0, r.masters, r.base, r.pages, r.access, if e < c.locked then 2 else 1]

def ruleDigest (c : RuleCopy) : List Byte := sha256 (Config.ruleImage (ruleNumbers c))

/-- Whether two copies hold the same table and locks. -/
def ruleSame (a b : RuleCopy) : Bool := a.rules == b.rules && a.locked == b.locked

def ruleHits (r : Rule) (master addr : Nat) : Bool :=
  r.masters.testBit master && r.base ≤ addr && addr < r.base + r.pages * 4096

/-- The entry that decides an address (R340): the lowest that matches. -/
def ruleFor (rs : Table Rule) (master addr : Nat) : Option (Nat × Rule) :=
  rs.find? fun e => ruleHits e.2 master addr

/-- Whether an access of at most 256 bytes is permitted, and the entry it counts under when it is not (R341). -/
def ruleDecide (c : RuleCopy) (master addr len : Nat) (write : Bool) : Bool × Option Nat :=
  let a := ruleFor c.rules master addr
  let b := ruleFor c.rules master (addr + (len - 1))
  let first := a.map (·.1)
  if c.denyAll then (false, first)
  else match a, b with
    | some (e, r), some (f, _) => if e = f ∧ r.access.testBit (if write then 1 else 0) then (true, none) else (false, first)
    | _, _ => (false, first)

/-- A denied access: counted, and ACCESS_DENIED at most once per millisecond per master (R341, R357). -/
def ruleDenied (d : Device) (k master addr : Nat) (write : Bool) (entry : Option Nat) : Device :=
  let d := match entry with
    | some e => bump d (0x2400 + e) 8
    | none => d
  let n := (ringAt d k).last
  let d := raiseLimited d k 55 0 master [master, word16 addr, if write then 2 else 1, entry.getD 0xFFFF]
    1000000 none
  if (ringAt d k).last = n then d else auditDev d 12 0 (newestFormed d k)

/-- Whether die k denies every access by the six masters until it is reset (R342). -/
def denies (d : Device) (k : Nat) : Bool := (ruleCopyAt d k).denyAll

/-- Where a master's access to die k goes: the spec gives no address of the slots, messages and checkpoints that it carries. DESIGN CHOICE: notes/assumptions/210.md. -/
def accessAddr (d : Device) (k master : Nat) : Nat := k * 2 ^ 44 + tget d.layout (8 * k + master) 0

/-- Whether the table of die k denies such an access of a master (R338, R340, R342): SADDLE 3, INGRESS 4, CHECKPOINT 5. -/
def barred (d : Device) (k master : Nat) (write : Bool) : Bool :=
  !(ruleDecide (ruleCopyAt d k) master (accessAddr d k master) 256 write).1

/-- The access is denied (R341). -/
def accessDenied (d : Device) (k master : Nat) (write : Bool) : Device :=
  let a := accessAddr d k master
  ruleDenied d k master a write (ruleDecide (ruleCopyAt d k) master a 256 write).2

/-- A write of an ingress switch that pixel die p denies. -/
def ingressDenied (d : Device) (p : Nat) : Device := accessDenied d (dieNo p) 4 true

/-- The entry as staged, when it is enabled (R339). -/
def stagedRule (d : Device) (e : Nat) : Option Rule :=
  let o := 0x2400 + e
  if regT d o 1 then some { masters := regN d o 2, base := regN d o 3, pages := regN d o 4, access := regN d o 5 } else none

def ruleCrosses (d : Device) (e : Nat) : Bool :=
  let o := 0x2400 + e
  2 ^ 44 < regN d o 3 % 2 ^ 44 + regN d o 4 * 4096

def setRule (c : RuleCopy) (e : Nat) (r : Option Rule) : RuleCopy :=
  { c with rules := match r with
      | some r => tput c.rules e r
      | none => tdel c.rules e }

/-- Every die out of reset takes the change. -/
def onCopies (d : Device) (f : RuleCopy → RuleCopy) : Device :=
  forEach d (List.range 8) fun d k => if dieUp d k then modRuleCopy d k f else d

def measRules (d : Device) : Device := extendMeas d (supDie d) 4 (ruleDigest (ruleCopyAt d (supDie d)))

/-- Whether every one of the eight copies holds entry e as the supervisor's die does (R342). -/
def ruleEverywhere (d : Device) (e : Nat) : Bool :=
  let r := tfind (ruleCopyAt d (supDie d)).rules e
  (List.range 8).all fun k => dieUp d k && tfind (ruleCopyAt d k).rules e == r

/-- Commits and locks that every copy holds by now take effect: RuleCommitState reads APPLIED, and a lock comes after the commits that
are pending below it (R342, R343). -/
def ruleSettle (d : Device) : Device :=
  let d := forEach d ((List.range 128).filter fun e => regN d (0x2400 + e) 0x0A == 2) fun d e =>
    if ruleEverywhere d e then setN d (0x2400 + e) 0x0A 1 else d
  let held := (List.range 8).foldl (fun n k => min n (if dieUp d k then (ruleCopyAt d k).locked else 0)) 128
  let open_ := ((List.range 128).find? fun e => regN d (0x2400 + e) 0x0A == 2).getD 128
  { d with sup := { d.sup with ruleLocked := max d.sup.ruleLocked (min held open_) } }

/-- RuleCommit of entry e (R339, R342). -/
def ruleCommitOp (d : Device) (e : Nat) : Device :=
  if ruleCrosses d e then setN d (0x2400 + e) 0x0A 3
  else
    let r := stagedRule d e
    let d := onCopies d fun c => setRule c e r
    let d := { d with force := putVals d.force (0x2400 + e) (stagedVals d.regs (0x2400 + e) 1 5) }
    ruleSettle (measRules (setN d (0x2400 + e) 0x0A 2))

/-- How many entries are locked on the device (R343). -/
def lockedRules (d : Device) : Nat := d.sup.ruleLocked

/-- RuleLock of entry e (R343). -/
def ruleLockOp (d : Device) (e : Nat) : Device :=
  let d := onCopies d fun c => { c with locked := max c.locked (e + 1) }
  ruleSettle (measRules d)

/-- A die that restarts gets the whole table, locks included, from the active die's copy (R343). -/
def ruleReload (d : Device) (k : Nat) : Device :=
  let c := ruleCopyAt d (supDie d)
  ruleSettle (setRuleCopy d k { c with differ := 0, denyAll := false })

/-- At a tick, die k's table is compared with the active die's (R342). -/
def ruleTick (d : Device) (k : Nat) : Device :=
  match activeCtl d with
  | none => d
  | some a =>
    let c := ruleCopyAt d k
    if ruleSame c (ruleCopyAt d a) then setRuleCopy d k { c with differ := 0 }
    else if c.differ + 1 = 2 then
      raise (setRuleCopy d k { c with differ := 2, denyAll := true }) k 56 0x2400
    else setRuleCopy d k { c with differ := c.differ + 1 }

/-- RuleTableAgreement (R362). -/
def ruleAgreement (d : Device) : Nat :=
  match activeCtl d with
  | none => 0
  | some _ => ((List.range 8).filter fun k => dieUp d k && !(ruleCopyAt d k).denyAll).foldl (fun a k => a + 2 ^ k) 0

end Sys2Proof.Machine
end

