-- ==== Sys2Proof/Machine/Time.lean ====
section
/-! DEFINITION. The time bases and their pixel-die copies, PTP, the wall tick grid and the trim of the internal
oscillators (R271 to R291). -/

namespace Sys2Proof.Machine

/-! ### Uncertainty and states (R280, R281) -/

def holdRate (d : Device) (b : Nat) : Nat := regN d (0x2100 + b) 7

/-- r × t, in ns, rounded up (notes/assumptions/8.md). DESIGN CHOICE: notes/assumptions/8.md. -/
def holdGrow (d : Device) (b dt : Nat) : Nat := ceilDiv (holdRate d b * dt) (10 ^ 9)

/-- The holdover uncertainty of a base on a control die (R280). -/
def baseUnc (d : Device) (b : Nat) (t : TimeBase) : Nat :=
  if t.st = 1 then holdGrow d b (d.mono - t.reset) else if t.st = 3 then holdGrow d b (d.mono - t.last) else 0

/-- The state of a pixel die's copy (R281). -/
def copyState (p : PixelDie) (b : Nat) : Nat :=
  let t := copyOf p b
  if !t.loaded then 0 else if 2 ≤ b then 4 else if t.st = 2 ∧ p.holdover then 3 else t.st

/-- The uncertainty of a pixel die's copy, ns (R281). -/
def copyUnc (d : Device) (p : PixelDie) (b : Nat) : Nat :=
  let t := copyOf p b
  if 2 ≤ b then 0
  else
    let carried := if t.st = 2 then t.unc else t.unc + holdGrow d b (d.mono - t.sentAt)
    if copyState p b = 2 then 0
    else if p.holdover ∧ t.st ≠ 1 then carried + holdGrow d b (d.mono - t.feedAt)
    else carried

/-! ### The wall tick grid (R285) -/

def tickRate (d : Device) : Nat := regN d 0x2110 1
def tickOffset (d : Device) : Nat := regN d 0x2110 2
/-- Tick k, any integer, in ns of TB1. -/
def tickTime (d : Device) (k : Int) : Int := Int.ofNat (tickOffset d) - -(k * 10 ^ 12) / Int.ofNat (tickRate d)
/-- The first tick at or after a TB1 instant. -/
def tickIndexFrom (d : Device) (t : Nat) : Int := (Int.ofNat t - Int.ofNat (tickOffset d) - 1) * Int.ofNat (tickRate d) / 10 ^ 12 + 1
def tickFrom (d : Device) (t : Nat) : Nat := (tickTime d (tickIndexFrom d t)).toNat
/-- The last tick at or before a TB1 instant; none when it would lie before the zero of TB1. -/
def tickBefore (d : Device) (t : Nat) : Option Nat :=
  if tickFrom d t = t then some t
  else
    let b := tickTime d (tickIndexFrom d t - 1)
    if b < 0 then none else some b.toNat
/-- The tick period in ns, rounded up, and in ps. -/
def tickPeriod (d : Device) : Nat := ceilDiv (10 ^ 12) (tickRate d)
def tickPeriodPs (d : Device) : Nat := (10 ^ 15 + tickRate d / 2) / tickRate d

/-! ### The time feed (R274) -/

/-- The active die sends a feed message on each Saddle link whose die is out of reset. -/
def timeFeedSendOp (d : Device) : Device :=
  match activeCtl d with
  | none => d
  | some c =>
    let x := ctlAt d c
    let bs := [x.tb0, x.tb1, x.tb2, x.tb3]
    let m : FeedMsg :=
      { times := bs.map (·.ns), sts := bs.map (·.st), uncs := (List.range 4).map fun b => baseUnc d b (baseOf x b),
        ppbs := (List.range 4).map (baseRate x), sent := d.mono, setAt := x.tb1.setAt }
    forEach d (List.range 6) fun d p => if pixUp d p then modPix d p fun q => { q with feed := q.feed ++ [(c, m)] } else d

/-- One copy follows one feed message: loaded after a reset, stepped beyond 100 µs (TB0, TB1), slewed otherwise. -/
def followCopy (now delay b : Nat) (m : FeedMsg) (t : TimeCopy) : TimeCopy :=
  let at_ := m.times.getD b 0 + delay
  let t := { t with st := m.sts.getD b 0, ppb := m.ppbs.getD b 0, unc := m.uncs.getD b 0, feedAt := now, sentAt := m.sent,
                    follow := true }
  if !t.loaded then { t with ns := at_, frac := 0, slew := 0, loaded := true }
  else
    let e := Int.ofNat at_ - Int.ofNat t.ns
    if b < 2 ∧ 100000 < e.natAbs then { t with ns := at_, slew := 0 } else { t with slew := e }

/-- The TB1 step of a message on a die whose copies are loaded. -/
def feedStep (p : PixelDie) (delay : Nat) (m : FeedMsg) : Int :=
  let e := Int.ofNat (m.times.getD 1 0 + delay) - Int.ofNat p.tb1.ns
  if p.tb1.loaded ∧ 100000 < e.natAbs then e else 0

/-- Whether the step of die p's TB1 copy follows a step of the control die's TB1 that another die's copy has made already:
it counts once in TickRealignments (R283). DEDUCED: notes/assumptions/203.md. -/
def stepCounted (d : Device) (p c : Nat) (m : FeedMsg) : Bool :=
  (pixAt d p).stepped != some (c, m.setAt) && (List.range 6).any fun j => j != p && (pixAt d j).stepped == some (c, m.setAt)

/-- A die takes a feed message of its token holder, or grants its free token to the die that sends one (R367,
R390). DESIGN CHOICE: notes/assumptions/21.md. -/
def feedAccept (d : Device) (p c : Nat) (m : FeedMsg) : Device :=
  let q := pixAt d p
  let delay := q.delays.getD c 0
  let sh := feedStep q delay m
  let d := if 5000 < sh.natAbs ∧ !stepCounted d p c m then bump d 0x2110 7 else d
  let e := modPix d p fun q =>
    { q with tb0 := followCopy d.mono delay 0 m q.tb0, tb1 := followCopy d.mono delay 1 m q.tb1,
             tb2 := followCopy d.mono delay 2 m q.tb2, tb3 := followCopy d.mono delay 3 m q.tb3,
             holdover := false, token := c + 2, gridTick := q.gridTick + sh,
             stepped := if 5000 < sh.natAbs then some (c, m.setAt) else q.stepped,
             aimAt := if q.closes ≠ q.ticks ∧ sh < 0 then min q.aimAt (tickFrom d (m.times.getD 1 0 + delay)) else q.aimAt }
  if q.token = c + 2 then e else tokensMoved e

def timeFeedMessageOp (d : Device) (p c : Nat) : Device :=
  if !pixUp d p then d
  else
    let q := pixAt d p
    match q.feed.find? fun e => e.1 == c with
    | none => d
    | some (_, m) =>
      let rest := q.feed.eraseP fun e => e.1 == c
      let d := modPix d p fun q => { q with feed := rest }
      if q.token = c + 2 ∨ (q.token = 1 ∧ (ctlAt d c).role ∈ [2, 3, 10]) then feedAccept d p c m else d

/-- No feed message for 500 µs (R274). -/
def timeFeedTimeoutOp (d : Device) (p : Nat) : Device :=
  let q := pixAt d p
  if pixUp d p ∧ q.tb0.loaded ∧ !q.holdover ∧ q.tb0.feedAt + 500000 ≤ d.mono then
    raise (modPix d p fun q => { q with holdover := true, tb0 := { q.tb0 with follow := false }, tb1 := { q.tb1 with follow := false },
                                        tb2 := { q.tb2 with follow := false }, tb3 := { q.tb3 with follow := false } })
      (dieNo p) 45 0
  else d

/-- The delay of a Saddle link, by round trip. -/
def saddleDelayOp (d : Device) (c p roundTrip : Nat) : Device :=
  if ctlUp d c ∧ pixUp d p then modPix d p fun q => { q with delays := q.delays.set c (roundTrip / 2) } else d

/-- The cold die's TB2 and TB3 slew to the active die's over the peer path (R275). -/
def peerTimeAlignOp (d : Device) : Device :=
  match activeCtl d with
  | none => d
  | some c =>
    let o := 1 - c
    if ctlUp d o ∧ peerPath d then
      let a := ctlAt d c
      modCtl d o fun x =>
        { x with tb2 := { x.tb2 with slew := Int.ofNat a.tb2.ns - Int.ofNat x.tb2.ns },
                 tb3 := { x.tb3 with slew := Int.ofNat a.tb3.ns - Int.ofNat x.tb3.ns } }
    else d

/-- TB3 is written to the state sectors of the active die's NOR (R275). -/
def tb3PersistOp (d : Device) : Device :=
  match activeCtl d with
  | none => d
  | some c =>
    modCtl d c fun x => { x with flash := { x.flash with tb3 := x.tb3.ns % 2 ^ 63 } }

/-- The newest TB3 kept in the NOR of die c: the later of the state sectors' value and the stamp of the newest audit record
programmed there. -/
def keptTb3 (d : Device) (c : Nat) : Nat :=
  max (norOf d c).tb3 (match (d.audit.filter fun r => !d.awaiting.contains r.num).getLast? with
    | some r => r.tb3
    | none => 0)

/-- The release of a control die's reset: TB0 and TB1 take the values of the other control die if that runs, TB2 with them
(R272). DEDUCED: notes/assumptions/204.md. -/
def startCtl (d : Device) (c : Nat) : Device :=
  let o := ctlAt d (1 - c)
  let base (t : TimeBase) (st : Nat) : TimeBase :=
    { TimeBase.fresh st with ns := if ctlUp d (1 - c) then t.ns else 0, frac := if ctlUp d (1 - c) then t.frac else 0,
                             reset := d.mono, setAt := d.mono }
  modCtl d c fun x =>
    { x with out := true, role := 1, tb0 := base o.tb0 1, tb1 := base o.tb1 1, tb2 := base o.tb2 4,
             tb3 := { TimeBase.fresh 4 with reset := d.mono, setAt := d.mono } }

/-! ### PTP (R276 to R278, R282) -/

/-- A PTP log interval in ns. -/
def logNs (l : Int) : Nat := if 0 ≤ l then 2 ^ l.toNat * 10 ^ 9 else 10 ^ 9 / 2 ^ (-l).toNat

/-- The Ethernet port of base b's clock on die c (R276). -/
def basePort (d : Device) (c b : Nat) : Nat := regN d (0x2100 + b) (4 + c)
/-- Whether that port can take PTP messages: its die is out of reset and the port has an address (R315). -/
def ptpPort (d : Device) (c b : Nat) : Bool := ctlUp d c && hostPort d (basePort d c b)

def ptpOn (d : Device) (c b domain : Nat) : Bool :=
  ptpPort d c b && regN d (0x2100 + b) 1 == 2 && regN d (0x2100 + b) 3 == domain

def modBase (d : Device) (c b : Nat) (f : TimeBase → TimeBase) : Device :=
  modCtl d c fun x => setBase x b (f (baseOf x b))
def baseAt (d : Device) (c b : Nat) : TimeBase := baseOf (ctlAt d c) b

def meanPpb (l : List Int) (last : Int) : Int := match l with
  | [] => last
  | _ => (l.foldl (· + ·) 0) / Int.ofNat l.length

/-- A LOCKED base enters HOLDOVER (R277). -/
def enterHoldover (d : Device) (c b : Nat) : Device :=
  if (baseAt d c b).st = 2 then
    let d := modBase d c b fun t => { t with st := 3, ppb := meanPpb t.corr t.ppb, check := true, streak := 0 }
    let d := if isActive d c then bump d (0x2100 + b) 0x19 else d
    raise d c 46 (0x2100 + b)
  else modBase d c b fun t => { t with streak := 0 }

/-- The rate after a Sync with offset o: within ±100 ppm of the last rate, toward the master. -/
def servoRate (n : Nat) (o ppb : Int) : Int :=
  let m := Int.ofNat (min 100000 (Config.servoPpb n).natAbs)
  if o = 0 then ppb else if 0 < o then ppb - m else ppb + m

/-- TIME_BOUND_EXCEEDED at the first offset after entering HOLDOVER (R282). -/
def boundCheck (d : Device) (c b : Nat) (o : Int) : Device :=
  let t := baseAt d c b
  if t.check then
    let u := baseUnc d b t
    let d := modBase d c b fun t => { t with check := false }
    if u < o.natAbs then
      let d := if isActive d c then bump d (0x2100 + b) 0x1A else d
      raiseD d c 49 (0x2100 + b) [word16 (ceilDiv o.natAbs 1000), word16 (ceilDiv u 1000)]
    else d
  else d

/-- Pending telegrams of base b whose launch time a forward step of the active die has carried into the past (R288). -/
def telegramsLate (d : Device) (c b : Nat) : Device :=
  if isActive d c then
    let now := (baseAt d c b).ns
    { d with sup := { d.sup with telegrams := d.sup.telegrams.map fun t =>
        { t with late := t.late || (t.base == b + 1 && decide (diff48 t.time now < 0)) } } }
  else d

/-- The base is set to the master's time: a step by −o. -/
def stepBase (d : Device) (c b : Nat) (o : Int) : Device :=
  let d := modBase d c b fun t =>
    { t with ns := (Int.ofNat t.ns - o).toNat, streak := 0, wasSet := true, ms := none, reqAt := none, setAt := d.mono }
  let d := telegramsLate d c b
  let d := if isActive d c then bump d (0x2100 + b) 0x18 else d
  raise d c 47 (0x2100 + b)

/-- An offset o of base b from its master (base minus master) is measured (R278). `sync` says that it comes with a
Sync: such offsets count toward lock. -/
def measureOffset (d : Device) (c b : Nat) (o : Int) : Device :=
  let d := boundCheck d c b o
  let d := modBase d c b fun t => { t with off := some o, last := t.msAt }
  let t := baseAt d c b
  if (t.st = 1 ∧ !t.wasSet) ∨ regN d (0x2100 + b) 8 * 1000 < o.natAbs then stepBase d c b o
  else
    let r := servoRate d.fresh o t.ppb
    let n := if o.natAbs ≤ regN d (0x2100 + b) 9 then t.streak + 1 else 0
    let d := spend (modBase d c b fun t => { t with ppb := r, corr := (t.corr ++ [r]).drop (t.corr.length + 1 - 64), streak := n })
    if 16 ≤ n ∧ t.st ≠ 2 then raise (modBase d c b fun t => { t with st := 2, check := false }) c 48 (0x2100 + b) else d

/-- One arrival of a Sync's origin time at `arrival` of the base: measured when the path delay is known. -/
def syncTimes (d : Device) (c b origin arrival : Nat) : Device :=
  let ms := Int.ofNat arrival - Int.ofNat origin
  let d := modBase d c b fun t => { t with ms := some ms, msAt := t.syncAt }
  match (baseAt d c b).delay with
  | some dl => measureOffset d c b (ms - Int.ofNat dl)
  | none => d

def ptpSyncOp (d : Device) (c b : Nat) (m : PtpSyncMsg) : Device :=
  let t := baseAt d c b
  if ptpOn d c b m.domain ∧ t.gm = m.grandmaster ∧ t.gm ≠ 0 ∧ -7 ≤ m.logInterval ∧ m.logInterval ≤ 1 then
    let d := modBase d c b fun t => { t with syncLog := m.logInterval, syncAt := d.mono }
    if m.twoStep then modBase d c b fun t => { t with twoStep := some (m.seq, t.ns) }
    else syncTimes d c b m.origin t.ns
  else d

def ptpFollowUpOp (d : Device) (c b seq origin : Nat) : Device :=
  match (baseAt d c b).twoStep with
  | some (s, arr) =>
    if ptpPort d c b ∧ s = seq ∧ regN d (0x2100 + b) 1 = 2 then
      syncTimes (modBase d c b fun t => { t with twoStep := none }) c b origin arr
    else d
  | none => d

/-- The clockIdentity of base b's clock on die c: the device EUI-64 with the die and the base in its last byte (R273). DESIGN CHOICE: notes/assumptions/205.md. -/
def clockIdentity (d : Device) (c b : Nat) : Nat := regN d 0x2000 4 / 256 * 256 + 16 * c + b

/-- Whether the next Delay_Req comes too early: at the rate of the last Delay_Resp, at most 16 per second (R276). DEDUCED: notes/assumptions/13.md. -/
def reqEarly (now : Nat) (t : TimeBase) : Bool := match t.asked with
  | some (at_, _) => decide (now < at_ + logNs (if t.delay.isSome then t.reqLog else -4))
  | none => false

/-- A Delay_Req is sent and its departure kept; the one before it, if unanswered, counts no more. -/
def ptpDelayReqOp (d : Device) (c b : Nat) : Device :=
  let t := baseAt d c b
  if ptpPort d c b ∧ regN d (0x2100 + b) 1 = 2 ∧ t.gm ≠ 0 ∧ !reqEarly d.mono t then
    let seq := match t.asked with
      | some (_, s) => (s + 1) % 65536
      | none => 1
    send (modBase d c b fun t => { t with reqAt := some (seq, t.ns), asked := some (d.mono, seq) }) (basePort d c b) 6 b
      (beBytes 8 (clockIdentity d c b) ++ beBytes 2 seq)
  else d

def ptpDelayRespOp (d : Device) (c b seq receive : Nat) (logInterval : Int) : Device :=
  let t := baseAt d c b
  match t.reqAt, t.ms with
  | some (s, t3), some ms =>
    if ptpPort d c b ∧ s = seq then
      let sm := Int.ofNat receive - Int.ofNat t3
      let dl := ((ms + sm) / 2).toNat
      let d := modBase d c b fun t => { t with delay := some dl, reqLog := max logInterval (-4), reqAt := none }
      if t.delay.isNone then measureOffset d c b (ms - Int.ofNat dl) else d
    else d
  | _, _ => d

/-- The default BMCA's order of two announced data sets: lexicographic, lower is better. -/
def rankLt : List Nat → List Nat → Bool
  | [], [] => false
  | [], _ => true
  | _, [] => false
  | a :: x, b :: y => if a < b then true else if b < a then false else rankLt x y

/-- Whether a foreign master is qualified: two Announces within four of its intervals, the last of them that recent. -/
def qualified (now : Nat) (f : Foreign) : Bool := f.good && decide (now ≤ f.at_ + 4 * logNs f.log)

/-- The best of the qualified masters; the selected one stays among them until its Announce receipt timeout (R277). PRESUMED: notes/assumptions/12.md. -/
def bestMaster (now : Nat) (t : TimeBase) : Option Foreign :=
  (t.others.filter fun f => qualified now f || (t.gm != 0 && f.gm == t.gm)).foldl (fun a f => match a with
    | none => some f
    | some g => if rankLt f.rank g.rank then some f else some g) none

/-- The clock follows the best qualified master, if that is another one (R277). -/
def selectMaster (d : Device) (c b : Nat) : Device :=
  let t := baseAt d c b
  match bestMaster d.mono t with
  | none => modBase d c b fun t => { t with gm := 0, delay := none, ms := none, reqAt := none, twoStep := none }
  | some f =>
    if f.gm = t.gm then d
    else
      let d := if t.gm = 0 then d else enterHoldover d c b
      modBase d c b fun t =>
        { t with gm := f.gm, rank := f.rank, delay := none, ms := none, reqAt := none, twoStep := none, annAt := f.at_,
                 annLog := f.log, syncAt := d.mono }

/-- The selected master is given up and must qualify again; the best of the others is followed. DEDUCED: notes/assumptions/206.md. -/
def dropMaster (d : Device) (c b : Nat) : Device :=
  selectMaster (modBase d c b fun t => { t with others := t.others.filter fun f => f.gm != t.gm, gm := 0 }) c b

/-- A foreign master announces: qualified at its second Announce within four of its intervals. -/
def heardAnnounce (now : Nat) (a : PtpAnnounceMsg) (l : List Foreign) : List Foreign :=
  match l.find? fun f => f.gm == a.grandmaster with
  | none => l ++ [{ gm := a.grandmaster, rank := a.rank, at_ := now, log := a.logInterval, good := false }]
  | some o =>
    l.map fun f => if f.gm = a.grandmaster then
      { f with rank := a.rank, at_ := now, log := a.logInterval, good := decide (now ≤ o.at_ + 4 * logNs o.log) } else f

def ptpAnnounceOp (d : Device) (c b : Nat) (a : PtpAnnounceMsg) : Device :=
  if ptpOn d c b a.domain ∧ -3 ≤ a.logInterval ∧ a.logInterval ≤ 4 ∧ a.grandmaster ≠ 0 then
    let d := modBase d c b fun t =>
      let t := { t with others := heardAnnounce d.mono a t.others }
      if t.gm = a.grandmaster then { t with annAt := d.mono, annLog := a.logInterval, rank := a.rank } else t
    selectMaster d c b
  else d

def ptpAnnounceTimeoutOp (d : Device) (c b : Nat) : Device :=
  let t := baseAt d c b
  if ctlUp d c ∧ t.gm ≠ 0 ∧ t.annAt + regN d (0x2100 + b) 6 * logNs t.annLog ≤ d.mono then
    let d := enterHoldover d c b
    dropMaster d c b
  else d

/-- A LOCKED base misses four Syncs: another master that is qualified is followed at once; where none is, the base awaits the
next offset from the one it followed (R277, R282). -/
def ptpSyncTimeoutOp (d : Device) (c b : Nat) : Device :=
  let t := baseAt d c b
  if ctlUp d c ∧ t.gm ≠ 0 ∧ t.syncAt + 4 * logNs t.syncLog ≤ d.mono then
    let d := enterHoldover d c b
    if t.st = 2 ∧ t.others.any (fun f => f.gm != t.gm && qualified d.mono f) then dropMaster d c b else d
  else d

/-- A write to subindexes 0x01 to 0x06 of a time base takes effect at once (R277, R290). Another master that is qualified is
followed at once, unless the base now follows none or hears another domain or port; `same` says that the value written was there. -/
def baseConfigWritten (d : Device) (b sub : Nat) (same : Bool) : Device :=
  forEach d [0, 1] fun d c =>
    if ctlUp d c then
      let d := enterHoldover d c b
      if regN d (0x2100 + b) 1 = 2 ∧ (same ∨ sub = 2 ∨ sub = 6 ∨ sub = 5 - c) then dropMaster d c b
      else modBase d c b fun t => { t with gm := 0, others := [], delay := none, ms := none, reqAt := none, twoStep := none }
    else d

/-! ### Trimming (R289) -/

/-- The reference of a trim and the measured error in ppb (positive: the oscillator is fast). -/
def trimReference (d : Device) (k : Nat) (errPpm : Int) : Nat × Int :=
  if k < 2 then
    let x := ctlAt d k
    if (clockAt d k).src = 2 then (1, 1000 * errPpm)
    else if x.tb1.st = 2 then (2, -x.tb1.ppb)
    else if x.tb0.st = 2 then (3, -x.tb0.ppb)
    else (5, 0)
  else
    let p := pixAt d (k - 2)
    if p.tb0.follow ∧ !p.holdover then (4, 1000 * errPpm) else (5, 0)

/-- An error as 0x2210 shows it, in whole ppm. DESIGN CHOICE: notes/assumptions/207.md. -/
def trimErrWord (e : Int) : Nat := min (e.natAbs / 1000) 0x3FFF + (if 0 < e then 0x4000 else 0) + 0x8000

/-- One trim of die k: a step of 0.025 % toward zero when the error exceeds 0.05 %, within ±128 steps; a step makes the
oscillator not ready and, before the crystal qualifies, the monitor of a control die UNQUALIFIED (R401, R406). -/
def oscTrimOp (d : Device) (k : Nat) (errPpm : Int) : Device :=
  if !dieUp d k then d
  else
    let re := trimReference d k errPpm
    let d := setB d 0x2210 6 (patch (regB d 0x2210 6) k (beBytes 1 re.1))
    let d := if re.1 = 5 then d else setB d 0x2210 7 (patch (regB d 0x2210 7) (2 * k) (beBytes 2 (trimErrWord re.2)))
    let c := clockAt d k
    let step : Int := if re.1 = 5 ∨ re.2.natAbs ≤ 500000 then 0 else if 0 < re.2 then -1 else 1
    let t := c.trim + step
    if step = 0 ∨ c.noTrim ∨ t < -128 ∨ 128 < t then d
    else setClock d k { c with trim := t, ready := false, stepAt := d.mono, stepped := true,
                               mon := if k < 2 ∧ c.src ≠ 2 ∧ c.mon = 2 then 1 else c.mon }

/-! ### The meanings -/

def execTimeFeedSend (dt : Nat) (s : State) := act dt s timeFeedSendOp
def execTimeFeedMessage (dt : Nat) (p : Die) (c : Ctl) (s : State) := act dt s fun d => timeFeedMessageOp d p c
def execTimeFeedTimeout (dt : Nat) (p : Die) (s : State) := act dt s fun d => timeFeedTimeoutOp d p
def execSaddleDelayMeasure (dt : Nat) (c : Ctl) (p : Die) (roundTrip : Nat) (s : State) :=
  act dt s fun d => saddleDelayOp d c p roundTrip
def execPeerTimeAlign (dt : Nat) (s : State) := act dt s peerTimeAlignOp
def execTb3Persist (dt : Nat) (s : State) := act dt s tb3PersistOp
def execOscTrim (dt : Nat) (k : AnyDie) (errPpm : Int) (s : State) := act dt s fun d => oscTrimOp d k errPpm
def execPtpSync (dt : Nat) (c : Ctl) (b : Fin 2) (m : PtpSyncMsg) (s : State) := act dt s fun d => ptpSyncOp d c b m
def execPtpFollowUp (dt : Nat) (c : Ctl) (b : Fin 2) (seq origin : Nat) (s : State) :=
  act dt s fun d => ptpFollowUpOp d c b seq origin
def execPtpDelayReqSend (dt : Nat) (c : Ctl) (b : Fin 2) (s : State) := act dt s fun d => ptpDelayReqOp d c b
def execPtpDelayResp (dt : Nat) (c : Ctl) (b : Fin 2) (seq receive : Nat) (logInterval : Int) (s : State) :=
  act dt s fun d => ptpDelayRespOp d c b seq receive logInterval
def execPtpAnnounce (dt : Nat) (c : Ctl) (b : Fin 2) (a : PtpAnnounceMsg) (s : State) :=
  act dt s fun d => ptpAnnounceOp d c b a
def execPtpAnnounceTimeout (dt : Nat) (c : Ctl) (b : Fin 2) (s : State) := act dt s fun d => ptpAnnounceTimeoutOp d c b
def execPtpSyncTimeout (dt : Nat) (c : Ctl) (b : Fin 2) (s : State) := act dt s fun d => ptpSyncTimeoutOp d c b

end Sys2Proof.Machine
end

