-- ==== Sys2Proof/Machine/Tiles.lean ====
section
/-! DEFINITION. Tiles, headers, seals and formats (R59 to R82), and the slots of surface memory (R219, R220). -/

namespace Sys2Proof.Machine

/-! ### Formats and grids (R59 to R61) -/

/-- Payload bytes of a tile by format code; 0 for code 0. -/
def tileBytes (fmt : Nat) : Nat := if fmt = 4 then 256 else if 1 ≤ fmt ∧ fmt ≤ 3 then 1024 else 0
def gridCols (w : Nat) : Nat := ceilDiv w 16
def gridRows (h : Nat) : Nat := ceilDiv h 16
def gridTiles (w h : Nat) : Nat := gridCols w * gridRows h

/-! ### The header (R62 to R66) -/

def hdrField (h : BitVec 128) (lsb w : Nat) : Nat := h.toNat / 2 ^ lsb % 2 ^ w
def hdrCheck (h : BitVec 128) : Nat := hdrField h 116 12
def hdrValid (h : BitVec 128) : Bool := h.getLsbD 115
def hdrOpaque (h : BitVec 128) : Bool := h.getLsbD 114
def hdrOrigin (h : BitVec 128) : Bool := h.getLsbD 113
def hdrLast (h : BitVec 128) : Bool := h.getLsbD 112
def hdrRsvd (h : BitVec 128) : Nat := hdrField h 108 4
/-- Source number: 12 bits, of which above 511 is invalid. -/
def hdrSource (h : BitVec 128) : Nat := hdrField h 96 12
def hdrSeq (h : BitVec 128) : Nat := hdrField h 80 16
def hdrCapture (h : BitVec 128) : Nat := hdrField h 32 48
def hdrCrc (h : BitVec 128) : Nat := hdrField h 0 32

/-- The header check over bits [115:0] (R66). -/
def checkOf (h : BitVec 128) : Nat := crc12 (bitsMsb 116 (h.toNat % 2 ^ 116))
def hdrGood (h : BitVec 128) : Bool := hdrCheck h == checkOf h

/-- A header from its fields, its check computed. -/
def mkHeader (valid opaq origin last : Bool) (source seq capture crc : Nat) : BitVec 128 :=
  let b (x : Bool) (k : Nat) : Nat := if x then 2 ^ k else 0
  let body := b valid 115 + b opaq 114 + b origin 113 + b last 112 + (source % 4096) * 2 ^ 96 + (seq % 65536) * 2 ^ 80 +
    (capture % 2 ^ 48) * 2 ^ 32 + crc % 2 ^ 32
  BitVec.ofNat 128 (crc12 (bitsMsb 116 body) * 2 ^ 116 + body)

/-- The signature of tile CRCs in tile order (R67). -/
def signatureOf (crcs : List Nat) : Nat := crc32c (crcs.flatMap (beBytes 4))
def frameSignature (tiles : Table Slot) : Nat := signatureOf (tiles.map fun e => hdrCrc e.2.hdr)

/-! ### Slots (R219, R220) -/

/-- Interfaces that hand out pages: IN_SERVICE. -/
def ifsPlacing (d : Device) (p : Nat) : List Nat := (List.range 4).filter fun m => (memIfAt d (ifKey p m)).state == 3

/-- MiB of one interface (R216). -/
def ifCapacity (m : MemIfUnit) : Nat := m.density / 16 * 2048 * m.ranks
def dieCapacity (d : Device) (p : Nat) : Nat :=
  ((ifsPlacing d p).map fun m => ifCapacity (memIfAt d (ifKey p m))).foldl (· + ·) 0

def openTiles (u : SrcUnit) : Table Slot := match u.opn with
  | some o => o.got
  | none => []
def frameTiles (f : Option Frame) : Table Slot := match f with
  | some f => f.tiles
  | none => []

/-- Every frame in use on die p: the newest, the selected, those in scan and the one held (R71, R14, R172). -/
def framesOf (d : Device) (p : Nat) : List Frame :=
  let a := (d.srcs.filter fun e => e.1 % 6 == p).filterMap fun e => e.2.frame
  let l := (List.range 32).filterMap fun i => (layerAt d (32 * p + i)).selected
  let sc (o : Option Scan) : List Frame := match o with
    | some s => s.layers.filterMap fun y => y.frame
    | none => []
  let h := (List.range 4).flatMap fun i => let s := scanAt d (4 * p + i); sc s.cur ++ sc s.ready ++ sc s.next
  a ++ l ++ h ++ (wbAt d p).held.toList

/-- Every tile in use on die p: of those frames and of the open ones. -/
def slotsOf (d : Device) (p : Nat) : List Slot :=
  let opens := (d.srcs.filter fun e => e.1 % 6 == p).flatMap fun e => openTiles e.2 ++ e.2.held
  ((framesOf d p).flatMap (·.tiles) ++ opens).map (·.2)

def slotNums (d : Device) (p : Nat) : List Nat := ((slotsOf d p).map (·.num)).eraseDups
/-- Bytes of header and payload in use on die p. -/
def bytesInUse (d : Device) (p : Nat) : Nat :=
  let l := slotsOf d p
  (slotNums d p).foldl (fun a n => match l.find? fun s => s.num == n with
    | some s => a + 16 + s.payload.length
    | none => a) 0

/-- Slots of a page, by kind: 0 header, 1 record, 2 descriptor, 3 + f payload of format f (R219). -/
def pageSlots (kind : Nat) : Nat := if kind = 0 then 256 else if kind ≤ 2 then 128 else if kind = 7 then 16 else 4

/-- A slot of the open page of a kind, or of a fresh page: pages go round-robin over the interfaces `ms` that hand them out
(R219). The second part is the interface. DEDUCED: notes/assumptions/24.md. -/
def placeSlot (ms : List Nat) (kind : Nat) (u : MemUnit) : MemUnit × Nat :=
  let new : MemUnit × Nat :=
    let m := ms.getD (u.nextIf % ms.length) 0
    ({ u with pages := tput u.pages kind { mem := m, used := 1 }, nextIf := u.nextIf + 1 }, m)
  match tfind u.pages kind with
  | some g =>
    if g.used < pageSlots kind ∧ ms.contains g.mem then ({ u with pages := tput u.pages kind { g with used := g.used + 1 } }, g.mem) else new
  | none => new

/-- A header slot and a payload slot for a tile, when memory has room. -/
def allocSlot (d : Device) (p : Nat) (hdr : BitVec 128) (payload : List Byte) : Device × Option Slot :=
  match ifsPlacing d p with
  | [] => (d, none)
  | ms =>
    if dieCapacity d p * 2 ^ 20 < bytesInUse d p + 256 * 2 ^ 20 + 16 + payload.length then (d, none)
    else
      let a := placeSlot ms 0 (memAt d p)
      let b := placeSlot ms (3 + regN d (0x5000 + hdrSource hdr) 4) a.1
      let n := b.1.alloc
      (setMem d p { b.1 with alloc := n + 1 }, some { num := n, hdr := hdr, payload := payload, hif := a.2, pif := b.2 })

/-- A record slot for a frame of die p (R219). -/
def allocRecord (d : Device) (p : Nat) (f : Frame) : Device × Frame :=
  let a := placeSlot (ifsPlacing d p) 1 (memAt d p)
  (setMem d p { a.1 with alloc := a.1.alloc + 1 }, { f with recNum := a.1.alloc, recIf := a.2 })

/-- The entries of a hardware queue of die p whose units the model holds: ingress, Spur out, and control (R207). -/
def queueEntries (d : Device) (p q : Nat) : Nat :=
  let u := queueAt d p
  if q < 16 then (tget u.flight q []).length else if q = 52 then u.ctl.length else (tget u.spurOut (q - 36) []).length
/-- The interfaces on which their descriptors lie, oldest first. -/
def descsOf (d : Device) (p q : Nat) : List Nat :=
  let l := tget (queueAt d p).descs q []
  l.drop (l.length - queueEntries d p q)
/-- Descriptor slots for `n` entries about to join queue q (R209, R219). -/
def descTake (d : Device) (p q n : Nat) : Device := match ifsPlacing d p with
  | [] => d
  | ms => (List.range n).foldl (fun d _ =>
    let a := placeSlot ms 2 (memAt d p)
    modQueue (setMem d p a.1) p fun u => { u with descs := tput u.descs q (tget u.descs q [] ++ [a.2]) })
    (modQueue d p fun u => { u with descs := tset [] u.descs q (descsOf d p q) })

/-- MEM_EXHAUSTED, at most once per second (R220). -/
def memExhausted (d : Device) (p : Nat) : Device :=
  raiseLimited (modMem d p fun m => { m with exhausted := m.exhausted + 1 }) (dieNo p) 31 (0x3014 + 0x100 * p) 0 []
    1000000000 none

/-- Slots for tiles in order; none when one cannot be allocated. -/
def allocTiles (d : Device) (p : Nat) : List (Nat × BitVec 128 × List Byte) → Device × Option (Table Slot)
  | [] => (d, some [])
  | (i, h, b) :: r =>
    match allocSlot d p h b with
    | (d, none) => (memExhausted d p, none)
    | (d, some s) => match allocTiles d p r with
      | (d, some t) => (d, some (tput t i s))
      | (d, none) => (d, none)

/-! ### Sealing (R68, R125) -/

/-- A pixel as the tile writer takes it, 12 bits a component (R125). -/
inductive Px where
  | rgb (r g b : Nat)
  | yuv (y cb cr : Nat)
  deriving DecidableEq, Repr, Inhabited

def field8 (o : Nat) : Nat := min 255 ((o + 8) / 16)
def field10 (o : Nat) : Nat := min 1023 ((o + 2) / 4)

/-- BT.709 luma of a 12-bit RGB pixel times 10,000. -/
def luma (r g b : Nat) : Nat := 2126 * r + 7152 * g + 722 * b
/-- Rounded half up. DEDUCED: notes/assumptions/23.md. -/
def roundDiv (n : Int) (m : Nat) : Int := (2 * n + Int.ofNat m) / (2 * Int.ofNat m)
def clampTo (lo hi : Nat) (v : Int) : Nat := if v < Int.ofNat lo then lo else if Int.ofNat hi < v then hi else v.toNat
/-- Y of BT.709, narrow range, 10 bits. -/
def y709 (r g b : Nat) : Nat := clampTo 64 940 (64 + roundDiv (Int.ofNat (876 * luma r g b)) (4095 * 10000))
/-- A chroma numerator, over 10,000: colour less luma. -/
def chromaNum (c r g b : Nat) : Int := Int.ofNat (10000 * c) - Int.ofNat (luma r g b)
/-- Cb of the mean of `k` pixels whose numerators sum to `n`; 1.8556 = 2 (1 - 0.0722). -/
def cb709 (n : Int) (k : Nat) : Nat := clampTo 64 960 (512 + roundDiv (896 * n) (18556 * 4095 * k))
/-- Cr likewise; 1.5748 = 2 (1 - 0.2126). -/
def cr709 (n : Int) (k : Nat) : Nat := clampTo 64 960 (512 + roundDiv (896 * n) (15748 * 4095 * k))

def pxY (p : Px) : Nat := match p with
  | .rgb r g b => y709 r g b
  | .yuv y _ _ => field10 y

/-- Chroma (Cb, Cr) of a pixel pair, 10 bits: the mean of RGB pixels, the even pixel of YUV. -/
def pairChroma (p : Px) (q : Option Px) : Nat × Nat := match p with
  | .yuv _ cb cr => (field10 cb, field10 cr)
  | .rgb r g b => match q with
    | some (.rgb r' g' b') =>
      (cb709 (chromaNum b r g b + chromaNum b' r' g' b') 2, cr709 (chromaNum r r g b + chromaNum r' r' g' b') 2)
    | _ => (cb709 (chromaNum b r g b) 1, cr709 (chromaNum r r g b) 1)

/-- Bytes of one pixel, or pixel half of a pair, in a stored format (R60). `even` is the pixel of the pair at the even
column and `odd` the other one. -/
def pxBytes (fmt : Nat) (p : Px) (isEven : Bool) (even : Px) (odd : Option Px) : List Byte :=
  if fmt = 1 then match p with
    | .rgb r g b => [255, BitVec.ofNat 8 (field8 r), BitVec.ofNat 8 (field8 g), BitVec.ofNat 8 (field8 b)]
    | .yuv y _ _ => let v := BitVec.ofNat 8 (field8 y); [255, v, v, v]
  else if fmt = 2 then match p with
    | .rgb r g b => beBytes 4 (3 * 2 ^ 30 + field10 r * 2 ^ 20 + field10 g * 2 ^ 10 + field10 b)
    | .yuv y _ _ => let v := field10 y; beBytes 4 (3 * 2 ^ 30 + v * 2 ^ 20 + v * 2 ^ 10 + v)
  else if fmt = 3 then
    let c := pairChroma even odd
    beBytes 2 ((if isEven then c.1 else c.2) * 64) ++ beBytes 2 (pxY p * 64)
  else match p with
    | .rgb r g b => [BitVec.ofNat 8 (field8 ((luma r g b + 5000) / 10000))]
    | .yuv y _ _ => [BitVec.ofNat 8 (field8 y)]

/-- The payload of tile i of a w × h frame of format fmt; padding is zero bytes (R61). -/
def tilePayload (fmt w h i : Nat) (px : Nat → Nat → Px) : List Byte :=
  (List.range 16).flatMap fun r => (List.range 16).flatMap fun c =>
    let x := 16 * (i % gridCols w) + c
    let y := 16 * (i / gridCols w) + r
    if x < w ∧ y < h then
      let e := x - x % 2
      pxBytes fmt (px x y) (x % 2 == 0) (px e y) (if e + 1 < w then some (px (e + 1) y) else none)
    else List.replicate (if fmt = 4 then 1 else 4) 0

/-- A tile of a grid is LAST at the highest index. -/
def isLast (w h i : Nat) : Bool := i + 1 == gridTiles w h

/-- The FLX8 seals a tile: ORIGIN clear. `opaq` is by R79. -/
def sealTile (source seq capture w h i : Nat) (opaq : Bool) (payload : List Byte) : BitVec 128 :=
  mkHeader true opaq false (isLast w h i) source seq capture (crc32c payload)

/-- Why a TPP tile is dropped at entry (R69, codes 8 to 11 of R113), 0 when it is not. -/
def tileDrop (source fmt : Nat) (t : TppTile) : Nat :=
  if !hdrGood t.hdr then 8
  else if !hdrValid t.hdr || !hdrOrigin t.hdr || hdrRsvd t.hdr != 0 then 9
  else if hdrSource t.hdr != source then 10
  else if crc32c t.payload != hdrCrc t.hdr || t.payload.length != tileBytes fmt then 11
  else 0

/-- The checks of R73 on a fetched tile: 0 verified, else the failure kind. -/
def verifyTile (source w h i : Nat) (hdr : BitVec 128) (payload : List Byte) : Nat :=
  if !hdrGood hdr then 2
  else if !hdrValid hdr then 3
  else if hdrRsvd hdr != 0 then 4
  else if hdrSource hdr != source || hdrLast hdr != isLast w h i then 5
  else if crc32c payload != hdrCrc hdr then 1
  else 0

/-- Bits of a value flipped on the way (R73's transfer damage). -/
def flipBits (h : BitVec 128) (l : List Nat) : BitVec 128 := l.foldl (fun h b => h ^^^ (BitVec.ofNat 128 (2 ^ b))) h
def flipBytes (p : List Byte) (l : List Nat) : List Byte :=
  l.foldl (fun p b => p.set (b / 8) ((p.getD (b / 8) 0) ^^^ (BitVec.ofNat 8 (2 ^ (7 - b % 8))))) p

/-! ### Damage in surface memory (R71, R77) -/

def mapFrame (g : Slot → Slot) (f : Frame) : Frame := { f with tiles := tmap (fun _ s => g s) f.tiles }
def mapScan (g : Slot → Slot) (S : Scan) : Scan :=
  { S with layers := S.layers.map fun L => { L with frame := L.frame.map (mapFrame g) } }

/-- The frames of a source unit, published, open and held, with their slots changed. -/
def mapUnit (g : Slot → Slot) (u : SrcUnit) : SrcUnit :=
  { u with frame := u.frame.map (mapFrame g), prior := u.prior.map (mapFrame g), held := tmap (fun _ s => g s) u.held,
           opn := u.opn.map fun o => { o with got := tmap (fun _ s => g s) o.got } }

/-- Every frame that refers to a slot of die p sees what became of it. -/
def mapDieSlots (d : Device) (p : Nat) (g : Slot → Slot) : Device :=
  { d with srcs := tmap (fun k u => if k % 6 = p then mapUnit g u else u) d.srcs,
           layers := tmap (fun n (u : LayerUnit) => if n / 32 = p then { u with selected := u.selected.map (mapFrame g) } else u) d.layers,
           scans := tmap (fun h (x : HeadScan) => if h / 4 = p then
             { x with cur := x.cur.map (mapScan g), ready := x.ready.map (mapScan g), next := x.next.map (mapScan g) } else x) d.scans,
           wbs := tmap (fun k (w : WbUnit) => if k = p then { w with held := w.held.map (mapFrame g) } else w) d.wbs }

/-- Damage to one slot stays until the slot is freed: a tile sent again goes to a fresh one. -/
def damageSlot (d : Device) (p num : Nat) (hf pf : List Nat) : Device :=
  mapDieSlots d p fun s => if s.num = num then { s with hdr := flipBits s.hdr hf, payload := flipBytes s.payload pf } else s

end Sys2Proof.Machine
end

