-- ==== Sys2Proof/Machine/Sources.lean ====
section
/-! DEFINITION. Sources, the tile push protocol, ST 2110 reception, the test pattern generator and export over the Spur
ring (R83 to R114, R473, R21, R27 to R29). Source status stands live under the index 0x10000 + 0x5200 + s and is copied
to 0x5200 + s at each snapshot of the owner die (R114). -/

namespace Sys2Proof.Machine

/-! ### Configuration and status -/

def srcCfg (d : Device) (s sub : Nat) : Nat := regN d (0x5000 + s) sub
/-- A subindex that takes effect at a snapshot (R85). -/
def srcFrc (d : Device) (s sub : Nat) : Nat := frcN d (0x5000 + s) sub
def srcOwner (d : Device) (s : Nat) : Nat := srcCfg d s 3
/-- Whether the source is enabled in force (R85), and as SourceEnable was last written. -/
def srcEnabled (d : Device) (s : Nat) : Bool := srcFrc d s 2 == 1
def srcOn (d : Device) (s : Nat) : Bool := srcCfg d s 2 == 1
def srcW (d : Device) (s : Nat) : Nat := srcCfg d s 5
def srcH (d : Device) (s : Nat) : Nat := srcCfg d s 6
def srcGrid (d : Device) (s : Nat) : Nat := gridTiles (srcW d s) (srcH d s)
def srcUnit (d : Device) (s p : Nat) : SrcUnit := srcAt d (srcKey s p)
def modSrcUnit (d : Device) (s p : Nat) (f : SrcUnit → SrcUnit) : Device := modSrc d (srcKey s p) f
def srcLossNs (d : Device) (s : Nat) : Nat := srcFrc d s 0x0C * 1000000
/-- The owner die, when it is assigned and out of reset. -/
def liveOwner (d : Device) (s : Nat) : Option Nat :=
  if srcOwner d s < 6 ∧ pixUp d (srcOwner d s) then some (srcOwner d s) else none

/-- Whether the switches forward units to die p (R91). -/
def forwards (d : Device) (p : Nat) : Bool := pixUp d p && [1, 2, 5].contains (pixAt d p).state

/-- The owner die, when units are forwarded to it: out of reset and its configuration reloaded (R91). -/
def sinkOwner (d : Device) (s : Nat) : Option Nat := if srcOwner d s < 6 ∧ forwards d (srcOwner d s) then some (srcOwner d s) else none

/-- The sources with a written register or a unit, each once: every other one is as at reset, kind 0 and nowhere
present. -/
def namedSources (d : Device) : List Nat :=
  (((d.regs ++ d.force).filterMap fun (e : Nat × Val) => if 0x5000 ≤ keyIdx e.1 ∧ keyIdx e.1 < 0x5200 then some (keyIdx e.1 - 0x5000) else none) ++
   d.srcs.map fun (e : Nat × SrcUnit) => e.1 / 6).eraseDups

/-- The live status of a source. -/
def srcLive (s : Nat) : Nat := 0x15200 + s
def srcBump (d : Device) (s sub k : Nat) : Device := bumpBy d (srcLive s) sub k

/-- A drop of the code of R113: codes 1 to 7 and 12 to 14 count as units, 8 to 11 as tiles (R92, R114); nothing is kept while
the owner die is in reset or not yet reloaded (R91). DEDUCED: notes/assumptions/34.md. -/
def srcDrop (d : Device) (s code : Nat) : Device :=
  if srcOwner d s < 6 ∧ (sinkOwner d s).isNone then d
  else
    let d := setN d (srcLive s) 0x0A code
    if 8 ≤ code ∧ code ≤ 11 then srcBump d s 9 1 else if code ≤ 14 then srcBump d s 8 1 else d

/-- A capture time of a base (1 TB0, 2 TB1, 3 TB2) converted to TB1 on die p (R18). -/
def toTb1 (q : PixelDie) (tb capture : Nat) : Nat :=
  if tb = 2 then capture % 2 ^ 48
  else (Int.ofNat capture + Int.ofNat q.tb1.ns - Int.ofNat (copyOf q (tb - 1)).ns) % (2 ^ 48) |>.toNat

def hours (n : Nat) : Nat := n * 3600 * 1000000000

/-- Old at publication (R21). -/
def oldAtPublication (q : PixelDie) (tb capture : Nat) : Bool :=
  decide (Int.ofNat (hours 24) ≤ diff48 q.tb1.ns (toTb1 q tb capture))

/-- A signal: the timer restarts and SIGNAL_LOST or STOPPED is left (R88). -/
def srcSignal (d : Device) (s p : Nat) : Device :=
  modSrcUnit d s p fun u => { u with lastSignal := d.mono, state := if u.frame.isSome then 3 else 2 }

/-! ### Export (R108 to R112) -/

/-- Whether the shorter way from p to q runs in ascending die order. -/
def spurAscending (p q : Nat) : Bool := decide ((q + 6 - p) % 6 ≤ 3)
/-- The dies after p on the way to q in ascending or descending order, q last. -/
def spurWay (asc : Bool) (p q : Nat) : List Nat :=
  if asc then (List.range ((q + 6 - p) % 6)).map fun i => (p + i + 1) % 6
  else (List.range ((p + 6 - q) % 6)).map fun i => (p + 5 - i) % 6
def spurRoute (p q : Nat) : List Nat := spurWay (spurAscending p q) p q
def spurQueue (asc protected_ : Bool) : Nat := (if asc then 0 else 2) + (if protected_ then 0 else 1)

def srcProtected (d : Device) (s : Nat) : Bool := srcFrc d s 0x0D == 1
/-- The dies of a source's export mask in force. -/
def exportDies (d : Device) (s : Nat) : List Nat := (List.range 6).filter fun q => (srcFrc d s 0x0E).testBit q && q != srcOwner d s
/-- The dies of the mask as written, which admission counts (R204, R205). -/
def maskDies (d : Device) (s : Nat) : List Nat := (List.range 6).filter fun q => (srcCfg d s 0x0E).testBit q && q != srcOwner d s
def dieStage (d : Device) (p : Nat) : Nat := (railAt d (dieNo p)).stage
/-- Whether die p's shedding stops tiles and publish records of source s (R112). -/
def shedExport (d : Device) (s p : Nat) : Bool := decide (2 ≤ dieStage d p) && !srcProtected d s

def spurOutOf (d : Device) (p k : Nat) : List SpurItem := tget (queueAt d p).spurOut k []

/-- Tiles that the owner still has to send to a die (R109). -/
def owe (d : Device) (s dest : Nat) (idx : List Nat) : Device :=
  let o := srcOwner d s
  modSrcUnit d s o fun u => { u with owed := u.owed ++ ((idx.map fun i => (dest, i)).filter fun e => !u.owed.contains e) }

def owedTo (u : SrcUnit) (q : Nat) : List Nat := (u.owed.filter fun e => e.1 == q).map (·.2)

/-- The link from die a to its neighbour b carries traffic: b is out of reset and the link has trained again (R413). -/
def hopUp (d : Device) (a b : Nat) : Bool := pixUp d b && !d.crossings.contains (dieNo a, 2, dieNo b)
def wayUp (d : Device) (asc : Bool) (p q : Nat) : Bool :=
  let l := spurWay asc p q
  ((p :: l).zip l).all fun e => hopUp d e.1 e.2
/-- The direction that export to q takes: that of R108, the other way round since a die on it went into reset, or none (R414). -/
def spurDir (d : Device) (p q : Nat) : Option Bool :=
  let asc := spurAscending p q
  [if (queueAt d p).detour.contains q then !asc else asc, asc, !asc].find? fun a => wayUp d a p q
/-- Die r goes into reset: what R108 routes through it goes the other way round. -/
def spurDetour (d : Device) (r : Nat) : Device :=
  forEach d (List.range 6) fun d p =>
    let l := (List.range 6).filter fun q => p != q && q != r && p != r && (spurRoute p q).contains r && !(queueAt d p).detour.contains q
    if l = [] then d else modQueue d p fun u => { u with detour := u.detour ++ l }
/-- At a publish the routes of R108 whose links are up again are taken again (R414). DEDUCED: notes/assumptions/229.md. -/
def spurHome (d : Device) (p : Nat) : Device :=
  if (queueAt d p).detour = [] then d
  else
    let stay := (queueAt d p).detour.filter fun q => !wayUp d (spurAscending p q) p q
    modQueue d p fun u => { u with detour := stay }

def isTile (x : SpurItem) : Bool := match x with
  | .tile .. => true
  | _ => false
/-- What an item is for: source and destination. -/
def itemFor (x : SpurItem) : Nat × Nat := match x with
  | .tile s q _ _ => (s, q)
  | .publish s q _ => (s, q)
  | .status s q _ _ => (s, q)

/-- How much of a list of items lies in the out queue: up to its 128th tile (R207). What follows waits for a credit. -/
def queuedLen : List SpurItem → Nat → Nat
  | [], _ => 0
  | x :: r, n => if isTile x then (if n = 0 then 0 else queuedLen r (n - 1) + 1) else queuedLen r n + 1
def inQueue (l : List SpurItem) : List SpurItem := l.take (queuedLen l 128)
def spurFill (l : List SpurItem) : Nat := ((inQueue l).filter isTile).length

/-- The highest fill of a queue in per cent, since last read. -/
def fillMark (u : QueueUnit) (q fill depth : Nat) : QueueUnit :=
  { u with high := tput u.high q (max (tget u.high q 0) (fill * 100 / depth)) }

/-- Items are queued toward the next die of queue k. While that die is in reset a tile is owed and a record discarded
(R413). -/
def spurPut (d : Device) (p k : Nat) (l : List SpurItem) : Device :=
  if l = [] then d
  else if hopUp d p (if k < 2 then (p + 1) % 6 else (p + 5) % 6) then
    modQueue (descTake d p (36 + k) l.length) p fun u =>
      let all := tget u.spurOut k [] ++ l
      fillMark { u with spurOut := tput u.spurOut k all } (36 + k) (spurFill all) 128
  else l.foldl (fun d (x : SpurItem) => match x with
    | .tile s q i _ => owe d s q [i]
    | _ => d) d

/-- Tiles and records of source s for die q that found no credit before the next frame came: dropped with SPUR_FULL, the tiles
owed (R109, R113). DEDUCED: notes/assumptions/30.md. -/
def spurOvertaken (d : Device) (s o q k : Nat) : Device :=
  let l := spurOutOf d o k
  let n := queuedLen l 128
  let mine (x : SpurItem) : Bool := itemFor x == (s, q)
  let lost := ((l.drop n).filter mine).filterMap fun x => match x with
    | .tile _ _ i _ => some i
    | _ => none
  if (l.drop n).any mine then
    let d := modQueue d o fun u => { u with spurOut := tput u.spurOut k (l.take n ++ (l.drop n).filter fun x => !mine x) }
    if lost = [] then d else setN (owe d s q lost) (srcLive s) 0x0A 15
  else d

/-- Tiles of indices `idx` of a frame start for die `q`; shedding, or no route, leaves them owed. `rec` asks for the publish
record after them. -/
def spurSend (d : Device) (s o q : Nat) (f : Frame) (idx : List Nat) (rec_ : Bool) : Device :=
  match spurDir d o q with
  | none => owe d s q idx
  | some asc =>
  if shedExport d s o then setN (owe d s q idx) (srcLive s) 0x0A 16
  else
    let k := spurQueue asc (srcProtected d s)
    let d := spurOvertaken d s o q k
    let idx := (idx ++ owedTo (srcUnit d s o) q).eraseDups
    let tiles := idx.filterMap fun i => (tfind f.tiles i).map fun sl => SpurItem.tile s q i sl
    let d := modSrcUnit d s o fun u => { u with owed := u.owed.filter fun e => e.1 != q }
    spurPut d o k (tiles ++ (if rec_ then [SpurItem.publish s q { f with tiles := [] }] else []))

/-- The publish record of a reseal goes alone (R109). -/
def spurRecord (d : Device) (s o q : Nat) (f : Frame) : Device := match spurDir d o q with
  | none => d
  | some asc => if shedExport d s o then setN d (srcLive s) 0x0A 16
    else spurPut d o (spurQueue asc (srcProtected d s)) [SpurItem.publish s q { f with tiles := [] }]

/-- The owner exports a published frame: the tiles written in it and those owed, then the record; a reseal the record
alone (R109). -/
def exportFrame (d : Device) (s o : Nat) (f : Frame) (written : List Nat) (reseal : Bool) : Device :=
  forEach (spurHome d o) (exportDies d s) fun d q =>
    if reseal then spurRecord d s o q f else spurSend d s o q f (written ++ owedTo (srcUnit d s o) q).eraseDups true

/-- Every tile owed is sent (R112, R390). -/
def sendOwed (d : Device) (s : Nat) : Device :=
  match liveOwner d s with
  | none => d
  | some o => match (srcUnit d s o).frame with
    | none => d
    | some f => forEach d (exportDies d s) fun d q =>
        let idx := owedTo (srcUnit d s o) q
        if idx = [] then d else spurSend d s o q f idx false

/-- The status record of an exported source (R111). DEDUCED: notes/assumptions/31.md. -/
def spurStatus (d : Device) (s : Nat) : Device :=
  match liveOwner d s with
  | none => d
  | some o =>
    let u := srcUnit d s o
    forEach d (exportDies d s) fun d q =>
      match spurDir d o q with
      | some asc => spurPut d o (spurQueue asc (srcProtected d s)) [SpurItem.status s q u.state u.differ]
      | none => d

/-- Status records go out at every tick of die p (R111). -/
def spurStatusTick (d : Device) (p : Nat) : Device :=
  forEach d (namedSources d) fun d s => if srcOwner d s = p ∧ srcFrc d s 0x0E ≠ 0 ∧ srcEnabled d s then spurStatus d s else d

/-! ### Publication (R14, R21, R27 to R29, R64, R71) -/

/-- A die publishes a frame: the publication instant and EXPIRED mark of R21, the repeats of R27, and the differing
tiles of R29 that it wrote anew. -/
def publishOn (d : Device) (s p : Nat) (f : Frame) (written : List Nat) : Device :=
  let q := pixAt d p
  let (d, f) := allocRecord d p
    { f with published := q.tb2.ns, expired := oldAtPublication q (srcCfg d s 7) f.capture, base := srcCfg d s 7 }
  modSrcUnit d s p fun u =>
    let same := match u.frame with
      | some g => g.signature == f.signature
      | none => false
    { u with frame := some f, prior := (match u.frame with
        | some g => if g.published = q.tb2.ns then u.prior else some g
        | none => none), before := (if u.frame.any fun g => g.published == q.tb2.ns then u.before else (u.repeats, u.firstCap, u.differ)), repeats := if same then u.repeats + 1 else 0, firstCap := if same then u.firstCap else f.capture,
             differ := u.differ.filter fun i => !written.contains i, state := if u.state = 2 then 3 else u.state }

/-- The owner die publishes: status and export as well (R98, R106, R109, R114). -/
def publish (d : Device) (s o : Nat) (f : Frame) (written : List Nat) (reseal : Bool) : Device :=
  let d := publishOn d s o f written
  let d := setN d (srcLive s) 2 (2 ^ 31 + f.seq)
  let d := setN d (srcLive s) 3 (2 ^ 63 + f.capture)
  let d := setN d (srcLive s) 4 (2 ^ 63 + f.signature)
  let d := srcBump d s 5 1
  exportFrame d s o ((srcUnit d s o).frame.getD f) written reseal

/-- A frame of a source from its tiles. -/
def mkFrame (d : Device) (s seq capture : Nat) (tiles : Table Slot) : Frame :=
  { source := s, seq := seq, capture := capture, signature := frameSignature tiles, declUnc := srcFrc d s 8 * 1000,
    origin := tiles.all fun e => hdrOrigin e.2.hdr, expired := false, published := 0, width := srcW d s, height := srcH d s,
    format := srcCfg d s 4, base := srcCfg d s 7, recNum := 0, recIf := 0, tiles := tiles }

/-- A frame that the FLX8 seals itself on die o, every tile written anew (CAM, WB, INT): false when a slot could not be
allocated. -/
def publishSealed (d : Device) (s o seq capture decl : Nat) (px : Nat → Nat → Px) : Device × Bool :=
  let w := srcW d s
  let h := srcH d s
  let fmt := srcCfg d s 4
  let tiles := (List.range (gridTiles w h)).map fun i =>
    let b := tilePayload fmt w h i px
    (i, sealTile s seq capture w h i true b, b)
  match allocTiles d o tiles with
  | (d, none) => (d, false)
  | (d, some t) => (publish d s o { mkFrame d s seq capture t with declUnc := decl } (t.map (·.1)) false, true)

/-! ### TPP (R94 to R100) -/

/-- The ingress queue of a unit of source s that arrived on a port (R90). -/
def ingressQueue (d : Device) (s c : Nat) : Nat := 8 * c + srcFrc d s 0x10
def iqUsed (d : Device) (p q : Nat) : Nat := tget (queueAt d p).credits q 0
/-- A unit of source s with tiles `idx` takes a credit of queue q and travels to die p (R91, R210). -/
def iqTake (d : Device) (p q s : Nat) (idx : List Nat) : Device :=
  modQueue (descTake d p q 1) p fun u =>
    let n := tget u.fill q 0 + 1
    fillMark { u with credits := tset 0 u.credits q (tget u.credits q 0 + 1), fill := tset 0 u.fill q n,
                      flight := tput u.flight q (tget u.flight q [] ++ [(s, idx)]) } q n 128
def iqGive (d : Device) (p q : Nat) : Device :=
  modQueue d p fun u =>
    let n := tget u.credits q 0 - 1
    { u with credits := tset 0 u.credits q n, fill := tset 0 u.fill q (min n (tget u.fill q 0)),
             flight := tset [] u.flight q ((tget u.flight q []).drop 1) }

/-- A tile written with VALID clear (R72). -/
def voidHdr (h : BitVec 128) : BitVec 128 := h &&& ~~~(BitVec.ofNat 128 (2 ^ 115))
def voidTile (t : Table Slot) (i : Nat) : Table Slot := match tfind t i with
  | some s => tput t i { s with hdr := voidHdr s.hdr }
  | none => t

/-- A unit of tiles that never reaches surface memory: its frame cannot complete (R72, R209). `gone` says what becomes of a
tile in the frames it was meant for. -/
def unitLost (d : Device) (p s : Nat) (idx : List Nat) (gone : Table Slot → Nat → Table Slot) : Device :=
  modSrcUnit d s p fun u =>
    { u with opn := u.opn.map fun o => { o with spoiled := true, got := idx.foldl gone o.got, differ := o.differ.filter fun i => !idx.contains i },
             held := idx.foldl gone u.held }

/-- Units on their way from control die c to die p as one of the two is reset: their tiles are written with VALID clear, the
frames that hold them are not published, and the credits are whole again when the link comes back (R72, R413). -/
def spoilFlight (d : Device) (p c : Nat) : Device :=
  let qs := (List.range 8).map (8 * c + ·)
  let units := qs.flatMap fun q => tget (queueAt d p).flight q []
  let d := forEach d units fun d e => unitLost d p e.1 e.2 voidTile
  modQueue d p fun u => { u with credits := qs.foldl tdel u.credits, fill := qs.foldl tdel u.fill, flight := qs.foldl tdel u.flight }

def tppLength (op count bytes : Nat) : Nat :=
  if op = 1 then 32 + count * (16 + bytes) else if op = 2 then 32 + 16 * count else if op = 3 then 32 else 24

/-- Source 0 to 511 of a TPP datagram (R92, R94). -/
def tppSource (h : TppHeader) : Nat := h.source % 512

/-- Checks 1 and 2 of R96. -/
def tppForm (d : Device) (h : TppHeader) (op st : Nat) : Nat :=
  let s := tppSource h
  if h.magic ≠ 0xCE71 ∨ h.version ≠ 1 ∨ h.op ≠ op ∨ (op = 4 ∧ st ≠ 1 ∧ st ≠ 2) then 1
  else if h.len ≠ tppLength op h.count (tileBytes (srcCfg d s 4)) ∨ (op ≤ 2 ∧ (h.count < 1 ∨ 8 < h.count)) ∨ (2 < op ∧ h.count ≠ 0) ∨
      512 ≤ h.source ∨ 2 ≤ h.flags ∨ h.bodyRsvd ∨ (op = 4 ∧ h.seq ≠ 0) then 2
  else 0

/-- Checks 3 and 4 of R96. -/
def tppAllowed (d : Device) (h : TppHeader) (peer : Endpoint) : Nat :=
  let s := tppSource h
  let x := sessAt d h.session
  if 8 ≤ h.session ∨ x.state ≠ 3 ∨ !x.roles.testBit 1 ∨ srcFrc d s 0x0F ≠ h.session ∨ x.endpoint ≠ some peer then 3
  else if !srcEnabled d s ∨ srcCfg d s 1 ≠ 1 then 4
  else 0

/-- Check 5 of R96. -/
def tppIndices (d : Device) (s : Nat) (idx : List Nat) : Nat :=
  if idx.any (fun i => srcGrid d s ≤ i) ∨ idx.eraseDups.length ≠ idx.length then 5 else 0

/-- The FIELD_MISMATCH drops of R97 for an update (op 1) or reseal (op 2) of sequence `seq`. -/
def tppFrameMismatch (d : Device) (s op seq : Nat) : Bool :=
  match sinkOwner d s with
  | none => false
  | some o =>
    let u := srcUnit d s o
    let reuse := match u.frame with
      | some f => f.seq == seq
      | none => op == 2
    let mixed := match u.opn with
      | some x => x.seq == seq && x.reseal != (op == 2)
      | none => false
    reuse || mixed

/-- Check 7 of R96: a credit for the destination queue (R91). -/
def tppFull (d : Device) (s c : Nat) : Nat :=
  let o := srcOwner d s
  if o < 6 ∧ forwards d o ∧ iqUsed d o (ingressQueue d s c) < 128 then 0 else 7

def firstOf (l : List Nat) : Nat := match l.find? (· != 0) with
  | some x => x
  | none => 0

/-- Tiles of a dropped datagram whose index block was readable were sent and lost (R98). -/
def noteLost (d : Device) (s seq : Nat) (idx : List Nat) : Device :=
  match sinkOwner d s with
  | none => d
  | some o => modSrcUnit d s o fun u => { u with lost := u.lost ++ idx.map fun i => (seq, i) }

/-- An accepted datagram (R88, R91). -/
def tppAccept (d : Device) (s o c : Nat) (idx : List Nat) : Device :=
  srcSignal (srcBump (iqTake d o (ingressQueue d s c) s idx) s 7 1) s o

/-- The open frame of the datagram's sequence; another open frame is abandoned (R97). -/
def tppOpen (d : Device) (s o seq : Nat) (reseal : Bool) : Device :=
  let u := srcUnit d s o
  let new : OpenFrame := { seq := seq, reseal := reseal, got := [], covered := [], differ := [], spoiled := false }
  match u.opn with
  | some x =>
    if x.seq = seq then d
    else srcBump (modSrcUnit d s o fun u => { u with opn := some new, lost := u.lost.filter fun e => e.1 == seq }) s 6 1
  | none => modSrcUnit d s o fun u => { u with opn := some new, lost := u.lost.filter fun e => e.1 == seq }

/-- The newest frame's tiles with the received ones in their place (R98). -/
def overlay (old new : Table Slot) : Table Slot := new.foldl (fun t e => tput t e.1 e.2) old

/-- A tile of an accepted update that is dropped alone (R69). DESIGN CHOICE: notes/assumptions/25.md. DESIGN CHOICE: notes/assumptions/172.md. -/
def tppTile (d : Device) (s seq : Nat) (t : TppTile) : Device :=
  let why := tileDrop s (srcCfg d s 4) t
  if why ≠ 0 then noteLost (srcDrop d s why) s seq [t.index] else d

/-- The other tiles are stored in fresh slots, headers as sent (R71, R79, R97); a slot that cannot be allocated drops the unit
(R220). -/
def tppStore (d : Device) (s o seq : Nat) (tiles : List TppTile) : Device :=
  let good := tiles.filter fun t => tileDrop s (srcCfg d s 4) t == 0
  match allocTiles d o (good.map fun t => (t.index, t.hdr, t.payload)) with
  | (d, none) => noteLost d s seq (good.map (·.index))
  | (d, some new) => modSrcUnit d s o fun u => { u with opn := u.opn.map fun x => { x with got := overlay x.got new } }

/-- DEDUCED: notes/assumptions/173.md. -/
def tppTileUpdateOp (d : Device) (port : Nat) (peer : Endpoint) (h : TppHeader) (tiles : List TppTile) : Device :=
  let s := tppSource h
  let c := ctlOfPort port
  if !hostPort d port then d
  else
    let idx := tiles.map (·.index)
    let field := tiles.any (fun t => hdrSeq t.hdr != h.seq || hdrLast t.hdr != isLast (srcW d s) (srcH d s) t.index) ||
      tppFrameMismatch d s 1 h.seq
    let why := firstOf [tppForm d h 1 1, tppAllowed d h peer, tppIndices d s idx, if field then 6 else 0, tppFull d s c]
    if why ≠ 0 then
      let d := srcDrop d s why
      if [3, 4, 6, 7].contains why then noteLost d s h.seq idx else d
    else
      let o := srcOwner d s
      let d := forEach (tppOpen (tppAccept d s o c idx) s o h.seq false) tiles fun d t => tppTile d s h.seq t
      if barred d (dieNo o) 4 true then noteLost (ingressDenied d o) s h.seq idx else tppStore d s o h.seq tiles

/-- One tile header of an accepted reseal: its CRC is compared with the stored one as it arrives (R100, R77). -/
def tppResealTile (d : Device) (s o : Nat) (t : Nat × BitVec 128) : Device :=
  let why := if !hdrGood t.2 then 8 else if !hdrValid t.2 || !hdrOrigin t.2 || hdrRsvd t.2 != 0 then 9
    else if hdrSource t.2 != s then 10 else 0
  if why ≠ 0 then srcDrop d s why
  else
    let stored := match (srcUnit d s o).frame with
      | some f => (tfind f.tiles t.1).map fun sl => hdrCrc sl.hdr
      | none => none
    let bad := stored != some (hdrCrc t.2)
    modSrcUnit d s o fun u =>
      { u with opn := u.opn.map fun x =>
          { x with covered := if x.covered.contains t.1 then x.covered else x.covered ++ [t.1],
                   differ := if bad && !x.differ.contains t.1 then x.differ ++ [t.1] else x.differ } }

def tppResealOp (d : Device) (port : Nat) (peer : Endpoint) (h : TppHeader) (tiles : List (Nat × BitVec 128)) : Device :=
  let s := tppSource h
  let c := ctlOfPort port
  if !hostPort d port then d
  else
    let why := firstOf [tppForm d h 2 1, tppAllowed d h peer, tppIndices d s (tiles.map (·.1)),
      if tppFrameMismatch d s 2 h.seq then 6 else 0, tppFull d s c]
    if why ≠ 0 then srcDrop d s why
    else
      let o := srcOwner d s
      let d := tppOpen (tppAccept d s o c (tiles.map (·.1))) s o h.seq true
      if barred d (dieNo o) 4 true then ingressDenied d o else forEach d tiles fun d t => tppResealTile d s o t

def minOf (l : List Nat) : Nat := l.foldl min (l.headD 0)

/-- A frame is not published: freed and counted, with its event (R98). -/
def srcReject (d : Device) (s o code : Nat) (detail : List Nat) : Device :=
  raiseSrc (srcBump (modSrcUnit d s o fun u => { u with opn := none, lost := [] }) s 6 1) (dieNo o) code (0x5000 + s) s detail

/-- The three checks of R98 in order. DESIGN CHOICE: notes/assumptions/26.md. -/
def closeUpdate (d : Device) (s o : Nat) (x : OpenFrame) (fc : FrameClose) : Device :=
  let u := srcUnit d s o
  let miss := ((u.lost.filter fun e => e.1 == x.seq).map (·.2)).filter fun i => (tfind x.got i).isNone
  let all := overlay (frameTiles u.frame) x.got
  if x.got.length ≠ fc.count then
    srcReject d s o 4 [if miss = [] then 0xFFFF else minOf miss, wordI16 (Int.ofNat fc.count - Int.ofNat x.got.length)]
  else if x.spoiled ∨ all.length ≠ srcGrid d s then srcReject d s o 4 [0xFFFF, 0]
  else if frameSignature all ≠ fc.signature then srcReject d s o 3 []
  else
    let d := modSrcUnit d s o fun u => { u with opn := none, lost := [] }
    publish d s o (mkFrame d s x.seq fc.capture all) (x.got.map (·.1)) false

/-- A mismatched reseal (R29): every layer showing the source takes BROKEN from the next tick. -/
def resealMismatch (d : Device) (s o : Nat) (differ : List Nat) : Device :=
  let d := srcBump (modSrcUnit d s o fun u =>
    { u with opn := none, differ := (u.differ ++ differ).eraseDups, differAt := if u.differ = [] then d.mono else u.differAt }) s 0x0C 1
  spurStatus (raiseSrc d (dieNo o) 1 (0x5000 + s) s [minOf differ]) s

/-- The outcomes of R100. -/
def closeReseal (d : Device) (s o : Nat) (x : OpenFrame) (fc : FrameClose) : Device :=
  if x.differ ≠ [] then resealMismatch d s o x.differ
  else match (srcUnit d s o).frame with
    | some f =>
      if x.covered.length = srcGrid d s ∧ !x.spoiled then
        let d := srcBump (modSrcUnit d s o fun u => { u with opn := none }) s 0x0B 1
        publish d s o { f with seq := x.seq, capture := fc.capture, declUnc := srcFrc d s 8 * 1000 } [] true
      else raiseSrc (srcBump (modSrcUnit d s o fun u => { u with opn := none }) s 0x0C 1) (dieNo o) 5 (0x5000 + s) s []
    | none => raiseSrc (srcBump (modSrcUnit d s o fun u => { u with opn := none }) s 0x0C 1) (dieNo o) 5 (0x5000 + s) s []

/-- Whether an END_OF_FRAME fits the open frame: same sequence, and a count of 0 exactly for a reseal (R98, R100). -/
def closeFits (d : Device) (s seq count : Nat) : Bool :=
  match sinkOwner d s with
  | none => true
  | some o => match (srcUnit d s o).opn with
    | some x => x.seq == seq && (count == 0) == x.reseal
    | none => false

def tppEndOfFrameOp (d : Device) (port : Nat) (peer : Endpoint) (h : TppHeader) (fc : FrameClose) : Device :=
  let s := tppSource h
  let c := ctlOfPort port
  if !hostPort d port then d
  else
    let why := firstOf [tppForm d h 3 1, tppAllowed d h peer, if closeFits d s h.seq fc.count then 0 else 6, tppFull d s c]
    if why ≠ 0 then srcDrop d s why
    else
      let o := srcOwner d s
      let d := tppAccept d s o c []
      if barred d (dieNo o) 4 true then ingressDenied d o else match (srcUnit d s o).opn with
      | some x => if x.reseal then closeReseal d s o x fc else closeUpdate d s o x fc
      | none => d

/-- The offset of a keepalive's time from the owner die's copy of the base, ns (R88, "Keepalives"). DEDUCED: notes/assumptions/46.md. -/
def keepaliveOffset (d : Device) (s o time : Nat) : Int := diff48 time (copyOf (pixAt d o) (srcCfg d s 7 - 1)).ns

def tppKeepaliveOp (d : Device) (port : Nat) (peer : Endpoint) (h : TppHeader) (time st : Nat) : Device :=
  let s := tppSource h
  let c := ctlOfPort port
  if !hostPort d port then d
  else
    let why := firstOf [tppForm d h 4 st, tppAllowed d h peer, tppFull d s c]
    if why ≠ 0 then srcDrop d s why
    else
      let o := srcOwner d s
      let d := tppAccept d s o c []
      let d := if st = 2 then modSrcUnit d s o fun u => { u with state := 5 } else d
      let e := keepaliveOffset d s o time
      if (copyOf (pixAt d o) (srcCfg d s 7 - 1)).loaded ∧ srcFrc d s 8 * 1000 < e.natAbs then
        raiseD d (dieNo o) 7 (0x5000 + s) [wordI16 (Int.tdiv e 1000)]
      else d

/-- INGRESS_UNATTRIBUTED, at most once per second per port (R92). -/
def unattributedOp (d : Device) (port : Nat) : Device :=
  let c := ctlOfPort port
  if !hostPort d port then d
  else
    let e := tget d.unattr port (0, 0)
    let n := e.2 + 1
    if (tfind d.unattr port).isSome ∧ d.mono < e.1 + 1000000000 then { d with unattr := tput d.unattr port (e.1, n) }
    else raiseFull { d with unattr := tput d.unattr port (d.mono, 0) } c 6 1 0 n [word16 n] none

/-- The bytes of a unit: a TPP datagram or up to 8 tiles (R90, R94). -/
def unitBytes (d : Device) (e : Nat × List Nat) : Nat :=
  (if srcCfg d e.1 1 = 1 then 32 else 0) + e.2.length * (16 + tileBytes (srcCfg d e.1 4))
/-- Which of IQk and IQ(8+k) has its turn, they alternate, and the bytes of its first unit (R210). DEDUCED: notes/assumptions/87.md. -/
def iqTurn (d : Device) (p k : Nat) : Option (Nat × Nat) :=
  let first := if tget (queueAt d p).lastIq k 0 = 1 then k + 8 else k
  ([first, (first + 8) % 16].find? fun q => decide (0 < iqUsed d p q)).map fun q =>
    (q, match tget (queueAt d p).flight q [] with
      | [] => 0
      | e :: _ => unitBytes d e)

/-- The queue that the deficit round robin of die p serves next, and the bytes granted to each k as it is served (R210): a visit to k
grants 8 - k bytes, the k served last is served on while its grant lasts, and visits go round in ascending k. -/
def iqNext (d : Device) (p : Nat) : Option (Nat × Table Nat) :=
  let u := queueAt d p
  let waiting := (List.range 8).filterMap fun k => (iqTurn d p k).map fun e => (k, e.1, e.2)
  match waiting.find? fun e => e.1 == u.turn && decide (e.2.2 ≤ tget u.deficit e.1 0) with
  | some e => some (e.2.1, u.deficit)
  | none =>
    let far (k : Nat) : Nat := (k + 7 - u.turn) % 8
    let visit (e : Nat × Nat × Nat) : Nat := (max 1 (ceilDiv (e.2.2 - tget u.deficit e.1 0) (8 - e.1)) - 1) * 8 + far e.1
    match waiting with
    | [] => none
    | e :: r =>
      let best := r.foldl (fun a b => if visit b < visit a then b else a) e
      let n := visit best
      some (best.2.1, waiting.map fun b => (b.1, tget u.deficit b.1 0 + (n + 8 - far b.1) / 8 * (8 - b.1)))

/-- Queue q of die p is served: its bytes are paid for, a queue that is empty keeps no grant (R210). -/
def iqServe (d : Device) (p q : Nat) (granted : Table Nat) : Device :=
  let k := q % 8
  let paid := match tget (queueAt d p).flight q [] with
    | [] => 0
    | e :: _ => unitBytes d e
  let d := iqGive d p q
  let left := if iqUsed d p k = 0 ∧ iqUsed d p (k + 8) = 0 then 0 else tget granted k 0 - paid
  modQueue d p fun u => { u with lastIq := tset 0 u.lastIq k (q / 8 + 1), deficit := tset 0 granted k left, turn := k }

/-- The last tile of a unit is written: its credit returns (R210). -/
def ingressUnitStoredOp (d : Device) (p q : Nat) : Device :=
  match iqNext d p with
  | some (n, granted) => if n = q then iqServe d p q granted else d
  | none => d

/-! ### ST 2110 (R101 to R107) -/

/-- The path of an ST 2110 packet: an enabled source and 0 primary or 1 secondary (R92, R103). -/
def rtpRoute (d : Device) (port group udp : Nat) : Option (Nat × Nat) :=
  (namedSources d).findSome? fun s =>
    if srcEnabled d s && srcCfg d s 1 == 2 then
      if srcCfg d s 0x11 == port && srcCfg d s 0x12 == group && srcCfg d s 0x13 == udp then some (s, 0)
      else if srcCfg d s 0x14 == port && srcCfg d s 0x15 == group && srcCfg d s 0x16 == udp then some (s, 1)
      else none
    else none

def st2110Ctl (d : Device) (s : Nat) : Nat := srcCfg d s 0x11 / 2
def st2110Protected (d : Device) (s : Nat) : Bool := srcCfg d s 0x14 < 4
def st2110Bands (d : Device) (s : Nat) : Nat := gridRows (srcH d s)

/-- The capture time of R105 from the RTP timestamp and the arrival time in the source's base. -/
def rtpCapture (ts arrival : Nat) : Nat :=
  let a : Int := Int.ofNat (arrival * 9 / 100000)
  let e : Int := (Int.ofNat ts - a) % (2 ^ 32)
  let k : Int := if e ≤ 2 ^ 31 then a + e else a + e - 2 ^ 32
  (k * 100000 / 9 % (2 ^ 48)).toNat

/-- Packets of the frame in assembly that arrived on neither path, up to extended sequence `last`. DESIGN CHOICE: notes/assumptions/29.md. -/
def rtpMissing (u : St2110Unit) (last : Nat) : Nat :=
  let first := match u.prevMax with
    | some m => m + 1
    | none => if u.seen = [] then last + 1 else minOf u.seen
  last + 1 - first - u.seen.length

def maxOf (l : List Nat) : Nat := l.foldl max 0

/-- One of two 32-bit RTP timestamps is not later than the other. -/
def rtpNotAfter (a b : Nat) : Bool := decide ((a + 2 ^ 32 - b) % 2 ^ 32 = 0 ∨ 2 ^ 31 ≤ (a + 2 ^ 32 - b) % 2 ^ 32)

/-- The assembly starts anew; `ts` was closed. -/
def rtpClosed (u : St2110Unit) : St2110Unit :=
  { u with timestamp := none, seen := [], prevMax := if u.seen = [] then u.prevMax else some (maxOf u.seen), words := [],
           bands := [], crcs := [], marker := none, spoiled := false,
           lateTs := u.timestamp.toList ++ u.lateTs.filter fun t => match u.timestamp with
             | some n => rtpNotAfter t n && t != n
             | none => true }

/-- The frame in assembly is discarded (R104). -/
def rtpDiscard (d : Device) (s last : Nat) : Device :=
  let u := st2110At d s
  srcBump (srcBump (setSt2110 d s (rtpClosed u)) s 6 1) s 0x0D (rtpMissing u last)

def rtpComplete (d : Device) (s : Nat) : Bool :=
  let u := st2110At d s
  !u.spoiled && u.bands.length == st2110Bands d s

/-- The wait after the marker ends: the frame record, or the discard (R104, R105). -/
def rtpWaitEnd (d : Device) (s : Nat) : Device :=
  let u := st2110At d s
  match u.marker, u.timestamp with
  | some (_, arr), some ts =>
    if rtpComplete d s then
      let n := u.count + 1
      let r : FrameRec := { source := s, seq := n % 65536, capture := rtpCapture ts arr, signature := signatureOf (u.crcs.map (·.2)) }
      modSt2110 d s fun u => { rtpClosed u with count := n, records := u.records ++ [r] }
    else rtpDiscard d s (maxOf u.seen)
  | _, _ => d

/-- DEDUCED: notes/assumptions/27.md. -/
def mergeWaitEndOp (d : Device) (s : Nat) : Device :=
  match (st2110At d s).marker with
  | some (t, _) => if rtpComplete d s ∨ t + srcCfg d s 0x19 * 1000000 ≤ d.mono then rtpWaitEnd d s else d
  | none => d

/-- Every pixel of band b is present. -/
def bandFull (w h b : Nat) (words : Table Nat) : Bool :=
  let n := words.filter fun e => decide (16 * b * w ≤ e.1 ∧ e.1 < (16 * b + 16) * w)
  n.length == w * (min h (16 * b + 16) - 16 * b)

/-- The payload of tile i from stored pixel words; padding zero. -/
def wordsTile (w h i : Nat) (words : Table Nat) : List Byte :=
  (List.range 16).flatMap fun r => (List.range 16).flatMap fun c =>
    let x := 16 * (i % gridCols w) + c
    let y := 16 * (i / gridCols w) + r
    if x < w ∧ y < h then beBytes 4 (tget words (y * w + x) 0) else [0, 0, 0, 0]

/-- One unit of up to 8 sealed tiles is forwarded, or dropped for want of a credit (R91, R103). -/
def forwardUnit (d : Device) (s c : Nat) (tiles : List (Nat × BitVec 128 × List Byte)) : Device :=
  let o := srcOwner d s
  if tppFull d s c ≠ 0 then srcDrop d s 7
  else if barred d (dieNo o) 4 true then ingressDenied (iqTake d o (ingressQueue d s c) s (tiles.map (·.1))) o
  else match allocTiles (iqTake d o (ingressQueue d s c) s (tiles.map (·.1))) o tiles with
    | (d, none) => d
    | (d, some t) => modSrcUnit d s o fun u => { u with held := overlay u.held t }

def chunks8 {α : Type} : Nat → List α → List (List α)
  | 0, _ => []
  | _, [] => []
  | n + 1, l => l.take 8 :: chunks8 n (l.drop 8)

/-- A full band is sealed tile by tile and forwarded in units of up to 8 (R103). -/
def sealBand (d : Device) (s c b arrival : Nat) : Device :=
  let u := st2110At d s
  let w := srcW d s
  let h := srcH d s
  let seq := (u.count + 1) % 65536
  let cap := rtpCapture (u.timestamp.getD 0) arrival
  let opaq := true
  let tiles := (List.range (gridCols w)).map fun k =>
    let i := b * gridCols w + k
    let pay := wordsTile w h i u.words
    (i, sealTile s seq cap w h i opaq pay, pay)
  let d := modSt2110 d s fun u =>
    { u with bands := u.bands ++ [b], crcs := tiles.foldl (fun t e => tput t e.1 (hdrCrc e.2.1)) u.crcs,
             words := u.words.filter fun e => !decide (16 * b * w ≤ e.1 ∧ e.1 < (16 * b + 16) * w) }
  forEach d (chunks8 tiles.length tiles) fun d t => forwardUnit d s c t

/-- The stored 32-bit words of a row segment (R60, R101): format 3 holds each 10-bit sample in bits [15:6], formats 1 and 2 take
full alpha. `n` bounds the pixels left. -/
def storedWords (sampling : Nat) : Nat → List Nat → List Nat
  | n + 2, a :: b :: c :: e :: r =>
    if sampling = 1 then
      (a % 1024 * 2 ^ 22 + b % 1024 * 2 ^ 6) :: (c % 1024 * 2 ^ 22 + e % 1024 * 2 ^ 6) :: storedWords sampling n r
    else rgbWord sampling a b c :: storedWords sampling (n + 1) (e :: r)
  | _ + 1, [a, b, c] => if sampling = 1 then [] else [rgbWord sampling a b c]
  | _, _ => []
where
  rgbWord (sampling a b c : Nat) : Nat :=
    if sampling = 2 then 255 * 2 ^ 24 + a % 256 * 2 ^ 16 + b % 256 * 2 ^ 8 + c % 256
    else 3 * 2 ^ 30 + a % 1024 * 2 ^ 20 + b % 1024 * 2 ^ 10 + c % 1024

def rowWords (d : Device) (s : Nat) (r : RowData) : List Nat := storedWords (srcCfg d s 0x18) (r.samples.length + 1) r.samples

/-- Bands in assembly: those with samples placed and not yet sealed. -/
def openBands (w : Nat) (words : Table Nat) : List Nat := (words.map fun e => e.1 / (16 * w)).eraseDups

/-- The samples of one sample row data header are placed in their band, when it is one of the two that the stream holds. DESIGN CHOICE: notes/assumptions/186.md. -/
def placeRow (w : Nat) (words : Table Nat) (row first : Nat) (new : List Nat) : Table Nat :=
  let open_ := openBands w words
  if open_.contains (row / 16) ∨ open_.length < 2 then new.zipIdx.foldl (fun t e => tput t (row * w + first + e.2) e.1) words else words

/-- Whether a stream lies within the sizes of R101. DEDUCED: notes/assumptions/187.md. -/
def streamSizeOk (d : Device) (s : Nat) : Bool :=
  decide (16 ≤ srcW d s ∧ srcW d s ≤ 3840 ∧ 16 ≤ srcH d s ∧ srcH d s ≤ 2160 ∧ (srcCfg d s 0x18 = 1 → srcW d s % 2 = 0))

/-- Whether a packet of a new timestamp shows a stream beyond 60 Hz or 497.7 Mpx/s: its RTP time, of 90 kHz, against that of the frame
before (R101). -/
def streamFast (d : Device) (s ts : Nat) : Bool :=
  let u := st2110At d s
  match (if u.timestamp = some ts then none else u.timestamp <|> u.lateTs.head?) with
  | none => false
  | some t =>
    let step := (ts + 2 ^ 32 - t) % 2 ^ 32
    decide (step < 2 ^ 31 ∧ (step < 1500 ∨ 497700000 * step < srcW d s * srcH d s * 90000))

/-- A packet beyond the frame's size, with too many headers or not progressive (R101, R104). DEDUCED: notes/assumptions/28.md. -/
def rtpBadForm (d : Device) (s : Nat) (k : RtpPacket) : Bool :=
  decide (3 < k.rows.length) || k.field || !streamSizeOk d s || streamFast d s k.timestamp ||
  k.rows.any fun r => decide (srcH d s ≤ r.row ∨ srcW d s < r.first + (rowWords d s r).length)

/-- A path of a protected source delivers again (R107). -/
def pathHeard (d : Device) (s path : Nat) : Device :=
  let u := st2110At d s
  let d := setSt2110 d s { u with lastPath := u.lastPath.set path d.mono, downPath := u.downPath.set path false }
  if u.downPath.getD path false then raiseD d (st2110Ctl d s) 9 (0x5000 + s) [path] else d

/-- An accepted packet's place in the frame (R103, R104). -/
def rtpPlace (d : Device) (s : Nat) (k : RtpPacket) (arrival : Nat) : Device :=
  let ext := k.extSeqHi * 65536 + k.seq
  let c := st2110Ctl d s
  let d := modSt2110 d s fun u =>
    { u with timestamp := some k.timestamp, seen := u.seen ++ [ext],
             words := k.rows.foldl (fun t r => if u.bands.contains (r.row / 16) then t else placeRow (srcW d s) t r.row r.first (rowWords d s r)) u.words,
             marker := if k.marker then some (d.mono, arrival) else u.marker }
  let touched := (k.rows.map fun r => r.row / 16).eraseDups
  forEach d touched fun d b =>
    let u := st2110At d s
    if !u.bands.contains b && bandFull (srcW d s) (srcH d s) b u.words then sealBand d s c b arrival else d

/-- A packet of another timestamp ends the frame in assembly: published where it is complete and closed, else discarded
(R104). -/
def rtpNewFrame (d : Device) (s ts ext : Nat) : Device :=
  let u := st2110At d s
  match u.timestamp with
  | some t => if t = ts then d else if rtpComplete d s && u.marker.isSome then rtpWaitEnd d s else rtpDiscard d s (ext - 1)
  | none => d

/-- RTP_PACKET for source s by one of its paths. -/
def rtpAccept (d : Device) (s path : Nat) (k : RtpPacket) : Device :=
  let d := pathHeard d s path
  let c := st2110Ctl d s
  let arrival := (baseOf (ctlAt d c) (srcCfg d s 7 - 1)).ns
  let ext := k.extSeqHi * 65536 + k.seq
  if k.payloadType ≠ srcCfg d s 0x17 then srcDrop d s 12
  else if (st2110At d s).lateTs.contains k.timestamp then srcDrop d s (if rtpBadForm d s k then 13 else 14)
  else if rtpBadForm d s k then
    srcDrop (modSt2110 (rtpNewFrame d s k.timestamp ext) s fun u =>
      { u with timestamp := some k.timestamp, spoiled := true, seen := if u.seen.contains ext then u.seen else u.seen ++ [ext] }) s 13
  else
    let d := rtpNewFrame d s k.timestamp ext
    if (st2110At d s).seen.contains ext then d
    else
      let d := srcBump d s 7 1
      let d := match liveOwner d s with
        | some o => srcSignal d s o
        | none => d
      rtpPlace d s k arrival

def rtpPacketOp (d : Device) (port group udp : Nat) (k : RtpPacket) : Device :=
  if !hostPort d port then d
  else match rtpRoute d port group udp with
    | none => unattributedOp d port
    | some (s, path) => rtpAccept d s path k

/-- The owner die takes a frame record (R106). DESIGN CHOICE: notes/assumptions/174.md. -/
def frameRecordOp (d : Device) (s : Nat) : Device :=
  match (st2110At d s).records with
  | [] => d
  | r :: rest =>
    let d := modSt2110 d s fun u => { u with records := rest }
    match liveOwner d s with
    | none => d
    | some o =>
      let held := (srcUnit d s o).held.filter fun e => hdrSeq e.2.hdr == r.seq
      if held.length = srcGrid d s ∧ frameSignature held = r.signature ∧ srcEnabled d s ∧ held.all (fun e => hdrValid e.2.hdr) then
        let d := modSrcUnit d s o fun u => { u with held := u.held.filter fun e => !(hdrSeq e.2.hdr == r.seq) }
        publish d s o (mkFrame d s r.seq r.capture held) (held.map (·.1)) false
      else srcReject (modSrcUnit d s o fun u => { u with held := u.held.filter fun e => !(hdrSeq e.2.hdr == r.seq) }) s o 4
        [0xFFFF, if held.length = srcGrid d s then 0 else wordI16 (Int.ofNat (srcGrid d s) - Int.ofNat held.length)]

/-- A path of a protected source has been silent for SourceSignalLossMs while the other delivers (R107). -/
def pathSilenceOp (d : Device) (s path : Nat) : Device :=
  let u := st2110At d s
  let quiet (k : Nat) : Bool := decide (u.lastPath.getD k 0 + srcLossNs d s ≤ d.mono)
  if srcEnabled d s ∧ srcCfg d s 1 = 2 ∧ st2110Protected d s ∧ ctlUp d (st2110Ctl d s) ∧ quiet path ∧ !quiet (1 - path) ∧
      !u.downPath.getD path false then
    raiseD (setSt2110 d s { u with downPath := u.downPath.set path true }) (st2110Ctl d s) 8 (0x5000 + s) [path]
  else d

/-! ### Signal loss and test patterns (R88, R111, R473) -/

/-- DEDUCED: notes/assumptions/7.md. -/
def signalLossOp (d : Device) (s p : Nat) : Device :=
  let u := srcUnit d s p
  if pixUp d p ∧ u.present ∧ (u.state = 2 ∨ u.state = 3) ∧ u.lastSignal + srcLossNs d s < d.mono ∧
      !(u.owner && srcCfg d s 1 == 5) then
    modSrcUnit d s p fun u => { u with state := 4 }
  else d

/-- The 12-bit pixels of a test pattern (R473); `n` counts frames from 0. -/
def intPixel (pat w n x _y : Nat) : Px :=
  if pat = 1 then
    let k := (List.range 8).foldl (fun a k => if k * w / 8 ≤ x then k else a) 0
    let on (l : List Nat) : Nat := if l.contains k then 3071 else 0
    .rgb (on [0, 1, 4, 5]) (on [0, 1, 2, 3]) (on [0, 2, 4, 6])
  else if pat = 2 then let v := 4095 * x / (w - 1); .rgb v v v
  else
    let x0 := 16 * n % w
    if x0 ≤ x ∧ x < min (x0 + 16) w then .rgb 4095 4095 4095 else .rgb 0 0 0

/-- The tick T in TB2 of die p. -/
def tickInTb2 (q : PixelDie) : Nat := ((Int.ofNat q.tickAt + Int.ofNat q.tb2.ns - Int.ofNat q.tb1.ns) % (2 ^ 48)).toNat

def intFrame (d : Device) (p s : Nat) : Device :=
  let q := pixAt d p
  let n := tget q.intCount s 0
  let (d, ok) := publishSealed d s p ((n + 1) % 65536) (tickInTb2 q) (srcFrc d s 8 * 1000) (intPixel (srcFrc d s 0x1A) (srcW d s) n)
  if ok then modPix d p fun q => { q with intCount := tput q.intCount s (n + 1) } else d

/-- One frame of each enabled INT source of die p for the tick that was latched last (R473). -/
def intPatternOp (d : Device) (p : Nat) : Device :=
  let q := pixAt d p
  if !q.out ∨ q.ticks ≤ q.intTick then d
  else
    let d := modPix d p fun q => { q with intTick := q.ticks }
    forEach d (namedSources d) fun d s => if srcOwner d s = p ∧ srcCfg d s 1 = 5 ∧ srcEnabled d s then intFrame d p s else d

/-! ### The Spur links (R108 to R112) -/

/-- The neighbour from which in queue k of die p is fed. -/
def spurFrom (p k : Nat) : Nat := if k < 2 then (p + 5) % 6 else (p + 1) % 6

/-- The front item of the neighbour's out queue k, when it is of the kind asked for, leaves it; an unprotected queue is served
once the protected one of its link is empty (R108). -/
def spurTake (d : Device) (p k : Nat) (want : SpurItem → Bool) : Option (SpurItem × Device) :=
  let u := spurFrom p k
  let first := k % 2 == 0 || (spurOutOf d u (k - 1)).isEmpty
  match spurOutOf d u k with
  | [] => none
  | i :: r => if pixUp d p && pixUp d u && first && want i then
      some (i, modQueue d u fun q => { q with spurOut := tset [] q.spurOut k r }) else none

/-- Whether shedding stops a source's tiles and publish records on the link into die p (R112). -/
def shedHop (d : Device) (s p k : Nat) : Bool := shedExport d s (spurFrom p k) || shedExport d s p
/-- In queue k of die p holds an item for a moment. -/
def inMark (d : Device) (p k : Nat) : Device := modQueue d p fun u => fillMark u (40 + k) 1 128

def replicaOn (d : Device) (s p : Nat) : Bool := (srcUnit d s p).present && srcEnabled d s && p != srcOwner d s

/-- An exported tile is stored on its replica die, forwarded, or dropped and owed (R108, R109, R112, R113). -/
def spurTileOp (d : Device) (p k : Nat) : Device :=
  match spurTake d p k (fun i => match i with
    | .tile .. => true
    | _ => false) with
  | some (.tile s q i sl, d) =>
    let d := inMark d p k
    if shedHop d s p k then setN (owe d s q [i]) (srcLive s) 0x0A 16
    else if p = q then
      if replicaOn d s p then
        match allocSlot d p sl.hdr sl.payload with
        | (d, some t) => modSrcUnit d s p fun u => { u with held := tput u.held i t }
        | (d, none) => owe (memExhausted d p) s q [i]
      else d
    else if ((spurOutOf d p k).filter isTile).length < 128 then spurPut d p k [.tile s q i sl]
    else setN (owe d s q [i]) (srcLive s) 0x0A 15
  | _ => d

/-- A replica publishes when it holds every tile and the signature agrees; otherwise it skips the frame (R110). -/
def spurPublishOp (d : Device) (p k : Nat) : Device :=
  match spurTake d p k (fun i => match i with
    | .publish .. => true
    | _ => false) with
  | some (.publish s q f, d) =>
    if shedHop d s p k then setN d (srcLive s) 0x0A 16
    else if p ≠ q then spurPut d p k [.publish s q f]
    else
      let u := srcUnit d s p
      if replicaOn d s p ∧ u.held.length = gridTiles f.width f.height ∧ (u.held.all fun e => hdrValid e.2.hdr) ∧
          frameSignature u.held = f.signature then
        let old := frameTiles u.frame
        let written := (u.held.filter fun e => (tfind old e.1).map (·.num) != some e.2.num).map (·.1)
        publishOn d s p { f with tiles := u.held } written
      else d
  | _ => d

/-- The replica adopts the owner's signal state and any pending mismatch (R111). DEDUCED: notes/assumptions/47.md. -/
def adoptStatus (now st : Nat) (differ : List Nat) (u : SrcUnit) : SrcUnit :=
  let st := if st = 4 ∨ st = 5 ∨ st = 1 then st else if u.frame.isSome then 3 else 2
  { u with state := st, lastSignal := now, differ := (u.differ ++ differ).eraseDups,
           differAt := if u.differ = [] ∧ differ ≠ [] then now else u.differAt }

def spurStatusOp (d : Device) (p k : Nat) : Device :=
  match spurTake d p k (fun i => match i with
    | .status .. => true
    | _ => false) with
  | some (.status s q st differ, d) =>
    if p ≠ q then spurPut d p k [.status s q st differ]
    else if replicaOn d s p then modSrcUnit d s p (adoptStatus d.mono st differ) else d
  | _ => d

/-! ### Enabling, presence and the snapshot (R84, R85, R87, R114) -/

/-- Bytes of slots a source reserves on each die (R220). -/
def srcReserve (d : Device) (s : Nat) : Nat := 3 * srcGrid d s * (16 + tileBytes (srcCfg d s 4))

/-- The dies on which a source is present by its configuration as written. -/
def srcDies (d : Device) (s : Nat) : List Nat :=
  (List.range 6).filter fun p => p == srcOwner d s || (srcCfg d s 0x0E).testBit p

/-- Reservations of die p by the enabled sources, with `pairs p` bytes of temporal pairs (R220). -/
def dieReserved (d : Device) (p : Nat) (pairs : Nat → Nat) : Nat :=
  ((namedSources d).map fun s =>
    if srcOn d s && (srcDies d s).contains p then srcReserve d s else 0).foldl (· + ·) (pairs p)

/-- The enabled ST 2110 sources of a control die are bounded by count, pixel rate at 60 Hz, as R102 rounds it to two decimals
of a Gpx/s, and buffer. DEDUCED: notes/assumptions/188.md. -/
def st2110Over (d : Device) (s : Nat) : Bool :=
  let c := st2110Ctl d s
  let l := (namedSources d).filter fun j => srcOn d j && srcCfg d j 1 == 2 && st2110Ctl d j == c && j != s
  let px := (l ++ [s]).foldl (fun a j => a + srcW d j * srcH d j * 60) 0
  let kib := (l ++ [s]).foldl (fun a j => a + 2 * 16 * srcW d j * 4) 0
  decide (32 ≤ l.length ∨ 3985000000 ≤ px ∨ 8192 * 1024 < kib)

/-- The format in which an ST 2110 sampling is stored (R86, R101). -/
def samplingFormat (k : Nat) : Nat := if k = 1 then 3 else if k = 2 then 1 else if k = 3 then 2 else 0

/-- Why SourceEnable is refused (R87, R102, R220), by code of R299; 0 accepted. `pairs` are the temporal pairs of each
die with this source enabled. -/
def enableRefusal (d : Device) (s : Nat) (pairs : Nat → Nat) : Nat :=
  let kind := srcCfg d s 1
  let fmt := if kind = 2 then samplingFormat (srcCfg d s 0x18) else srcCfg d s 4
  if kind = 0 ∨ srcOwner d s = 0xFF ∨ fmt = 0 ∨ srcW d s = 0 ∨ srcH d s = 0 ∨ (kind = 1 ∧ srcCfg d s 0x0F = 0xFF) ∨
      (kind = 2 ∧ 4 ≤ srcCfg d s 0x11) then 16
  else if kind = 2 ∧ st2110Protected d s ∧ srcCfg d s 0x14 / 2 ≠ st2110Ctl d s then 19
  else if kind = 2 ∧ st2110Over d s then 18
  else if (srcDies d s).any fun p =>
      decide (dieCapacity d p * 2 ^ 20 < dieReserved d p pairs + srcReserve d s + 256 * 2 ^ 20)
    then 41
  else 0

/-- The configuration in force of a source becomes what is written. -/
def srcTake (d : Device) (s : Nat) : Device :=
  { d with force := putVals d.force (0x5000 + s) (stagedVals d.regs (0x5000 + s) 1 0x1A) }

/-- A unit right after its source is enabled: it holds no frame (R87). -/
def srcFresh (now : Nat) (owner : Bool) : SrcUnit :=
  { SrcUnit.reset with present := true, owner := owner, state := 2, lastSignal := now }

/-- Every tile is owed to a die whose replica is set up anew (R109). -/
def oweAll (d : Device) (s q : Nat) : Device := owe d s q (List.range (srcGrid d s))


/-- SourceEnable is written TRUE: it waits for the snapshot (R85). The time base of CAM and INT sources and the format of an
ST 2110 source are set (R86, R122, R473). -/
def srcEnableOp (d : Device) (s : Nat) : Device :=
  let kind := srcCfg d s 1
  let d := setN d (0x5000 + s) 2 1
  let d := if kind = 2 then setN d (0x5000 + s) 4 (samplingFormat (srcCfg d s 0x18)) else d
  if kind = 3 ∨ kind = 5 then setN d (0x5000 + s) 7 3 else d

/-- SourceEnable is written FALSE: that waits for the snapshot too; the mark says that the source was disabled since the
last one. -/
def srcDisableOp (d : Device) (s : Nat) : Device := setN (setN d (0x5000 + s) 2 0) (0x15000 + s) 2 1

/-- IGMPv3 joins or leaves the multicast groups of an ST 2110 source (R101). -/
def igmpReport (d : Device) (s : Nat) (join : Bool) : Device :=
  let go (d : Device) (port group : Nat) : Device :=
    if port < 4 ∧ ctlUp d (ctlOfPort port) ∧ group / 2 ^ 28 = 14 then send d port 9 group [if join then 1 else 0] else d
  go (go d (srcCfg d s 0x11) (srcCfg d s 0x12)) (srcCfg d s 0x14) (srcCfg d s 0x15)

/-- The source starts: it holds no frame (R87, R88). -/
def srcStart (d : Device) (s : Nat) : Device :=
  let kind := srcCfg d s 1
  let d := if kind = 2 then igmpReport (setSt2110 d s { St2110Unit.reset with lastPath := [d.mono, d.mono] }) s true else d
  let o := srcOwner d s
  let d := if kind = 5 ∧ o < 6 then modPix d o fun q => { q with intCount := tdel q.intCount s } else d
  let d := forEach d (srcDies d s) fun d p => setSrc d (srcKey s p) (srcFresh d.mono (p == o))
  forEach d (srcDies d s) fun d p => if p = o then d else oweAll d s p

/-- The source stops: it publishes nothing more and its frames are freed (R87). -/
def srcStop (d : Device) (s : Nat) : Device :=
  let d := if srcFrc d s 1 = 2 then igmpReport d s false else d
  let d := setSt2110 d s St2110Unit.reset
  forEach d (List.range 6) fun d p =>
    if (srcUnit d s p).present then
      setSrc d (srcKey s p) { SrcUnit.reset with present := true, owner := p == srcOwner d s, state := 1 }
    else d

/-- What was written of a source comes into force at a snapshot (R85): one that was disabled since stops, one that is enabled
starts. -/
def srcForce (d : Device) (s : Nat) : Device :=
  let was := srcEnabled d s
  let cut := regN d (0x15000 + s) 2 = 1
  let d := if was ∧ cut then srcStop d s else d
  let d := setN (srcTake d s) (0x15000 + s) 2 0
  if srcEnabled d s ∧ (!was ∨ cut) then srcStart d s else d

/-- Die p brings its presence of source s in line with the mask in force. -/
def srcPresence (d : Device) (s p : Nat) : Device :=
  let want := (srcDies d s).contains p
  let u := srcUnit d s p
  if want && !u.present then
    let d := setSrc d (srcKey s p) (if srcEnabled d s then srcFresh d.mono (p == srcOwner d s)
      else { SrcUnit.reset with present := true, owner := p == srcOwner d s, state := 1 })
    if p = srcOwner d s then d else oweAll d s p
  else if !want && u.present then
    let d := { d with srcs := tdel d.srcs (srcKey s p) }
    if srcOwner d s < 6 then modSrcUnit d s (srcOwner d s) fun u => { u with owed := u.owed.filter fun e => e.1 != p } else d
  else if u.present && u.owner != (p == srcOwner d s) then modSrcUnit d s p fun u => { u with owner := p == srcOwner d s }
  else d

/-- SourceReplicaState of one die (R114). DESIGN CHOICE: notes/assumptions/176.md. -/
def replicaCode (d : Device) (s p : Nat) : Nat :=
  let u := srcUnit d s p
  let o := srcOwner d s
  if !pixUp d p then 0
  else if p = o then 6
  else if !u.present then 1
  else if !srcProtected d s ∧ (o :: spurRoute o p).any (fun x => decide (2 ≤ dieStage d x)) then 5
  else if u.state = 3 then 3 else if u.state = 4 ∨ u.state = 5 then 4 else 2

/-- DESIGN CHOICE: notes/assumptions/175.md. -/
def pathCode (d : Device) (s k : Nat) : Nat :=
  if srcCfg d s 1 ≠ 2 then 3
  else if 4 ≤ srcCfg d s (if k = 0 then 0x11 else 0x14) then 3
  else if (st2110At d s).downPath.getD k false then 1 else 2

/-- The status object at a snapshot of the owner die (R114). DEDUCED: notes/assumptions/33.md. -/
def srcStatus (d : Device) (s p : Nat) : Device :=
  let o := 0x5200 + s
  let d := forEach d [2, 3, 4, 5, 6, 7, 8, 9, 0x0A, 0x0B, 0x0C, 0x0D] fun d i => setReg d o i (reg d (srcLive s) i)
  let d := setN d o 1 (srcUnit d s p).state
  let d := setN d o 0x0E (pathCode d s 0 + 4 * pathCode d s 1)
  setN d o 0x0F ((List.range 6).foldl (fun a q => a + replicaCode d s q * 16 ^ q) 0)

/-- At a snapshot of die p: configurations written since come into force (of a source whose owner die is none or in reset at any
die's snapshot), presence follows, status is updated. DEDUCED: notes/assumptions/32.md. -/
def srcSnapshot (d : Device) (p : Nat) : Device :=
  forEach d (namedSources d) fun d s =>
    let d := if (srcDies d s).contains p || (srcUnit d s p).present then srcPresence (srcForce d s) s p
      else if srcOwner d s < 6 ∧ pixUp d (srcOwner d s) then d else srcForce d s
    if srcOwner d s = p then srcStatus d s p else d

/-! ### The meanings -/

def execTppTileUpdate (dt : Nat) (port : EthPort) (peer : Endpoint) (hd : TppHeader) (tiles : List TppTile) (s : State) :=
  act dt s fun d => tppTileUpdateOp d port peer hd tiles
def execTppReseal (dt : Nat) (port : EthPort) (peer : Endpoint) (hd : TppHeader) (tiles : List (Nat × BitVec 128)) (s : State) :=
  act dt s fun d => tppResealOp d port peer hd tiles
def execTppEndOfFrame (dt : Nat) (port : EthPort) (peer : Endpoint) (hd : TppHeader) (fc : FrameClose) (s : State) :=
  act dt s fun d => tppEndOfFrameOp d port peer hd fc
def execTppKeepalive (dt : Nat) (port : EthPort) (peer : Endpoint) (hd : TppHeader) (time st : Nat) (s : State) :=
  act dt s fun d => tppKeepaliveOp d port peer hd time st
def execUnattributedDatagram (dt : Nat) (port : EthPort) (s : State) := act dt s fun d => unattributedOp d port
def execIngressUnitStored (dt : Nat) (p : Die) (q : Fin 16) (s : State) := act dt s fun d => ingressUnitStoredOp d p q
def execRtpPacket (dt : Nat) (port : EthPort) (group udp : Nat) (pkt : RtpPacket) (s : State) :=
  act dt s fun d => rtpPacketOp d port group udp pkt
def execSt2110MergeWaitEnd (dt : Nat) (src : SourceNo) (s : State) := act dt s fun d => mergeWaitEndOp d src
def execSt2110FrameRecord (dt : Nat) (src : SourceNo) (s : State) := act dt s fun d => frameRecordOp d src
def execSt2110PathSilence (dt : Nat) (src : SourceNo) (path : Fin 2) (s : State) := act dt s fun d => pathSilenceOp d src path
def execSignalLossTimeout (dt : Nat) (src : SourceNo) (p : Die) (s : State) := act dt s fun d => signalLossOp d src p
def execIntPatternFrame (dt : Nat) (p : Die) (s : State) := act dt s fun d => intPatternOp d p
def execSpurTileArrival (dt : Nat) (p : Die) (q : Fin 4) (s : State) := act dt s fun d => spurTileOp d p q
def execSpurPublishRecord (dt : Nat) (p : Die) (q : Fin 4) (s : State) := act dt s fun d => spurPublishOp d p q
def execSpurStatusRecord (dt : Nat) (p : Die) (q : Fin 4) (s : State) := act dt s fun d => spurStatusOp d p q

end Sys2Proof.Machine
end

