-- ==== Sys2Proof/Machine/Camera.lean ====
section
/-! DEFINITION. Camera ports, camera inputs and image pipelines (R115 to R136). -/

namespace Sys2Proof.Machine

/-! ### Configuration -/

def camCfg (d : Device) (i sub : Nat) : Nat := regN d (0x5480 + i) sub
def camOn (d : Device) (i : Nat) : Bool := camCfg d i 1 == 1
def camPort (d : Device) (i : Nat) : Nat := camCfg d i 2
/-- Input crop: X, Y, W, H (R135). -/
def camCrop (d : Device) (i : Nat) : Nat × Nat × Nat × Nat :=
  let s := camCfg d i 0x0B
  if s = 0 then (0, 0, camCfg d i 7, camCfg d i 8)
  else (hi16 (camCfg d i 0x0A), lo16 (camCfg d i 0x0A), hi16 s, lo16 s)

/-- Input class (R116): 1 RAW, 2 YUV, 3 RGB. -/
def camClass (dt : Nat) : Nat := if dt = 0x1E ∨ dt = 0x1F then 2 else if dt = 0x24 then 3 else 1
def camBits (dt : Nat) : Nat :=
  if dt = 0x2A then 8 else if dt = 0x2B then 10 else if dt = 0x2C then 12 else if dt = 0x2D then 14 else if dt = 0x2E then 16
  else if dt = 0x1E then 16 else if dt = 0x1F then 20 else if dt = 0x24 then 24 else 0
def camStoreBytes (dt : Nat) : Nat := if dt = 0x2A then 1 else if dt = 0x1F then 4 else if dt = 0x24 then 3 else 2
/-- Samples carried per pixel. -/
def camSamples (dt : Nat) : Nat := if camClass dt = 2 then 2 else if camClass dt = 3 then 3 else 1

/-- Streams of input i that name a source. -/
def camStreams (d : Device) (i : Nat) : List Nat := (List.range 4).filter fun k => camCfg d i (0x20 + 8 * k) < 512
def streamSource (d : Device) (i k : Nat) : Nat := camCfg d i (0x20 + 8 * k)

/-- The inputs with a written register or a unit: every other one is as at reset, disabled. -/
def namedInputs (d : Device) : List Nat :=
  ((d.regs.filterMap fun (e : Nat × Val) => if 0x5480 ≤ keyIdx e.1 ∧ keyIdx e.1 < 0x5500 then some (keyIdx e.1 - 0x5480) else none) ++
   d.cams.map fun (e : Nat × CamUnit) => e.1).eraseDups
def portInputs (d : Device) (c : Nat) : List Nat := (namedInputs d).filter fun i => camOn d i && camPort d i == c
def pipeInputs (d : Device) (j : Nat) : List Nat := (namedInputs d).filter fun i => camOn d i && camCfg d i 6 == j
/-- The enabled input of a port and channel. -/
def camAtVc (d : Device) (c vc : Nat) : Option Nat := (portInputs d c).find? fun i => camCfg d i 3 == vc

/-- Stream crop in input crop coordinates: X, Y, W, H. -/
def streamCrop (d : Device) (i k : Nat) : Nat × Nat × Nat × Nat :=
  let s := camCfg d i (0x22 + 8 * k)
  if s = 0 then let c := camCrop d i; (0, 0, c.2.2.1, c.2.2.2)
  else (hi16 (camCfg d i (0x21 + 8 * k)), lo16 (camCfg d i (0x21 + 8 * k)), hi16 s, lo16 s)

/-! ### Enabling (R118, R119, R127) -/

def sumOf (l : List Nat) : Nat := l.foldl (· + ·) 0

/-- KiB reserved in the line store of a port (R119, R133). -/
def portStoreBytes (d : Device) (l : List Nat) : Nat :=
  sumOf (l.map fun i => 64 * (camCrop d i).2.2.1 * camStoreBytes (camCfg d i 4))
/-- Pixels per second, in thousandths, of the streamed inputs of a pipeline (R119). -/
def pipeLoad (d : Device) (l : List Nat) : Nat :=
  sumOf (l.map fun i => if camStreams d i = [] then 0 else (camCrop d i).2.2.1 * (camCrop d i).2.2.2 * camCfg d i 9)

/-- Whether stage 1 of R124 takes the input crop: 16 to 4,096 either way, within the frame, and X and W even except for mono. -/
def cropOk (d : Device) (i : Nat) : Bool :=
  let c := camCrop d i
  let mono := camClass (camCfg d i 4) == 1 && camCfg d i 5 == 5
  decide (16 ≤ c.2.2.1 ∧ c.2.2.1 ≤ 4096 ∧ 16 ≤ c.2.2.2 ∧ c.2.2.2 ≤ 4096 ∧ c.1 + c.2.2.1 ≤ camCfg d i 7 ∧
    c.2.1 + c.2.2.2 ≤ camCfg d i 8) && (mono || (c.1 % 2 == 0 && c.2.2.1 % 2 == 0))

/-- Streams on the pipeline of inputs `l` beyond its eight, or load beyond its 1.2 Gpx/s (R119). -/
def pipeRefusal (d : Device) (l : List Nat) : Nat :=
  if 1200000000 * 1000 < pipeLoad d l then 25
  else if 8 < sumOf (l.map fun o => (camStreams d o).length) then 26 else 0

/-- Why CameraInputEnable TRUE is refused, by code of R299; 0 accepted. RAW16 is for MONO alone (R116). DESIGN CHOICE: notes/assumptions/177.md. -/
def camRefusal (d : Device) (i : Nat) : Nat :=
  let c := camPort d i
  let j := camCfg d i 6
  let dt := camCfg d i 4
  if 12 ≤ c ∨ dt = 0 ∨ 12 ≤ j ∨ camCfg d i 7 = 0 ∨ camCfg d i 8 = 0 ∨ camCfg d i 9 = 0 ∨ (camClass dt = 1 ∧ camCfg d i 5 = 0) ∨
      (dt = 0x2E ∧ camCfg d i 5 ≠ 5) then 22
  else if dieOfPort c ≠ dieOfPipe j then 21
  else if (portInputs d c).any fun o => o != i && camCfg d o 3 == camCfg d i 3 then 20
  else if !cropOk d i then 11
  else
    let on := (portInputs d c).filter fun o => o != i
    let bits := sumOf ((i :: on).map fun o => camCfg d o 7 * camCfg d o 8 * camBits (camCfg d o 4) * camCfg d o 9)
    if regN d (0x5400 + c) 2 * regN d (0x5400 + c) 3 * 1000000 * 900 < bits then 23
    else if 2 * 2 ^ 20 < portStoreBytes d (i :: on) then 24
    else
      pipeRefusal d (i :: (pipeInputs d j).filter fun o => o != i)

/-- Formats a stream may have (R127). -/
def streamFormats (dt cfa : Nat) : List Nat :=
  if camClass dt = 2 then [3, 4] else if camClass dt = 1 ∧ cfa = 5 then [1, 2, 3, 4] else [1, 2, 3]

/-- The stream that names source s. -/
def streamOf (d : Device) (s : Nat) : Option (Nat × Nat) :=
  (namedInputs d).findSome? fun i => ((camStreams d i).find? fun k => streamSource d i k == s).map fun k => (i, k)

def ratioBad (out inn : Nat) : Bool := decide (out < 16 ∨ 4096 < out ∨ inn < out ∨ out * 8 < inn)

/-- Why a CAM source's enabling is refused for its stream (R127), by code of R299. DESIGN CHOICE: notes/assumptions/178.md. -/
def streamRefusal (d : Device) (s : Nat) : Nat :=
  match streamOf d s with
  | none => 16
  | some (i, k) =>
    let cr := streamCrop d i k
    let ic := camCrop d i
    let o := camCfg d i (0x23 + 8 * k)
    if ratioBad (hi16 o) cr.2.2.1 || ratioBad (lo16 o) cr.2.2.2 then 29
    else if ic.2.2.1 < cr.1 + cr.2.2.1 ∨ ic.2.2.2 < cr.2.1 + cr.2.2.2 then 30
    else if !(streamFormats (camCfg d i 4) (camCfg d i 5)).contains (camCfg d i (0x24 + 8 * k)) then 31
    else if camOn d i then pipeRefusal d (pipeInputs d (camCfg d i 6)) else 0

/-- The temporal noise reduction pairs held on die p: one for each RAW input, from the input's enabling or the enabling of a
source of its streams on (R126, R220), with source `extra` enabled too. DEDUCED: notes/assumptions/35.md. -/
def tnrPairs (d : Device) (extra : Option Nat) (p : Nat) : Nat :=
  sumOf ((namedInputs d).map fun i =>
    if camPort d i < 12 ∧ dieOfPort (camPort d i) = p ∧ camClass (camCfg d i 4) = 1 ∧
        (camOn d i ∨ (camStreams d i).any fun k => srcOn d (streamSource d i k) || extra == some (streamSource d i k))
    then 2 * (camCrop d i).2.2.1 * (camCrop d i).2.2.2 * 2 else 0)

/-- Binding sets the source's owner, format, size and time base (R127). DESIGN CHOICE: notes/assumptions/222.md. -/
def bindStream (d : Device) (i k : Nat) : Device :=
  let s := streamSource d i k
  if s < 512 then
    let o := 0x5000 + s
    let d := setN d o 3 (if camCfg d i 6 < 12 then dieOfPipe (camCfg d i 6) else 0xFF)
    let d := setN d o 4 (camCfg d i (0x24 + 8 * k))
    let d := setN d o 5 (hi16 (camCfg d i (0x23 + 8 * k)))
    let d := setN d o 6 (lo16 (camCfg d i (0x23 + 8 * k)))
    setN d o 7 3
  else d
def bindStreams (d : Device) (i : Nat) : Device := forEach d (List.range 4) fun d k => bindStream d i k

/-! ### The pipeline's arithmetic (R124, R125) -/

def px2 (img : List (List Nat)) (y x : Nat) : Nat := (img.getD y []).getD x 0
/-- A sample at an offset; beyond the frame's edge it is open. -/
def pxOff (img : List (List Nat)) (h w : Nat) (y x : Nat) (dy dx : Int) : Nat :=
  let yy := Int.ofNat y + dy
  let xx := Int.ofNat x + dx
  if 0 ≤ yy ∧ yy < Int.ofNat h ∧ 0 ≤ xx ∧ xx < Int.ofNat w then px2 img yy.toNat xx.toNat else Config.edgeSample yy xx

def mapImg (h w : Nat) (f : Nat → Nat → Nat) : List (List Nat) := (List.range h).map fun y => (List.range w).map fun x => f y x

/-- Stage 2. -/
def blackLevel (bl v : Nat) : Nat :=
  let g := (65535 * 2 ^ 14 + (65535 - bl) / 2) / (65535 - bl)
  min 65535 (((v - bl) * g + 2 ^ 13) / 2 ^ 14)

/-- Stage 3, with the 8 nearest same-colour samples `nb`. -/
def defectPixel (t v : Nat) (nb : List Nat) : Nat :=
  if t = 0 then v
  else
    let hi := maxOf nb
    let lo := minOf nb
    let v := if hi + t < v then hi else v
    if v + t < lo then lo else v

/-- Whether the site at (y, x) of a Bayer frame is green. DEDUCED: notes/assumptions/189.md. -/
def greenSite (cfa y x : Nat) : Bool := if cfa = 2 ∨ cfa = 3 then (y + x) % 2 == 0 else (y + x) % 2 == 1

/-- The offsets of the 8 nearest samples of a site's colour: along the axes `axis` away and along the diagonals `diag`. -/
def nbOffsets (axis diag : Int) : List (Int × Int) :=
  [(-diag, -diag), (-axis, 0), (-diag, diag), (0, -axis), (0, axis), (diag, -diag), (axis, 0), (diag, diag)]

/-- The 8 nearest same-colour samples of a site: in a mono frame its neighbours, in a Bayer frame the diagonal neighbours of a
green site and those two away of any other. -/
def nearest (cfa y x : Nat) : List (Int × Int) :=
  if cfa = 5 then nbOffsets 1 1 else nbOffsets 2 (if greenSite cfa y x then 1 else 2)

/-- Stage 5. DESIGN CHOICE: notes/assumptions/39.md. -/
def temporal (s m : Nat) (refOk : Bool) (v p : Nat) : Nat :=
  if 0 < s ∧ refOk ∧ (Int.ofNat v - Int.ofNat p).natAbs ≤ m then
    (Int.ofNat p + ((Int.ofNat v - Int.ofNat p) * (16 - Int.ofNat s) + 8) / 16).toNat
  else v

/-- Stages 7 and 8. -/
def wbGain (g c : Nat) : Nat := min 65535 ((c * g + 512) / 1024)
def ccmRow (a b c : Int) (r g bl : Nat) : Nat :=
  clampTo 0 65535 ((a * Int.ofNat r + b * Int.ofNat g + c * Int.ofNat bl + 512) / 1024)

/-- A big-endian 16-bit entry of a DOMAIN. -/
def be16At (b : List Byte) (k : Nat) : Nat := bigEndian ((b.drop (2 * k)).take 2)

/-- Stage 9. -/
def toneCurve (t : List Byte) (curve v : Nat) : Nat :=
  let i := v / 64
  let f := v % 64
  let e (k : Nat) : Nat := be16At t (1024 * curve + k)
  (e i * (64 - f) + e (min (i + 1) 1023) * f + 32) / 64

/-- Three planes of 12-bit samples: R, G, B or Y, Cb, Cr, chroma at half width; and whether they are Y, Cb, Cr. -/
structure Planes where
  a : List (List Nat)
  b : List (List Nat)
  c : List (List Nat)
  yuv : Bool

/-- Stages 1 to 5 of a RAW frame: the 16-bit image that also is the next reference. DESIGN CHOICE: notes/assumptions/223.md. -/
def rawStages (p : Table Val) (dt cfa h w : Nat) (lines : List (List Nat)) (ref : Option (List (List Nat))) (s : Nat) :
    List (List Nat) :=
  let mono := cfa == 5
  let bl (k : Nat) : Nat := cfgN p 0x12 / 2 ^ (16 * k) % 65536
  let s2 := mapImg h w fun y x => blackLevel (bl (if mono then 0 else 2 * (y % 2) + x % 2)) (px2 lines y x * 2 ^ (16 - camBits dt))
  let s3 := mapImg h w fun y x =>
    defectPixel (cfgN p 0x13) (px2 s2 y x) ((nearest cfa y x).map fun o => pxOff s2 h w y x o.1 o.2)
  let s4 := if cfgN p 0x14 = 0 then s3 else mapImg h w fun y x => Config.spatialFilter (cfgN p 0x14) cfa s3 y x
  mapImg h w fun y x => temporal s (cfgN p 0x16) ref.isSome (px2 s4 y x) (px2 (ref.getD []) y x)

/-- Stages 7 to 9 of one RGB sample. -/
def colourStages (p : Table Val) (r g b : Nat) : Nat × Nat × Nat :=
  let r := wbGain (cfgN p 0x17) r
  let g := wbGain (cfgN p 0x18) g
  let b := wbGain (cfgN p 0x19) b
  let m (k : Nat) : Int := int16 (be16At (cfgB p 0x1A) k)
  let t := cfgB p 0x1B
  (toneCurve t 0 (ccmRow (m 0) (m 1) (m 2) r g b), toneCurve t 1 (ccmRow (m 3) (m 4) (m 5) r g b),
   toneCurve t 2 (ccmRow (m 6) (m 7) (m 8) r g b))

/-- Stages 6 to 9: the planes that enter the output streams. DESIGN CHOICE: notes/assumptions/228.md. -/
def planesOf (p : Table Val) (dt cfa h w : Nat) (img : List (List Nat)) : Planes :=
  if camClass dt = 2 then
    let sh := if dt = 0x1E then 16 else 4
    { a := mapImg h w fun y x => px2 img y (2 * x + 1) * sh, b := mapImg h (w / 2) fun y x => px2 img y (4 * x) * sh,
      c := mapImg h (w / 2) fun y x => px2 img y (4 * x + 2) * sh, yuv := true }
  else if camClass dt = 1 ∧ cfa = 5 then
    let m := mapImg h w fun y x => toneCurve (cfgB p 0x1B) 0 (px2 img y x)
    { a := m, b := m, c := m, yuv := false }
  else
    let rgb (y x : Nat) : Nat × Nat × Nat :=
      if camClass dt = 3 then colourStages p (px2 img y (3 * x) * 256) (px2 img y (3 * x + 1) * 256) (px2 img y (3 * x + 2) * 256)
      else let c := Config.demosaic cfa img y x; colourStages p c.1 c.2.1 c.2.2
    { a := mapImg h w fun y x => (rgb y x).1, b := mapImg h w fun y x => (rgb y x).2.1, c := mapImg h w fun y x => (rgb y x).2.2,
      yuv := false }

/-- Cutting and scaling one plane (R127): samples pass unchanged at ratio 1. -/
def axis (n out taps : Nat) (l : List Nat) : List Nat :=
  if n = out then l else (List.range out).map fun k => (Config.streamAxis n out taps l).getD k 0
def cropPlane (x y w h : Nat) (img : List (List Nat)) : List (List Nat) := ((img.drop y).take h).map fun l => (l.drop x).take w
def transpose (h w : Nat) (img : List (List Nat)) : List (List Nat) := mapImg w h fun x y => px2 img y x
/-- DESIGN CHOICE: notes/assumptions/226.md. -/
def scalePlane (w h ow oh hTaps vTaps : Nat) (img : List (List Nat)) : List (List Nat) :=
  let a := img.map (axis w ow hTaps)
  transpose ow oh ((transpose h ow a).map (axis h oh vTaps))

/-- The pixels of a stream frame. -/
def streamPx (pl : Planes) (cr : Nat × Nat × Nat × Nat) (ow oh : Nat) (shed : Bool) : Nat → Nat → Px :=
  let ht := if shed then 2 else 6
  let vt := if shed then 2 else 4
  let (x, y, w, h) := cr
  if pl.yuv then
    let cw := (x + w + 1) / 2 - x / 2
    let at1 (px : Nat) : Nat := if ow = w then (px + x % 2) / 2 else px / 2
    let cut := fun img => scalePlane cw h (if ow = w then cw else (ow + 1) / 2) oh ht vt (cropPlane (x / 2) y cw h img)
    let a := scalePlane w h ow oh ht vt (cropPlane x y w h pl.a)
    let b := cut pl.b
    let c := cut pl.c
    fun px py => .yuv (px2 a py px) (px2 b py (at1 px)) (px2 c py (at1 px))
  else
    let cut := fun img => scalePlane w h ow oh ht vt (cropPlane x y w h img)
    let a := cut pl.a
    let b := cut pl.b
    let c := cut pl.c
    fun px py => .rgb (px2 a py px) (px2 b py px) (px2 c py px)

/-! ### Publication of stream frames (R128, R129) -/

/-- Frames of source s that die p retains beside the newest (R14, R129). -/
def retainedFrames (d : Device) (s p : Nat) : List Nat :=
  let sc (o : Option Scan) : List Frame := match o with
    | some x => x.layers.filterMap (·.frame)
    | none => []
  let fr := (List.range 4).flatMap fun k => let x := scanAt d (4 * p + k); sc x.cur ++ sc x.ready ++ sc x.next
  let sel := (List.range 32).filterMap fun k => (layerAt d (32 * p + k)).selected
  (((fr ++ sel ++ (wbAt d p).held.toList).filter fun f => f.source == s).map (·.seq)).eraseDups

def newestSeq (d : Device) (s p : Nat) : List Nat := match (srcUnit d s p).frame with
  | some f => [f.seq]
  | none => []
def noBuffer (d : Device) (s p : Nat) : Bool := decide (3 ≤ (retainedFrames d s p ++ newestSeq d s p).eraseDups.length)

def camStage (d : Device) (i : Nat) : Nat := dieStage d (dieOfPort (camPort d i))

/-- One stream of a processed frame is published, unless decimated or without a buffer. `number` counts the frames that the
input has completed since its enabling. DEDUCED: notes/assumptions/36.md. DESIGN CHOICE: notes/assumptions/224.md. DESIGN CHOICE: notes/assumptions/227.md. -/
def publishStream (d : Device) (i k number capture : Nat) (pl : Planes) : Device :=
  let s := streamSource d i k
  let p := dieOfPort (camPort d i)
  let dec := camCfg d i (0x25 + 8 * k)
  if !srcEnabled d s ∨ srcOwner d s ≠ p ∨ number % dec ≠ 0 then d
  else if noBuffer d s p then setN (bump d (0x5480 + i) 0x46) (0x5480 + i) 0x47 9
  else
    let n := (srcUnit d s p).count
    let px := streamPx pl (streamCrop d i k) (srcW d s) (srcH d s) (decide (2 ≤ (pixAt d p).tickStage))
    let (d, ok) := publishSealed d s p ((n + 1) % 65536) capture (srcFrc d s 8 * 1000) px
    if ok then modSrcUnit d s p fun u => { u with count := n + 1 } else d

/-- CameraInputTnrState of a frame (R126, R132, R135). -/
def tnrCode (shed : Bool) (strength : Nat) (refOk : Bool) : Nat :=
  if shed then 4 else if strength = 0 then 2 else if refOk then 1 else 3

/-- The input frame's last line has been processed: its streams are published and the reference kept (R126, R128). -/
def finishJob (d : Device) (i : Nat) (j : CamJob) : Device :=
  let dt := camCfg d i 4
  let cfa := camCfg d i 5
  let cr := camCrop d i
  let u := camAt d i
  let shed := j.shed
  let str := cfgN j.params 0x15
  let refOk := u.refStart + 1 == j.start && u.refStart != 0
  let raw := camClass dt == 1
  let img := if raw then rawStages j.params dt cfa cr.2.2.2 cr.2.2.1 j.done (if refOk && !shed then some u.ref else none) (if shed then 0 else str)
    else j.done
  let tnr := tnrCode shed str refOk
  let pl := planesOf j.params dt cfa cr.2.2.2 cr.2.2.1 img
  let d := modCam d i fun u =>
    { u with jobs := u.jobs.filter fun o => o.start != j.start, ref := if raw && !shed then img else u.ref,
             refStart := if raw && !shed then j.start else u.refStart }
  let d := if raw ∧ u.starts = j.start then setN d (0x5480 + i) 0x4A tnr else d
  forEach d (camStreams d i) fun d k => publishStream d i k j.number j.capture pl

/-- A job whose Frame End came and whose lines are all processed is finished. -/
def camFinish (d : Device) (i start : Nat) : Device :=
  match (camAt d i).jobs.find? fun j => j.start == start with
  | none => d
  | some j => if j.ended ∧ j.lines = [] ∧ j.done.length = (camCrop d i).2.2.2 then finishJob d i j else d

/-! ### Discards and service (R121, R130, R131) -/

/-- CAMERA_FRAME_DISCARDED, at most once per second per input. -/
def camDiscardEvent (d : Device) (i reason : Nat) : Device :=
  let u := camAt d i
  let n := u.discards + 1
  let due := match u.lastEvent with
    | none => true
    | some t => decide (t + 1000000000 ≤ d.mono)
  if due then
    raiseFull (modCam d i fun u => { u with lastEvent := some d.mono, discards := 0 }) (dieNo (dieOfPort (camPort d i))) 10 1
      (0x5480 + i) n [reason, word16 n] none
  else modCam d i fun u => { u with discards := n }

def camDiscarded (d : Device) (i reason : Nat) : Device :=
  camDiscardEvent (setN (bump d (0x5480 + i) 0x44) (0x5480 + i) 0x47 reason) i reason

/-- Lines waiting in the store of input i. -/
def camHeld (u : CamUnit) : Nat := sumOf (u.jobs.map fun j => j.lines.length)

/-- Frame `start` of input i is dropped with what is stored of it. A line of it in the pipeline runs to its end there (R130)
and goes nowhere. DEDUCED: notes/assumptions/40.md. -/
def dropJob (d : Device) (i start : Nat) : Device :=
  modCam d i fun u => { u with jobs := u.jobs.filter fun j => j.start != start }

/-- The open frame of input i is discarded (R117, R121). -/
def camDiscardOpen (d : Device) (i reason : Nat) : Device :=
  let u := camAt d i
  if u.opened then
    let d := dropJob d i u.starts
    camDiscarded (modCam d i fun u => { u with opened := false, skipping := true }) i reason
  else d

def camPriority (u : CamUnit) : Nat := cfgN u.params 0x10

/-- The waiting input the pipeline serves next (R130). -/
def pipeNext (d : Device) (j : Nat) : Option Nat :=
  ((pipeInputs d j).filter fun i => 0 < camHeld (camAt d i)).foldl (fun a i => match a with
    | none => some i
    | some o =>
      let x := camPriority (camAt d i)
      let y := camPriority (camAt d o)
      if x < y ∨ (x = y ∧ i < o) then some i else some o) none

/-- The oldest stored line leaves the store of an input. -/
def takeLine : List CamJob → Option (Nat × List Nat × List CamJob)
  | [] => none
  | j :: r => match j.lines with
    | l :: ls => some (j.start, l, { j with lines := ls } :: r)
    | [] => (takeLine r).map fun t => (t.1, t.2.1, j :: t.2.2)

/-- An idle pipeline takes the oldest stored line of the input it serves next. -/
def pipeServe (d : Device) (j : Nat) : Device :=
  match (pipeAt d j).service with
  | some _ => d
  | none => match pipeNext d j with
    | none => d
    | some i => match takeLine (camAt d i).jobs with
      | none => d
      | some (st, l, jobs) => setPipe (modCam d i fun u => { u with jobs := jobs }) j { service := some (i, st, l) }

def pushLine (jobs : List CamJob) (start : Nat) (l : List Nat) : List CamJob :=
  jobs.map fun j => if j.start = start then { j with lines := j.lines ++ [l] } else j

/-- PIPE_CONTENTION is counted, and raised at most once per second per pipeline (R131). -/
def pipeContention (d : Device) (j : Nat) : Device :=
  raiseLimited (bump d (0x5440 + j) 4) (dieNo (dieOfPipe j)) 11 (0x5440 + j) j [] 1000000000 none

/-- The input in service loses to input i: its line in progress and its current frame are abandoned, and the pipeline takes the
oldest line of input i at once (R131). The current frame is that of the line, or the open one when that is gone. -/
def serviceLoses (d : Device) (j o st i : Nat) : Device :=
  let u := camAt d o
  let gone := if u.jobs.any fun x => x.start == st then st else u.starts
  let live := u.jobs.any fun x => x.start == gone
  let d := dropJob (setPipe d j { service := none }) o gone
  let d := if u.opened && u.starts == gone then modCam d o fun u => { u with opened := false, skipping := true } else d
  let d := pipeContention (if live then camDiscarded d o 7 else d) j
  match takeLine (camAt d i).jobs with
  | some (st, x, jobs) => setPipe (modCam d i fun u => { u with jobs := jobs }) j { service := some (i, st, x) }
  | none => d

/-- A line of the open frame is stored; the 65th line held is resolved by R131. -/
def storeLine (d : Device) (i : Nat) (l : List Nat) : Device :=
  let j := camCfg d i 6
  let put (d : Device) : Device := modCam d i fun u =>
    { u with jobs := pushLine u.jobs u.starts l, highWater := max u.highWater (camHeld u + 1) }
  if camHeld (camAt d i) < 64 then pipeServe (put d) j
  else match (pipeAt d j).service with
    | none => pipeServe (put (pipeServe d j)) j
    | some (o, st, _) =>
      let mine := camPriority (camAt d i)
      let other := camPriority (camAt d o)
      if mine < other ∨ (mine = other ∧ i < o) then put (serviceLoses d j o st i)
      else pipeContention (camDiscardOpen d i 7) j

/-! ### Packets (R115 to R123) -/

def portLive (d : Device) (c : Nat) : Bool := pixUp d (dieOfPort c) && regT d (0x5400 + c) 1
def eccCorrected (d : Device) (c : Nat) (fixed : Bool) : Device := if fixed then bump d (0x5400 + c) 8 else d
/-- The payload CRC-16 of every long packet is checked (R115, R117). -/
def crcCounted (d : Device) (c : Nat) (ok : Bool) : Device := if ok then d else bump d (0x5400 + c) 0x0A
def packetIgnored (d : Device) (c : Nat) : Device := bump d (0x5400 + c) 0x0B

/-- Every source of the input's streams hears its signal (R123). -/
def camSignal (d : Device) (i : Nat) : Device :=
  forEach d (camStreams d i) fun d k =>
    let s := streamSource d i k
    if srcEnabled d s then match liveOwner d s with
      | some o => srcSignal d s o
      | none => d
    else d

/-- Pending parameters take effect together at a Frame Start (R120). -/
def camApply (d : Device) (i : Nat) : Device :=
  match (camAt d i).pending with
  | none => d
  | some p => setN { (modCam d i fun u => { u with params := p, pending := none }) with force := putVals d.force (0x5480 + i) p }
      (0x5480 + i) 0x41 1

/-- S2 and deeper discard the Frame Starts of odd count of priorities 5 to 8 (R132). DEDUCED: notes/assumptions/179.md. -/
def camDecimated (d : Device) (i : Nat) : Bool :=
  let u := camAt d i
  decide (2 ≤ camStage d i ∧ 5 ≤ camPriority u ∧ u.starts % 2 = 1)

/-- Capture time: the port's TB2 stamp less the offset (R122). -/
def camCapture (d : Device) (i : Nat) (p : Table Val) : Nat :=
  let t := (pixAt d (dieOfPort (camPort d i))).tb2.ns
  ((Int.ofNat t - Int.ofNat (cfgN p 0x11 * 1000)) % (2 ^ 48)).toNat

/-- Temporal noise reduction at a Frame Start: off from there under shedding, else as its reference promises (R126, R132,
R421). -/
def tnrAtStart (d : Device) (i : Nat) : Device :=
  let u := camAt d i
  let ref := u.jobs.any (fun j => j.start + 1 == u.starts && j.ended && !j.shed) || (u.refStart != 0 && u.refStart + 1 == u.starts)
  if camClass (camCfg d i 4) = 1 ∧ camStreams d i ≠ [] then
    setN d (0x5480 + i) 0x4A (tnrCode (decide (1 ≤ camStage d i)) (cfgN u.params 0x15) ref)
  else d

def frameStartOn (d : Device) (i : Nat) : Device :=
  let d := camDiscardOpen d i 3
  let d := camSignal (camApply d i) i
  let d := bump (modCam d i fun u =>
    { u with starts := u.starts + 1, startTimes := (u.startTimes.filter fun t => d.mono < t + 1000000000) ++ [d.mono],
             lastPkt := d.mono, received := 0, longFrame := false, skipping := false }) (0x5480 + i) 0x42
  let d := tnrAtStart d i
  if camDecimated d i then camDiscarded (modCam d i fun u => { u with opened := false, skipping := true }) i 8
  else
    let u := camAt d i
    let j : CamJob := { start := u.starts, capture := camCapture d i u.params, params := u.params, lines := [], done := [],
                        ended := false, number := 0, shed := decide (1 ≤ camStage d i) }
    setCam d i { u with opened := true, jobs := u.jobs ++ [j] }

def csiFrameStartOp (d : Device) (c vc : Nat) (fixed : Bool) : Device :=
  if !portLive d c then d
  else
    let d := eccCorrected d c fixed
    match camAtVc d c vc with
    | none => packetIgnored d c
    | some i => frameStartOn d i

/-- One line of the open frame, at least as wide as the frame. DESIGN CHOICE: notes/assumptions/225.md. -/
def camLine (d : Device) (i : Nat) (samples : List Nat) : Device :=
  let u := camAt d i
  let k := camSamples (camCfg d i 4)
  let w := camCfg d i 7
  let cr := camCrop d i
  if samples.length < w * k then camDiscardOpen d i 2
  else if camCfg d i 8 ≤ u.received then setCam d i { u with longFrame := true }
  else
    let r := u.received
    let d := setCam d i { u with received := r + 1, longFrame := u.longFrame || decide (w * k < samples.length) }
    if camStreams d i ≠ [] ∧ cr.2.1 ≤ r ∧ r < cr.2.1 + cr.2.2.2 then
      storeLine d i ((samples.drop (cr.1 * k)).take (cr.2.2.1 * k))
    else d

def csiLongPacketOp (d : Device) (c vc dtype : Nat) (samples : List Nat) (crcOk fixed : Bool) : Device :=
  if !portLive d c then d
  else
    let d := eccCorrected d c fixed
    match (camAtVc d c vc).filter fun i => camCfg d i 4 == dtype with
    | none => packetIgnored (crcCounted d c crcOk) c
    | some i =>
      let d := modCam d i fun u => { u with lastPkt := d.mono }
      if !crcOk then camDiscardOpen (crcCounted d c crcOk) i 6
      else if (camAt d i).opened then camLine d i samples else d

def frameEndOn (d : Device) (c i : Nat) : Device :=
  let u := camAt d i
  if !u.opened then packetIgnored (setCam d i { u with skipping := false }) c
  else if u.received < camCfg d i 8 then
    let d := camDiscardOpen d i 1
    modCam d i fun u => { u with skipping := false }
  else
    let d := bump (setCam d i
      { u with opened := false, completed := u.completed + 1,
               jobs := u.jobs.map fun j => if j.start = u.starts then { j with ended := true, number := u.completed + 1 } else j })
      (0x5480 + i) 0x43
    let d := if u.longFrame then bump d (0x5480 + i) 0x45 else d
    if camStreams d i = [] then modCam d i fun u => { u with jobs := [] } else camFinish d i u.starts

def csiFrameEndOp (d : Device) (c vc : Nat) (fixed : Bool) : Device :=
  if !portLive d c then d
  else
    let d := eccCorrected d c fixed
    match camAtVc d c vc with
    | none => packetIgnored d c
    | some i => frameEndOn d c i

def csiHeaderBadOp (d : Device) (c : Nat) : Device :=
  if !portLive d c then d
  else forEach (bump d (0x5400 + c) 9) (portInputs d c) fun d i => camDiscardOpen d i 5

/-- A packet that no input takes: its corrected header and its payload error are counted all the same (R117). -/
def csiIgnoredOp (d : Device) (k : StrayPacket) : Device :=
  let c := k.port
  if portLive d c then packetIgnored (crcCounted (eccCorrected d c k.eccFixed) c k.crcOk) c else d

def csiGapOp (d : Device) (i : Nat) : Device :=
  let u := camAt d i
  if u.opened ∧ u.lastPkt + 50000000 ≤ d.mono ∧ portLive d (camPort d i) then
    let d := camDiscardOpen d i 4
    modCam d i fun u => { u with skipping := false }
  else d

/-- The pipeline finishes its line and takes the next (R130). -/
def lineDoneOp (d : Device) (j : Nat) : Device :=
  if !pixUp d (dieOfPipe j) then d
  else match (pipeAt d j).service with
    | none => pipeServe d j
    | some (i, st, l) =>
      let d := setPipe d j { service := none }
      let d := setN d (0x5440 + j) 5 ((regN d (0x5440 + j) 5 + 1) % 2 ^ 31)
      let d := modCam d i fun u => { u with jobs := u.jobs.map fun x => if x.start = st then { x with done := x.done ++ [l] } else x }
      pipeServe (camFinish d i st) j

/-- The lanes of a port change state (R133). -/
def portLinkCode (s : PortLink) : Nat := match s with
  | .down => 1
  | .lpIdle => 2
  | .ulps => 3
  | .receiving => 4
def portLinkOp (d : Device) (c : Nat) (st : PortLink) : Device :=
  if portLive d c then setN d (0x5400 + c) 7 (portLinkCode st) else d

/-! ### Writes -/

/-- An enabled input starts empty. The parameters in force are those last applied: a commit that waits takes effect at the
first Frame Start (R119, R120). -/
def camEnableOp (d : Device) (i : Nat) : Device :=
  let u := camAt d i
  setCam (setN d (0x5480 + i) 1 1) i
    { CamUnit.reset with params := stagedVals d.force (0x5480 + i) 0x10 0x1B, pending := u.pending, lastEvent := u.lastEvent,
                         discards := u.discards }

/-- A disabled input stops at once; the sources of its streams enter SIGNAL_LOST (R120, R123). Its line in the pipeline belongs
to no frame from then on. -/
def camDisableOp (d : Device) (i : Nat) : Device :=
  let j := camCfg d i 6
  let d := match (pipeAt d j).service with
    | some (o, _, l) => if o = i then setPipe d j { service := some (o, 0, l) } else d
    | none => d
  let u := camAt d i
  let d := setCam (setN (setN d (0x5480 + i) 1 0) (0x5480 + i) 0x4A 0) i
    { CamUnit.reset with params := u.params, pending := u.pending, lastEvent := u.lastEvent, discards := u.discards }
  forEach d (camStreams d i) fun d k =>
    let s := streamSource d i k
    match liveOwner d s with
    | some o => if srcEnabled d s then modSrcUnit d s o fun u => { u with state := 4 } else d
    | none => d

/-- CameraInputCommit: the staged parameters take effect at the next Frame Start (R120). -/
def camCommitOp (d : Device) (i : Nat) : Device :=
  setN (modCam d i fun u => { u with pending := some (stagedVals d.regs (0x5480 + i) 0x10 0x1B) }) (0x5480 + i) 0x41 2

/-! ### The meanings -/

def execCsiFrameStart (dt : Nat) (c : CamPort) (vc : Fin 16) (eccFixed : Bool) (s : State) :=
  act dt s fun d => csiFrameStartOp d c vc eccFixed
def execCsiLongPacket (dt : Nat) (c : CamPort) (vc : Fin 16) (dtype : Nat) (samples : List Nat) (crcOk eccFixed : Bool) (s : State) :=
  act dt s fun d => csiLongPacketOp d c vc dtype samples crcOk eccFixed
def execCsiFrameEnd (dt : Nat) (c : CamPort) (vc : Fin 16) (eccFixed : Bool) (s : State) :=
  act dt s fun d => csiFrameEndOp d c vc eccFixed
def execCsiHeaderEccUncorrectable (dt : Nat) (c : CamPort) (s : State) := act dt s fun d => csiHeaderBadOp d c
def execCsiPacketIgnored (dt : Nat) (c : StrayPacket) (s : State) := act dt s fun d => csiIgnoredOp d c
def execCsiFrameGap (dt : Nat) (i : InputNo) (s : State) := act dt s fun d => csiGapOp d i
def execPipelineLineDone (dt : Nat) (j : PipeNo) (s : State) := act dt s fun d => lineDoneOp d j
def execPortLinkStateChange (dt : Nat) (c : CamPort) (st : PortLink) (s : State) := act dt s fun d => portLinkOp d c st

end Sys2Proof.Machine
end

