-- ==== Sys2Proof/Machine/Geometry.lean ====
section
/-! DEFINITION. Where a layer lies and which source pixels and tiles each destination pixel reads: crops, orientation,
scaling (R139, R146 to R148), the mapped area of a tile (R76) and strip allocations (R154). A layer's configuration is
kept as `pickVals` gives it. -/

namespace Sys2Proof.Machine

/-- A subindex of a layer configuration. -/
def lv (v : Table Val) (sub : Nat) : Nat := pickN 0x4000 v sub
/-- The layer configuration in force, and the staged one. -/
def layerCfg (d : Device) (n : Nat) : Table Val := pickVals d.force (0x4000 + n) 1 0x13
def layerStaged (d : Device) (n : Nat) : Table Val := pickVals d.regs (0x4000 + n) 1 0x13

/-- Crop X, Y, W, H in the source (R139). -/
def layerCrop (v : Table Val) (w h : Nat) : Nat × Nat × Nat × Nat :=
  if lv v 0x0C = 0 then (0, 0, w, h) else (hi16 (lv v 0x0B), lo16 (lv v 0x0B), hi16 (lv v 0x0C), lo16 (lv v 0x0C))
def destX (v : Table Val) : Int := int16 (hi16 (lv v 9))
def destY (v : Table Val) : Int := int16 (lo16 (lv v 9))
def destW (v : Table Val) : Nat := hi16 (lv v 0x0A)
def destH (v : Table Val) : Nat := lo16 (lv v 0x0A)
/-- Codes 1, 3, 5, 7 turn rows into columns. -/
def turned (v : Table Val) : Bool := lv v 0x0D % 2 == 1

/-- The size of the oriented crop: the input sizes of the horizontal and vertical axes (R147). -/
def orientedSize (v : Table Val) (cr : Nat × Nat × Nat × Nat) : Nat × Nat :=
  if turned v then (cr.2.2.2, cr.2.2.1) else (cr.2.2.1, cr.2.2.2)

/-- The crop pixel at oriented position (u, v): rotation clockwise after a horizontal mirror (R146). -/
def unorient (code cw ch u v : Nat) : Nat × Nat :=
  let r := code % 4
  let s := if r = 0 then (u, v) else if r = 1 then (v, ch - 1 - u) else if r = 2 then (cw - 1 - u, ch - 1 - v) else (cw - 1 - v, u)
  if 4 ≤ code then (cw - 1 - s.1, s.2) else s

/-! ### The polyphase scaler (R148) -/

def floorDiv (a : Int) (b : Nat) : Int := a / Int.ofNat b

/-- Source position of destination pixel i on an axis, in units of 2^-16. -/
def axisPos (out inn i : Nat) : Int :=
  floorDiv (2 * ((2 * Int.ofNat i + 1) * Int.ofNat inn - Int.ofNat out) * 65536 + 2 * Int.ofNat out) (4 * out)

/-- Base b and phase phi. -/
def axisPhase (out inn i : Nat) : Int × Nat :=
  let s := axisPos out inn i
  let b := s / 65536
  let phi := (((s - b * 65536) * 64 * 2 + 65536) / 131072).toNat
  if phi = 64 then (b + 1, 0) else (b, phi)

/-- pi in units of 2^-64. -/
def piFix : Int := 0x3243F6A8885A308D3

/-- Taylor terms of the sine from a term `t` of order 2k + 1. -/
def sinTerms : Nat → Nat → Int → Int → Int
  | 0, _, t, _ => t
  | n + 1, k, t, x2 => t + sinTerms n (k + 1) (-(t * x2 / (2 ^ 64 * Int.ofNat ((2 * k + 2) * (2 * k + 3))))) x2

/-- sinc(p / q) = sin(pi p / q) / (pi p / q) in units of 2^-64. DESIGN CHOICE: notes/assumptions/42.md. -/
def sincFix (p : Int) (q : Nat) : Int :=
  if p = 0 then 2 ^ 64
  else
    let r := (p + Int.ofNat q) % (2 * Int.ofNat q) - Int.ofNat q
    let x := piFix * r / Int.ofNat q
    let s := sinTerms 24 0 x (x * x / 2 ^ 64)
    s * Int.ofNat q * 2 ^ 64 / (piFix * p)

/-- The unnormalised weight of tap j: fc x_j = (64 j - phi) n / (64 m) with fc = n / m. -/
def tapWeight (half phi n m : Nat) (j : Int) : Int :=
  let p := (64 * j - Int.ofNat phi) * Int.ofNat n
  let q := 64 * m
  if Int.ofNat (half * q) ≤ Int.ofNat p.natAbs then 0 else sincFix p q * sincFix p (q * half) / 2 ^ 64

def tapIndices (half : Nat) : List Int := (List.range (2 * half)).map fun k => Int.ofNat k - Int.ofNat half + 1

/-- The first position of the largest element. -/
def argMax : List Int → Nat
  | [] => 0
  | a :: r => if r.all (fun b => decide (b ≤ a)) then 0 else argMax r + 1

/-- Coefficients q_j of one phase, in units of 1/256, summing to 256. -/
def tapCoeffs (half phi out inn : Nat) : List Int :=
  let (n, m) := if inn ≤ out then (1, 1) else (out, inn)
  let w := (tapIndices half).map (tapWeight half phi n m)
  let sum := w.foldl (· + ·) 0
  let q := w.map fun x => (512 * x + sum) / (2 * sum)
  let c := argMax q
  q.set c (q.getD c 0 + 256 - q.foldl (· + ·) 0)

/-- The taps of destination pixel i: source positions, clamped to the crop, with coefficients. `half` is T/2; mode 2
is NEAREST; at S2 and deeper SMOOTH has two taps. -/
def axisTaps (half mode : Nat) (shed : Bool) (out inn i : Nat) : List (Nat × Int) :=
  let clamp (p : Int) : Nat := if p < 0 then 0 else if Int.ofNat inn ≤ p then inn - 1 else p.toNat
  if out = inn then [(clamp (Int.ofNat i), 256)]
  else if mode = 2 then [(clamp ((axisPos out inn i + 32768) / 65536), 256)]
  else
    let (b, phi) := axisPhase out inn i
    if shed then [(clamp b, 256 - 4 * Int.ofNat phi), (clamp (b + 1), 4 * Int.ofNat phi)]
    else ((tapIndices half).zip (tapCoeffs half phi out inn)).map fun e => (clamp (b + e.1), e.2)

def clamp12 (v : Int) : Nat := if v < 0 then 0 else if 4095 < v then 4095 else v.toNat
def tapSum (l : List (Nat × Int)) (f : Nat → Nat) : Nat :=
  clamp12 ((l.foldl (fun a e => a + e.2 * Int.ofNat (f e.1)) 128) / 256)

/-! ### Tiles a destination pixel needs (R76, R80) -/

/-- The tile that holds crop pixel (x, y). -/
def tileAt (cr : Nat × Nat × Nat × Nat) (w x y : Nat) : Nat := (cr.2.1 + y) / 16 * gridCols w + (cr.1 + x) / 16

/-- The taps of the pixel at (i, j) of the destination rectangle, horizontal and vertical. -/
def pixelTaps (v : Table Val) (shed : Bool) (cr : Nat × Nat × Nat × Nat) (i j : Nat) : List (Nat × Int) × List (Nat × Int) :=
  let o := orientedSize v cr
  (axisTaps 4 (lv v 0x11) shed (destW v) o.1 i, axisTaps 3 (lv v 0x11) shed (destH v) o.2 j)

/-- The tiles in the footprint of a destination pixel. DEDUCED: notes/assumptions/45.md. -/
def footprint (v : Table Val) (shed : Bool) (cr : Nat × Nat × Nat × Nat) (w i j : Nat) : List Nat :=
  let t := pixelTaps v shed cr i j
  (t.2.flatMap fun b => t.1.map fun a =>
    let s := unorient (lv v 0x0D) cr.2.2.1 cr.2.2.2 a.1 b.1
    tileAt cr w s.1 s.2).eraseDups

/-- The tiles of the crop in the order in which they are fetched: strips of tile rows, or of tile columns where the layer is
turned, in the order of their place on the destination (R146). -/
def fetchOrder (code : Nat) (cr : Nat × Nat × Nat × Nat) (w : Nat) : List Nat :=
  if cr.2.2.1 = 0 ∨ cr.2.2.2 = 0 then []
  else
    let c0 := cr.1 / 16
    let c1 := (cr.1 + cr.2.2.1 - 1) / 16
    let r0 := cr.2.1 / 16
    let r1 := (cr.2.1 + cr.2.2.2 - 1) / 16
    let cols := List.range' c0 (c1 + 1 - c0)
    let rows := List.range' r0 (r1 + 1 - r0)
    let cols := if [2, 3, 4, 5].contains code then cols.reverse else cols
    let rows := if [1, 2, 5, 6].contains code then rows.reverse else rows
    if code % 2 = 1 then cols.flatMap fun c => rows.map fun r => r * gridCols w + c
    else rows.flatMap fun r => cols.map fun c => r * gridCols w + c

/-- How many tiles a crop counts (R202). -/
def cropTileCount (cr : Nat × Nat × Nat × Nat) : Nat := ceilDiv (cr.1 % 16 + cr.2.2.1) 16 * ceilDiv (cr.2.1 % 16 + cr.2.2.2) 16

/-- The part of tile t inside the crop, in crop pixels: x0, y0, x1, y1 (exclusive). -/
def tileInCrop (cr : Nat × Nat × Nat × Nat) (w t : Nat) : Nat × Nat × Nat × Nat :=
  let tx := t % gridCols w * 16
  let ty := t / gridCols w * 16
  (max tx cr.1 - cr.1, max ty cr.2.1 - cr.2.1, min (tx + 16) (cr.1 + cr.2.2.1) - cr.1, min (ty + 16) (cr.2.1 + cr.2.2.2) - cr.2.1)

/-- A tile's rectangle in oriented coordinates: u0, v0, u1, v1 (exclusive). -/
def tileOriented (v : Table Val) (cr : Nat × Nat × Nat × Nat) (w t : Nat) : Nat × Nat × Nat × Nat :=
  let c := tileInCrop cr w t
  let cw := cr.2.2.1
  let ch := cr.2.2.2
  let code := lv v 0x0D
  let xs := if 4 ≤ code then (cw - c.2.2.1, cw - c.1) else (c.1, c.2.2.1)
  let ys := (c.2.1, c.2.2.2)
  let r := code % 4
  if r = 0 then (xs.1, ys.1, xs.2, ys.2)
  else if r = 1 then (ch - ys.2, xs.1, ch - ys.1, xs.2)
  else if r = 2 then (cw - xs.2, ch - ys.2, cw - xs.1, ch - ys.1)
  else (ys.1, cw - xs.2, ys.2, cw - xs.1)

/-- The mapped area of a tile, rounded outward to whole destination pixels, relative to the destination rectangle:
x0, y0, x1, y1 (exclusive) (R76). -/
def mappedArea (v : Table Val) (cr : Nat × Nat × Nat × Nat) (w t : Nat) : Nat × Nat × Nat × Nat :=
  let o := orientedSize v cr
  let q := tileOriented v cr w t
  (q.1 * destW v / o.1, q.2.1 * destH v / o.2, ceilDiv (q.2.2.1 * destW v) o.1, ceilDiv (q.2.2.2 * destH v) o.2)

/-- The 16 x 16 source rectangle of tile t, whole, mapped to destination pixels and rounded outward: x0, y0, x1, y1 (exclusive),
relative to the destination rectangle, beyond whose edges it may reach (R76). -/
def wholeArea (v : Table Val) (cr : Nat × Nat × Nat × Nat) (w t : Nat) : Int × Int × Int × Int :=
  let o := orientedSize v cr
  let x := Int.ofNat (t % gridCols w * 16) - Int.ofNat cr.1
  let y := Int.ofNat (t / gridCols w * 16) - Int.ofNat cr.2.1
  let cw := Int.ofNat cr.2.2.1
  let ch := Int.ofNat cr.2.2.2
  let code := lv v 0x0D
  let u := if 4 ≤ code then cw - x - 16 else x
  let r := code % 4
  let a := if r = 0 then u else if r = 1 then ch - y - 16 else if r = 2 then cw - u - 16 else y
  let b := if r = 0 then y else if r = 1 then u else if r = 2 then ch - y - 16 else cw - u - 16
  let lo (n : Int) (size whole : Nat) : Int := n * Int.ofNat size / Int.ofNat whole
  let hi (n : Int) (size whole : Nat) : Int := -(-(n * Int.ofNat size) / Int.ofNat whole)
  (lo a (destW v) o.1, lo b (destH v) o.2, hi (a + 16) (destW v) o.1, hi (b + 16) (destH v) o.2)

/-! ### Strip memory (R154) -/

def bytesPerPixel (fmt : Nat) : Nat := if fmt = 4 then 1 else 4

/-- KiB of strip memory a configuration takes, the source being w × h of format fmt. -/
def stripKib (v : Table Val) (w h fmt : Nat) : Nat :=
  if lv v 1 = 0 ∨ 512 ≤ lv v 2 then 0
  else
    let cr := layerCrop v w h
    let o := orientedSize v cr
    let f := if o.2 ≤ destH v then 1 else ceilDiv o.2 (destH v)
    let lines := 2 * 16 * f + (if lv v 0x11 = 2 then 1 else 6)
    let x0 := if turned v then cr.2.1 else cr.1
    let span := if turned v then cr.2.2.2 else cr.2.2.1
    let tiles := ceilDiv (x0 % 16 + span) 16
    ceilDiv (lines * tiles * 16 * bytesPerPixel fmt) 1024

end Sys2Proof.Machine
end

