-- ==== Sys2Proof/Machine/Compose.lean ====
section
/-! DEFINITION. What the heads draw: stored pixels to the blender, treatments, guard planes, the post-blend LUT
(R34 to R41, R76, R79, R141 to R153, R165, R167, R187). -/

namespace Sys2Proof.Machine

abbrev Rgb := Nat × Nat × Nat

def hv (v : Table Val) (sub : Nat) : Nat := pickN 0x4800 v sub
def gv (v : Table Val) (sub : Nat) : Nat := pickN 0x4900 v sub
def tv (v : Table Val) (sub : Nat) : Nat := pickN 0x6000 v sub

/-- A 10-bit code as a 12-bit value (R149). -/
def up12 (v : Nat) : Nat := v * 4 + v / 256
def rgb10 (v : Nat) : Rgb := (v / 2 ^ 20 % 1024, v / 2 ^ 10 % 1024, v % 1024)
def up12c (c : Rgb) : Rgb := (up12 c.1, up12 c.2.1, up12 c.2.2)

/-! ### The palette and styles (R37, R43) -/

def greyC : Rgb := up12c (0x180, 0x180, 0x180)
def crossC : Rgb := up12c (0x060, 0x060, 0x060)
def amberC : Rgb := up12c (0x3FF, 0x2A0, 0x000)
def whiteC : Rgb := up12c (0x3FF, 0x3FF, 0x3FF)
def blackC : Rgb := (0, 0, 0)
/-- Hatch colour and line width of a style set. -/
def hatchStyle (set : Nat) : Rgb × Nat :=
  if set = 2 then ((0, 0, 0), 2) else if set = 3 then (up12c (0, 0, 0x180), 2)
  else if set = 4 then (up12c (0x0C0, 0x0C0, 0x0C0), 4) else (up12c (0x0C0, 0x0C0, 0x0C0), 2)
/-- Text and backing colours of a style set. DESIGN CHOICE: notes/assumptions/41.md. -/
def textStyle (set : Nat) : Rgb × Rgb := if set = 4 then (blackC, whiteC) else (whiteC, blackC)

/-- The treatment style of 0x5C00: set, position, size, border, seal mark. -/
structure Policy where
  set    : Nat
  pos    : Nat
  size   : Nat
  border : Nat
  mark   : Bool

def policyOf (d : Device) : Policy :=
  { set := regN d 0x5C00 1, pos := regN d 0x5C00 2, size := regN d 0x5C00 3, border := regN d 0x5C00 4, mark := regT d 0x5C00 5 }

/-! ### Text (R38 to R40) -/

def codes (s : String) : List Nat := s.toList.map (·.toNat)

def digits (n : Nat) : List Nat := codes (toString n)

/-- The text of an age of `us` µs (R39). DEDUCED: notes/assumptions/163.md. -/
def staleText (us : Nat) : List Nat :=
  codes "STALE " ++
  (if us < 100000000 then digits (us / 1000000) ++ [46] ++ digits (us / 100000 % 10) ++ codes " s"
   else if us ≤ 9999000000 then digits (us / 1000000) ++ codes " s"
   else codes ">9999 s")

def dash : List Nat := [32, 0x2014, 32]

/-- The treatment text of a verdict and cause (R38). -/
def verdictText (verdict cause us : Nat) : List Nat :=
  if verdict = 0 then codes "STALE"
  else if verdict = 1 then staleText us
  else if verdict = 2 then codes "FROZEN"
  else if verdict = 3 then codes "BROKEN"
  else if verdict = 4 then codes "NO SIGNAL"
  else if verdict = 5 then
    (if cause = 12 then codes "REVIEW" ++ dash ++ codes "NOT LIVE"
     else if cause = 13 then codes "MAINTENANCE" ++ dash ++ codes "NOT LIVE" else codes "POWER SHED")
  else []

/-- Whether a text of g glyphs at s px fits a rectangle (R40). -/
def textFits (g s w h : Nat) : Bool := decide (g * s / 2 + 8 ≤ w ∧ s + 8 ≤ h)
/-- The size a text is drawn at: the policy's or the rectangle's, or the first smaller that fits. -/
def textSize (p : Policy) (g w h : Nat) : Option Nat :=
  let s0 := if p.size ≠ 0 then p.size else if 480 ≤ w ∧ 120 ≤ h then 32 else if 240 ≤ w ∧ 64 ≤ h then 24 else 16
  ([32, 24, 16].filter (· ≤ s0)).find? fun s => textFits g s w h

/-- Whether (x, y) of a line of glyphs at size s is ink: cells s / 2 wide. -/
def inkAt (txt : List Nat) (s x y : Nat) : Bool :=
  match txt[x / (s / 2)]? with
  | some ch => decide (y < s) && Config.glyphInk ch s (x % (s / 2)) y
  | none => false

/-- A text on its backing box in a w × h rectangle: the colour at (i, j), if the box covers it. -/
def textPixel (p : Policy) (txt : List Nat) (w h i j : Nat) : Option Rgb :=
  match textSize p txt.length w h with
  | none => none
  | some s =>
    let bw := txt.length * s / 2 + 8
    let bh := s + 8
    let x0 := (w - bw) / 2
    let y0 := if p.pos = 2 then 0 else if p.pos = 3 then h - bh else (h - bh) / 2
    if txt ≠ [] ∧ x0 ≤ i ∧ i < x0 + bw ∧ y0 ≤ j ∧ j < y0 + bh then
      let st := textStyle p.set
      let ink := decide (x0 + 4 ≤ i ∧ y0 + 4 ≤ j) && inkAt txt s (i - x0 - 4) (j - y0 - 4)
      some (if ink then st.1 else st.2)
    else none

/-! ### Stored pixels (R142 to R145) -/

/-- The bytes of a crop pixel in a verified tile, and whether that tile is OPAQUE. -/
def pixelBytes (L : ScanLayer) (f : Frame) (cr : Nat × Nat × Nat × Nat) (x y : Nat) : Option (List Byte × Bool) :=
  (tfind L.verified (tileAt cr f.width x y)).map fun s =>
    let bpp := bytesPerPixel f.format
    let o := ((cr.2.1 + y) % 16 * 16 + (cr.1 + x) % 16) * bpp
    ((s.payload.drop o).take bpp, hdrOpaque s.hdr)

def byteN (b : List Byte) (k : Nat) : Nat := (b.getD k 0).toNat
def up10 (v : Nat) : Nat := v * 4 + v / 64

/-- A format 3 sample's 10 bits: chroma in the first word of a pixel, luma in the second. -/
def sample10 (b : List Byte) (k : Nat) : Nat := (byteN b (2 * k) * 256 + byteN b (2 * k + 1)) / 64

/-- Cb, Cr of the even pixel at crop column x, none where it is outside the crop or not verified. -/
def evenChroma (L : ScanLayer) (f : Frame) (cr : Nat × Nat × Nat × Nat) (x y : Nat) : Option (Nat × Nat) :=
  if cr.2.2.1 ≤ x then none
  else match pixelBytes L f cr x y with
    | none => none
    | some (a, _) =>
      let b := if x + 1 < cr.2.2.1 ∨ (cr.1 + x + 1) % 16 ≠ 0 then (pixelBytes L f cr (x + 1) y).map (·.1) else none
      some (sample10 a 0, sample10 (b.getD []) 0)

/-- The chroma of a crop pixel (R143). DESIGN CHOICE: notes/assumptions/43.md. -/
def chromaAt (L : ScanLayer) (f : Frame) (cr : Nat × Nat × Nat × Nat) (x y : Nat) : Nat × Nat :=
  let free : Nat × Nat := (Config.edgeSample (Int.ofNat x) (Int.ofNat y) % 1024, Config.edgeSample (Int.ofNat y) (Int.ofNat x) % 1024)
  if (cr.1 + x) % 2 = 0 then (evenChroma L f cr x y).getD free
  else
    let c0 := if x = 0 then none else evenChroma L f cr (x - 1) y
    match c0, evenChroma L f cr (x + 1) y with
    | some a, some b => ((a.1 + b.1 + 1) / 2, (a.2 + b.2 + 1) / 2)
    | some a, none => a
    | none, some b => b
    | none, none => free

def clamp10 (v : Int) : Nat := if v < 0 then 0 else if 1023 < v then 1023 else v.toNat
/-- R143. -/
def yccRgb (matrix y cb cr : Nat) : Rgb :=
  let y' : Int := Int.ofNat y - 64
  let b' : Int := Int.ofNat cb - 512
  let r' : Int := Int.ofNat cr - 512
  let (krv, kgu, kgv, kbu) : Int × Int × Int × Int := if matrix = 2 then (1724, -192, -668, 2200) else (1841, -219, -547, 2169)
  (clamp10 ((1196 * y' + krv * r' + 512) / 1024), clamp10 ((1196 * y' + kgu * b' + kgv * r' + 512) / 1024),
   clamp10 ((1196 * y' + kbu * b' + 512) / 1024))

/-- Colour indices (10 bits) and alpha (12 bits) of a crop pixel (R142). -/
def expand (L : ScanLayer) (f : Frame) (cr : Nat × Nat × Nat × Nat) (x y : Nat) : Rgb × Nat :=
  match pixelBytes L f cr x y with
  | none => ((0, 0, 0), 0)
  | some (b, opq) =>
    let (c, a) : Rgb × Nat :=
      if f.format = 1 then ((up10 (byteN b 1), up10 (byteN b 2), up10 (byteN b 3)), byteN b 0 * 16 + byteN b 0 / 16)
      else if f.format = 2 then (rgb10 (bigEndian b), bigEndian b / 2 ^ 30 * 1365)
      else if f.format = 3 then let q := chromaAt L f cr x y; (yccRgb (lv L.cfg 0x10) (sample10 b 1) q.1 q.2, 4095)
      else ((up10 (byteN b 0), up10 (byteN b 0), up10 (byteN b 0)), 4095)
    (c, if opq then 4095 else a)

/-- The pre-blend LUT (R144). -/
def preLut (L : ScanLayer) (curve v : Nat) : Nat :=
  if lv L.cfg 0x12 = 1 then be16At (pickB 0x4000 L.cfg 0x13) (1024 * curve + v) else v * 4 + v / 256

/-- A crop pixel as it enters the scaler: pre-multiplied colour and alpha (R144, R145). -/
def scalerIn (L : ScanLayer) (f : Frame) (cr : Nat × Nat × Nat × Nat) (x y : Nat) : Rgb × Nat :=
  let (c, a) := expand L f cr x y
  let m (v : Nat) : Nat := if lv L.cfg 0x0E = 1 ∧ a ≠ 4095 then (v * (a + a / 2048) + 2048) / 4096 else v
  ((m (preLut L 0 c.1), m (preLut L 1 c.2.1), m (preLut L 2 c.2.2)), a)

/-- The scaled pixel at (i, j) of the destination rectangle (R148). The order of the two axes matters only where both
scale. -/
def scaledPixel (L : ScanLayer) (f : Frame) (shed : Bool) (i j : Nat) : Rgb × Nat :=
  let cr := layerCrop L.cfg f.width f.height
  let t := pixelTaps L.cfg shed cr i j
  let at_ (u v : Nat) : Rgb × Nat :=
    let s := unorient (lv L.cfg 0x0D) cr.2.2.1 cr.2.2.2 u v
    scalerIn L f cr s.1 s.2
  let both (g : Rgb × Nat → Nat) : Nat :=
    if t.1.length = 1 then tapSum t.2 fun v => g (at_ (t.1.headD (0, 0)).1 v)
    else if t.2.length = 1 then tapSum t.1 fun u => g (at_ u (t.2.headD (0, 0)).1)
    else if Config.scalerHorizontalFirst then tapSum t.2 fun v => tapSum t.1 fun u => g (at_ u v)
    else tapSum t.1 fun u => tapSum t.2 fun v => g (at_ u v)
  ((both (·.1.1), both (·.1.2.1), both (·.1.2.2)), both (·.2))

/-! ### Treatments (R34 to R41, R76) -/

def desaturate (c : Rgb) : Rgb :=
  let y := (218 * c.1 + 732 * c.2.1 + 74 * c.2.2 + 512) / 1024
  let v := (y + 2) / 4
  (v, v, v)

def inRect (r : Int × Int × Int × Int) (i j : Nat) : Bool :=
  decide (r.1 ≤ Int.ofNat i ∧ Int.ofNat i < r.2.2.1 ∧ r.2.1 ≤ Int.ofNat j ∧ Int.ofNat j < r.2.2.2)

/-- Whether (x, y) of a w × h area lies on one of its diagonals, 2 px wide. -/
def onCross (w h x y : Nat) : Bool :=
  let a := y * w / h
  let b := w - 1 - a
  x == a || x == a + 1 || x == b || x + 1 == b

/-- The BROKEN tile treatment at (i, j) on stream line `line` (R41, R75, R76): a failed tile whose area or footprint takes
the pixel in. DESIGN CHOICE: notes/assumptions/171.md. -/
def brokenAt (L : ScanLayer) (f : Frame) (shed : Bool) (i j line : Nat) : Option Rgb :=
  let cr := layerCrop L.cfg f.width f.height
  let fp := if L.failed = [] then [] else footprint L.cfg shed cr f.width i j
  match L.failed.find? fun e => decide (e.2.2 ≤ line) && (inRect (wholeArea L.cfg cr f.width e.1) i j || fp.contains e.1) with
  | none => none
  | some e =>
    let r := wholeArea L.cfg cr f.width e.1
    let w := (r.2.2.1 - r.1).toNat
    let h := (r.2.2.2 - r.2.1).toNat
    some (if inRect r i j && decide (8 ≤ w ∧ 8 ≤ h) && onCross w h (Int.ofNat i - r.1).toNat (Int.ofNat j - r.2.1).toNat then crossC
      else greyC)

/-- Whether the layer's content is drawn under a verdict and cause: all but NOSOURCE, WITHHELD other than REVIEW, and
layers of which nothing is shown (R17, R38, R47). (R6, R48.) -/
def showsContent (verdict cause : Nat) : Bool :=
  if verdict = 4 then false else if verdict = 5 then cause == 12 else !(cause == 15 || cause == 16)
/-- Whether anything of the layer is drawn. -/
def drawn (cause : Nat) : Bool := !(cause == 15 || cause == 16)

/-- DESIGN CHOICE: notes/assumptions/217.md. -/
def sealMark (p : Policy) (L : ScanLayer) (i j : Nat) : Option Rgb :=
  if p.mark ∧ 6 ≤ L.verdict then
    let b := if L.verdict = 6 then (if p.border = 8 then 8 else 4) else 0
    let w := 8 + 4
    let h := 16 + 4
    let x0 := destW L.cfg - b - w
    let ch := match L.frame with
      | some f => if f.origin then 79 else 73
      | none => 73
    if b + w ≤ destW L.cfg ∧ x0 ≤ i ∧ i < x0 + w ∧ b ≤ j ∧ j < b + h then
      some (if decide (x0 + 2 ≤ i ∧ b + 2 ≤ j) && inkAt [ch] 16 (i - x0 - 2) (j - b - 2) then whiteC else blackC)
    else none
  else none

/-- The height of the REVIEW banner of a w × h pane: one text line plus padding (R48). DESIGN CHOICE: notes/assumptions/218.md. -/
def bannerHeight (p : Policy) (txt : List Nat) (w h : Nat) : Nat := (textSize { p with pos := 2 } txt.length w h).getD 16 + 8

/-- The layer's pixel at (i, j) of its destination rectangle: colour, alpha and whether it is a treatment pixel. DEDUCED: notes/assumptions/180.md. DESIGN CHOICE: notes/assumptions/219.md. -/
def layerPixel (p : Policy) (shed : Bool) (L : ScanLayer) (i j line : Nat) : Option (Rgb × Nat × Bool) :=
  let w := destW L.cfg
  let h := destH L.cfg
  let solid (c : Rgb) : Option (Rgb × Nat × Bool) := some (c, 4095, true)
  let txt := verdictText L.verdict L.cause L.ageUs
  if !drawn L.cause then none
  else if !showsContent L.verdict L.cause then
    match textPixel p txt w h i j with
    | some c => solid c
    | none => solid greyC
  else if L.verdict = 5 ∧ j < bannerHeight p txt w h then
    match textPixel { p with pos := 2 } txt w h i j with
    | some c => solid c
    | none => solid greyC
  else match L.frame with
    | none => none
    | some f =>
      let px := scaledPixel L f shed i j
      if L.verdict = 5 then
        match brokenAt L f shed i j line with
          | some c => solid c
          | none => some (desaturate px.1, px.2, false)
      else if L.verdict ≤ 3 then
        let hs := hatchStyle p.set
        match textPixel p txt w h i j with
        | some c => solid c
        | none => match brokenAt L f shed i j line with
          | some c => solid c
          | none => if (i + j) % 8 < hs.2 then solid hs.1 else some (desaturate px.1, px.2, false)
      else
        let b := if p.border = 8 then 8 else 4
        if L.verdict = 6 ∧ (i < b ∨ j < b ∨ w ≤ i + b ∨ h ≤ j + b) then solid amberC
        else match sealMark p L i j with
          | some c => solid c
          | none => match brokenAt L f shed i j line with
            | some c => solid c
            | none => some (px.1, px.2, false)

/-! ### Blending (R149) -/

def blendC (d c a : Nat) : Nat :=
  let k := a + a / 2048
  min 4095 (c + (d * (4096 - k) + 2048) / 4096)
def blend (d : Rgb) (c : Rgb) (a : Nat) : Rgb := (blendC d.1 c.1 a, blendC d.2.1 c.2.1 a, blendC d.2.2 c.2.2 a)

/-- One layer onto the running value at stream pixel (x, y). -/
def blendLayer (p : Policy) (shed : Bool) (x y : Nat) (d : Rgb) (L : ScanLayer) : Rgb :=
  let i := Int.ofNat x - destX L.cfg
  let j := Int.ofNat y - destY L.cfg
  let al := lv L.cfg 0x0F
  if al = 0 ∨ i < 0 ∨ j < 0 ∨ Int.ofNat (destW L.cfg) ≤ i ∨ Int.ofNat (destH L.cfg) ≤ j then d
  else match layerPixel p shed L i.toNat j.toNat y with
    | none => d
    | some (c, a, true) => blend d c a
    | some (c, a, false) =>
      let al' := al + al / 512
      let m (v : Nat) : Nat := (v * al' + 512) / 1024
      blend d (m c.1, m c.2.1, m c.2.2) (m a)

/-! ### Tag fields (R165, R167) -/

/-- A conversion of a TagFormat: kind (1 d, 2 u, 3 x, 4 f), width and decimals. -/
structure Conv where
  kind : Nat
  wid  : Nat
  dec  : Nat
  deriving DecidableEq, Repr

/-- A parsed TagFormat: text before, the conversion, text after. -/
inductive Fmt where
  | ok (before : List Nat) (c : Conv) (after : List Nat)
  | bad
  deriving DecidableEq, Repr

/-- Reads one conversion after "%": an optional width 1 to 9, then d, u, x, or .N f. -/
def readConv (l : List Nat) : Option (Conv × List Nat) :=
  let (w, l) : Nat × List Nat := match l with
    | k :: r => if 49 ≤ k ∧ k ≤ 57 then (k - 48, r) else (0, l)
    | [] => (0, [])
  match l with
  | 100 :: r => some ({ kind := 1, wid := w, dec := 0 }, r)
  | 117 :: r => some ({ kind := 2, wid := w, dec := 0 }, r)
  | 120 :: r => some ({ kind := 3, wid := w, dec := 0 }, r)
  | 46 :: n :: 102 :: r => if 48 ≤ n ∧ n ≤ 52 then some ({ kind := 4, wid := w, dec := n - 48 }, r) else none
  | _ => none

/-- Reads the literal characters from a position; stops at a conversion. `fuel` bounds the length. -/
def readText : Nat → List Nat → List Nat × Option (List Nat)
  | 0, _ => ([], none)
  | _, [] => ([], none)
  | n + 1, 37 :: 37 :: r => let t := readText n r; (37 :: t.1, t.2)
  | _, 37 :: r => ([], some r)
  | n + 1, k :: r => let t := readText n r; (k :: t.1, t.2)

def charOk (k : Nat) : Bool := decide ((0x20 ≤ k ∧ k ≤ 0x7E) ∨ k = 0xB0 ∨ k = 0xB5)

/-- A TagFormat holds exactly one conversion, in the characters of R165. -/
def parseFmt (s : List Byte) : Fmt :=
  let l := s.map (·.toNat)
  if l.any fun k => !charOk k then .bad
  else match readText (l.length + 1) l with
    | (_, none) => .bad
    | (before, some r) => match readConv r with
      | none => .bad
      | some (c, r) => match readText (r.length + 1) r with
        | (after, none) => .ok before c after
        | (_, some _) => .bad

/-- Whether a format suits a value type (1 INTEGER32, 2 UNSIGNED32, 3 REAL32). -/
def fmtFits (f : Fmt) (ty : Nat) : Bool := match f with
  | .bad => false
  | .ok _ c _ => if ty = 1 then c.kind == 1 else if ty = 2 then c.kind == 2 || c.kind == 3 else c.kind == 4

def hexDigits : Nat → Nat → List Nat
  | 0, _ => []
  | n + 1, v => (if v < 16 then [] else hexDigits n (v / 16)) ++ [if v % 16 < 10 then 48 + v % 16 else 55 + v % 16]

def padLeft (w : Nat) (l : List Nat) : List Nat := List.replicate (w - l.length) 32 ++ l

/-- A REAL32 rounded half away from zero to N decimals. -/
def realText (bits dec : Nat) : List Nat :=
  let e := bits / 2 ^ 23 % 256
  let m := bits % 2 ^ 23
  if e = 255 then codes "----"
  else
    let (mant, ex) : Nat × Int := if e = 0 then (m, -149) else (m + 2 ^ 23, Int.ofNat e - 150)
    let n : Nat := if 0 ≤ ex then mant * 2 ^ ex.toNat * 10 ^ dec else (2 * mant * 10 ^ dec + 2 ^ (-ex).toNat) / (2 * 2 ^ (-ex).toNat)
    let ip := digits (n / 10 ^ dec)
    let fp := digits (n % 10 ^ dec)
    let body := if dec = 0 then ip else ip ++ [46] ++ List.replicate (dec - fp.length) 48 ++ fp
    if bits / 2 ^ 31 % 2 = 1 then 45 :: body else body

/-- The text of a value (R165). -/
def valueText (f : Fmt) (v : Nat) : List Nat := match f with
  | .bad => []
  | .ok b c a =>
    let t := if c.kind = 1 then (if v < 2 ^ 31 then digits v else 45 :: digits (2 ^ 32 - v))
      else if c.kind = 2 then digits v else if c.kind = 3 then hexDigits 9 v else realText v c.dec
    b ++ padLeft c.wid t ++ a

/-- Glyph cells of a field (R164). -/
def fieldGlyphs (v : Table Val) : Nat := (hi16 (tv v 6) - 4) / (tv v 7 / 2)

/-- The pixel of a tag field at (i, j) of its rectangle (R165, R167). -/
def tagPixel (p : Policy) (F : TagField) (i j : Nat) : Rgb :=
  let w := hi16 (tv F.cfg 6)
  let h := lo16 (tv F.cfg 6)
  let s := tv F.cfg 7
  let g := fieldGlyphs F.cfg
  let col := tv F.cfg 0x0A
  let text := up12c (rgb10 (col / 2 ^ 30 % 2 ^ 30))
  let back := up12c (rgb10 (col % 2 ^ 30))
  let y0 := (h - s) / 2
  let draw (t : List Nat) (ink bg : Rgb) : Rgb :=
    if decide (s ≤ h ∧ 4 ≤ i ∧ y0 ≤ j) && inkAt t s (i - 4) (j - y0) then ink else bg
  if 6 ≤ F.verdict then
    let t := valueText (parseFmt (pickB 0x6000 F.cfg 8)) F.value
    let t := if t.length ≤ g then t else List.replicate g 35
    if F.verdict = 6 ∧ (i < 2 ∨ j < 2 ∨ w ≤ i + 2 ∨ h ≤ j + 2) then amberC else draw t text back
  else
    let t := if F.verdict = 1 then staleText F.ageUs else codes "STALE"
    let hs := hatchStyle p.set
    let st := textStyle p.set
    let bg := if (i + j) % 8 < hs.2 then hs.1 else back
    if t.length ≤ g ∧ s ≤ h then
      (if 4 ≤ i ∧ i < 4 + t.length * (s / 2) ∧ y0 ≤ j ∧ j < y0 + s then draw t st.1 st.2 else bg)
    else bg

def tagX (v : Table Val) : Nat := hi16 (tv v 5)
def tagY (v : Table Val) : Nat := lo16 (tv v 5)
/-- Whether a tag field of a stream covers (x, y). -/
def tagCovers (k x y : Nat) (F : TagField) : Bool :=
  tv F.cfg 4 == k && decide (tagX F.cfg ≤ x ∧ x < tagX F.cfg + hi16 (tv F.cfg 6) ∧ tagY F.cfg ≤ y ∧ y < tagY F.cfg + lo16 (tv F.cfg 6))

/-! ### Guard planes (R150, R151) -/

/-- The planes of a GuardOrder, top first: 1 ALARM, 2 TAG, 3 MAINT. -/
def planesTop (order : Nat) : List Nat :=
  if order = 2 then [1, 3, 2] else if order = 3 then [3, 2, 1] else if order = 4 then [2, 3, 1] else if order = 5 then [1, 2, 3]
  else if order = 6 then [2, 1, 3] else [3, 1, 2]

/-- Text of the MAINT plane's banner that covers line y: the forced one on top, the free one below it. -/
def bannerAt (S : Scan) (y : Nat) : Option (List Nat × Nat) :=
  let freeOn := gv S.gcfg 3 == 1
  let freeText := (pickB 0x4900 S.gcfg 2).map (·.toNat)
  if S.forced then
    (if y < 48 then some (codes "MAINTENANCE" ++ dash ++ codes "DEBUG OPEN", y)
     else if freeOn ∧ y < 96 then some (freeText, y - 48) else none)
  else if freeOn ∧ y < 48 then some (freeText, y) else none

/-- A banner pixel: 32 px text centred on a 48 px strip of a W px wide stream, cut at the last whole glyph. -/
def bannerPixel (txt : List Nat) (W x y : Nat) : Rgb :=
  let t := txt.take (W / 16)
  let x0 := (W - t.length * 16) / 2
  if decide (x0 ≤ x ∧ 8 ≤ y) && inkAt t 32 (x - x0) (y - 8) then whiteC else blackC

/-- One guard plane's pixel, if it draws there. -/
def planePixel (p : Policy) (S : Scan) (k W x y plane : Nat) : Option Rgb :=
  if plane = 3 then (bannerAt S y).map fun b => bannerPixel b.1 W x b.2
  else
    (S.tags.reverse.find? fun F => (tv F.cfg 2 == (if plane = 1 then 2 else 1)) && tagCovers k x y F).map fun F =>
      tagPixel p F (x - tagX F.cfg) (y - tagY F.cfg)

/-- The text of a full-screen GREY (R52). -/
def greyText (g : Grey) : List Nat := match g with
  | .none => []
  | .starting => codes "NOT LIVE" ++ dash ++ codes "STARTING"
  | .maintenance => codes "NOT LIVE" ++ dash ++ codes "MAINTENANCE"
  | .powerShed => codes "POWER SHED"
  | .supply => codes "NOT LIVE" ++ dash ++ codes "SUPPLY"

def hActive (v : Table Val) : Nat := hi16 (hv v 7)
def vActive (v : Table Val) : Nat := lo16 (hv v 7)

/-- The layers of a stream. -/
def streamLayers (S : Scan) (k : Nat) : List ScanLayer := S.layers.filter fun L => lv L.cfg 8 == k

/-- The composed value below TELLTALE at (x, y) of stream k; `under` is the column from which the line underruns. DESIGN CHOICE: notes/assumptions/170.md. -/
def composed (p : Policy) (S : Scan) (k : Nat) (under : Option Nat) (x y : Nat) : Rgb :=
  let W := hActive S.hcfg
  if S.grey ≠ .none then
    (textPixel { p with size := 32 } (greyText S.grey) W (vActive S.hcfg) x y).getD greyC
  else
    match (planesTop (gv S.gcfg 1)).findSome? (planePixel p S k W x y) with
    | some c => c
    | none =>
      let bg := up12c (rgb10 (hv S.hcfg 0x0F))
      let late := match under with
        | some u => decide (u ≤ x)
        | none => false
      if late then bg else (streamLayers S k).foldl (blendLayer p S.shed x y) bg

/-- The mark of stream k at (x, y): pattern A for an even frame count (R49, R189). -/
def markPixel (hcfg : Table Val) (k count x y : Nat) : Option Rgb :=
  let m := hv hcfg (0x12 + k)
  let mx := hi16 m
  let my := lo16 m
  if mx ≤ x ∧ x < mx + 32 ∧ my ≤ y ∧ y < my + 32 then
    some (if ((x - mx) / 8 + (y - my) / 8 + count) % 2 = 0 then blackC else whiteC)
  else none

/-- The post-blend LUT (R153). -/
def postLut (hcfg : Table Val) (c : Rgb) : Rgb :=
  if hv hcfg 0x10 = 1 then
    let t := pickB 0x4800 hcfg 0x11
    (be16At t c.1, be16At t (4096 + c.2.1), be16At t (8192 + c.2.2))
  else (c.1 / 4, c.2.1 / 4, c.2.2 / 4)

/-- A component as the link sends it at 8 or 10 bits (R175). -/
def sentCode (bits v : Nat) : Nat := if bits = 8 then min 255 ((v + 2) / 4) else v
/-- A pixel as the link sends it, MSB first: three components of HeadBitsPerComponent bits (R175). -/
def sentPixel (hcfg : Table Val) (c : Rgb) : Nat :=
  let b := hv hcfg 6
  (sentCode b c.1 * 2 ^ b + sentCode b c.2.1) * 2 ^ b + sentCode b c.2.2

/-- A pixel as the 32-bit word of R50, least significant byte first. -/
def crcWord (c : Rgb) : List Byte := leBytes 4 (c.1 * 2 ^ 20 + c.2.1 * 2 ^ 10 + c.2.2)

/-- The expected mark CRC of a pattern through the LUT in force (R50, R190). DEDUCED: notes/assumptions/78.md. -/
def expectedMark (hcfg : Table Val) (k count : Nat) : Nat :=
  let m := hv hcfg (0x12 + k)
  crc32c ((List.range 32).flatMap fun y => (List.range 32).flatMap fun x =>
    crcWord (postLut hcfg ((markPixel hcfg k count (hi16 m + x) (lo16 m + y)).getD blackC)))

/-! ### Underrun (R74, R187) -/

/-- Whether pixel (x, y) needs a tile of the layer that is to be fetched, has not failed and is not verified yet. -/
def needsLate (shed : Bool) (L : ScanLayer) (x y : Nat) : Bool :=
  let i := Int.ofNat x - destX L.cfg
  let j := Int.ofNat y - destY L.cfg
  match L.frame with
  | none => false
  | some f =>
    if lv L.cfg 0x0F = 0 ∨ !showsContent L.verdict L.cause ∨ i < 0 ∨ j < 0 ∨ Int.ofNat (destW L.cfg) ≤ i ∨ Int.ofNat (destH L.cfg) ≤ j then false
    else
      (footprint L.cfg shed (layerCrop L.cfg f.width f.height) f.width i.toNat j.toNat).any fun t =>
        L.wanted.contains t && (tfind L.verified t).isNone && !L.failed.any fun e => e.1 == t

/-- The first column of line y of stream k that underruns. -/
def underrunFrom (S : Scan) (k y : Nat) : Option Nat :=
  if S.grey ≠ .none then none
  else (List.range (hActive S.hcfg)).find? fun x => (streamLayers S k).any fun L => needsLate S.shed L x y

end Sys2Proof.Machine
end

