-- ==== Sys2Proof/Machine/Admission.lean ====
section
/-! DEFINITION. Strip memory, fetch coverage and memory admission, all computed from configuration (R154 to R157, R202 to
R206, R215). Declared traffic is kept in units of 1/840,000 byte per second, in which every term is exact. -/

namespace Sys2Proof.Machine

/-- The object of a per-die index 0x3pXX. -/
def pobj (base p : Nat) : Nat := base + 0x100 * p

/-! ### Configurations in force -/

def headForce (d : Device) (h : Nat) : Table Val := pickVals d.force (0x4800 + h) 1 0x18
def headOn (d : Device) (h : Nat) : Bool := frcT d (0x4800 + h) 1
/-- Whether the DOT PLL of head h is locking: its raster has not started since its hard start. -/
def dotLocking (d : Device) (h : Nat) : Bool :=
  let u := headAt d h
  pixUp d (dieOfHead h) && headOn d h && !u.running && match u.link with
    | .idle => false
    | .frozen _ => false
    | _ => true
def headStreams (d : Device) (h : Nat) : Nat := frcN d (0x4800 + h) 5
def wbForce (d : Device) (p sub : Nat) : Nat := frcN d (pobj 0x3060 p) sub
def wbOn (d : Device) (p : Nat) : Bool := wbForce d p 1 == 1

/-- The layers of die p with an applied configuration, in ascending number. -/
def dieLayers (d : Device) (p : Nat) : List Nat :=
  d.layers.filterMap fun (e : Nat × LayerUnit) => if e.2.committed && e.1 / 32 == p then some e.1 else none
/-- Those enabled. -/
def enabledLayers (d : Device) (p : Nat) : List Nat := (dieLayers d p).filter fun n => frcT d (0x4000 + n) 1
def layersOn (d : Device) (h : Nat) : List Nat := (enabledLayers d (dieOfHead h)).filter fun n => frcN d (0x4000 + n) 7 == h

/-! ### Shedding (R193, R421) -/

/-- Whether head h shows the POWER SHED or SUPPLY screen at stage g of its die. -/
def shedGreyAt (d : Device) (h g : Nat) : Grey :=
  let c := frcN d (0x4800 + h) 0x16
  if 5 ≤ g then .supply else if (g = 3 ∧ c = 3) ∨ (g = 4 ∧ c ≠ 1) then .powerShed else .none
/-- The screen that the stage asks for at the coming close. -/
def headShedGrey (d : Device) (h : Nat) : Grey := shedGreyAt d h (dieStage d (dieOfHead h))
/-- The screen of the stage as of the last tick (R193). DEDUCED: notes/assumptions/185.md. -/
def headShedShown (d : Device) (h : Nat) : Grey := shedGreyAt d h (pixAt d (dieOfHead h)).tickStage

/-- Whether the stage withholds layer n or its head (R16, R52). DEDUCED: notes/assumptions/64.md. -/
def layerShed (d : Device) (n : Nat) : Bool :=
  let h := frcN d (0x4000 + n) 7
  decide (3 ≤ dieStage d (dieOfLayer n)) && !frcT d (0x4000 + n) 6 || (decide (h < 24) && headOn d h && headShedGrey d h != .none)

/-! ### Coverage (R202) -/

/-- Crop of a layer configuration in its source. -/
def cropIn (d : Device) (v : Table Val) : Nat × Nat × Nat × Nat := layerCrop v (srcW d (lv v 2)) (srcH d (lv v 2))

def layerTiles (d : Device) (n : Nat) : Nat :=
  let v := layerCfg d n
  if lv v 2 < 512 then cropTileCount (cropIn d v) else 0

def coverNum (d : Device) (h : Nat) : Nat := sumOf ((layersOn d h).map fun n => layerTiles d n * 256)
def coverDen (d : Device) (h : Nat) : Nat :=
  let v := headForce d h
  headStreams d h * hActive v * vActive v
/-- Coverage in thousandths, rounded half up. DEDUCED: notes/assumptions/48.md. -/
def coverMilli (d : Device) (h : Nat) : Nat :=
  if coverDen d h = 0 then 0 else (2000 * coverNum d h + coverDen d h) / (2 * coverDen d h)

/-! ### Declared traffic (R204) -/

def unitsPerByte : Nat := 840000
def tileTraffic (fmt : Nat) : Nat := 16 + tileBytes fmt

def scanTerm (d : Device) (p : Nat) : Nat :=
  sumOf ((enabledLayers d p).map fun n =>
    let s := frcN d (0x4000 + n) 2
    if layerShed d n ∨ 512 ≤ s then 0 else layerTiles d n * tileTraffic (srcCfg d s 4) * tickRate d * 840)

/-- DEDUCED: notes/assumptions/49.md. -/
def wbTerm (d : Device) (p : Nat) : Nat :=
  if wbOn d p then gridTiles (hActive (headForce d (wbForce d p 2))) (vActive (headForce d (wbForce d p 2))) * 1040 * tickRate d * 840 / wbForce d p 5 else 0

/-- The rate of a CAM stream's source. -/
def camRate (d : Device) (i k : Nat) : Nat :=
  srcGrid d (streamSource d i k) * tileTraffic (srcCfg d (streamSource d i k) 4) * camCfg d i 9 * 840 / camCfg d i (0x25 + 8 * k)

def pipeTerm (d : Device) (p : Nat) : Nat :=
  sumOf ((namedInputs d).map fun i =>
    if camOn d i ∧ dieOfPort (camPort d i) = p then
      sumOf ((camStreams d i).map fun k => if srcOn d (streamSource d i k) then camRate d i k else 0) +
      (if 0 < cfgN (camAt d i).params 0x15 then 4 * (camCrop d i).2.2.1 * (camCrop d i).2.2.2 * camCfg d i 9 * 840 else 0)
    else 0)

def st2110Rate (d : Device) (s : Nat) : Nat := srcGrid d s * tileTraffic (srcCfg d s 4) * 60 * unitsPerByte
def st2110Term (d : Device) (p : Nat) : Nat :=
  sumOf ((namedSources d).map fun s => if srcOn d s ∧ srcCfg d s 1 = 2 ∧ srcOwner d s = p then st2110Rate d s else 0)

/-- A source's rate at its owner, for CAM, ST2110 and WB sources. -/
def ownerRate (d : Device) (s : Nat) : Nat :=
  let k := srcCfg d s 1
  if k = 2 then st2110Rate d s
  else if k = 3 then match streamOf d s with
    | some (i, j) => if camOn d i then camRate d i j else 0
    | none => 0
  else if k = 4 ∧ srcOwner d s < 6 ∧ wbForce d (srcOwner d s) 4 = s then wbTerm d (srcOwner d s) else 0

def spurTerm (d : Device) (p : Nat) : Nat :=
  sumOf ((namedSources d).map fun s =>
    if srcOn d s then
      (if srcOwner d s ≠ p ∧ (maskDies d s).contains p then ownerRate d s else 0) +
      (if srcOwner d s = p then ownerRate d s * (maskDies d s).length else 0)
    else 0)

def tppTerm (d : Device) (p : Nat) : Nat := regN d (pobj 0x3040 p) 1 * 1000000 * unitsPerByte
def fixedTerm : Nat := 2000 * 1000000 * unitsPerByte

/-- R203. -/
def declared (d : Device) (p : Nat) : Nat :=
  scanTerm d p + wbTerm d p + pipeTerm d p + st2110Term d p + spurTerm d p + tppTerm d p + fixedTerm

/-! ### The limit (R205, R206, R231) -/

/-- Peak of one interface at a set point (1 FSP0, 2 FSP1, 3 FSP2), MB/s. -/
def peakMBps (fsp : Nat) : Nat := if fsp = 1 then 34132 else if fsp = 2 then 25600 else 12800
/-- 70 % of the peak of the interfaces in service, in the units of `declared`. -/
def limitAt (d : Device) (p fsp : Nat) : Nat := (ifsPlacing d p).length * peakMBps fsp * 700000 * unitsPerByte
/-- DEDUCED: notes/assumptions/151.md. -/
def limitOf (d : Device) (p : Nat) : Nat := limitAt d p (memAt d p).inForce
/-- The set point a stage requires. -/
def stageFsp (g : Nat) : Nat := if 4 ≤ g then 3 else if g = 3 then 2 else 1

/-- Whether a change from `d` to `d'` raises die p's declared traffic above its limit. -/
def admissionBars (d d' : Device) (p : Nat) : Bool := decide (limitOf d p < declared d' p ∧ declared d p < declared d' p)

def mbps (t : Nat) : Nat := min (ceilDiv t (1000000 * unitsPerByte)) 0x7FFFFFFF

/-- The admission object follows the configuration (R215). -/
def admissionShow (d : Device) (p : Nat) : Device :=
  let o := pobj 0x3040 p
  let put (d : Device) (sub t : Nat) : Device := setN d o sub (2 ^ 31 + mbps t)
  let d := setN d o 2 (2 ^ 31 + limitOf d p / (1000000 * unitsPerByte))
  let d := put d 3 (declared d p)
  let d := put d 4 (scanTerm d p)
  let d := put d 5 (wbTerm d p)
  let d := put d 6 (pipeTerm d p)
  let d := put d 7 (st2110Term d p)
  let d := put d 8 (spurTerm d p)
  let d := put d 9 fixedTerm
  setB d o 0x0D ((List.range 4).flatMap fun k => beBytes 2 (0x8000 + min (coverMilli d (4 * p + k)) 0x7FFF))

/-- The declared traffic is computed again: OVER is entered with its event, and left when within the limit (R206). -/
def admissionCheck (d : Device) (p : Nat) : Device :=
  if !pixUp d p then d
  else
    let d := admissionShow d p
    let o := pobj 0x3040 p
    if limitOf d p < declared d p then (if regN d o 0x0A = 2 then d else raise (setN d o 0x0A 2) (dieNo p) 24 o)
    else setN d o 0x0A 1

def admissionRefused (d : Device) (p : Nat) : Device := bump d (pobj 0x3040 p) 0x0B

/-! ### Strip memory (R154 to R157) -/

def stripTotal : Nat := 12288

/-- Whether head h scans, or has still to launch, a frame with layer n. -/
def stillScanned (d : Device) (h n : Nat) : Bool :=
  let x := scanAt d h
  [x.cur, x.ready, x.next].any fun o => match o with
    | some s => s.layers.any fun L => L.n == n
    | none => false

/-- KiB that layer n's regions take: after a move between heads the old one stays until its head's last frame with the
layer is scanned. -/
def regionKib (d : Device) (n : Nat) : Nat :=
  let u := layerAt d n
  if u.oldHead < 24 ∧ stillScanned d u.oldHead n then max u.kib u.oldKib else u.kib

def stripAllocated (d : Device) (p : Nat) : Nat := sumOf ((dieLayers d p).map (regionKib d))
def stripFree (d : Device) (p : Nat) : Nat := stripTotal - stripAllocated d p

/-- KiB of a configuration. -/
def cfgKib (d : Device) (v : Table Val) : Nat := stripKib v (srcW d (lv v 2)) (srcH d (lv v 2)) (srcCfg d (lv v 2) 4)

/-- DEDUCED: notes/assumptions/164.md. -/
def stripShow (d : Device) (p : Nat) : Device :=
  let o := pobj 0x3020 p
  let d := setN d o 1 (0x8000 + stripTotal)
  let d := setN d o 2 (0x8000 + stripAllocated d p)
  setN d o 3 (0x8000 + stripFree d p)

end Sys2Proof.Machine
end

