-- ==== Sys2Proof/Machine/Commits.lean ====
section
/-! DEFINITION. Commits of layers, heads, guard planes, tags and writeback: how they are sent, received and decided at a
close (R140, R152, R155, R156, R158 to R164, R169 to R171, R195, R287). A configuration that a close accepts is placed in
force there; it shows from the tick on. -/

namespace Sys2Proof.Machine

/-! ### Sending (R140, R158) -/

/-- A control message starts for die p. Past the 64 of Q52 or Q53 it waits in CQ12+p of its sender, whose overflow is recorded, and in SRAM
beyond that (R207, R208). DESIGN CHOICE: notes/assumptions/197.md. -/
def sendCtl (d : Device) (p : Nat) (m : CtlMsg) : Device :=
  let n := (queueAt d p).ctl.length
  let d := modQueue (descTake d p 52 1) p fun u => fillMark { u with ctl := u.ctl ++ [m] } (52 + supDie d) (min 64 (n + 1)) 64
  if n < 64 + Config.ctlDepth (12 + p) then d else raiseD d (supDie d) 25 0 [12 + p]

/-- A commit of staged values aimed at the next close of die p. -/
def commitNow (d : Device) (p : Nat) (vals : Table Val) : Commit :=
  { vals := vals, aim := (pixAt d p).closes + 1, at_ := none, late := false, scene := none, audit := false, lut := true }

def layerCommitOp (d : Device) (n : Nat) : Device :=
  let p := dieOfLayer n
  sendCtl (setN d (0x4000 + n) 0x15 3) p (.layer n (commitNow d p (layerStaged d n)))

def headCommitOp (d : Device) (h : Nat) (auditOnly : Bool) : Device :=
  let p := dieOfHead h
  sendCtl (setN d (0x4800 + h) 0x1A 3) p (.head h { commitNow d p (pickVals d.regs (0x4800 + h) 1 0x18) with audit := auditOnly })

def guardCommitOp (d : Device) (h : Nat) : Device :=
  let p := dieOfHead h
  sendCtl (setN d (0x4900 + h) 0x0B 3) p (.guard h (commitNow d p (pickVals d.regs (0x4900 + h) 1 3)))

def wbCommitOp (d : Device) (p : Nat) : Device :=
  sendCtl (setN d (pobj 0x3060 p) 0x0D 3) p (.writeback (commitNow d p (pickVals d.regs (pobj 0x3060 p) 1 5)))

/-- DEDUCED: notes/assumptions/184.md. -/
def tagForce (d : Device) (t sub : Nat) : Nat :=
  if (tagAt d t).applied then frcN d (0x6000 + t) sub else valNum (storeGet d.record (0x6000 + t) sub)
/-- The die that holds a tag: that of its head in force, else P0 (R166). -/
def tagDie (d : Device) (t : Nat) : Nat := if tagForce d t 3 < 24 then dieOfHead (tagForce d t 3) else 0
/-- The die that decides a commit of a tag (R169). -/
def tagDecider (d : Device) (t : Nat) (vals : Table Val) : Nat := if tv vals 3 < 24 then dieOfHead (tv vals 3) else tagDie d t

def tagCommitOp (d : Device) (t : Nat) : Device :=
  let vals := pickVals d.regs (0x6000 + t) 1 0x11
  let p := tagDecider d t vals
  sendCtl d p (.tag t (commitNow d p vals))

/-! ### Scenes (R161 to R163) -/

def sceneAt (d : Device) (k : Nat) : SceneUnit := tget d.sup.scenes k SceneUnit.reset
def setScene (d : Device) (k : Nat) (v : SceneUnit) : Device := { d with sup := { d.sup with scenes := tput d.sup.scenes k v } }

/-- A layer mask of 24 bytes with its valid byte. -/
def layerMask (l : List Nat) (valid : Bool) : List Byte :=
  ((List.range 24).map fun b => BitVec.ofNat 8 (sumOf ((List.range 8).map fun i => if l.contains (8 * b + i) then 2 ^ i else 0))) ++
  [if valid then 0x80 else 0]

/-- The masks and state of a scene follow its members. -/
def sceneShow (d : Device) (k : Nat) : Device :=
  let u := sceneAt d k
  let done := u.waiting == []
  let d := setB d (0x4A00 + k) 7 (layerMask u.missed done)
  let d := setB d (0x4A00 + k) 8 (layerMask u.refused done)
  if done then setN d (0x4A00 + k) 5 (if u.missed = [] ∧ u.refused = [] then 3 else 4) else d

/-- A record of scene k for layer n has been decided. DESIGN CHOICE: notes/assumptions/58.md. -/
def sceneDecided (d : Device) (k n : Nat) (missed : Bool) : Device :=
  let u := sceneAt d k
  if u.waiting.contains n then
    sceneShow (setScene d k { u with waiting := u.waiting.filter (· != n), missed := if missed then u.missed ++ [n] else u.missed }) k
  else d

/-- A member is left out: the mask, and SCENE_MEMBER_LEFT_OUT with the code of R160. -/
def sceneOut (d : Device) (k n code : Nat) : Device :=
  let u := sceneAt d k
  let d := raiseD d (supDie d) 14 (0x4000 + n) [code]
  if u.waiting.contains n then
    sceneShow (setScene d k { u with waiting := u.waiting.filter (· != n), refused := u.refused ++ [n] }) k
  else d

/-- The sizes of subindexes 0x01 to 0x12 of a layer (R139). DEDUCED: notes/assumptions/56.md. -/
def recordSizes : List Nat := [1, 2, 2, 2, 1, 1, 1, 1, 4, 4, 4, 4, 1, 1, 2, 1, 1, 1]

/-- Values keyed by subindex from their bytes. -/
def recordVals : List Nat → Nat → List Byte → Table Val
  | [], _, _ => []
  | z :: r, sub, b => (sub, .num (bigEndian (b.take z))) :: recordVals r (sub + 1) (b.drop z)

/-- The records of a scene: layer number and values that differ from reset. -/
def sceneRecords : Nat → List Byte → List (Nat × Table Val)
  | 0, _ => []
  | n + 1, b =>
    if b.length < 40 then []
    else
      let layer := (b.getD 1 0).toNat
      let vals := (recordVals recordSizes 1 ((b.drop 2).take 34)).filter fun e => e.2 != resetVal 0x4000 e.1
      (layer, vals) :: sceneRecords n (b.drop 40)

def sceneList (d : Device) (k : Nat) : List (Nat × Table Val) :=
  let b := regB d (0x4A00 + k) 2
  sceneRecords (b.length / 40) b

/-- Whether a write of SceneRecords is refused (R162), by code of R299; 0 accepted. -/
def sceneRefusal (b : List Byte) : Nat :=
  let l := sceneRecords (b.length / 40) b
  let ls := l.map (·.1)
  let bad := (List.range (b.length / 40)).any fun i =>
    (b.getD (40 * i) 0) != 0 || ((b.drop (40 * i + 36)).take 4).any (· != 0)
  if b.length % 40 ≠ 0 then 9
  else if bad then 10
  else if ls.eraseDups.length ≠ ls.length ∨ ls.any (192 ≤ ·) then 11
  else if l.any fun e => e.2.any fun v => match findEntry v.1 obj4000 with
      | some en => reservedRefusal en 0x4000 v.1 v.2 != 0 || rangeRefusal en v.2 != 0
      | none => true
    then 11 else 0

/-- The first tick whose commit window is open, by the active die's TB1 (R158). -/
def openTick (d : Device) : Nat := tickFrom d (nowBase d 1 + regN d 0x2110 4 * 1000 + 1)

/-- Whether the launching requester may write the record's layer (R160 code 15, R24, R46). DEDUCED: notes/assumptions/57.md. -/
def recordAllowed (d : Device) (who : Requester) (n : Nat) (vals : Table Val) : Bool :=
  holds (rolesOf d who) 8 ||
  ((match whoSession who with
    | some k => ownsLayer d k n
    | none => false) && lv vals 5 != 2 && lv vals 6 == frcN d (0x4000 + n) 6)

def layerPending (d : Device) (n : Nat) : Device := setN d (0x4000 + n) 0x15 3

/-- SceneLaunch at a time (`at_` an instant) or now. DEDUCED: notes/assumptions/60.md. -/
def sceneLaunchOp (d : Device) (who : Requester) (k : Nat) (at_ : Option Nat) : Device :=
  let rs := sceneList d k
  let aim := match at_ with
    | some t => tickFrom d (max t (openTick d))
    | none => openTick d
  let d := setScene d k { waiting := rs.map (·.1), missed := [], refused := [], session := whoSession who }
  let d := setN d (0x4A00 + k) 5 2
  let d := setN d (0x4A00 + k) 6 (2 ^ 63 + aim % 2 ^ 48)
  let d := sceneShow d k
  forEach d rs fun d r =>
    let n := r.1
    if recordAllowed d who n r.2 then
      let p := dieOfLayer n
      let now := commitNow d p r.2
      let c := { now with aim := if at_.isSome then aim else now.aim, at_ := at_, scene := some k, lut := false }
      sendCtl (layerPending d n) p (.layer n c)
    else
      let d := setN (setN d (0x4000 + n) 0x15 4) (0x4000 + n) 0x16 15
      sceneOut (raiseD d (supDie d) 12 (0x4000 + n) [15, 0]) k n 15

def ofScene (k : Nat) (c : Option Commit) : Bool := match c with
  | some c => c.scene == some k
  | none => false

/-- SceneLaunch 0x03: every record not yet decided is withdrawn. What LayerCommitState then reads is open. DESIGN CHOICE: notes/assumptions/59.md. -/
def sceneCancelOp (d : Device) (k : Nat) : Device :=
  let other (m : CtlMsg) : Bool := match m with
    | .layer _ c => !(c.scene == some k)
    | _ => true
  let d := forEach d (List.range 6) fun d p => modQueue d p fun u =>
    { u with ctl := u.ctl.filter other, failed := tmap (fun _ l => l.filter fun e => e.2.all other) u.failed }
  let d := forEach d (sceneAt d k).waiting fun d n =>
    let d := spend (setN d (0x4000 + n) 0x15 (freshVal d % 5))
    if ofScene k (layerAt d n).pending then modLayer d n fun u => { u with pending := none } else d
  setN (setScene d k { sceneAt d k with waiting := [] }) (0x4A00 + k) 5 5

/-! ### Receiving (R158, R159) -/

/-- The tick a close belongs to. DEDUCED: notes/assumptions/130.md. -/
def aimTick (d : Device) (q : PixelDie) : Nat :=
  let t := tickFrom d q.tb1.ns
  if t = q.aimAt then tickFrom d (t + 1) else t
/-- Whether the instant of a die's next close has come, TickCommitLeadUs before its tick (R198). DEDUCED: notes/assumptions/183.md. -/
def closeDue (d : Device) (q : PixelDie) : Bool :=
  q.out && q.tb1.loaded && q.closes == q.ticks && decide (aimTick d q ≤ q.tb1.ns + regN d 0x2110 4 * 1000)

/-- A commit is late when the close it aims at has passed as it arrives (R158, R161). -/
def commitLate (d : Device) (p : Nat) (c : Commit) : Commit :=
  let q := pixAt d p
  { c with late := match c.at_ with
      | none => decide (c.aim ≤ q.closes)
      | some _ => decide (0 < q.closes ∧ c.aim ≤ q.aimAt) }


def layerRefused (d : Device) (n code short : Nat) : Device :=
  raiseD (setN (setN d (0x4000 + n) 0x15 4) (0x4000 + n) 0x16 code) (dieNo (dieOfLayer n)) 12 (0x4000 + n) [code, word16 short]

def headRefused (d : Device) (h code : Nat) : Device :=
  raiseD (setN (setN d (0x4800 + h) 0x1A 4) (0x4800 + h) 0x1B code) (dieNo (dieOfHead h)) 15 (0x4800 + h) []

/-- A layer commit that missed the tick it aimed at is counted and reported, whatever its outcome (R158). -/
def layerMissed (d : Device) (n : Nat) (c : Commit) : Device :=
  if c.late then raise (bump d (0x4000 + n) 0x17) (dieNo (dieOfLayer n)) 13 (0x4000 + n) else d

/-- A commit replaced before its close (R159); its state then reads PENDING for the one that replaces it. -/
def layerSuperseded (d : Device) (n : Nat) (new : Commit) : Device :=
  match (layerAt d n).pending with
  | none => d
  | some o =>
    let d := setN (layerRefused (layerMissed d n o) n 14 0) (0x4000 + n) 0x15 3
    match o.scene with
    | some k => if new.scene = some k then d else sceneOut d k n 14
    | none => d

/-- A commit reaches its die and waits. DEDUCED: notes/assumptions/61.md. -/
def deliver (d : Device) (p : Nat) (m : CtlMsg) : Device := match m with
  | .layer n c => modLayer (layerSuperseded d n c) n fun u => { u with pending := some (commitLate d p c) }
  | .head h c =>
    let d := if (headAt d h).pending.isSome then setN (headRefused d h 9) (0x4800 + h) 0x1A 3 else d
    modHead d h fun u => { u with pending := some (commitLate d p c) }
  | .guard h c =>
    let d := if (headAt d h).guardPend.isSome then setN d (0x4900 + h) 0x0C 2 else d
    modHead d h fun u => { u with guardPend := some (commitLate d p c) }
  | .tag t c =>
    let d := if (tagAt d t).pending.isSome then setN d (0x6000 + t) 0x26 8 else d
    modTag d t fun u => { u with pending := some (commitLate d p c) }
  | .writeback c =>
    let d := if (wbAt d p).pending.isSome then setN d (pobj 0x3060 p) 0x0E 2 else d
    modWb d p fun u => { u with pending := some (commitLate d p c) }

/-- A commit that reaches its die at the instant of a close, or after it, counts as after that close (R201). -/
def arrive (d : Device) (p : Nat) (m : CtlMsg) : Device :=
  if closeDue d (pixAt d p) then modPix d p fun q => { q with behind := q.behind ++ [m] } else deliver d p m
/-- After a close, what counts as after it. -/
def deliverBehind (d : Device) (p : Nat) : Device :=
  (pixAt d p).behind.foldl (fun d m => deliver d p m) (modPix d p fun q => { q with behind := [] })

/-- COMMIT_MESSAGE: the first waiting message reaches die p, which takes control messages from its token holder alone
(R158, R367); a die that denies every access takes none (R342). DESIGN CHOICE: notes/assumptions/62.md. -/
def commitMessageOp (d : Device) (p : Nat) : Device :=
  match activeCtl d, (queueAt d p).ctl with
  | some c, m :: r =>
    if pixUp d p ∧ (pixAt d p).token = c + 2 then
      let d := modQueue d p fun u => { u with ctl := r }
      if barred d (dieNo p) 3 true then accessDenied d (dieNo p) 3 true else arrive d p m
    else d
  | _, _ => d

/-! ### Heads (R176, R177, R179, R195) -/

def hTotal (v : Table Val) : Nat := hi16 (hv v 8)
def vTotal (v : Table Val) : Nat := lo16 (hv v 8)
/-- The dot clock in thousandths of a hertz. -/
def dotMilli (d : Device) (v : Table Val) : Nat := hTotal v * vTotal v * tickRate d
/-- Line time in ns, as numerator over the tick rate and VTotal: m lines last m × 10^12 / (rate × VTotal). -/
def linesNs (d : Device) (v : Table Val) (m : Nat) : Nat := if vTotal v = 0 then 0 else m * 10 ^ 12 / (tickRate d * vTotal v)

def timingOk (v : Table Val) : Bool :=
  let ha := hActive v
  let va := vActive v
  let hf := hi16 (hv v 9)
  let hs := lo16 (hv v 9)
  let vf := hi16 (hv v 0x0A)
  let vs := lo16 (hv v 0x0A)
  decide (640 ≤ ha ∧ ha ≤ 7680 ∧ ha % 2 = 0 ∧ 480 ≤ va ∧ va ≤ 4320 ∧ ha + 80 ≤ hTotal v ∧ hTotal v ≤ 16383 ∧ va + 8 ≤ vTotal v ∧
    vTotal v ≤ 8191 ∧ 8 ≤ hf ∧ 8 ≤ hs ∧ hs ≤ 255 ∧ ha + hf + hs + 8 ≤ hTotal v ∧ 1 ≤ vf ∧ 1 ≤ vs ∧ vs ≤ 63 ∧
    va + vf + vs + 3 ≤ vTotal v ∧ (hv v 4 = 2 ∨ hv v 5 = 1))

/-- Payload per lane in thousandths of a bit per second (R177). -/
def lanePayload (rate : Nat) : Nat :=
  (if rate = 1 then 1296 else if rate = 2 then 2160 else if rate = 3 then 4320 else if rate = 4 then 6480 else 9670) * 10 ^ 9

/-- Whether rate and lanes carry the timing. -/
def linkCarries (d : Device) (v : Table Val) (rate lanes : Nat) : Bool :=
  decide (hv v 5 * dotMilli d v * 3 * hv v 6 * 64 ≤ lanePayload rate * lanes * (if hv v 4 = 2 then 63 else 64))

/-- DEDUCED: notes/assumptions/79.md. -/
def mstPort (v : Table Val) (k : Nat) : Nat := getField (hv v 0x0C) (4 * k) 4

def tagsOn (d : Device) (h : Nat) : List Nat :=
  d.tags.filterMap fun (e : Nat × TagUnit) => if e.2.applied && tagForce d e.1 1 == 1 && tagForce d e.1 3 == h then some e.1 else none

/-- Whether a configuration changes a subindex that AUDIT may not commit (R194). -/
def auditChanges (d : Device) (h : Nat) (v : Table Val) : Bool :=
  (List.range' 1 0x16).any fun sub => tfind v sub != tfind (headForce d h) sub

/-- R195 on a head commit: 1 accepted. -/
def headCode (d : Device) (h : Nat) (c : Commit) : Nat :=
  let v := c.vals
  let n := hv v 5
  let inUse := (layersOn d h).any (fun l => decide (n ≤ frcN d (0x4000 + l) 8)) || (tagsOn d h).any fun t => decide (n ≤ tagForce d t 4)
  let ks := List.range n
  let telltaleOut := ks.any fun k => decide (hActive v < hi16 (hv v (0x12 + k)) + 32 ∨ vActive v < lo16 (hv v (0x12 + k)) + 32)
  let ports := ks.map (mstPort v)
  let enabling := hv v 1 == 1
  firstCode [
    if enabling && !timingOk v then 2 else 0,
    if enabling && decide (dotMilli d v < 25 * 10 ^ 9 ∨ 1200 * 10 ^ 9 < n * dotMilli d v ∨ 1200 * 10 ^ 9 < dotMilli d v) then 3 else 0,
    if enabling && !linkCarries d v (hv v 2) (hv v 3) then 4 else 0,
    if enabling && decide (hv v 0x0E < 100 ∨ 10 ^ 12 < (hv v 0x0E + 100) * 1000 * tickRate d) then 5 else 0,
    if enabling && telltaleOut then 6 else 0,
    if inUse then 7 else 0,
    if enabling && hv v 4 == 2 && (ports.contains 0 || ports.eraseDups.length != ports.length) then 8 else 0,
    if c.audit && auditChanges d h v then 10 else 0]

/-- The key of the mark, 0x10000 above its object, that a unit has a configuration applied. -/
def appliedKey (idx : Nat) : Nat := regKey (0x10000 + idx) 0
def markApplied (t : Table Val) (idx : Nat) : Table Val := tput t (appliedKey idx) (.num 1)

/-- What a close places in force, and the supervisor's record of it. DEDUCED: notes/assumptions/51.md. -/
def place (d : Device) (idx lo hi : Nat) (vals : Table Val) : Device :=
  { d with force := markApplied (placeVals d.force idx lo hi vals) idx,
           record := if (activeCtl d).isSome then markApplied (placeVals d.record idx lo hi vals) idx else d.record }

/-- The head leaves LOCKED (R181). -/
def lockLost (d : Device) (h : Nat) : Device :=
  let u := headAt d h
  let d := modHead d h fun u => { u with lock := if u.running then 1 else u.lock, goodTicks := 0 }
  if u.lock = 2 then raise d (dieNo (dieOfHead h)) 17 (0x4800 + h) else d

def headDecide (d : Device) (h : Nat) : Device :=
  match (headAt d h).pending with
  | none => d
  | some c =>
    let d := modHead d h fun u => { u with pending := none }
    let code := headCode d h c
    if code ≠ 1 then headRefused d h code
    else
      let moved := (headAt d h).running && headOn d h && frcN d (0x4800 + h) 0x0E != hv c.vals 0x0E
      let d := place d (0x4800 + h) 1 0x18 c.vals
      let d := modHead d h fun u => { u with applied := true }
      let d := if moved then lockLost d h else d
      setN (setN d (0x4800 + h) 0x1A (if c.late then 2 else 1)) (0x4800 + h) 0x1B 1

def guardDecide (d : Device) (h : Nat) : Device :=
  match (headAt d h).guardPend with
  | none => d
  | some c =>
    let d := modHead d h fun u => { u with guardPend := none }
    if regN d (0x4900 + h) 0x0A = 2 ∧ gv c.vals 1 ≠ frcN d (0x4900 + h) 1 then setN (setN d (0x4900 + h) 0x0B 4) (0x4900 + h) 0x0C 3
    else
      let d := place d (0x4900 + h) 1 3 c.vals
      setN (setN d (0x4900 + h) 0x0B (if c.late then 2 else 1)) (0x4900 + h) 0x0C 1

/-! ### Writeback (R170, R171) -/

def wbv (v : Table Val) (sub : Nat) : Nat := pickN 0x3060 v sub

/-- The scale at which a raster is captured: 1 full, 2 half size. -/
def rasterScale (v : Table Val) : Nat := if hActive v ≤ 4096 ∧ vActive v ≤ 4096 then 1 else 2
/-- The size of the captured frames of a head: scale, width, height. -/
def wbSize (d : Device) (h : Nat) : Nat × Nat × Nat :=
  let v := headForce d h
  let k := rasterScale v
  (k, ceilDiv (hActive v) k, ceilDiv (vActive v) k)

/-- Binding sets what the engine decides of the WB source (R171). -/
def wbApply (d : Device) (p : Nat) (v : Table Val) : Device :=
  let d := place d (pobj 0x3060 p) 1 5 v
  let s := wbv v 4
  let h := wbv v 2
  let z := wbSize d h
  let o := 0x5000 + s
  let d := if s < 512 then setN (setN (setN d o 3 p) o 4 2) o 7 2 else d
  let d := if s < 512 ∧ h < 24 then setN (setN d o 5 z.2.1) o 6 z.2.2 else d
  if h < 24 then setN d (pobj 0x3060 p) 0x0F z.1 else d

/-- The codes of WritebackCommitResult, 3 to 7; 1 accepted. (R173.) DEDUCED: notes/assumptions/63.md. -/
def wbCode (d : Device) (p : Nat) (v : Table Val) : Nat :=
  let on := wbv v 1 == 1
  let h := wbv v 2
  let k := wbv v 3
  let s := wbv v 4
  let z := wbSize d h
  let otherEngine := (List.range 6).any fun q => q != p && wbForce d q 4 == s
  firstCode [
    if (h < 24 ∧ dieOfHead h ≠ p) ∨ (on ∧ 24 ≤ h) then 3 else 0,
    if h < 24 ∧ headStreams d h ≤ k then 4 else 0,
    if (on ∧ 512 ≤ s) ∨ (s < 512 ∧ (srcCfg d s 1 ≠ 4 ∨ otherEngine ∨
        (srcOn d s ∧ h < 24 ∧ (srcW d s ≠ z.2.1 ∨ srcH d s ≠ z.2.2)))) then 5 else 0,
    if on ∧ (layersOn d h).any (fun n => frcN d (0x4000 + n) 8 == k && frcN d (0x4000 + n) 2 == s) then 6 else 0,
    if (p :: maskDies d s).any fun q => admissionBars d (wbApply d p v) q then 7 else 0]

def wbDecide (d : Device) (p : Nat) : Device :=
  match (wbAt d p).pending with
  | none => d
  | some c =>
    let d := modWb d p fun u => { u with pending := none }
    let code := wbCode d p c.vals
    let o := pobj 0x3060 p
    if code ≠ 1 then
      let d := if code = 7 then admissionRefused d p else d
      setN (setN d o 0x0D 4) o 0x0E code
    else
      let d := modWb (wbApply d p c.vals) p fun u => { u with applied := true }
      setN (setN d o 0x0D (if c.late then 2 else 1)) o 0x0E 1

/-! ### Tags (R164, R165, R169) -/

/-- The tags with a configuration in force, those of a die in reset as the control dies hold them (R169, R302). -/
def tagsKnown (d : Device) : List Nat :=
  d.tags.filterMap (fun e => if e.2.applied then some e.1 else none) ++
  d.record.filterMap fun e =>
    let t := keyIdx e.1 - 0x6000
    if keySub e.1 = 1 ∧ 0x6000 ≤ keyIdx e.1 ∧ t < 4096 ∧ !(tagAt d t).applied then some t else none
/-- Whether an enabled tag in force mirrors t. DEDUCED: notes/assumptions/66.md. -/
def mirrored (d : Device) (t : Nat) : Bool :=
  (tagsKnown d).any fun m => tagForce d m 1 == 1 && tagForce d m 0x11 == t
def glyphsOn (d : Device) (l : List Nat) : Nat := sumOf (l.map fun t => fieldGlyphs (pickVals d.force (0x6000 + t) 1 0x11))

/-- R169 on a tag commit: 1 accepted. -/
def tagCode (d : Device) (t : Nat) (v : Table Val) : Nat :=
  if tv v 1 = 0 then 1
  else
    let h := tv v 3
    let m := tv v 0x11
    let hc := headForce d h
    let others := (tagsOn d h).filter (· != t)
    let ty := if m < 4096 then tagForce d m 9 else tv v 9
    firstCode [
      if 24 ≤ h ∨ !headOn d h ∨ headStreams d h ≤ tv v 4 then 6 else 0,
      if (m < 4096 ∧ (m = t ∨ tagForce d m 0x11 ≠ 0xFFFF ∨ mirrored d t)) ∨ (mirrored d t ∧ tv v 9 ≠ tagForce d t 9) then 7 else 0,
      if fmtFits (parseFmt (pickB 0x6000 v 8)) ty then 0 else 4,
      if tv v 0x0B < tv v 0x0C then 5 else 0,
      if hActive hc ≤ tagX v ∨ vActive hc ≤ tagY v ∨ tv v 6 = 0 then 3 else 0,
      if 512 ≤ others.length ∨ 12288 < glyphsOn d others + fieldGlyphs v then 2 else 0]

/-- A tag's value as a mirroring tag of another die holds it. -/
def copyOfTag (x : TagUnit) : Option (Nat × Nat × Nat × Bool) := x.stamp.map fun s => (x.value, s, x.accepted, x.old)

/-- What a mirroring tag holds of a tag of another die as a commit applies; `same`: it mirrored that tag before, and keeps what it
has while that tag's die is in reset. -/
def tagCopy (d : Device) (t : Nat) (same : Bool) : Device :=
  let m := tagForce d t 0x11
  let own (u : TagUnit) := if same ∧ !pixUp d (tagDie d m) then u.copy else copyOfTag (tagAt d m)
  modTag d t fun u => { u with copy := if m < 4096 ∧ tagDie d m ≠ tagDie d t then own u else none }

/-- Tag t has left die o: the tags of die o that mirror it keep its value, as they take its updates from now on (R166). -/
def mirrorsKeep (d : Device) (o t : Nat) : Device :=
  let x := tagAt d t
  let kept := x.before.bind fun b => b.2.1.map fun s => (b.1, s, b.2.2.1, b.2.2.2)
  forEach d (d.tags.map (·.1)) fun d m =>
    if (tagAt d m).applied ∧ tagForce d m 0x11 = t ∧ tagDie d m = o ∧ tagDie d t ≠ o then
      modTag d m fun u => { u with copy := copyOfTag x, copyBefore := kept }
    else d

/-- The die that a tag leaves draws it no more from the tick whose close decides the move, planned frames included (R169). -/
def dropTagScans (d : Device) (o t : Nat) : Device :=
  forEach d ((List.range 4).map (4 * o + ·)) fun d h => modScan d h fun x =>
    { x with next := x.next.map fun S => { S with tags := S.tags.filter fun F => F.t != t } }

def tagDecide (d : Device) (p t : Nat) : Device :=
  match (tagAt d t).pending with
  | none => d
  | some c =>
    if tagDecider d t c.vals ≠ p then d
    else
      let d := modTag d t fun u => { u with pending := none }
      let code := tagCode d t c.vals
      if code ≠ 1 then setN d (0x6000 + t) 0x26 code
      else
        let o := tagDie d t
        let m := tagForce d t 0x11
        let d := if o = p then d else dropTagScans d o t
        let d := modTag (place d (0x6000 + t) 1 0x11 c.vals) t fun u => { u with applied := true }
        setN (mirrorsKeep (tagCopy d t (m == tv c.vals 0x11)) o t) (0x6000 + t) 0x26 1

/-! ### Layers (R155, R156, R160) -/

def overlapsRaster (v hc : Table Val) : Bool :=
  decide (destX v < Int.ofNat (hActive hc) ∧ 0 < destX v + Int.ofNat (destW v) ∧ destY v < Int.ofNat (vActive hc) ∧
    0 < destY v + Int.ofNat (destH v) ∧ 0 < destW v ∧ 0 < destH v)

def scaleOk (v : Table Val) (cr : Nat × Nat × Nat × Nat) : Bool :=
  let o := orientedSize v cr
  decide (o.1 ≤ 8 * destW v ∧ destW v ≤ 8 * o.1 ∧ o.2 ≤ 8 * destH v ∧ destH v ≤ 8 * o.2 ∧ 0 < o.1 ∧ 0 < o.2)

/-- Whether die p holds source s (R84), by the mask that the snapshot of this close brings into force. DEDUCED: notes/assumptions/161.md. -/
def sourceOn (d : Device) (s p : Nat) : Bool := (srcDies d s).contains p

/-- Layer n as it stands once configuration v is applied. -/
def layerWith (d : Device) (n : Nat) (v : Table Val) (lut : Bool) : Device :=
  let d := place d (0x4000 + n) 1 (if lut then 0x13 else 0x12) v
  modLayer d n fun u => { u with committed := true }

/-- R160 on a layer commit, strip memory apart: codes before STRIP_SHORT. (R137, R138.) -/
def layerCodeEarly (d : Device) (p n : Nat) (v : Table Val) : Nat :=
  let h := lv v 7
  let s := lv v 2
  let named := decide (h < 24)
  let cr := cropIn d v
  let hc := headForce d h
  firstCode [
    if named ∧ dieOfHead h ≠ p then 5 else 0,
    if named ∧ headStreams d h ≤ lv v 8 then 10 else 0,
    if s < 512 ∧ !sourceOn d s p then 4 else 0,
    if s < 512 ∧ wbOn d p ∧ wbForce d p 4 = s ∧ wbForce d p 2 = h ∧ wbForce d p 3 = lv v 8 then 11 else 0,
    if lv v 3 < lv v 4 then 3 else 0,
    if s < 512 ∧ (srcW d s < cr.1 + cr.2.2.1 ∨ srcH d s < cr.2.1 + cr.2.2.2) then 9 else 0,
    if s < 512 ∧ !scaleOk v cr then 7 else 0,
    if named ∧ !overlapsRaster v hc then 8 else 0,
    if named ∧ 16 ≤ ((layersOn d h).filter (· != n)).length then 6 else 0]

/-- R160 whole: the code and the shortfall in KiB. `free` is what R155 leaves to this commit. -/
def layerCode (d : Device) (p n free : Nat) (c : Commit) : Nat × Nat :=
  let v := c.vals
  if lv v 1 = 0 then (1, 0)
  else
    let e := layerCodeEarly d p n v
    let k := cfgKib d v
    let room := free + (layerAt d n).kib
    let d' := layerWith d n v c.lut
    let h := lv v 7
    if e ≠ 1 then (e, 0)
    else if room < k then (2, k - room)
    else if h < 24 ∧ 4 * coverDen d' h < coverNum d' h ∧ coverNum d h < coverNum d' h then (12, 0)
    else if admissionBars d d' p then (13, 0)
    else (1, 0)

/-- The region of a layer under its new configuration (R155). DEDUCED: notes/assumptions/65.md. -/
def moveRegion (d : Device) (n kib oldHead : Nat) : Device :=
  modLayer d n fun u =>
    if u.committed ∧ oldHead < 24 ∧ oldHead ≠ frcN d (0x4000 + n) 7 then { u with kib := kib, oldKib := u.kib, oldHead := oldHead }
    else { u with kib := kib }

/-- Decides layer n's pending commit at the close for tick instant `tick`; `free` is the strip memory left, which comes back
less what the layer takes. -/
def layerDecide (d : Device) (p n free tick : Nat) : Device × Nat :=
  match (layerAt d n).pending with
  | none => (d, free)
  | some c =>
    let due := match c.at_ with
      | none => true
      | some t => decide (t ≤ tick)
    if !due then (d, free)
    else
      let d := layerMissed (modLayer d n fun u => { u with pending := none }) n c
      let r := layerCode d p n free c
      if r.1 ≠ 1 then
        let d := if r.1 = 2 then bump d (pobj 0x3020 p) 4 else if r.1 = 12 then bump d (pobj 0x3040 p) 0x0C
          else if r.1 = 13 then admissionRefused d p else d
        let d := layerRefused d n r.1 r.2
        (match c.scene with
          | some k => sceneOut d k n r.1
          | none => d, free)
      else
        let own := (layerAt d n).kib
        let oldHead := frcN d (0x4000 + n) 7
        let k := cfgKib d c.vals
        let d := moveRegion (layerWith d n c.vals c.lut) n k oldHead
        let d := setN (setN d (0x4000 + n) 0x15 (if c.late then 2 else 1)) (0x4000 + n) 0x16 1
        let d := setN (setN d (0x4000 + n) 0x1A (2 ^ 63 + tick % 2 ^ 48)) (0x4000 + n) 0x18 (0x8000 + k)
        (match c.scene with
          | some j => sceneDecided d j n c.late
          | none => d, free - (k - own))

/-- The layer commits of die p in ascending number. -/
def layersDecide (d : Device) (p tick : Nat) : List Nat → Nat → Device
  | [], _ => d
  | n :: r, free => let x := layerDecide d p n free tick; layersDecide x.1 p tick r x.2

/-- Every pending commit of die p in the order of R158. -/
def decideAll (d : Device) (p tick : Nat) : Device :=
  let free := stripFree d p
  let hs := (List.range 4).map (4 * p + ·)
  let d := forEach d hs headDecide
  let d := forEach d hs guardDecide
  let d := wbDecide d p
  let d := forEach d (d.tags.map (·.1)) fun d t => tagDecide d p t
  layersDecide d p tick ((List.range 32).map (32 * p + ·)) free

end Sys2Proof.Machine
end

