-- ==== Sys2Proof/Machine/Cairn.lean ====
section
/-! DEFINITION. Cairn: launch times, ages, verdicts of layers and tags, what each head frame will fetch and show, and the
pane map (R12 to R33, R52, R55 to R57, R78 to R80, R182, R199, R260). -/

namespace Sys2Proof.Machine

/-! ### Ages (R18 to R21, R182) -/

/-- The TB1 launch of line m of head h in the interval of the tick at T: a head that is not LOCKED counts one period more
and no phase; without a launching head it is T + period. -/
def launchAt (d : Device) (h m T : Nat) : Nat :=
  if decide (h < 24) && headOn d h then
    let v := headForce d h
    (if (headAt d h).lock = 2 then T + hv v 0x0E * 1000 else T + tickPeriod d) + linesNs d v m
  else T + tickPeriod d

/-- The uncertainty term (R19); `tb` is 1 TB0, 2 TB1, 3 TB2. -/
def uncTerm (d : Device) (q : PixelDie) (tb decl : Nat) : Nat :=
  copyUnc d q (tb - 1) + (if tb = 2 then 0 else copyUnc d q 1) + decl

/-- The age in ns; none when the capture time lies further ahead than the uncertainty allows (R20). DEDUCED: notes/assumptions/68.md. -/
def ageOf (launch conv unc : Nat) : Option Nat :=
  let x := diff48 launch conv
  if x < -(Int.ofNat unc) then none else some (x + Int.ofNat unc).toNat

/-- LayerAgeUs of an age in ns (R56). -/
def wholeUs (ns : Nat) : Nat := max 1 (ns / 1000)
/-- As a register holds it. -/
def ageUs (ns : Nat) : Nat := min (wholeUs ns) 0xFFFFFFFF

/-- Whether a frame counts as EXPIRED at a snapshot (R21). -/
def frameExpired (q : PixelDie) (f : Frame) : Bool := f.expired || decide (f.published + hours 36 ≤ q.tb2.ns)

/-! ### Freeze and seal (R27, R30, R33) -/

/-- A source on die p as its publications before this instant left it: one complete at the snapshot's own instant counts from the
next (R14, R201). -/
def unitBefore (d : Device) (s p : Nat) : SrcUnit :=
  let u := srcUnit d s p
  if u.frame.any fun f => f.published == (pixAt d p).tb2.ns then
    { u with frame := u.prior, repeats := u.before.1, firstCap := u.before.2.1, differ := u.before.2.2 } else u

/-- LayerFreezeState of a source on die p. -/
def freezeState (d : Device) (s p : Nat) : Nat :=
  let u := unitBefore d s p
  match u.frame with
  | none => 0
  | some f =>
    let m := srcFrc d s 9
    if m = 3 then 4
    else
      let held := if m = 2 then decide (Int.ofNat (srcFrc d s 0x0B * 1000000) ≤ diff48 f.capture u.firstCap)
        else decide (srcFrc d s 0x0A ≤ u.repeats)
      if held then 3 else if 0 < u.repeats then 2 else 1

def sealClass (f : Option Frame) : Nat := match f with
  | none => 1
  | some f => if f.origin then 3 else 2

/-- The declared uncertainty of a frame, ns: of the source, or for a WB source the frame's own (R23). -/
def declOf (d : Device) (s : Nat) (f : Frame) : Nat := if srcCfg d s 1 = 4 then f.declUnc else srcFrc d s 8 * 1000

/-! ### The verdict of a layer (R16, R17) -/

/-- What a gate gives. -/
def gated (verdict cause : Nat) : Nat × Nat × Option Nat × Option Nat := (verdict, cause, none, none)

/-- The lower of two conditions, by verdict and then by cause. -/
def worseOf (a b : Nat × Nat) : Nat × Nat := if b.1 < a.1 ∨ (b.1 = a.1 ∧ b.2 < a.2) then b else a

/-- The content conditions of R16 over an age. -/
def contentVerdict (d : Device) (p n s age : Nat) : Nat × Nat :=
  let v := layerCfg d n
  let u := layerAt d n
  let all : List (Bool × Nat × Nat) :=
    [(decide (lv v 3 * 1000000 < age), 1, 3),
     (freezeState d s p == 3, 2, if srcFrc d s 9 = 2 then 5 else 4),
     (u.posted || u.scanFailed, 3, 6),
     ((unitBefore d s p).differ != [], 3, 7),
     (decide (0 < lv v 4 ∧ lv v 4 * 1000000 < age), 6, 2)]
  all.foldl (fun a e => if e.1 then worseOf a e.2 else a) (7, 1)

/-- Verdict, cause, age and uncertainty (ns) of layer n for tick instant T; `f` is the frame selected. -/
def judge (d : Device) (p n T : Nat) (f : Option Frame) : Nat × Nat × Option Nat × Option Nat :=
  let v := layerCfg d n
  let q := pixAt d p
  let s := lv v 2
  let kind := srcCfg d s 1
  let tb := srcFrc d s 7
  if !(layerAt d n).committed then gated 0 16
  else if lv v 1 = 0 then gated 0 15
  else if layerShed d n then gated 5 14
  else if lv v 5 = 1 then gated 5 12
  else if lv v 5 = 2 then gated 5 13
  else if 512 ≤ s then gated 4 8
  else if !srcEnabled d s then gated 4 9
  else match f with
    | none => gated 4 10
    | some f =>
      if 4 ≤ (srcUnit d s p).state then gated 4 11
      else if kind ≤ 2 ∧ copyState q (tb - 1) ≤ 1 then gated 0 17
      else if frameExpired q f then (1, 3, some (2 ^ 64), none)
      else
        let u := uncTerm d q f.base (declOf d s f)
        match ageOf (launchAt d (lv v 7) (destY v).toNat T) (toTb1 q f.base f.capture) u with
        | none => (0, 18, none, some u)
        | some a => let c := contentVerdict d p n s a; (c.1, c.2, some a, some u)

/-- The newest complete frame of the source of an enabled layer (R14). -/
def selectFrame (d : Device) (p n : Nat) : Option Frame :=
  let v := layerCfg d n
  let s := lv v 2
  if (layerAt d n).committed ∧ lv v 1 = 1 ∧ s < 512 ∧ srcEnabled d s then (unitBefore d s p).frame else none

/-- The snapshot and evaluation of layer n: what was posted before it counts here and no more (R33). -/
def evalLayer (d : Device) (p T n : Nat) : Device :=
  let f := selectFrame d p n
  let j := judge d p n T f
  let s := lv (layerCfg d n) 2
  let e : LayerEval :=
    { verdict := j.1, cause := j.2.1, age := j.2.2.1, unc := j.2.2.2, capture := f.map (·.capture),
      tb := (f.map (·.base)).getD (if s < 512 then srcFrc d s 7 else 0), seq := f.map (·.seq), source := if s < 512 then some s else none,
      sealCls := sealClass f, freeze := if s < 512 then freezeState d s p else 0 }
  modLayer d n fun u => { u with eval := some e, selected := f, posted := false }

/-- The registers of 0x4100+n at the latch (R56). Latches of causes 15 and 16 do not enter LayerWorstVerdict. -/
def showEval (d : Device) (n tick : Nat) (e : LayerEval) : Device :=
  let o := 0x4100 + n
  let d := setN (setN d o 1 e.verdict) o 2 e.cause
  let d := setN d o 3 (match e.age with
    | some a => ageUs a
    | none => 0)
  let d := setN d o 4 (match e.unc with
    | some u => ageUs u
    | none => 0)
  let d := setN d o 5 (match e.capture with
    | some c => 2 ^ 63 + c
    | none => 0)
  let d := setN d o 6 e.tb
  let d := setN d o 7 (match e.seq with
    | some q => 2 ^ 31 + q
    | none => 0)
  let d := setN d o 8 (match e.source with
    | some s => 0x8000 + s
    | none => 0)
  let d := setN (setN d o 9 e.sealCls) o 0x0A e.freeze
  let d := setN d o 0x0E tick
  if e.cause = 15 ∨ e.cause = 16 then d
  else
    let fresh := regN d (0x10000 + o) 0x0D = 0
    setN (setN d o 0x0D (if fresh then e.verdict else min (regN d o 0x0D) e.verdict)) (0x10000 + o) 0x0D 1

/-- What a layer without an evaluation reads: never committed. DEDUCED: notes/assumptions/67.md. -/
def noEval : LayerEval :=
  { verdict := 0, cause := 16, age := none, unc := none, capture := none, tb := 0, seq := none, source := none, sealCls := 1,
    freeze := 0 }

/-- The verdict of layer n is latched at the tick (R15). -/
def latchLayer (d : Device) (tick n : Nat) : Device :=
  let e := ((layerAt d n).eval).getD noEval
  let d := if (layerAt d n).committed then modLayer d n fun u => { u with latched := some e } else d
  showEval d n tick e

/-! ### Tags (R55, R164, R166) -/

/-- The tag whose value t shows. -/
def valueTag (d : Device) (t : Nat) : Nat := if tagForce d t 0x11 < 4096 then tagForce d t 0x11 else t

/-- What a tag held before this instant: an update accepted at the snapshot's own instant counts from the next (R201). -/
def tagBefore (q : PixelDie) (x : TagUnit) : Nat × Option Nat × Nat × Bool :=
  if x.accepted = q.tb2.ns ∧ x.stamp.isSome then x.before.getD (0, none, 0, false) else (x.value, x.stamp, x.accepted, x.old)
def copyBefore (q : PixelDie) (x : TagUnit) : Option (Nat × Nat × Nat × Bool) := match x.copy with
  | none => none
  | some c => if c.2.2.1 = q.tb2.ns then x.copyBefore else some c

/-- The value of tag t is taken at the snapshot: none while the mirrored tag is disabled. A mirrored tag of another die
is known by the copy the mirroring tag holds (R166). -/
def takeTag (d : Device) (t : Nat) : Device :=
  let m := valueTag d t
  let q := pixAt d (tagDie d t)
  let x := tagBefore q (tagAt d m)
  let on := m == t || tagForce d m 1 == 1
  if m = t ∨ tagDie d m = tagDie d t then
    modTag d t fun u => { u with takenV := x.1, takenS := if on then x.2.1 else none, takenAt := x.2.2.1, takenOld := x.2.2.2 }
  else match copyBefore q (tagAt d t) with
    | some (v, s, a, o) => modTag d t fun u => { u with takenV := v, takenS := if on then some s else none, takenAt := a, takenOld := o }
    | none => modTag d t fun u => { u with takenV := 0, takenS := none }

/-- Verdict and age (ns) of tag t for tick instant T. -/
def judgeTag (d : Device) (p t T : Nat) : Nat × Option Nat :=
  let u := tagAt d t
  let q := pixAt d p
  let m := valueTag d t
  let tb := tagForce d m 0x0E
  let v := pickVals d.force (0x6000 + t) 1 0x11
  match u.takenS with
  | none => (0, none)
  | some s =>
    if tv v 1 = 0 then (0, none)
    else if tagForce d m 0x0F = 1 ∧ copyState q (tb - 1) ≤ 1 then (0, none)
    else if u.takenOld ∨ u.takenAt + hours 36 ≤ q.tb2.ns then (1, some (2 ^ 64))
    else match ageOf (launchAt d (tv v 3) (tagY v) T) (toTb1 q tb s) (uncTerm d q tb (tv v 0x0D * 1000)) with
      | none => (0, none)
      | some a =>
        if tv v 0x0B * 1000000 < a then (1, some a)
        else if 0 < tv v 0x0C ∧ tv v 0x0C * 1000000 < a then (6, some a) else (7, some a)

/-- The tags die p holds: with a configuration applied. -/
def dieTags (d : Device) (p : Nat) : List Nat :=
  d.tags.filterMap fun (e : Nat × TagUnit) => if e.2.applied && tagDie d e.1 == p then some e.1 else none

def evalTag (d : Device) (p T t : Nat) : Device :=
  let d := takeTag d t
  let j := judgeTag d p t T
  modTag d t fun u => { u with verdict := j.1, ageUs := match j.2 with
      | some a => wholeUs a
      | none => 0 }

def latchTag (d : Device) (t : Nat) : Device :=
  setN (setN d (0x6000 + t) 0x22 (tagAt d t).verdict) (0x6000 + t) 0x23 (min (tagAt d t).ageUs 0xFFFFFFFF)

/-! ### The cover map and the fetch (R47, R80) -/

/-- Whether the head fetches a layer under its evaluation. -/
def fetched (e : LayerEval) (f : Option Frame) : Bool := f.isSome && e.cause != 13 && e.cause != 14 && e.cause != 8 && e.cause != 9

/-- The positions an axis' taps reach at destination position i. -/
def tapReach (half mode : Nat) (shed : Bool) (out inn i : Nat) : List Nat := (axisTaps half mode shed out inn i).map (·.1)

/-- The destination positions of an axis whose taps reach [a, b). -/
def axisCover (half mode : Nat) (shed : Bool) (out inn a b : Nat) : List Nat :=
  (List.range out).filter fun i => (tapReach half mode shed out inn i).any fun x => decide (a ≤ x ∧ x < b)

/-- Raster positions of an axis in a raster of size n. -/
def toRaster (n : Nat) (at_ : Int) (l : List Nat) : List Nat :=
  l.filterMap fun i => let x := at_ + Int.ofNat i; if 0 ≤ x ∧ x < Int.ofNat n then some x.toNat else none

/-- The 16 x 16 blocks of a raster that a tile's footprint touches. -/
def tileCells (L : ScanLayer) (f : Frame) (shed : Bool) (W H t : Nat) : List (Nat × Nat) :=
  let cr := layerCrop L.cfg f.width f.height
  let o := orientedSize L.cfg cr
  let q := tileOriented L.cfg cr f.width t
  let xs := toRaster W (destX L.cfg) (axisCover 4 (lv L.cfg 0x11) shed (destW L.cfg) o.1 q.1 q.2.2.1)
  let ys := toRaster H (destY L.cfg) (axisCover 3 (lv L.cfg 0x11) shed (destH L.cfg) o.2 q.2.1 q.2.2.2)
  let cx := (xs.map (· / 16)).eraseDups
  let cy := (ys.map (· / 16)).eraseDups
  cy.flatMap fun y => cx.map fun x => (x, y)

/-- The raster rectangles a layer's OPAQUE tiles cover, when it covers at all. -/
def coverRects (L : ScanLayer) : List (Int × Int × Int × Int) :=
  match L.frame with
  | none => []
  | some f =>
    if lv L.cfg 0x0F ≠ 1023 then []
    else
      let cr := layerCrop L.cfg f.width f.height
      (f.tiles.filter fun e => hdrOpaque e.2.hdr).map fun e =>
        let r := mappedArea L.cfg cr f.width e.1
        (destX L.cfg + Int.ofNat r.1, destY L.cfg + Int.ofNat r.2.1, destX L.cfg + Int.ofNat r.2.2.1, destY L.cfg + Int.ofNat r.2.2.2)

/-- Whether every raster pixel of a block lies in some of the rectangles. DEDUCED: notes/assumptions/69.md. -/
def cellCovered (W H : Nat) (rs : List (Int × Int × Int × Int)) (c : Nat × Nat) : Bool :=
  (List.range 16).all fun j => (List.range 16).all fun i =>
    let x := Int.ofNat (16 * c.1 + i)
    let y := Int.ofNat (16 * c.2 + j)
    decide (Int.ofNat W ≤ x ∨ Int.ofNat H ≤ y) || rs.any fun r => decide (r.1 ≤ x ∧ x < r.2.2.1 ∧ r.2.1 ≤ y ∧ y < r.2.2.2)

/-- The tiles of a layer that are fetched, in their order, under the rectangles that higher layers cover. DEDUCED: notes/assumptions/70.md. -/
def wantedTiles (L : ScanLayer) (shed : Bool) (W H : Nat) (rs : List (Int × Int × Int × Int)) : List Nat :=
  match L.frame with
  | none => []
  | some f => (fetchOrder (lv L.cfg 0x0D) (layerCrop L.cfg f.width f.height) f.width).filter fun t =>
      (tileCells L f shed W H t).any fun c => !cellCovered W H rs c

/-! ### The frame of a head (R14, R31, R52, R199) -/

/-- A layer as the head frame of tick instant T will hold it. -/
def scanLayer (d : Device) (p n : Nat) : ScanLayer :=
  let u := layerAt d n
  let e := u.eval.getD noEval
  let v := layerCfg d n
  { n := n, cfg := v, frame := u.selected, verdict := e.verdict, cause := e.cause,
    ageUs := match e.age with
      | some a => wholeUs a
      | none => 0,
    unc := e.unc.getD 0, capTb1 := match e.capture with
      | some c => toTb1 (pixAt d p) e.tb c
      | none => 0,
    wanted := [], verified := [], failed := [], dropped := [] }

/-- Gives each layer of a list, highest first, the tiles it fetches. -/
def fetchPlan (d : Device) (hc : Table Val) (shed : Bool) : List ScanLayer → List ScanLayer → List ScanLayer
  | [], _ => []
  | L :: r, above =>
    let e := ((layerAt d L.n).eval).getD noEval
    let same := above.filter fun A => lv A.cfg 8 == lv L.cfg 8
    let L' := if fetched e L.frame then
        { L with wanted := wantedTiles L shed (hActive hc) (vActive hc) (same.flatMap coverRects) }
      else L
    L' :: fetchPlan d hc shed r (if fetched e L.frame then L :: above else above)

/-- The full-screen GREY of a head for the coming tick (R52): supply, maintenance, shedding, start-up. DESIGN CHOICE: notes/assumptions/220.md. -/
def greyOf (d : Device) (p h : Nat) : Grey :=
  let g := headShedGrey d h
  if g = .supply then .supply
  else if (pixAt d p).state = 2 then .maintenance
  else if g = .powerShed then .powerShed
  else if (headAt d h).link = .idle then .starting else .none

/-- The frame head h will show in the interval of the coming tick. -/
def buildScan (d : Device) (p h : Nat) : Scan :=
  let hc := headForce d h
  let shed := decide (2 ≤ dieStage d p)
  let grey := greyOf d p h
  let ls := (layersOn d h).map (scanLayer d p)
  { grey := grey, hcfg := hc, gcfg := pickVals d.force (0x4900 + h) 1 3,
    layers := if grey = .none then (fetchPlan d hc shed ls.reverse []).reverse else ls,
    tags := (tagsOn d h).map fun t =>
      { t := t, cfg := pickVals d.force (0x6000 + t) 1 0x11, verdict := (tagAt d t).verdict, ageUs := (tagAt d t).ageUs,
        value := (tagAt d t).takenV },
    forced := d.sup.dbg.opened, shed := shed }

def planScan (d : Device) (p h : Nat) : Device :=
  modScan d h fun u => { u with next := if headOn d h then some (buildScan d p h) else none }

/-- Guard plane counts of a head (R152). -/
def guardShow (d : Device) (h : Nat) : Device :=
  let ts := tagsOn d h
  let d := setN d (0x4900 + h) 6 (0x8000 + (ts.filter fun t => tagForce d t 2 == 1).length)
  let d := setN d (0x4900 + h) 7 (0x8000 + (ts.filter fun t => tagForce d t 2 == 2).length)
  setN d (0x4900 + h) 8 (0x8000 + glyphsOn d ts)

/-! ### The pane map (R260) -/

/-- The topmost element at a pixel of stream k. -/
def paneCell (S : Scan) (k x y : Nat) : Nat :=
  let m := hv S.hcfg (0x12 + k)
  if hi16 m ≤ x ∧ x < hi16 m + 32 ∧ lo16 m ≤ y ∧ y < lo16 m + 32 then 5 * 2 ^ 13
  else if S.grey ≠ .none then 6 * 2 ^ 13
  else
    let plane (pl : Nat) : Option Nat :=
      if pl = 3 then (bannerAt S y).map fun _ => 4 * 2 ^ 13
      else (S.tags.reverse.find? fun F => tv F.cfg 2 == (if pl = 1 then 2 else 1) && tagCovers k x y F).map fun F => 3 * 2 ^ 13 + F.t
    let layer : Option Nat := ((streamLayers S k).reverse.find? fun L =>
      decide (0 < lv L.cfg 0x0F ∧ destX L.cfg ≤ Int.ofNat x ∧ Int.ofNat x < destX L.cfg + Int.ofNat (destW L.cfg) ∧
        destY L.cfg ≤ Int.ofNat y ∧ Int.ofNat y < destY L.cfg + Int.ofNat (destH L.cfg))).map fun L => 2 * 2 ^ 13 + L.n
    match (planesTop (gv S.gcfg 1)).findSome? plane with
    | some c => c
    | none => layer.getD (1 * 2 ^ 13)

/-- The map of stream k of a frame in raster order of its blocks. -/
def paneCells (S : Scan) (k : Nat) : List Nat :=
  let W := hActive S.hcfg
  let H := vActive S.hcfg
  (List.range (ceilDiv H 16)).flatMap fun by_ => (List.range (ceilDiv W 16)).map fun bx =>
    paneCell S k (min (16 * bx + 8) (W - 1)) (min (16 * by_ + 8) (H - 1))

/-- Latched verdict, source and seal class of every layer of a frame, for its record: number, verdict, source, class. -/
def paneShown (S : Scan) (k : Nat) : List (Nat × Nat × Option Nat × Nat) :=
  ((streamLayers S k).map fun L =>
    (L.n, L.verdict, (if lv L.cfg 2 < 512 then some (lv L.cfg 2) else none), sealClass L.frame)) ++
  ((S.tags.filter fun F => tv F.cfg 4 == k).map fun F => (4096 + F.t, F.verdict, none, 0))

end Sys2Proof.Machine
end

