-- ==== Sys2Proof/Machine/Reset.lean ====
section
/-! DEFINITION. What a reset of one die clears (R392, R412, R413, R420, R423, R436). -/

namespace Sys2Proof.Machine

/-! ### Clocks -/

/-- The clocks of die k start anew with its reset (R403, R408, R409): a control die goes back to its internal oscillator and
tries its crystal again, unless it failed to qualify. DEDUCED: notes/assumptions/213.md. -/
def clockRestart (d : Device) (k : Nat) : Device := modClock d k fun c =>
  let failed := c.crystal == 3
  { ClockUnit.reset with
      src := if c.src = 0 then 0 else if 2 ≤ k then 4 else if failed then 3 else 1, mon := if c.src = 0 then 0 else if c.ready then 2 else 1,
      ready := c.ready, startAt := if k < 2 then d.mono else c.startAt, stepAt := c.stepAt, stepped := c.stepped, crystal := if failed then 3 else 0,
      windows := c.windows, pll := if c.src = 2 then 3 else c.pll }

/-! ### Pixel dies -/

/-- Whether an object's status is held by pixel die p. The lock of a guard plane outlives its die (R45). -/
def heldBy (d : Device) (p base u sub : Nat) : Bool :=
  if base = 0x4900 ∧ sub = 0x0A then false
  else if base = 0x3010 then u / 4 == p
  else if 0x3014 ≤ base ∧ base ≤ 0x3060 then u == p
  else if base = 0x4000 ∨ base = 0x4100 then u / 32 == p
  else if base = 0x4800 ∨ base = 0x4880 ∨ base = 0x4900 then u / 4 == p
  else if base = 0x5200 then srcOwner d u == p
  else if base = 0x5400 ∨ base = 0x5440 ∨ base = 0x5800 ∨ base = 0x5840 then u / 2 == p
  else if base = 0x5480 then dieOfPort (camPort d u) == p
  else if base = 0x6000 then tagDie d u == p else false

/-- Whether a register is status that die p's reset takes to its reset value; the model's own shadows lie 0x10000 above
their objects. -/
def clearedBy (d : Device) (p key : Nat) : Bool :=
  let idx := keyIdx key
  let sub := keySub key
  match objOf (idx % 0x10000) with
  | none => false
  | some (base, u) => heldBy d p base u sub && (decide (0x10000 ≤ idx) || match findEntry sub (entriesOf base) with
      | some e => e.acc == .ro || (base == 0x6000 && sub == 0x20)
      | none => false)

/-- Whether a staged object's configuration in force lies on die p. -/
def forceBy (d : Device) (p key : Nat) : Bool := match objOf (keyIdx key % 0x10000) with
  | none => false
  | some (base, u) => [0x4000, 0x4800, 0x4900, 0x6000, 0x3060].contains base && heldBy d p base u 0

/-- Commits that waited on the die undecided: the supervisor sends them again (R413). -/
def undecided (d : Device) (p : Nat) : List CtlMsg :=
  let late (c : Commit) : Commit := { c with aim := 0 }
  let opt {α : Type} (o : Option α) (f : α → CtlMsg) : List CtlMsg := match o with
    | some c => [f c]
    | none => []
  ((List.range 4).flatMap fun k => opt (headAt d (4 * p + k)).pending fun c => .head (4 * p + k) (late c)) ++
  ((List.range 4).flatMap fun k => opt (headAt d (4 * p + k)).guardPend fun c => .guard (4 * p + k) (late c)) ++
  opt (wbAt d p).pending (fun c => .writeback (late c)) ++
  (pixAt d p).behind ++ (d.tags.flatMap fun (e : Nat × TagUnit) => opt e.2.pending fun c =>
    if tagDecider d e.1 c.vals = p then .tag e.1 (late c) else .tag e.1 c).filter (fun m => match m with
      | .tag t c => tagDecider d t c.vals == p
      | _ => false) ++
  ((dieLayers d p ++ (d.layers.filterMap fun (e : Nat × LayerUnit) =>
      if e.1 / 32 = p ∧ !e.2.committed then some e.1 else none)).flatMap fun n =>
    opt (layerAt d n).pending fun c => .layer n (late c))

def dropKeys {α : Type} (t : Table α) (f : Nat → Bool) : Table α := t.filter fun e => !f e.1

/-- Tiles of other dies' sources that die p was forwarding are owed again (R413). -/
def oweTransit (d : Device) (p : Nat) : Device :=
  forEach d (List.range 4) fun d k => forEach d (spurOutOf d p k) fun d x => match x with
    | .tile s dest i _ => if srcOwner d s = p then d else owe d s dest [i]
    | _ => d

/-- The tile at the front of each Spur queue of die p is on its way as the die is reset: the next die, where it is the tile's
replica, writes it with VALID clear (R72, R413). -/
def spurVoid (d : Device) (p : Nat) : Device :=
  forEach d (List.range 4) fun d k =>
    let q := if k < 2 then (p + 1) % 6 else (p + 5) % 6
    match spurOutOf d p k with
    | .tile s dest i sl :: _ =>
      if dest = q ∧ pixUp d q ∧ replicaOn d s q ∧ (k % 2 = 0 ∨ spurOutOf d p (k - 1) = []) then
        match allocSlot d q (voidHdr sl.hdr) sl.payload with
        | (d, some t) => modSrcUnit d s q fun u => { u with held := tput u.held i t }
        | (d, none) => memExhausted d q
      else d
    | _ => d

/-- Everything on die p returns to its reset value; what the control dies hold about it stays. DEDUCED: notes/assumptions/101.md. -/
def pixelClear (d : Device) (p : Nat) : Device :=
  let d := spurDetour (oweTransit (if pixUp d p then spurVoid d p else d) p) p
  let ctl := undecided d p ++ (queueAt d p).ctl ++ ((queueAt d p).failed.flatMap fun e => e.2.filterMap (·.2))
  let q := pixAt d p
  let regs := dropKeys d.regs (clearedBy d p)
  let force := dropKeys d.force (forceBy d p)
  let tags := d.tags.filterMap fun (e : Nat × TagUnit) =>
    if tagDie d e.1 = p then (match e.2.pending with
      | some c => if tagDecider d e.1 c.vals = p then none else some (e.1, { TagUnit.reset with pending := some c })
      | none => none) else some e
  let d := { d with regs := regs, force := force, srcs := dropKeys d.srcs (fun k => k % 6 == p),
                    cams := dropKeys d.cams (fun i => dieOfPort (camPort d i) == p),
                    pipes := dropKeys d.pipes (fun j => j / 2 == p),
                    layers := tmap (fun n u => if n / 32 = p then { LayerUnit.reset with owner := u.owner } else u) d.layers,
                    heads := dropKeys d.heads (fun h => h / 4 == p), scans := dropKeys d.scans (fun h => h / 4 == p),
                    tags := tags, wbs := tdel d.wbs p, mems := tdel d.mems p,
                    ifs := dropKeys d.ifs (fun m => m / 4 == p), queues := tput d.queues p { QueueUnit.reset with ctl := ctl },
                    links := dropKeys d.links (fun k => k / 2 == p), tracks := dropKeys d.tracks (fun k => k / 2 == p),
                    rules := tdel d.rules (dieNo p),
                    mcs := tmap (fun k m => if k = p then { McUnit.reset with install := m.install } else m) d.mcs }
  tokensMoved (setPix d p { PixelDie.reset with resets := q.resets, spare := q.spare, repairs := q.repairs, state := 3, repair := q.repair,
                                                again := true, resetAt := d.mono })

/-- A reset of pixel die p takes it out of service; its records in handling are complete only at its restart. -/
def pixelReset (d : Device) (p : Nat) : Device := clockRestart (pixelClear d p) (dieNo p)

/-- The third FATAL reset within 600 s holds the die (R392). -/
def fatalCount (d : Device) (p : Nat) : Device :=
  let q := pixAt d p
  let recent := (q.resets ++ [d.mono]).filter fun t => decide (d.mono < t + 600 * 1000000000)
  let d := modPix d p fun q => { q with resets := recent }
  if 3 ≤ recent.length then raise (modPix d p fun q => { q with state := 6 }) (dieNo p) 84 0 else d

/-! ### Control dies -/

/-- Control die c fails: within 600 s of a take-back it is SUSPECT at its next recovery (R382). -/
def noteFailed (d : Device) (c : Nat) : Device :=
  match tfind d.sup.tookBack c with
  | some t => if d.mono < t + 600 * 10 ^ 9 ∧ !d.sup.suspects.contains c then { d with sup := { d.sup with suspects := d.sup.suspects ++ [c] } } else d
  | none => d

/-- Control die c is reset whole: only its NOR is kept (R412), where an active die's audit records are programmed by then (R436). Its
tiles on the way to the pixel dies are void (R72). -/
def ctlClear (d : Device) (c : Nat) : Device :=
  let d := if isActive d c then logProgram { d with awaiting := [] } c (auditHead d) else d
  let d := noteFailed d c
  let x := ctlAt d c
  let d := forEach d (List.range 6) fun d p => spoilFlight d p c
  let d := { d with st2110 := dropKeys d.st2110 (fun s => st2110Ctl d s == c), rules := tdel d.rules c }
  let d := { d with queues := tdel d.queues (6 + c), can := { d.can with errs := d.can.errs.set c 0 }, pins := { d.pins with hbmon := d.pins.hbmon.set c false } }
  setCtl (clockRestart d c) c { CtlDie.reset with flash := x.flash }

/-- The audit record of a die's reset, with the newest record the die formed (R357, R361). DEDUCED: notes/assumptions/133.md. -/
def logReset (d : Device) (k : Nat) : Device := auditDev d 15 0 (newestFormed d k)

/-! ### Either kind -/

/-- A FATAL record of die k and the reset it brings; `counted` says whether R392 counts it. `others` records what was detected
on the same edge, of lower severity (R435). -/
def fatalWith (d : Device) (k code unit : Nat) (detail : List Nat) (counted : Bool) (others : Device → Device) : Device :=
  let busy := (ringAt d k).handling.any fun r => r.sev == 4
  let d := logReset (others (raiseFatal d k code unit detail)) k
  if busy && !dieUp d k then d
  else if k < 2 then ctlClear d k
  else
    let d := pixelReset d (k - 2)
    if counted then fatalCount d (k - 2) else d

def fatalReset (d : Device) (k code unit : Nat) (detail : List Nat) (counted : Bool) : Device :=
  fatalWith d k code unit detail counted id
/-- Whether the reset of a FATAL is under way on die k: another FATAL is recorded and served by it (R436). -/
def fatalPending (d : Device) (k : Nat) : Bool := !dieUp d k && (ringAt d k).handling.any fun r => r.sev == 4

def supplyResets (d : Device) : Device := bump d 0x2200 7
def railLow (d : Device) (k : Nat) : Nat := (railAt d k).mv

/-- A supply reset of die k (R423, R424): held until its rail has recovered; its stage is the one its rail gives from the restart on. -/
def supplyReset (d : Device) (k : Nat) : Device :=
  let d := raiseD d k 94 0x2200 [k, railLow d k]
  let d := logReset (supplyResets d) k
  let d := if k < 2 then ctlClear d k else pixelReset d (k - 2)
  modRail d k fun r => { r with ticks := 0, held := true, heldAt := d.mono }

/-- The end of a commanded reset's GREY frames (R390): links and touch links go down and reset is asserted. -/
def resetAssert (d : Device) (p : Nat) : Device :=
  let rep := (pixAt d p).repair
  let d := logReset (raise d (dieNo p) 81 0) (dieNo p)
  modPix (pixelReset d p) p fun q => { q with repair := rep }

end Sys2Proof.Machine
end

