-- ==== Sys2Proof/Machine/Heads.lean ====
section
/-! DEFINITION. The heads: launch, raster lines, tile fetch and verification, the TELLTALE check, writeback capture, link
training and hot plug (R32, R33, R49 to R51, R73 to R76, R170 to R172, R179 to R192, R199, R200). -/

namespace Sys2Proof.Machine

def headUnitIdx (h : Nat) : Nat := 0x4800 + h
def headStat (h : Nat) : Nat := 0x4880 + h
def headDie (h : Nat) : Nat := dieNo (dieOfHead h)

/-! ### Link training (R174, R184, R185) -/

def ratesDown (rate : Nat) : List Nat := ((List.range rate).map (· + 1)).reverse

/-- The settings training tries in order: rate and lanes (R185). -/
def trainOrder (d : Device) (v : Table Val) : List (Nat × Nat) :=
  let lanes := [hv v 3, hv v 3 / 2, hv v 3 / 4].filter (0 < ·)
  (lanes.flatMap fun l => (ratesDown (hv v 2)).map fun r => (r, l)).filter fun e => linkCarries d v e.1 e.2

def trainFailed (d : Device) (h : Nat) : Device :=
  let was := (headAt d h).dropped
  let d := modHead d h fun u => { u with link := .failed, tries := [], trained := none, dropped := false, retryAt := d.mono + 1000000000 }
  let d := raise (bump d (headStat h) 0x0E) (headDie h) 19 (headUnitIdx h)
  if was then raise (bump d (headStat h) 0x0D) (headDie h) 20 (headUnitIdx h) else d

/-- Whether a sink's capabilities allow an attempt at all. -/
def sinkSuits (v : Table Val) (c : Option SinkCaps) : Bool := match c with
  | none => false
  | some c => c.usable && (hv v 4 != 2 || (c.mst && c.branch))

/-- Training begins, the settings of `first` before the order of R185. -/
def beginTraining (d : Device) (h : Nat) (first : List (Nat × Nat)) : Device :=
  let v := headForce d h
  let ts := first ++ trainOrder d v
  if !sinkSuits v (headAt d h).caps || ts == [] then trainFailed d h
  else modHead d h fun u => { u with link := .training, tries := ts, trained := none }

/-- The streams that get a payload: SST has one transport; on MST the streams whose port has a sink. -/
def payloadsUp (v : Table Val) (c : Option SinkCaps) : List Bool :=
  (List.range 4).map fun k => decide (k < hv v 5) && (hv v 4 != 2 || match c with
    | some c => c.ports.contains (mstPort v k)
    | none => false)

def linkUp (d : Device) (h rate lanes : Nat) : Device :=
  let v := headForce d h
  let d := modHead d h fun u =>
    { u with link := .up, tries := [], everUp := true, dropped := false, rising := [], fallen := [], trained := some (rate, lanes), payloads := payloadsUp v u.caps }
  let d := handled d (headDie h) [16, 19, 20, 21, 23] (headUnitIdx h)
  if rate ≠ hv v 2 ∨ lanes ≠ hv v 3 then raise d (headDie h) 18 (headUnitIdx h) else d

/-- What is sent stops at once. (R54.) -/
def linkOff (d : Device) (h : Nat) : Device :=
  let d := modHead d h fun u => { u with trained := none, payloads := [false, false, false, false], rising := [] }
  modScan d h fun u => { u with sent := false, out := [[], [], [], []] }

def linkTrainingResultOp (d : Device) (h : Nat) (ok : Bool) : Device :=
  match (headAt d h).link, (headAt d h).tries with
  | .training, t :: r =>
    if ok then linkUp d h t.1 t.2
    else if r = [] then trainFailed d h else modHead d h fun u => { u with tries := r }
  | _, _ => d

/-- A failed head reads the DPCD and tries again once per second while HPD is high. -/
def linkRetryOp (d : Device) (h : Nat) (caps : SinkCaps) : Device :=
  let u := headAt d h
  if u.link = .failed ∧ u.hpd = 2 ∧ u.retryAt ≤ d.mono then
    beginTraining (modHead d h fun u => { u with caps := some caps }) h []
  else d

/-! ### Hot plug (R186) -/

def hpdLowOp (d : Device) (h : Nat) : Device :=
  let u := headAt d h
  if !pixUp d (dieOfHead h) || u.hpd != 2 then d
  else
    let d := modHead d h fun u => { u with hpd := 1, caps := none }
    match u.link with
    | .up =>
      let d := linkOff (modHead d h fun u => { u with link := .waitHpd }) h
      raise (bump d (headStat h) 0x0D) (headDie h) 20 (headUnitIdx h)
    | .training => modHead d h fun u => { u with link := .waitHpd, tries := [], dropped := false }
    | .failed => modHead d h fun u => { u with link := .waitHpd }
    | _ => d

def hpdHighOp (d : Device) (h : Nat) (caps : SinkCaps) : Device :=
  if !pixUp d (dieOfHead h) then d
  else
    let d := modHead d h fun u => { u with hpd := 2, caps := some caps }
    if (headAt d h).link = .waitHpd ∧ (headAt d h).running then beginTraining d h [] else d

def setPort (c : Option SinkCaps) (port : Nat) (on : Bool) : Option SinkCaps :=
  c.map fun c => { c with ports := if on then (c.ports ++ [port]).eraseDups else c.ports.filter (· != port) }

/-- DEDUCED: notes/assumptions/73.md. -/
def irqHpdOp (d : Device) (h : Nat) (ev : IrqKind) : Device :=
  let u := headAt d h
  let v := headForce d h
  if u.link ≠ .up ∨ !pixUp d (dieOfHead h) then d
  else match ev with
    | .lossOfLock =>
      let t := u.trained.toList
      beginTraining (modHead (linkOff d h) h fun u => { u with dropped := true }) h t
    | .sinkRemoved k =>
      if hv v 4 = 2 ∧ (u.payloads.getD k false ∨ u.rising.contains k.val) then
        let d := modHead d h fun u => { u with payloads := u.payloads.set k false, rising := u.rising.filter (· != k.val), caps := setPort u.caps (mstPort v k) false }
        let d := raise d (headDie h) 21 (headUnitIdx h)
        modHead d h fun u => { u with fallen := u.fallen ++ [(k.val, (ringAt d (headDie h)).last)] }
      else d
    | .sinkAdded k =>
      if hv v 4 = 2 ∧ k.val < hv v 5 ∧ !u.payloads.getD k false then
        modHead d h fun u => { u with rising := (u.rising ++ [k.val]).eraseDups, caps := setPort u.caps (mstPort v k) true }
      else d

/-- The streams whose payload was allocated again come up at their frame start (R186). -/
def streamsRise (d : Device) (h : Nat) : Device :=
  let ks := (headAt d h).rising
  if ks = [] then d
  else
    let nums := ((headAt d h).fallen.filter fun e => ks.contains e.1).map (·.2)
    let d := modHead d h fun u =>
      { u with rising := [], payloads := ks.foldl (fun l k => l.set k true) u.payloads, fallen := u.fallen.filter fun e => !ks.contains e.1 }
    modRing d (headDie h) fun g => { g with handling := g.handling.filter fun r => !nums.contains r.num }

/-! ### Start and stop (R181, R184) -/

/-- A head that stops composing: the WB source that captured it enters SIGNAL_LOST (R171). -/
def wbStops (d : Device) (h : Nat) : Device :=
  let p := dieOfHead h
  let v := (wbAt d p).live
  if wbv v 1 = 1 ∧ wbv v 2 = h ∧ srcEnabled d (wbv v 4) then modSrcUnit d (wbv v 4) p fun u => { u with state := 4 } else d

/-- The writeback configuration in force takes effect at the tick; a source whose engine stops capturing it enters
SIGNAL_LOST (R170, R171, R199). -/
def wbTick (d : Device) (p : Nat) : Device :=
  let was := (wbAt d p).live
  let now := pickVals d.force (pobj 0x3060 p) 1 5
  let d := modWb d p fun w => { w with live := now }
  if wbv was 1 = 1 ∧ (wbv now 1 ≠ 1 ∨ wbv now 4 ≠ wbv was 4) ∧ srcEnabled d (wbv was 4) then
    modSrcUnit d (wbv was 4) p fun u => { u with state := 4 }
  else d

/-- At the tick an enabling commit applies, the DOT PLL starts; a disabling one stops the head. -/
def headTick (d : Device) (h : Nat) : Device :=
  let u := headAt d h
  if headOn d h then
    if u.link = .idle then
      modScan (modHead d h fun u =>
        { u with link := .waitHpd, running := false, lock := 1, goodTicks := 0, phaseErr := none, phaseShown := none, frameCount := 0,
                 curTick := 0, everUp := false }) h fun x =>
        { x with frozen := false, resumeTick := 0, frozenTimes := [], cur := none }
    else d
  else if u.link = .idle then d
  else
    let d := linkOff d h
    let d := modHead d h fun u => { u with link := .idle, running := false, lock := 0, tries := [], dropped := false }
    wbStops (modScan d h fun x => { HeadScan.reset with underEvent := x.underEvent, maps := x.maps }) h

/-- The DOT PLL locks: the raster makes a hard start. DEDUCED: notes/assumptions/72.md. -/
def dotLockOp (d : Device) (h : Nat) : Device :=
  let u := headAt d h
  if !dotLocking d h then d
  else
    let d := modClock d (dieNo (dieOfHead h)) fun c => { c with relockAt := d.mono, faults := c.faults.filter (· != 7 + h % 4) }
    match u.link with
    | .frozen _ => d
    | .waitHpd =>
      let d := modHead d h fun u => { u with running := true, lock := 1, goodTicks := 0 }
      if u.hpd = 2 then beginTraining d h [] else d
    | _ => modHead d h fun u => { u with running := true, lock := 1, goodTicks := 0 }

/-- The head pipe and output stage are reset: the link trains again, or after OUTPUT FROZEN under BLANK_LATCHED, or for the
third time within 60 s, stays down for good (R191, R410). -/
def pipeResetOp (d : Device) (h : Nat) : Device :=
  let u := headAt d h
  match u.link with
  | .frozen t =>
    let times := (scanAt d h).frozenTimes
    if times.contains t ∧ (frcN d (headUnitIdx h) 0x17 = 2 ∨ 3 ≤ times.length) then
      handled (modHead d h fun u => { u with link := .latched }) (headDie h) [16] (headUnitIdx h)
    else
      let d := modHead d h fun u => { u with link := .waitHpd }
      if u.hpd = 2 ∧ u.running then beginTraining d h [] else d
  | _ => d

/-! ### Launch (R179, R183, R189, R199) -/

def nextCount (n : Nat) : Nat := if 0xFFFFFFFE ≤ n then 1 else n + 1

/-- The latest four maps of each stream (R260). -/
def keepMaps (l : List PaneMap) : List PaneMap :=
  (List.range 4).flatMap fun k => let m := l.filter fun x => x.stream == k; m.drop (m.length - 4)

def frameMaps (S : Scan) (count launch : Nat) (sent : Nat → Bool) : List PaneMap :=
  (List.range (hv S.hcfg 5)).map fun k =>
    { stream := k, launch := launch, count := count, sent := sent k, cols := ceilDiv (hActive S.hcfg) 16, height := vActive S.hcfg, cells := paneCells S k, disturbed := [],
      shown := paneShown S k, linesDone := 0 }

/-- The captured stream's frame starts: the WB signal, and whether this frame is captured (R170, R171). DEDUCED: notes/assumptions/77.md. -/
def wbLaunch (d : Device) (h : Nat) : Device :=
  let p := dieOfHead h
  let v := (wbAt d p).live
  if wbv v 1 ≠ 1 ∨ wbv v 2 ≠ h then
    (if wbv (wbAt d p).capture 2 = h then modWb d p fun w => { w with capture := [], rows := [] } else d)
  else
    let s := wbv v 4
    let d := if (srcUnit d s p).present then srcSignal d s p else d
    if 1 ≤ dieStage d p then modWb d p fun w => { w with capture := v, rows := [], spoiled := true }
    else
      let n := (wbAt d p).frames + 1
      modWb d p fun w =>
        { w with capture := v, frames := n, rows := [], spoiled := n % wbv v 5 != 0, launch := (pixAt d p).tb1.ns }

/-- Whether line 0 may launch: a hard start launches at exactly its target (R181); from then on the raster runs at a period that
the phase detector steers by at most 500 ppm, and meets the target where the grid has moved. A front porch is only lengthened, so a
target earlier than a whole period after the last launch passes without one (R183). DEDUCED: notes/assumptions/231.md. -/
def launchDue (d : Device) (h : Nat) (S : Scan) : Bool :=
  let q := pixAt d (dieOfHead h)
  let past := Int.ofNat q.tb1.ns - (Int.ofNat q.tickAt + Int.ofNat (hv S.hcfg 0x0E * 1000))
  match (headAt d h).phaseErr with
  | none => decide (0 ≤ past)
  | some e =>
    let lead := Int.ofNat (e.natAbs + tickPeriod d / 2000)
    let moved := Int.ofNat q.gridTick.natAbs
    decide (0 ≤ past + lead + moved ∧
      Int.ofNat ((scanAt d h).begun + tickPeriod d) + past ≤ Int.ofNat d.mono + lead + (if moved ≤ 5000 then moved else 0))

/-- Whether line m of the frame on screen may launch, m line times after line 0 (R199), the dot clock within 500 ppm. -/
def lineDue (d : Device) (h m : Nat) (S : Scan) : Bool :=
  decide (1999 * linesNs d S.hcfg m ≤ 2000 * (d.mono - (scanAt d h).begun))

/-! ### Tiles (R32, R73) -/

/-- A tile of layer n fails: counted, posted and reported. -/
def tileFailed (d : Device) (n s tile kind : Nat) : Device :=
  let d := modLayer (bump d (0x4100 + n) 0x0B) n fun u => { u with posted := true }
  raiseSrc d (dieNo (dieOfLayer n)) 2 (0x4000 + n) s [s, tile, kind]

/-- Replaces layer n of a frame. -/
def onLayer (S : Scan) (n : Nat) (f : ScanLayer → ScanLayer) : Scan :=
  { S with layers := S.layers.map fun L => if L.n = n then f L else L }

/-- A slot as the memory delivers it: an interface that has failed gives zeros. -/
def readSlot (d : Device) (p : Nat) (s : Slot) : BitVec 128 × List Byte :=
  let dead (m : Nat) : Bool := (memIfAt d (ifKey p m)).state == 6
  (if dead s.hif then 0 else s.hdr, if dead s.pif then List.replicate s.payload.length 0 else s.payload)

/-- The frame of a head's scan that a fetch serves: 0 on screen, 1 latched, 2 planned. -/
def scanPick (x : HeadScan) (w : Nat) : Option Scan := if w = 0 then x.cur else if w = 1 then x.ready else x.next
def scanPut (x : HeadScan) (w : Nat) (S : Scan) : HeadScan :=
  if w = 0 then { x with cur := some S } else if w = 1 then { x with ready := some S } else { x with next := some S }

/-- Whether row j of a layer's destination reads tile t. DEDUCED: notes/assumptions/75.md. -/
def rowReads (L : ScanLayer) (f : Frame) (shed : Bool) (j t : Nat) : Bool :=
  let cr := layerCrop L.cfg f.width f.height
  let o := orientedSize L.cfg cr
  let q := tileOriented L.cfg cr f.width t
  (tapReach 3 (lv L.cfg 0x11) shed (destH L.cfg) o.2 j).any fun y => decide (q.2.1 ≤ y ∧ y < q.2.2.2)

/-- The last raster line of a layer's pane. -/
def paneEnd (S : Scan) (L : ScanLayer) : Int := min (destY L.cfg + Int.ofNat (destH L.cfg)) (Int.ofNat (vActive S.hcfg)) - 1
/-! The strips of a layer are the groups of 16 destination lines from its top visible line (R200). -/

def topLine (L : ScanLayer) : Nat := (destY L.cfg).toNat
/-- The strip whose lines are the first to read tile t. -/
def tileStrip (S : Scan) (L : ScanLayer) (f : Frame) (t : Nat) : Nat :=
  let n := (paneEnd S L + 1 - Int.ofNat (topLine L)).toNat
  match (List.range n).find? fun r => rowReads L f S.shed (Int.ofNat (topLine L + r) - destY L.cfg).toNat t with
  | some r => r / 16
  | none => 0
/-- The first line of a layer's last strip. -/
def lastStrip (S : Scan) (L : ScanLayer) : Nat := topLine L + ((paneEnd S L - Int.ofNat (topLine L)).toNat / 16) * 16

/-- Whether a frame's last strip of layer n has launched, where the frame shows the layer at all; `shown` says that the frame
is on screen. -/
def lastLaunched (x : HeadScan) (S : Option Scan) (shown : Bool) (n : Nat) : Bool := match S with
  | none => true
  | some S => match S.layers.find? fun L => L.n == n with
    | none => true
    | some L => decide (paneEnd S L < Int.ofNat (topLine L)) || shown && decide (lastStrip S L < x.lines.getD (lv L.cfg 8) 0)

/-- Whether 40 µs have passed since the snapshot of the frame `w` (R199). A frame already latched has them behind it once the
next window has closed. -/
def planDone (d : Device) (p w : Nat) : Bool :=
  let q := pixAt d p
  (w != 2 && q.ticks < q.closes) || decide (q.closedAt + 40000 ≤ d.mono)

/-- Whether the fetch of strip j of a layer of the frame `w` may have begun. DEDUCED: notes/assumptions/169.md. -/
def stripBegun (d : Device) (p h w j : Nat) (L : ScanLayer) : Bool :=
  let x := scanAt d h
  if 0 < j then w == 0 && decide (topLine L + 16 * (j - 1) < x.lines.getD (lv L.cfg 8) 0)
  else planDone d p w && (w == 0 || (lastLaunched x x.cur true L.n && (w == 1 || lastLaunched x x.ready false L.n)))

/-- Whether every line that reads tile t has launched: its place in the region of two strips is another strip's (R200). -/
def stripGone (x : HeadScan) (w : Nat) (S : Scan) (L : ScanLayer) (f : Frame) (t : Nat) : Bool :=
  let n := (paneEnd S L + 1 - Int.ofNat (topLine L)).toNat
  let reads (r : Nat) : Bool := rowReads L f S.shed (Int.ofNat (topLine L + r) - destY L.cfg).toNat t
  let seen := x.lines.getD (lv L.cfg 8) 0 - topLine L
  w == 0 && !((List.range n).any fun r => decide (seen ≤ (r / 16) * 16 + 15 ∧ seen < n) && reads r)

/-- A tile still to arrive. -/
def outstanding (L : ScanLayer) (t : Nat) : Bool :=
  (tfind L.verified t).isNone && !(L.failed.any fun e => e.1 == t) && !L.dropped.contains t

/-- The slot of a tile of a frame on screen or to come takes damage (R77). -/
def damageWanted (d : Device) (p h w n tile : Nat) (hf pf : List Nat) : Device :=
  let sl := (scanPick (scanAt d h) w).bind fun S => (S.layers.find? fun L => L.n == n).bind fun L => L.frame.bind fun f => tfind f.tiles tile
  match sl with
  | none => d
  | some s => if hf = [] ∧ pf = [] then d else damageSlot d p s.num hf pf

/-- The next tile of a layer of a frame: the line with which its strip's fetch begins, the layer, the tile. -/
def layerNext (d : Device) (p h w : Nat) (S : Scan) (L : ScanLayer) : Option (Nat × Nat × Nat) := match L.frame with
  | none => none
  | some f => match L.wanted.find? fun t => outstanding L t && !stripGone (scanAt d h) w S L f t with
    | none => none
    | some t =>
      let j := tileStrip S L f t
      if stripBegun d p h w j L then some (if j = 0 then 0 else topLine L + 16 * (j - 1) + 1, L.n, t) else none

/-- The tile that scan fetch asks for next in frame `w` of head h: strips in the order they begin, layers ascending (R146,
R200). -/
def nextFetch (d : Device) (p h w : Nat) : Option (Nat × Nat) :=
  match scanPick (scanAt d h) w with
  | none => none
  | some S => ((S.layers.filterMap (layerNext d p h w S)).foldl (fun (best : Option (Nat × Nat × Nat)) e => match best with
      | none => some e
      | some b => if e.1 < b.1 ∨ (e.1 = b.1 ∧ e.2.1 < b.2.1) then some e else best) none).map (·.2)

/-- DEDUCED: notes/assumptions/221.md. -/
def fetchInto (d : Device) (p h w n tile : Nat) (hf pf : List Nat) : Device :=
  match scanPick (scanAt d h) w with
  | none => d
  | some S => match S.layers.find? fun L => L.n == n with
    | none => d
    | some L => match L.frame with
      | none => d
      | some f => match tfind f.tiles tile with
        | none => d
        | some sl =>
          let r := readSlot d p sl
          let hdr := flipBits r.1 hf
          let pay := flipBytes r.2 pf
          let kind := verifyTile f.source f.width f.height tile hdr pay
          if kind = 0 then
            let d := setN d (0x4100 + n) 0x0C ((regN d (0x4100 + n) 0x0C + 1) % 2 ^ 32)
            modScan d h fun x => scanPut x w (onLayer S n fun L => { L with verified := tput L.verified tile { sl with hdr := hdr, payload := pay } })
          else
            tileFailed (modScan d h fun x => scanPut x w (onLayer S n fun L => { L with failed := L.failed ++ [(tile, kind, 0)] }))
              n f.source tile kind

/-- The bits flipped on the way, and those flipped in the slot. -/
def onWay (x : Damage) : List Nat := if x.stored then [] else x.bits
def inSlot (x : Damage) : List Nat := if x.stored then x.bits else []

/-- TILE_FETCH_DONE: `ahead` says that the tile was fetched for a frame not launched yet. -/
def tileFetchOp (d : Device) (n : Nat) (ahead : Bool) (tile : Nat) (hf pf : Damage) : Device :=
  let p := dieOfLayer n
  let ws : List Nat := if ahead then [1, 2] else [0]
  let at_ := ((List.range 4).map (4 * p + ·)).findSome? fun h =>
    ws.findSome? fun w => if nextFetch d p h w == some (n, tile) then some (h, w) else none
  match at_ with
  | none => d
  | some (h, w) =>
    if !pixUp d p then d
    else fetchInto (damageWanted d p h w n tile (inSlot hf) (inSlot pf)) p h w n tile (onWay hf) (onWay pf)

/-! ### Raster lines (R50, R74, R75, R187 to R192) -/

/-- STRIP_PARITY of a tile of layer n, found on a line of stream k. -/
def parityFail (d : Device) (h k line : Nat) (e : LayerNo × Nat) : Device :=
  match (scanAt d h).cur with
  | none => d
  | some S => match (streamLayers S k).find? fun L => L.n == e.1.val with
    | none => d
    | some L => match L.frame with
      | none => d
      | some f =>
        let j := Int.ofNat line - destY L.cfg
        if (tfind L.verified e.2).isSome ∧ 0 ≤ j ∧ j < Int.ofNat (destH L.cfg) ∧ rowReads L f S.shed j.toNat e.2 = true then
          let d := modScan d h fun x => { x with cur := some (onLayer S L.n fun L =>
            { L with failed := L.failed ++ [(e.2, 6, line)], verified := tdel L.verified e.2 }) }
          tileFailed d L.n f.source e.2 6
        else d

/-- The cause of an underrun (R188). -/
def underCause (d : Device) (p : Nat) : Nat :=
  let m := memAt d p
  let migrating := (List.range 4).any fun k => (memIfAt d (ifKey p k)).state == 4
  if migrating ∨ d.mono < m.retireEnd then 4 else if d.mono < m.switchEnd then 3 else if d.mono < m.burstEnd then 2 else 1

def underrunOn (d : Device) (h : Nat) : Device :=
  let p := dieOfHead h
  let x := scanAt d h
  let d := bump d (headStat h) 0x0A
  let d := if x.underFrame then d else bump d (headStat h) 0x0B
  let c := underCause d p
  let d := setN d (headStat h) 0x0C c
  let n := x.underSince + 1
  let due := match x.underEvent with
    | none => true
    | some t => decide (t + 1000000000 ≤ d.mono)
  if due then
    raiseFull (modScan d h fun x => { x with underFrame := true, underSince := 0, underEvent := some d.mono }) (headDie h) 22 (sevOf 22) (headUnitIdx h) n [c, word16 n] none
  else modScan d h fun x => { x with underFrame := true, underSince := n }

/-- Whether the pixel a layer gives at (i, j) is of the BROKEN tile treatment. -/
def brokenPixel (p : Policy) (S : Scan) (L : ScanLayer) (x y : Nat) : Bool :=
  let i := Int.ofNat x - destX L.cfg
  let j := Int.ofNat y - destY L.cfg
  match L.frame with
  | none => false
  | some f =>
    if i < 0 ∨ j < 0 ∨ Int.ofNat (destW L.cfg) ≤ i ∨ Int.ofNat (destH L.cfg) ≤ j ∨ lv L.cfg 0x0F = 0 then false
    else match brokenAt L f S.shed i.toNat j.toNat y with
      | none => false
      | some c => layerPixel p S.shed L i.toNat j.toNat y == some (c, 4095, true)

/-- Whether a layer hides everything below it at a pixel. -/
def hidesBelow (p : Policy) (S : Scan) (L : ScanLayer) (x y : Nat) : Bool :=
  let i := Int.ofNat x - destX L.cfg
  let j := Int.ofNat y - destY L.cfg
  if i < 0 ∨ j < 0 ∨ Int.ofNat (destW L.cfg) ≤ i ∨ Int.ofNat (destH L.cfg) ≤ j ∨ lv L.cfg 0x0F = 0 then false
  else match layerPixel p S.shed L i.toNat j.toNat y with
    | some (_, a, t) => a == 4095 && (t || lv L.cfg 0x0F == 1023)
    | none => false

def brokenVisible (p : Policy) (S : Scan) (x y : Nat) : List ScanLayer → Bool
  | [] => false
  | L :: r => brokenPixel p S L x y || (!hidesBelow p S L x y && brokenVisible p S x y r)

/-- The columns' blocks of a line that the pane map marks DISTURBED. -/
def disturbedCols (p : Policy) (S : Scan) (k : Nat) (under : Option Nat) (y : Nat) : List Nat :=
  let ls := (streamLayers S k).reverse
  let quiet := under.isNone && ls.all fun L => L.failed == []
  if quiet then []
  else
    (((List.range (hActive S.hcfg)).filter fun x =>
      (markPixel S.hcfg k 0 x y).isNone && ((planesTop (gv S.gcfg 1)).findSome? (planePixel p S k (hActive S.hcfg) x y)).isNone &&
      ((match under with
        | some u => decide (u ≤ x)
        | none => false) || brokenVisible p S x y ls)).map (· / 16)).eraseDups

/-- A line of the captured stream joins the frame in capture. -/
def wbLine (d : Device) (h k : Nat) (row : List Nat) : Device :=
  let p := dieOfHead h
  let v := (wbAt d p).capture
  if wbv v 1 = 1 ∧ wbv v 2 = h ∧ wbv v 3 = k ∧ !(wbAt d p).spoiled then modWb d p fun w => { w with rows := w.rows ++ [row] } else d

def packRgb (c : Rgb) : Nat := c.1 * 2 ^ 20 + c.2.1 * 2 ^ 10 + c.2.2

/-- OUTPUT FROZEN on stream k (R191). -/
def outputFrozen (d : Device) (h k : Nat) : Device :=
  let q := pixAt d (dieOfHead h)
  let d := raiseD d (headDie h) 16 (headUnitIdx h) [k]
  let d := bump d (headStat h) 0x10
  let times := ((scanAt d h).frozenTimes ++ [d.mono]).filter fun t => decide (d.mono < t + 60000000000)
  let latched := (headAt d h).link == .latched
  let d := linkOff d h
  let d := modHead d h fun u => { u with link := if latched then .latched else .frozen d.mono, tries := [] }
  let d := modScan d h fun x => { x with frozen := true, frozenTimes := times, resumeTick := q.ticks + 2 }
  if latched then handled d (headDie h) [16] (headUnitIdx h) else d

/-- The mark's last line has ended (R50, R51). -/
def markCheck (d : Device) (h k : Nat) (S : Scan) : Device :=
  let x := scanAt d h
  let crc := (x.marks.getD k 0) ^^^ 0xFFFFFFFF
  let good := crc == expectedMark S.hcfg k (headAt d h).frameCount
  let d := modScan d h fun x => { x with lastMark := x.lastMark.set k crc, markState := x.markState.set k (if good then 2 else 3) }
  let d := setB d (headStat h) 0x11 ((scanAt d h).lastMark.flatMap (beBytes 4))
  if !good then outputFrozen d h k
  else if (scanAt d h).sent then modScan d h fun x => { x with frozen := false } else d

/-! ### The end of a scan (R23, R33, R170, R192, R199, R390, R423) -/

/-- The earlier of two TB1 times. -/
def earlier (a b : Nat) : Nat := if diff48 b a < 0 then b else a

/-- Capture time and declared uncertainty of a captured frame (R23). DEDUCED: notes/assumptions/76.md. -/
def wbCapture (S : Scan) (k launch : Nat) : Nat × Nat :=
  let ls := if S.grey = .none then (streamLayers S k).filter fun L => decide (6 ≤ L.verdict ∧ 0 < lv L.cfg 0x0F) else []
  match ls with
  | [] => (launch % 2 ^ 48, 0)
  | L :: r => (r.foldl (fun a M => earlier a M.capTb1) L.capTb1, r.foldl (fun a M => max a M.unc) L.unc)

/-- Component c of a captured word, 0 R to 2 B. -/
def wordPart (w c : Nat) : Nat := getField w (20 - 10 * c) 10

/-- Pixel (x, y) of the captured frame at its scale. -/
def wbPixel (rows : List (List Nat)) (scale x y : Nat) : Px :=
  let at_ (i j : Nat) : Nat := (rows.getD (min j (rows.length - 1)) []).getD i 0
  let part (c : Nat) : Nat :=
    if scale = 1 then wordPart (at_ x y) c
    else (wordPart (at_ (2 * x) (2 * y)) c + wordPart (at_ (2 * x + 1) (2 * y)) c + wordPart (at_ (2 * x) (2 * y + 1)) c +
      wordPart (at_ (2 * x + 1) (2 * y + 1)) c + 2) / 4
  .rgb (4 * part 0) (4 * part 1) (4 * part 2)

/-- The captured frame is sealed and published, or skipped for want of a buffer. DEDUCED: notes/assumptions/181.md. -/
def wbPublish (d : Device) (p : Nat) (S : Scan) : Device :=
  let w := wbAt d p
  let s := wbv w.capture 4
  let o := pobj 0x3060 p
  if w.spoiled ∨ !srcEnabled d s ∨ srcOwner d s ≠ p then d
  else if noBuffer d s p then bump d o 0x0A
  else
    let c := wbCapture S (wbv w.capture 3) w.launch
    let n := (srcUnit d s p).count
    let (d, ok) := publishSealed d s p ((n + 1) % 65536) c.1 c.2 (wbPixel w.rows (rasterScale S.hcfg))
    if ok then modSrcUnit (bump d o 9) s p fun u => { u with count := n + 1 } else bump d o 0x0A

/-- The scan of a layer is complete at its pane's last line: its failures stand until the next scan (R33). DEDUCED: notes/assumptions/80.md. -/
def layerScanned (d : Device) (S : Scan) (L : ScanLayer) : Device :=
  if S.grey = .none ∧ L.frame.isSome ∧ L.cause ≠ 13 ∧ L.cause ≠ 14 then
    modLayer d L.n fun u => { u with scanFailed := L.failed != [] }
  else d
/-- The layers of stream k whose panes' last line is the one before `line`. -/
def panesEnding (S : Scan) (k line : Nat) : List ScanLayer :=
  (streamLayers S k).filter fun L => decide (0 < line) && paneEnd S L + 1 == Int.ofNat line

/-- When no frame of head h still to be scanned shows a layer, the region it left behind there is free (R155). -/
def freeOldStrips (d : Device) (h : Nat) : Device :=
  forEach d (d.layers.map (·.1)) fun d n =>
    if (layerAt d n).oldHead = h ∧ !stillScanned d h n then modLayer d n fun u => { u with oldHead := 0xFF } else d

/-- Whether every scan that must end before the die's reset has ended. -/
def scansEnded (d : Device) (p : Nat) : Bool :=
  let e := (pixAt d p).endTick
  e != 0 && ((List.range 4).map (4 * p + ·)).all fun h =>
    let u := headAt d h
    !u.running || decide (e < u.curTick) || (u.curTick == e && (scanAt d h).cur.isNone)

/-- The reset that a die's GREY frames announced. -/
def announcedReset (d : Device) (p : Nat) : Device :=
  if (railAt d (dieNo p)).stage = 5 then supplyReset d (dieNo p)
  else if (pixAt d p).state = 2 then resetAssert d p else d

def scanComplete (d : Device) (h : Nat) (S : Scan) : Device :=
  let p := dieOfHead h
  let x := scanAt d h
  let count := (headAt d h).frameCount
  let d := if hv S.hcfg 0x18 = 1 then
      setB d (headStat h) 0x12 (beBytes 4 count ++ (List.range 4).flatMap fun k =>
        beBytes 4 (if k < hv S.hcfg 5 then (x.outs.getD k 0) ^^^ 0xFFFFFFFF else 0))
    else d
  let d := if wbv (wbAt d p).capture 1 = 1 ∧ wbv (wbAt d p).capture 2 = h then
      modWb (wbPublish d p S) p fun w => { w with capture := [], rows := [] } else d
  let d := freeOldStrips (modScan d h fun x => { x with cur := none }) h
  if scansEnded d p then announcedReset d p else d

/-- What ends as line `line` of stream k launches: the panes and the mark whose last line was the one before. -/
def lineEnds (d : Device) (h k line : Nat) (S : Scan) : Device :=
  let d := forEach d (panesEnding S k line) fun d L => layerScanned d S L
  if line = lo16 (hv S.hcfg (0x12 + k)) + 32 then markCheck d h k S else d

/-- The last active line of stream k has ended: with the last stream's the scan completes (R199). -/
def streamEnds (d : Device) (h k : Nat) (S : Scan) : Device :=
  let n := vActive S.hcfg
  let d := modScan (lineEnds d h k n S) h fun x => { x with lines := x.lines.set k (n + 1) }
  if (List.range (hv S.hcfg 5)).all fun j => decide (n < (scanAt d h).lines.getD j 0) then scanComplete d h S else d

/-- A scan whose active lines have all launched has ended before line 0 of the next frame launches. -/
def scanEnds (d : Device) (h : Nat) : Device := match (scanAt d h).cur with
  | none => d
  | some S =>
    let ks := (List.range (hv S.hcfg 5)).filter fun k => (scanAt d h).lines.getD k 0 == vActive S.hcfg
    forEach d ks fun d k => streamEnds d h k S

/-- What a line adds to the CRCs; `stuck` resends the frame before: its mark pattern, and an output whose CRC is open. DESIGN CHOICE: notes/assumptions/74.md. -/
def lineCrcs (d : Device) (h k y : Nat) (S : Scan) (row : List Rgb) (stuck : Bool) : Device :=
  let count := (headAt d h).frameCount
  let m := hv S.hcfg (0x12 + k)
  let shownCount := if stuck then count + 1 else count
  let mark := if lo16 m ≤ y ∧ y < lo16 m + 32 then
      (List.range 32).flatMap fun i => crcWord (postLut S.hcfg ((markPixel S.hcfg k shownCount (hi16 m + i) y).getD blackC))
    else []
  let out := if hv S.hcfg 0x18 = 1 then
      (List.range (hActive S.hcfg)).flatMap fun i => crcWord (match markPixel S.hcfg k count i y with
        | some c => postLut S.hcfg c
        | none => row.getD i (0, 0, 0))
    else []
  let d := modScan d h fun x =>
    { x with marks := x.marks.set k (crc32cRun (x.marks.getD k 0) mark),
             outs := x.outs.set k (if stuck then freshVal d % 2 ^ 32 else crc32cRun (x.outs.getD k 0) out) }
  if stuck then spend d else d

/-- The line as the link sends it, the mark merged in (R175); what a stuck output resends beside its mark is free. -/
def lineSent (d : Device) (h k y : Nat) (S : Scan) (row : List Rgb) (stuck : Bool) : Device :=
  let x := scanAt d h
  let count := (headAt d h).frameCount + (if stuck then 1 else 0)
  let px (i : Nat) : Nat := match markPixel S.hcfg k count i y with
    | some c => sentPixel S.hcfg (postLut S.hcfg c)
    | none => if stuck then Config.stuckPixel d.fresh i % 2 ^ (3 * hv S.hcfg 6) else sentPixel S.hcfg (row.getD i (0, 0, 0))
  let l := if x.sent ∧ (headAt d h).payloads.getD k false then (List.range (hActive S.hcfg)).map px else []
  modScan d h fun x => { x with out := x.out.set k l }

/-- RASTER_LINE: the next line of stream k launches and is composed; the launch of the first line of vertical blanking, VActive
line times after line 0's, ends the stream's scan. -/
def rasterLineOp (d : Device) (h k line : Nat) (parity : List (LayerNo × Nat)) (stuck : Bool) : Device :=
  let p := dieOfHead h
  match (scanAt d h).cur with
  | none => d
  | some S0 =>
    if !pixUp d p || !(headAt d h).running || decide (hv S0.hcfg 5 ≤ k) || (scanAt d h).lines.getD k 0 != line ||
        !lineDue d h line S0 || decide (vActive S0.hcfg < line) then d
    else if line = vActive S0.hcfg then streamEnds d h k S0
    else
      let d := lineEnds d h k line S0
      let d := forEach d parity fun d e => parityFail d h k line e
      let S := ((scanAt d h).cur).getD S0
      let pol := policyOf d
      let under := underrunFrom S k line
      let d := if under.isSome then underrunOn d h else d
      let row := (List.range (hActive S.hcfg)).map fun x => postLut S.hcfg (composed pol S k under x line)
      let d := lineCrcs (lineSent d h k line S row stuck) h k line S row stuck
      let d := wbLine d h k (row.map packRgb)
      let cols := ceilDiv (hActive S.hcfg) 16
      let dist := (disturbedCols pol S k under line).map (· + line / 16 * cols)
      let count := (headAt d h).frameCount
      modScan d h fun x =>
        { x with lines := x.lines.set k (line + 1),
                 maps := x.maps.map fun m => if m.stream = k ∧ m.count = count then
                   { m with disturbed := (m.disturbed ++ dist).eraseDups, linesDone := line + 1 } else m }

/-- Line 0 of every stream launches: at most once in a tick interval. -/
def frameLaunchOp (d : Device) (h : Nat) : Device :=
  let p := dieOfHead h
  let q := pixAt d p
  let u := headAt d h
  match (scanAt d h).ready with
  | none => d
  | some S =>
    if !pixUp d p || !u.running || u.curTick == q.ticks || !launchDue d h S then d
    else
      let d := scanEnds d h
      if !pixUp d p || !(headAt d h).running then d
      else
        let u := headAt d h
        let count := nextCount u.frameCount
        let target := Int.ofNat q.tickAt + Int.ofNat (hv S.hcfg 0x0E * 1000)
        let sent := u.link == .up && decide ((scanAt d h).resumeTick ≤ q.ticks)
        let d := streamsRise d h
        let u := headAt d h
        let d := modHead d h fun u =>
          { u with frameCount := count, curTick := q.ticks, launchAt := q.tb1.ns, phaseErr := some (Int.ofNat q.tb1.ns - target) }
        let maps := frameMaps S count q.tb1.ns fun k => sent && u.payloads.getD k false
        let d := modScan d h fun x =>
          { x with cur := some S, ready := none, sent := sent, begun := d.mono, lines := [0, 0, 0, 0],
                   marks := List.replicate 4 0xFFFFFFFF, outs := List.replicate 4 0xFFFFFFFF, underFrame := false,
                   maps := keepMaps (x.maps ++ maps) }
        wbLaunch d h

/-! ### Writeback hold (R172) -/

def wbHoldOp (d : Device) (p : Nat) : Device :=
  let s := wbForce d p 4
  match (if s < 512 then (srcUnit d s p).frame else none) with
  | none => d
  | some f => setN (modWb d p fun w => { w with held := some f }) (pobj 0x3060 p) 0x0B (2 ^ 31 + f.seq)
def wbReleaseOp (d : Device) (p : Nat) : Device := setN (modWb d p fun w => { w with held := none }) (pobj 0x3060 p) 0x0B 0

/-! ### The meanings -/

def execHeadFrameLaunch (dt : Nat) (h : HeadNo) (s : State) := act dt s fun d => frameLaunchOp d h
def execRasterLine (dt : Nat) (h : HeadNo) (k : StreamNo) (line : Nat) (parity : List (LayerNo × Nat)) (stuck : Bool) (s : State) :=
  act dt s fun d => rasterLineOp d h k line parity stuck
def execTileFetchDone (dt : Nat) (n : LayerNo) (ahead : Bool) (tile : Nat) (hdrFlips payFlips : Damage) (s : State) :=
  act dt s fun d => tileFetchOp d n ahead tile hdrFlips payFlips
def execHeadPipeResetDone (dt : Nat) (h : HeadNo) (s : State) := act dt s fun d => pipeResetOp d h
def execDotPllLock (dt : Nat) (h : HeadNo) (s : State) := act dt s fun d => dotLockOp d h
def execLinkTrainingResult (dt : Nat) (h : HeadNo) (ok : Bool) (s : State) := act dt s fun d => linkTrainingResultOp d h ok
def execLinkTrainingRetry (dt : Nat) (h : HeadNo) (caps : SinkCaps) (s : State) := act dt s fun d => linkRetryOp d h caps
def execHpdLowTimeout (dt : Nat) (h : HeadNo) (s : State) := act dt s fun d => hpdLowOp d h
def execHpdHigh (dt : Nat) (h : HeadNo) (caps : SinkCaps) (s : State) := act dt s fun d => hpdHighOp d h caps
def execIrqHpd (dt : Nat) (h : HeadNo) (ev : IrqKind) (s : State) := act dt s fun d => irqHpdOp d h ev

end Sys2Proof.Machine
end

