-- ==== Sys2Proof/Machine/Memory.lean ====
section
/-! DEFINITION. Surface memory: bring-up, refresh, periodic training, set points, retirement, and the credits, drain mode and
descriptors of the queues in front of it (R207 to R214, R216 to R241). -/

namespace Sys2Proof.Machine

def ifObj (p m : Nat) : Nat := 0x3010 + 0x100 * p + m
def memObj (p : Nat) : Nat := pobj 0x3014 p

/-! ### Bring-up (R218, R231) -/

/-- The set point that MemFspLimit and the shedding stage ask for. -/
def wantFsp (d : Device) (p : Nat) : Nat := max (regN d (memObj p) 3) (stageFsp (dieStage d p))

def targetsUs (d : Device) (p : Nat) : List Nat := (List.range 11).map fun k => be16At (regB d (memObj p) 9) k

/-- The delay values of each set point, as bring-up trains them (R218). -/
def delayAt (k f now : Nat) : Nat := Config.delayValue k f now
def trainedDelays (k now : Nat) : Table Nat := [1, 2, 3].map fun f => (f, delayAt k f now)
def freshRank (delay rate now : Nat) : RankUnit := { RankUnit.reset with rate := rate, last := now, inUse := delay }

/-- How an interface ends bring-up; `org` is the organisation of the lowest-numbered one that trained. -/
def bringUp (d : Device) (p : Nat) (org : Option (Nat × Nat)) (m : Nat) (r : TrainResult) : Device :=
  let k := ifKey p m
  match r with
  | .notPresent => modMemIf d k fun u => { u with state := 1 }
  | .failed => modMemIf d k fun u => { u with state := 6 }
  | .trained den rk =>
    if org = some (den, rk) then
      modMemIf d k fun u =>
        { u with state := 3, density := den, ranks := rk, stored := trainedDelays k d.mono, ownStep := none, stepped := [],
                 rank0 := freshRank (delayAt k (wantFsp d p) d.mono) 1 d.mono,
                 rank1 := freshRank (delayAt k (wantFsp d p) d.mono) (if rk = 2 then 1 else 0) d.mono }
    else modMemIf d k fun u => { u with state := 6, density := den, ranks := rk }

def bringUpAll (d : Device) (p : Nat) (org : Option (Nat × Nat)) : Nat → List TrainResult → Device
  | _, [] => d
  | m, r :: l => bringUpAll (bringUp d p org m r) p org (m + 1) l

def firstOrg (l : List TrainResult) : Option (Nat × Nat) := l.findSome? fun r => match r with
  | .trained a b => some (a, b)
  | _ => none

/-- MEM_INSUFFICIENT and its reset, when fewer than three interfaces are left; `others` records what else was found on the same
edge, after it (R435). DESIGN CHOICE: notes/assumptions/211.md. -/
def memEnough (d : Device) (p : Nat) (others : Device → Device) : Device :=
  if (ifsPlacing d p).length < 3 then fatalWith d (dieNo p) 30 (memObj p) [] true others else others d

/-- What bring-up reports: MEM_IF_FAILED of interfaces that did not train, then MEM_ORG_MISMATCH (R218, R435). -/
def bringEvents (d : Device) (p : Nat) (org : Option (Nat × Nat)) (res : List TrainResult) : Device :=
  let l := res.zipIdx
  let d := forEach d l fun d e => match e.1 with
    | .failed => handled (raise d (dieNo p) 28 (ifObj p e.2)) (dieNo p) [28] (ifObj p e.2)
    | _ => d
  forEach d l fun d e => match e.1 with
    | .trained den rk => if org = some (den, rk) then d else raise d (dieNo p) 29 (ifObj p e.2)
    | _ => d

def memTrainingDoneOp (d : Device) (p : Nat) (res : List TrainResult) : Device :=
  if !pixUp d p || (memAt d p).inForce != 0 || res.length != 4 then d
  else
    let d := bringUpAll d p (firstOrg res) 0 res
    let d := modMem d p fun u => { u with inForce := wantFsp d p, latency := targetsUs d p }
    memEnough (setN d (memObj p) 2 (regN d (memObj p) 1)) p fun d => bringEvents d p (firstOrg res) res

/-! ### Refresh (R225 to R228) -/

def trefi (rate : Nat) : Nat := if rate = 1 then 3906 else 1953
def trfc (density : Nat) : Nat := if density = 32 then 380 else 280
def rankOf (u : MemIfUnit) (r : Nat) : RankUnit := if r = 0 then u.rank0 else u.rank1
def setRank (u : MemIfUnit) (r : Nat) (v : RankUnit) : MemIfUnit := if r = 0 then { u with rank0 := v } else { u with rank1 := v }

/-- MemIfRefreshDebtMax keeps the highest debt. -/
def debtSeen (d : Device) (p m debt : Nat) : Device :=
  setN d (ifObj p m) 6 (0x80 + max (regN d (ifObj p m) 6 % 16) (min debt 8))

def reqTarget (u : MemUnit) (r : MemReq) : Nat := u.latency.getD r.port 0 * 1000
/-- The urgency of a request (R224). -/
def urgency (now : Nat) (u : MemUnit) (r : MemReq) : Nat :=
  let e := now - r.since
  let t := reqTarget u r
  if t * 9 ≤ e * 10 then 3 else if t * 3 ≤ e * 4 then 2 else if t ≤ e * 2 then 1 else 0

/-- The rank of an address: the bit above the row (R221). -/
def addrRank (u : MemIfUnit) (addr : Nat) : Nat := if u.ranks = 2 then addr / 2 ^ (if u.density = 32 then 32 else 31) % 2 else 0

/-- Whether a request of urgency 1 or higher waits for the rank, with or without a credit: the one in service does not wait
(R225). -/
def urgentFor (d : Device) (p m r : Nat) : Bool :=
  let u := memAt d p
  let x := memIfAt d (ifKey p m)
  (u.active ++ u.waiting).any fun q =>
    q.mem == m && addrRank x q.addr == r && x.serving != some q.id && decide (1 ≤ urgency d.mono u q)

/-- A refresh closes the rows of its rank, and the delay values that wait for it are in use from then on (R225, R229). -/
def refreshed (u : MemIfUnit) (r : Nat) : MemIfUnit :=
  let k := rankOf u r
  { setRank u r { k with inUse := k.fresh.getD k.inUse, fresh := none } with openRows := u.openRows.filter fun e => e.1 / 16 != r }

/-- tREFI elapses: the debt rises, and is issued while nothing urgent waits for the rank; above 8 one refresh is forced. While a
switch holds the commands the debt only rises (R225, R236). DESIGN CHOICE: notes/assumptions/81.md. -/
def refreshAccrualOp (d : Device) (p m r : Nat) : Device :=
  let u := memIfAt d (ifKey p m)
  let k := rankOf u r
  if !pixUp d p || !(u.state == 3 || u.state == 4) || decide (u.ranks ≤ r) || decide (d.mono < k.last + trefi k.rate) then d
  else
    let held := (memAt d p).switching.isSome
    let idle := !held && !urgentFor d p m r
    let forced := !held && decide (8 < k.debt + 1)
    let debt := min (k.debt + 1) 8
    let x := setRank u r { k with debt := if idle then 0 else debt, last := k.last + trefi k.rate }
    setMemIf (debtSeen d p m debt) (ifKey p m) (if idle || forced then refreshed x r else x)

/-- Debts that no urgent request holds back any more are issued (R225). -/
def refreshIdle (d : Device) (p : Nat) : Device :=
  if (memAt d p).switching.isSome then d
  else forEach d ((List.range 4).flatMap fun m => [(m, 0), (m, 1)]) fun d e =>
    let u := memIfAt d (ifKey p e.1)
    let k := rankOf u e.2
    if k.debt = 0 ∨ urgentFor d p e.1 e.2 then d else setMemIf d (ifKey p e.1) (refreshed (setRank u e.2 { k with debt := 0 }) e.2)

/-- The length of a burst of `n` refreshes of `t` ns each once the accruals that fall due while it runs have joined: `next`
is the time to the next accrual at the high rate. -/
def burstLength : Nat → Nat → Nat → Nat → Nat
  | 0, n, _, _ => n
  | f + 1, n, t, next => if next < n * t then burstLength f (n + 1) t (next + 1953) else n

/-- A change of rate re-expresses the debt (R227); more than 8 is a burst (R228). -/
def crossRate (d : Device) (p m r rate : Nat) : Device :=
  let u := memIfAt d (ifKey p m)
  let k := rankOf u r
  let e := d.mono - k.last
  if rate = k.rate ∨ (2 ≤ rate ∧ 2 ≤ k.rate) then setMemIf d (ifKey p m) (setRank u r { k with rate := rate })
  else if rate = 1 then
    debtSeen (setMemIf d (ifKey p m) (setRank u r { k with debt := (k.debt + 1) / 2, rate := 1, last := d.mono - e })) p m ((k.debt + 1) / 2)
  else
    let debt := 2 * k.debt + e / 1953
    let last := d.mono - e % 1953
    if debt ≤ 8 then debtSeen (setMemIf d (ifKey p m) (setRank u r { k with debt := debt, rate := rate, last := last })) p m debt
    else
      let n := burstLength 64 (debt - 8) (trfc u.density) (1953 - e % 1953)
      let d := setMemIf d (ifKey p m) { refreshed (setRank u r { k with debt := 8, rate := rate, last := last + 1953 * (n - (debt - 8)) }) r with
        burstTill := d.mono + n * trfc u.density }
      let d := modMem (debtSeen d p m 8) p fun x => { x with burstEnd := max x.burstEnd (d.mono + n * trfc u.density + 150000) }
      raiseD (bump d (ifObj p m) 7) (dieNo p) 33 (ifObj p m) [n]

/-- The rate that mode register 4 gave takes effect; while a switch runs it waits for the commands to resume (R236). -/
def rateRead (d : Device) (p m r rate : Nat) : Device :=
  if (memAt d p).switching.isSome then
    modMemIf d (ifKey p m) fun u => setRank u r { rankOf u r with crossing := some rate }
  else crossRate d p m r rate

/-- MEM_OVERTEMP of an interface lasts while a rank asks for more than the high rate (R226, R434). -/
def overtempEnd (d : Device) (p m : Nat) : Device :=
  let u := memIfAt d (ifKey p m)
  if (List.range 2).any fun r => (rankOf u r).crossing.getD (rankOf u r).rate == 3 then d else handled d (dieNo p) [32] (ifObj p m)

/-- DEDUCED: notes/assumptions/82.md. -/
def mr4PollOp (d : Device) (p m r : Nat) (rate : Mr4Rate) : Device :=
  let u := memIfAt d (ifKey p m)
  if !pixUp d p || !(u.state == 3 || u.state == 4) || decide (u.ranks ≤ r) then d
  else match rate with
    | .oneOrSlower => overtempEnd (rateRead d p m r 1) p m
    | .two => overtempEnd (rateRead d p m r 2) p m
    | .faster => raiseLimited (rateRead d p m r 3) (dieNo p) 32 (ifObj p m) (4 * m + r) [] 1000000000 none

/-! ### Credits, service and drain mode (R211, R213, R214, R221 to R224) -/

def sharedPool : Nat := 320
def sharedUsed (u : MemUnit) : Nat := (u.active.filter (·.shared)).length
def sharedFree (u : MemUnit) : Nat := sharedPool - sharedUsed u
def reserveOf (mq : Nat) : Nat := creditReserve.getD mq 0

/-- The drain class of a queue, in the drain order: MQ5 to MQ7 are all of class Control (R211, R213). -/
def drainClass (mq : Nat) : Nat := min mq 5
def classReserve (c : Nat) : Nat := if c < 5 then reserveOf c else reserveOf 5 + reserveOf 6 + reserveOf 7
def classUsed (u : MemUnit) (c : Nat) : Nat := (u.active.filter fun r => drainClass r.mq == c && !r.shared).length
def classShared (u : MemUnit) (c : Nat) : Nat := (u.active.filter fun r => drainClass r.mq == c && r.shared).length

/-- The share of its class's reserve that a request may use: 64 credits of its head or of its pipeline, else the whole (R211). DEDUCED: notes/assumptions/196.md. -/
def shareSize (mq : Nat) : Nat := if mq = 0 ∨ mq = 2 then 64 else classReserve (drainClass mq)
def shareUsed (u : MemUnit) (mq port : Nat) : Nat :=
  if mq = 0 ∨ mq = 2 then (u.active.filter fun r => r.mq == mq && r.port == port && !r.shared).length else classUsed u (drainClass mq)

/-- The queue of a port (R223). -/
def portQueue (port mq : Nat) : Bool :=
  if port < 4 then mq == 0 else if port < 6 then mq == 2 else if port = 6 then mq == 4 else if port = 7 then mq == 3
  else if port = 8 then mq == 1 else if port = 9 then mq == 5 || mq == 7 else mq == 6

/-- A request takes a credit of its reserve, or a shared one when the reserve is in use and its class holds fewer than 160. -/
def takeCredit (u : MemUnit) (r : MemReq) : Option MemReq :=
  if shareUsed u r.mq r.port < shareSize r.mq then some { r with shared := false }
  else if 0 < sharedFree u ∧ classShared u (drainClass r.mq) < 160 then some { r with shared := true } else none

/-- Bank, row and column of an address by the order in force (R221). -/
def addrBank (order addr : Nat) : Nat :=
  if order = 2 then getField addr 8 4 else if order = 1 then getField addr 12 4 else getField addr 12 4 ^^^ getField addr 16 4
def addrRow (u : MemIfUnit) (addr : Nat) : Nat := getField addr 16 (if u.density = 32 then 16 else 15)
def addrColumn (order addr : Nat) : Nat := if order = 2 then 4 * getField addr 12 4 + getField addr 6 2 else getField addr 6 6

/-- The bank of a rank that a request goes to, and whether its row is open there. -/
def bankKey (d : Device) (p : Nat) (x : MemIfUnit) (r : MemReq) : Nat := 16 * addrRank x r.addr + addrBank (regN d (memObj p) 2) r.addr
def rowHit (d : Device) (p : Nat) (x : MemIfUnit) (r : MemReq) : Bool := tfind x.openRows (bankKey d p x r) == some (addrRow x r.addr)

/-- Whether list `a` comes before list `b` in the dictionary's order. -/
def comesBefore : List Nat → List Nat → Bool
  | a :: l, b :: m => decide (a < b) || (a == b && comesBefore l m)
  | _, _ => false

/-- The criteria of R222 after the first, lower served first: urgency, row hit, class, age; in drain mode the class leads. -/
def serveKey (d : Device) (p : Nat) (r : MemReq) : List Nat :=
  let u := memAt d p
  let x := memIfAt d (ifKey p r.mem)
  let urg := 3 - urgency d.mono u r
  let miss := (!rowHit d p x r).toNat
  if u.draining.isSome then [drainClass r.mq, urg, miss, r.id] else [urg, miss, drainClass r.mq, r.id]

/-- The first of a list of requests by a key. -/
def firstBy (key : MemReq → List Nat) : List MemReq → Option MemReq
  | [] => none
  | r :: l => match firstBy key l with
    | none => some r
    | some b => if comesBefore (key b) (key r) then some b else some r

/-- An interface that works on nothing takes its next request, whose row is then open (R222). A refresh burst comes before every
request (R228), and a switch holds new commands (R233). -/
def serveIf (d : Device) (p m : Nat) : Device :=
  let x := memIfAt d (ifKey p m)
  if x.serving.isSome ∨ d.mono < x.burstTill ∨ (memAt d p).switching.isSome then d
  else match firstBy (serveKey d p) ((memAt d p).active.filter fun r => r.mem == m) with
    | none => d
    | some r => setMemIf d (ifKey p m) { x with serving := some r.id, openRows := tput x.openRows (bankKey d p x r) (addrRow x r.addr) }
def serveAll (d : Device) (p : Nat) : Device := forEach d (List.range 4) fun d m => serveIf d p m

/-- The order in which waiting requests take credits: within a class by urgency, then by the end of their latency target; between
classes the drain order leads in drain mode, else urgency (R211, R213). -/
def creditKey (now : Nat) (u : MemUnit) (r : MemReq) : List Nat :=
  let urg := 3 - urgency now u r
  let due := r.since + reqTarget u r
  if u.draining.isSome then [drainClass r.mq, urg, due, r.id] else [urg, drainClass r.mq, due, r.id]
def insertBy (key : MemReq → List Nat) (r : MemReq) : List MemReq → List MemReq
  | [] => [r]
  | b :: l => if comesBefore (key b) (key r) then b :: insertBy key r l else r :: b :: l
def sortBy (key : MemReq → List Nat) (l : List MemReq) : List MemReq := l.foldr (insertBy key) []

/-- Waiting requests take what credits are free, in order. -/
def serveWaiting (u : MemUnit) : List MemReq → MemUnit
  | [] => u
  | r :: l =>
    match takeCredit u r with
    | some c => serveWaiting { u with active := u.active ++ [c], waiting := u.waiting.filter fun x => x.id != r.id } l
    | none => serveWaiting u l

def memQueueMark (d : Device) (p mq : Nat) : Device :=
  let u := memAt d p
  let n := ((u.active ++ u.waiting).filter fun r => r.mq == mq).length
  modQueue d p fun q => fillMark { q with fill := tset 0 q.fill (44 + mq) n } (44 + mq) (min n (reserveOf mq)) (reserveOf mq)

/-- Drain mode begins when no shared credit is free and a request waits whose class has used its whole reserve (R213). -/
def drainBegins (u : MemUnit) : Bool :=
  u.draining.isNone && sharedFree u == 0 && u.waiting.any fun w => decide (classReserve (drainClass w.mq) ≤ classUsed u (drainClass w.mq))

/-- MEM_REQUEST_ENQUEUE. A request to an interface that has failed completes at once, with zeros (R238). -/
def memRequestOp (d : Device) (p port mq m addr : Nat) : Device :=
  let u := memAt d p
  if !pixUp d p || !portQueue port mq || u.inForce == 0 || !([3, 4].contains (memIfAt d (ifKey p m)).state) then d
  else
    let r : MemReq := { id := u.nextReq, port := port, mq := mq, mem := m, addr := addr, since := d.mono, shared := false, late := false }
    let u := { u with nextReq := u.nextReq + 1 }
    let u := match takeCredit u r with
      | some c => { u with active := u.active ++ [c] }
      | none => { u with waiting := u.waiting ++ [r] }
    let begins := drainBegins u
    let d := memQueueMark (serveIf (setMem d p (if begins then { u with draining := some d.mono } else u)) p m) p mq
    if begins then bump d (pobj 0x3030 p) 3 else d

def drainLeave (d : Device) (p since : Nat) : Device :=
  let n := d.mono - since
  let o := pobj 0x3030 p
  let d := modMem d p fun x => { x with draining := none }
  let d := setN d o 4 (2 ^ 31 + min (max (regN d o 4 % 2 ^ 31) n) (2 ^ 31 - 1))
  if 10000 < n then raise d (dieNo p) 27 o else d

/-- Credits have returned: waiting requests take them, idle interfaces and ranks go on, and drain mode ends when 80 shared
credits are free. -/
def creditsBack (d : Device) (p : Nat) : Device :=
  let u := memAt d p
  let d := refreshIdle (serveAll (setMem d p (serveWaiting u (sortBy (creditKey d.mono u) u.waiting))) p) p
  match (memAt d p).draining with
  | some t => if 80 ≤ sharedFree (memAt d p) then drainLeave d p t else d
  | none => d

/-- The request that an interface works on completes: its credit returns and the interface takes its next request. An interface
whose burst has ended works on again. A request that no interface works on cannot complete. DEDUCED: notes/assumptions/84.md. -/
def completeReq (d : Device) (p id : Nat) : Device :=
  match (memAt d p).active.find? fun r => r.id == id with
  | none => d
  | some r =>
    let d := serveIf d p r.mem
    if (memIfAt d (ifKey p r.mem)).serving = some id then
      let d := modMem d p fun u => { u with active := u.active.filter fun r => r.id != id }
      serveIf (modMemIf d (ifKey p r.mem) fun u => { u with serving := none }) p r.mem
    else d

/-- Requests complete, in the order given. -/
def drainEndOp (d : Device) (p : Nat) (returned : List Nat) : Device :=
  if !pixUp d p then d else creditsBack (forEach d returned fun d id => completeReq d p id) p

/-! ### Retirement (R237 to R239) -/

/-- Every slot in use on die p that lies on interface m: header, payload, record and descriptor slots, by number and kind (R219).
A descriptor is numbered by its queue and its place there. -/
def slotsOn (d : Device) (p m : Nat) : List (Nat × Nat) :=
  let l := slotsOf d p
  let heads := (l.filter fun (s : Slot) => s.hif == m).map fun (s : Slot) => (s.num, 0)
  let loads := (l.filter fun (s : Slot) => s.pif == m).map fun (s : Slot) => (s.num, 1)
  let recs := ((framesOf d p).filter fun (f : Frame) => f.recIf == m).map fun (f : Frame) => (f.recNum, 2)
  let descs := (List.range 16 ++ [36, 37, 38, 39, 52]).flatMap fun q =>
    ((descsOf d p q).zipIdx.filter fun (e : Nat × Nat) => e.1 == m).map fun (e : Nat × Nat) => (65536 * q + e.2, 3)
  (heads ++ loads ++ recs).eraseDups ++ descs

/-- R237's first test: fewer than three interfaces would be left, with those that retire already gone. -/
def lastInterfaces (d : Device) (p m : Nat) : Bool :=
  decide (((ifsPlacing d p).filter fun k => k != m && !(memIfAt d (ifKey p k)).retiring).length < 3)

/-- DEDUCED: notes/assumptions/89.md. -/
def retireBegin (d : Device) (p m : Nat) : Device := modMemIf d (ifKey p m) fun u => { u with retiring := true }

/-- Step 1 at a close: no page is placed on the interface any more. -/
def migrateStart (d : Device) (p m : Nat) : Device :=
  let u := memIfAt d (ifKey p m)
  if u.retiring ∧ u.state = 3 then
    modMemIf d (ifKey p m) fun u =>
      { u with state := 4, retiring := false, since := some d.mono, migTick := (pixAt d p).closes, slotsAt := (slotsOn d p m).length }
  else d

/-- The copies of slots that lie on interface m, each on pages of the interfaces `ms` while their `room` bytes last: by slot
number, the interfaces of header and payload. -/
def copyPlan (ms : List Nat) (m : Nat) (fmt : Slot → Nat) : List Slot → MemUnit → Nat → MemUnit × Table (Nat × Nat)
  | [], u, _ => (u, [])
  | s :: r, u, room =>
    let need := (if s.hif = m then 16 else 0) + (if s.pif = m then s.payload.length else 0)
    if need = 0 ∨ room < need then copyPlan ms m fmt r u room
    else
      let a := if s.hif = m then placeSlot ms 0 u else (u, s.hif)
      let b := if s.pif = m then placeSlot ms (3 + fmt s) a.1 else (a.1, s.pif)
      let c := copyPlan ms m fmt r b.1 (room - need)
      (c.1, tput c.2 s.num (a.2, b.2))

/-- The same of records, by record number. -/
def recordPlan (ms : List Nat) : List Nat → MemUnit → MemUnit × Table Nat
  | [], u => (u, [])
  | n :: r, u =>
    let a := placeSlot ms 1 u
    let c := recordPlan ms r a.1
    (c.1, tput c.2 n a.2)

/-- A slot as its copy: unchanged, but for what a failed interface no longer gives. -/
def moveSlot (d : Device) (p : Nat) (plan : Table (Nat × Nat)) (s : Slot) : Slot :=
  match tfind plan s.num with
  | some (h, y) => let r := readSlot d p s; { s with hdr := r.1, payload := r.2, hif := h, pif := y }
  | none => s

/-- A frame record as a failed interface delivers it: zeros. -/
def zeroRecord (f : Frame) : Frame :=
  { f with seq := 0, capture := 0, signature := 0, declUnc := 0, origin := false, expired := false, published := 0, base := 0 }

def moveFrame (d : Device) (p m : Nat) (plan : Table (Nat × Nat)) (recs : Table Nat) (f : Frame) : Frame :=
  let f := { f with tiles := tmap (fun _ s => moveSlot d p plan s) f.tiles }
  if f.recIf = m then { (if (memIfAt d (ifKey p m)).state = 6 then zeroRecord f else f) with recIf := tget recs f.recNum f.recIf } else f

/-- Bytes of header and payload in use on die p off interface m. -/
def bytesOff (d : Device) (p m : Nat) : Nat :=
  (slotNums d p).foldl (fun a n => match (slotsOf d p).find? fun s => s.num == n with
    | some s => a + (if s.hif = m then 0 else 16) + (if s.pif = m then 0 else s.payload.length)
    | none => a) 0

/-- What is still in use on interface m, and is not a scan's alone, is copied to pages of the other interfaces as far as they have
room; frames selected later read the copies (R237). -/
def copyOff (d : Device) (p m : Nat) : Device := match ifsPlacing d p with
  | [] => d
  | ms =>
    let room := dieCapacity d p * 2 ^ 20 - (bytesOff d p m + 256 * 2 ^ 20)
    let frames := (d.srcs.filter fun e => e.1 % 6 == p).flatMap fun e => e.2.frame.toList ++ e.2.prior.toList
    let frames := frames ++ (wbAt d p).held.toList
    let opens := (d.srcs.filter fun e => e.1 % 6 == p).flatMap fun e => openTiles e.2 ++ e.2.held
    let slots := (frames.flatMap (·.tiles) ++ opens).map (·.2)
    let once := (slots.map (·.num)).eraseDups.filterMap fun n => slots.find? fun s => s.num == n
    let plan := copyPlan ms m (fun s => regN d (0x5000 + hdrSource s.hdr) 4) once (memAt d p) room
    let recs := recordPlan ms ((frames.filter fun f => f.recIf == m).map (·.recNum)).eraseDups plan.1
    let f := moveFrame d p m plan.2 recs.2
    let srcs := tmap (fun k (x : SrcUnit) => if k % 6 = p then
        { x with frame := x.frame.map f, prior := x.prior.map f,
                 opn := x.opn.map fun o => { o with got := tmap (fun _ s => moveSlot d p plan.2 s) o.got },
                 held := tmap (fun _ s => moveSlot d p plan.2 s) x.held } else x) d.srcs
    let e := setMem (modWb { d with srcs := srcs } p fun w => { w with held := w.held.map f }) p recs.1
    forEach e (List.range 16 ++ [36, 37, 38, 39, 52]) fun d q => forEach d (List.range (descsOf d p q).length) fun d i =>
      if (descsOf d p q).getD i m = m then
        let a := placeSlot ms 2 (memAt d p)
        modQueue (setMem d p a.1) p fun u => { u with descs := tset [] u.descs q ((descsOf d p q).set i a.2) }
      else d

/-- Step 2, two ticks after the close, with shared credits that no request waits for. DESIGN CHOICE: notes/assumptions/83.md. -/
def migrateCopy (d : Device) (p m : Nat) : Device :=
  let u := memIfAt d (ifKey p m)
  if u.state = 4 ∧ u.migTick + 2 ≤ (pixAt d p).closes ∧ (memAt d p).waiting = [] ∧ 0 < sharedFree (memAt d p) then copyOff d p m else d

/-- The retirement steps of a close. -/
def migrateTick (d : Device) (p : Nat) : Device :=
  forEach d (List.range 4) fun d m => migrateCopy (migrateStart d p m) p m

def migrationCompleteOp (d : Device) (p m : Nat) : Device :=
  let u := memIfAt d (ifKey p m)
  if pixUp d p ∧ (u.state = 4 ∨ (u.state = 6 ∧ u.since.isSome)) ∧ slotsOn d p m = [] then
    let d := modMemIf d (ifKey p m) fun u => { u with state := 5, since := none, step := none }
    raise (handled d (dieNo p) [28, 35] (ifObj p m)) (dieNo p) 37 (ifObj p m)
  else d

/-- Forced retirement: requests on the interface complete at once, with zeros, and what lies on it is copied as it then reads. -/
def forceRetire (d : Device) (p m : Nat) : Device :=
  let d := modMemIf d (ifKey p m) fun u =>
    { u with state := 6, retiring := false, since := some d.mono, migTick := (pixAt d p).closes, slotsAt := max u.slotsAt (slotsOn d p m).length,
             step := none, serving := none }
  let d := modMem d p fun x =>
    { x with retireEnd := d.mono + 150000, active := x.active.filter fun r => r.mem != m, waiting := x.waiting.filter fun r => r.mem != m }
  let d := copyOff (creditsBack d p) p m
  memEnough d p fun d => admissionCheck (raise d (dieNo p) 28 (ifObj p m)) p

def retireDeadlineOp (d : Device) (p m : Nat) : Device :=
  let u := memIfAt d (ifKey p m)
  match u.since with
  | none => d
  | some t => if pixUp d p ∧ u.state = 4 ∧ t + 10000000000 ≤ d.mono ∧ slotsOn d p m ≠ [] then forceRetire d p m else d

def memIfTimeoutOp (d : Device) (p m : Nat) : Device :=
  let u := memIfAt d (ifKey p m)
  if pixUp d p ∧ (u.state = 3 ∨ u.state = 4) then forceRetire d p m else d

/-! ### Set points (R231 to R236) -/

/-- The limit or the stage has changed: a switch is requested, replaces a pending one, or is no longer needed. -/
def fspRequest (d : Device) (p : Nat) : Device :=
  let x := memAt d p
  let want := wantFsp d p
  let at_ := x.switching.getD x.inForce
  if x.inForce = 0 ∨ x.pending = some want then d
  else modMem d p fun x => { x with pending := if want = at_ then none else some want, asked := d.mono, scheduled := false, armed := false }

/-- R231's check on a write of MemFspLimit: whether declared traffic would exceed the limit. -/
def fspLimitBars (d : Device) (p v : Nat) : Bool := decide (limitAt d p (max v (stageFsp (dieStage d p))) < declared d p)

/-- Whether a head shows a full-screen GREY: in its frame on screen, in blanking the one latched next (R52, R232). -/
def showsGrey (d : Device) (h : Nat) : Bool := match (scanAt d h).cur, (scanAt d h).ready with
  | some S, _ => S.grey != .none
  | none, some S => S.grey != .none
  | none, none => greyOf d (dieOfHead h) h != .none

/-- The heads whose rasters a switch waits for (R232). -/
def fetchingHeads (d : Device) (p : Nat) : List Nat :=
  ((List.range 4).map (4 * p + ·)).filter fun h => headOn d h && (headAt d h).running && !showsGrey d h

/-- The next launch of line 0 of a head, TB1, as its raster runs: a period after the last, later by what its front porch is
lengthened to meet a target that has moved (R183, R232). A raster yet to start launches at its target. DEDUCED: notes/assumptions/199.md. -/
def nextLaunch (d : Device) (h : Nat) : Nat :=
  let q := pixAt d (dieOfHead h)
  let u := headAt d h
  let P := tickPeriod d
  let target := q.tickAt + frcN d (0x4800 + h) 0x0E * 1000
  if u.curTick = 0 then (if q.tb1.ns ≤ target then target else target + P)
  else
    let due := u.launchAt + P
    let late := ((Int.ofNat target - Int.ofNat due) % Int.ofNat P).toNat
    if P < late + 5000 then due else due + late

/-- Whether a switch may start now (R232): neither within 40 µs after a snapshot nor with one due within 40 µs (R236). -/
def qualifies (d : Device) (p : Nat) : Bool :=
  let q := pixAt d p
  let close := q.aimAt - regN d 0x2110 4 * 1000
  let quiet := decide (q.closes = 0 ∨ ((q.tb1.ns < close ∨ close + 40000 ≤ q.tb1.ns) ∧
    (q.tb1.ns + 40000 < close + tickPeriod d ∨ close + tickPeriod d < q.tb1.ns)))
  quiet && (fetchingHeads d p).all fun h => (scanAt d h).cur.isNone && decide (q.tb1.ns + 20000 ≤ nextLaunch d h)

/-- The vertical blanking of a head by its configured phase: its opening as an offset from the tick, and its length (R180). -/
def blanking (d : Device) (h : Nat) : Nat × Nat :=
  let v := headForce d h
  let P := tickPeriod d
  let active := linesNs d v (vActive v)
  ((hv v 0x0E * 1000 + active) % P, P - active)

/-- The opening of the best configured interval, as an offset from the tick: the most fetching heads in blanking together, then
the longest, then the earliest (R235). -/
def bestOpening (d : Device) (p : Nat) : Nat :=
  let P := tickPeriod d
  let l := (fetchingHeads d p).map (blanking d)
  let into (t : Nat) (e : Nat × Nat) : Nat := (t + P - e.1) % P
  let rate (t : Nat) : List Nat :=
    let on := l.filter fun e => decide (into t e < e.2)
    [l.length - on.length, P - (on.map fun e => e.2 - into t e).foldl min P, t]
  (l.map (·.1)).foldl (fun a t => if comesBefore (rate t) (rate a) then t else a) ((l.map (·.1)).headD 0)

/-- Every rank is refreshed before the set point changes: no debt is left and every row is closed (R233). -/
def refreshAll (u : MemIfUnit) : MemIfUnit :=
  let clear (u : MemIfUnit) (r : Nat) : MemIfUnit := refreshed (setRank u r { rankOf u r with debt := 0 }) r
  { clear (clear u 0) 1 with openRows := [] }

/-- A switch starts (R233). -/
def fspBegin (d : Device) (p f : Nat) : Device :=
  let d := { d with ifs := tmap (fun k u => if k / 4 = p then refreshAll u else u) d.ifs }
  modMem d p fun x => { x with pending := none, switching := some f, armed := false, scheduled := false, lateRun := x.scheduled,
                               switchEnd := if x.scheduled then d.mono + 1000000000 else x.switchEnd }

/-- Whether the moment for a pending switch has come: it was kept while something ran, or its interval opens, or it qualifies
now. -/
def fspMoment (d : Device) (p : Nat) : Bool :=
  let x := memAt d p
  x.armed || (if x.scheduled then decide (x.startAt ≤ (pixAt d p).tb1.ns) else qualifies d p)

/-- The moment of a switch: it starts, or is kept until the training step or the burst that runs has ended (R234, R236). DEDUCED: notes/assumptions/88.md. -/
def fspStartOp (d : Device) (p : Nat) : Device :=
  let x := memAt d p
  let stepping := (List.range 4).any fun j => (memIfAt d (ifKey p j)).step.isSome
  let bursting := decide (d.mono + 150000 < x.burstEnd)
  match x.pending with
  | none => d
  | some f =>
    if !pixUp d p || x.switching.isSome || !fspMoment d p then d
    else if stepping || bursting then modMem d p fun x => { x with armed := true }
    else fspBegin d p f

/-- A rank resumes at the new set point: with that set point's delay values and the crossing read meanwhile (R233, R236). -/
def rankResumes (d : Device) (p m r : Nat) : Device :=
  let u := memIfAt d (ifKey p m)
  let k := rankOf u r
  let f := (memAt d p).inForce
  let d := setMemIf d (ifKey p m) (setRank u r { k with crossing := none, fresh := none, inUse := tget u.stored f k.inUse })
  match k.crossing with
  | some rate => crossRate d p m r rate
  | none => d

def fspDoneOp (d : Device) (p : Nat) : Device :=
  let x := memAt d p
  match x.switching with
  | none => d
  | some f =>
    if !pixUp d p then d
    else
      let d := modMem d p fun x => { x with inForce := f, switching := none, lateRun := false,
                                            switchEnd := if x.lateRun then d.mono + 150000 else x.switchEnd }
      let d := modClock d (dieNo p) fun c => { c with relockAt := d.mono }
      let d := forEach d (List.range 4) fun d m => rankResumes (rankResumes d p m 0) p m 1
      admissionCheck (bump (refreshIdle (serveAll d p) p) (memObj p) 5) p

/-- A whole tick period without a qualifying moment: the switch is set for the next opening of the best configured interval
(R235). -/
def fspNoWindowOp (d : Device) (p : Nat) : Device :=
  let x := memAt d p
  let q := pixAt d p
  let wait := ((Int.ofNat (q.tickAt + bestOpening d p) - Int.ofNat q.tb1.ns) % Int.ofNat (tickPeriod d)).toNat
  if pixUp d p ∧ x.pending.isSome ∧ !x.scheduled ∧ !x.armed ∧ x.switching.isNone ∧ x.asked + tickPeriod d ≤ d.mono then
    raise (bump (modMem d p fun x => { x with scheduled := true, startAt := q.tb1.ns + wait }) (memObj p) 6) (dieNo p) 36 (memObj p)
  else d

/-! ### Periodic training (R229, R230) -/

/-- Whether the step for set point `f` of an interface is due: every 10 ms one for each set point, the one in force first. DEDUCED: notes/assumptions/198.md. -/
def stepDue (d : Device) (p m f : Nat) : Bool :=
  let u := memIfAt d (ifKey p m)
  if f = (memAt d p).inForce then
    match u.ownStep with
    | none => true
    | some t => decide (t + 10000000 ≤ d.mono)
  else !u.stepped.contains f && match u.ownStep with
    | none => false
    | some t => decide (d.mono < t + 10000000)

/-- A step for set point `fsp` starts: none runs on the die and no switch is pending. -/
def trainingStepOp (d : Device) (p m fsp : Nat) : Device :=
  let u := memIfAt d (ifKey p m)
  let busy := (List.range 4).any fun j => (memIfAt d (ifKey p j)).step.isSome
  let x := memAt d p
  let f := fsp + 1
  if !pixUp d p || !(u.state == 3 || u.state == 4) || busy || x.pending.isSome || x.switching.isSome || !stepDue d p m f then d
  else if f = x.inForce then modMemIf d (ifKey p m) fun u => { u with step := some f, ownStep := some d.mono, stepped := [] }
  else modMemIf d (ifKey p m) fun u => { u with step := some f, stepped := u.stepped ++ [f] }

/-- Three failed steps in a row for the set point in force (R230). -/
def interfaceFailing (d : Device) (p m : Nat) : Device :=
  if regT d (memObj p) 0x0B ∧ !lastInterfaces d p m then retireBegin d p m else raise d (dieNo p) 35 (ifObj p m)

/-- The values of a step that passed: those of the set point in force wait for the next refresh of each rank, and are discarded
when a switch starts at the step's end (R229, R234). -/
def keepDelays (d : Device) (p m f : Nat) : Device :=
  let x := memAt d p
  let v := delayAt (ifKey p m) f d.mono
  if f ≠ x.inForce then modMemIf d (ifKey p m) fun u => { u with stored := tput u.stored f v }
  else if x.armed then d
  else modMemIf d (ifKey p m) fun u =>
    { u with stored := tput u.stored f v, rank0 := { u.rank0 with fresh := some v }, rank1 := { u.rank1 with fresh := some v } }

/-- A switch whose moment came during the step starts at its end (R234). -/
def armedStart (d : Device) (p : Nat) : Device := match (memAt d p).pending with
  | some f => if (memAt d p).armed ∧ (memAt d p).switching.isNone ∧ (memAt d p).burstEnd ≤ d.mono + 150000 then fspBegin d p f else d
  | none => d

def trainingStepEndOp (d : Device) (p m : Nat) (res : StepResult) : Device :=
  let u := memIfAt d (ifKey p m)
  match u.step with
  | none => d
  | some f =>
    let own := decide (f = (memAt d p).inForce)
    let code := match res with
      | .pass => 1
      | .outOfRange => 2
      | .noResponse => 3
    let d := setN d (ifObj p m) 9 code
    let d := modMemIf d (ifKey p m) fun u => { u with step := none, failRun := if own then (if code = 1 then 0 else u.failRun + 1) else u.failRun }
    let d := if code = 1 then keepDelays d p m f
      else
        let d := bump d (ifObj p m) 8
        let d := if own ∧ 3 ≤ (memIfAt d (ifKey p m)).failRun ∧ u.state = 3 ∧ !u.retiring ∧ u.failRun < 3 then interfaceFailing d p m else d
        raise d (dieNo p) 34 (ifObj p m)
    armedStart d p

/-! ### Late requests (R224) -/

def requestLateOp (d : Device) (p id : Nat) : Device :=
  let u := memAt d p
  match (u.active ++ u.waiting).find? fun r => r.id == id with
  | none => d
  | some r =>
    if !pixUp d p || r.late || decide (d.mono < r.since + reqTarget u r) then d
    else
      let f (x : MemReq) : MemReq := if x.id = id then { x with late := true } else x
      bump (modMem d p fun u => { u with active := u.active.map f, waiting := u.waiting.map f }) (memObj p) 0x0A

/-! ### Descriptors (R209). Die k is 0 and 1 for CA and CB, then P0 to P5. -/

def descGood (b : List Byte) : Bool := b.length == 32 && bigEndian (b.drop 28) == crc32c (b.take 28)

/-- Where the queues of die k are held (R207, R208), and how many it has. -/
def queueKey (k : Nat) : Nat := if k < 2 then 6 + k else k - 2
def queueCount (k : Nat) : Nat := if k < 2 then 32 else 64

/-- One of a list, open which: the descriptor that named it is lost. DESIGN CHOICE: notes/assumptions/85.md. -/
def pickOpen (d : Device) (l : List Nat) : Option Nat := match l with
  | [] => none
  | _ => l[freshVal d % l.length]?

/-- The open frame of one of the sources `l`, open which, cannot complete. -/
def spoilOpen (d : Device) (l : List Nat) : Device := match pickOpen d l with
  | none => d
  | some s => unitLost (spend d) (srcOwner d s) s [] tdel

/-- Unit i on its way in ingress queue q of die p is discarded whole; its credit returns. -/
def dropFlight (d : Device) (p q i : Nat) : Device := match (tget (queueAt d p).flight q [])[i]? with
  | none => d
  | some e =>
    modQueue (unitLost d p e.1 e.2 tdel) p fun u =>
      let n := tget u.credits q 0 - 1
      { u with credits := tset 0 u.credits q n, fill := tset 0 u.fill q (min n (tget u.fill q 0)),
               flight := tset [] u.flight q ((tget u.flight q []).eraseIdx i) }

/-- The frame a pipeline is processing cannot complete. -/
def pipelineLoss (d : Device) (j : Nat) : Device := match (pipeAt d j).service with
  | none => d
  | some (i, start, _) =>
    forEach (dropJob d i start) (camStreams d i) fun d k =>
      if srcEnabled d (streamSource d i k) then srcBump d (streamSource d i k) 6 1 else d

/-- The strip that scan fetch of head h asks for next is not fetched: its tiles are missing from that frame. -/
def scanLoss (d : Device) (p h : Nat) : Device :=
  match [0, 1, 2].findSome? fun w => (nextFetch d p h w).map fun e => (w, e) with
  | none => d
  | some (w, n, t) => match scanPick (scanAt d h) w with
    | none => d
    | some S => modScan d h fun x => scanPut x w (onLayer S n fun L => match L.frame with
      | none => L
      | some f => { L with dropped := L.dropped ++ L.wanted.filter fun u => outstanding L u && tileStrip S L f u == tileStrip S L f t })

/-- The frame that writeback captures is abandoned. -/
def writebackLoss (d : Device) (p : Nat) : Device :=
  if wbOn d p ∧ !(wbAt d p).spoiled then bump (modWb d p fun w => { w with spoiled := true }) (pobj 0x3060 p) 0x0A else d

/-- The item at the front of a Spur queue is lost: a tile is owed to its die. -/
def spurLoss (d : Device) (p q : Nat) : Device :=
  let k := q % 4
  let u := if q < 40 then p else spurFrom p k
  match spurOutOf d u k with
  | [] => d
  | i :: r =>
    let d := modQueue d u fun x => { x with spurOut := tset [] x.spurOut k r }
    match i with
    | .tile s dest idx _ => owe d s dest [idx]
    | _ => d

/-- The oldest request of a memory class queue is discarded: what its class loses with it. -/
def requestLoss (d : Device) (p mq : Nat) : Device := match (memAt d p).active.find? fun r => r.mq == mq with
  | none => d
  | some r =>
    let d := modMem d p fun u => { u with active := u.active.filter fun x => x.id != r.id }
    let d := modMemIf d (ifKey p r.mem) fun x => if x.serving = some r.id then { x with serving := none } else x
    let d := memQueueMark (creditsBack d p) p mq
    if mq = 0 then scanLoss d p (4 * p + r.port % 4)
    else if mq = 1 then writebackLoss d p
    else if mq = 2 then pipelineLoss d (2 * p + (r.port - 4) % 2)
    else if mq = 3 then (match [40, 42, 41, 43].find? fun q => spurOutOf d (spurFrom p (q - 40)) (q - 40) != [] with
      | some q => spurLoss d p q
      | none => d)
    else spoilOpen d ((namedSources d).filter fun s => srcOwner d s == p && (srcUnit d s p).opn.isSome)

/-- The destination of the control messages in queue q of die k. -/
def ctlDest (k q : Nat) : Option Nat :=
  if k < 2 then (if 12 ≤ q ∧ q < 18 then some (q - 12) else none) else if q = 52 ∨ q = 53 then some (k - 2) else none

/-- A control, touch or event entry is discarded, for its sender to send again; a control message waits apart. -/
def entryHeld (d : Device) (k q : Nat) : Device :=
  let hold (d : Device) (m : Option CtlMsg) : Device :=
    modQueue d (queueKey k) fun u => { u with failed := tput u.failed q (tget u.failed q [] ++ [(d.mono, m)]) }
  match ctlDest k q with
  | none => hold d none
  | some p => match (queueAt d p).ctl with
    | [] => hold d none
    | m :: r => hold (modQueue d p fun u => { u with ctl := r }) (some m)

/-- The effect of an entry that fails, on pixel die p. -/
def descLost (d : Device) (p q : Nat) : Device :=
  if q < 16 then dropFlight d p q (iqUsed d p q - 1 - tget (queueAt d p).fill q 0)
  else if q < 24 then pipelineLoss d (2 * p + (q - 16) / 4)
  else if q < 32 then scanLoss d p (4 * p + (q - 24) / 2)
  else if q < 36 then writebackLoss d p
  else if q < 44 then spurLoss d p q
  else if q < 49 then requestLoss d p (q - 44)
  else entryHeld d (p + 2) q

/-- The effect of an entry that fails on control die c: units received or forwarded are ingress, the rest is resent. -/
def descLostCtl (d : Device) (c q : Nat) : Device :=
  if q = 0 ∨ q = 2 then spoilOpen d ((namedSources d).filter fun s => srcOwner d s < 6 && (srcUnit d s (srcOwner d s)).opn.isSome)
  else if 6 ≤ q ∧ q < 12 then
    let p := q - 6
    match (List.range' (8 * c) 8).find? fun i => decide (0 < iqUsed d p i) with
    | some i => dropFlight d p i (iqUsed d p i - 1)
    | none => d
  else entryHeld d c q

/-- DESCRIPTOR_CRC, counted where the die has a queue object. -/
def descBad (d : Device) (k : Nat) : Device :=
  if k < 2 then raise d k 26 0 else raise (bump d (pobj 0x3030 (k - 2)) 2) k 26 (pobj 0x3030 (k - 2))

/-- Whether a queue whose entries the model holds has none. -/
def queueEmpty (d : Device) (k q : Nat) : Bool :=
  let p := k - 2
  if k < 2 then false
  else if q < 16 then tget (queueAt d p).fill q 0 == 0
  else if 36 ≤ q ∧ q < 40 then spurOutOf d p (q - 36) == []
  else if 40 ≤ q ∧ q < 44 then spurOutOf d (spurFrom p (q - 40)) (q - 40) == []
  else if 44 ≤ q ∧ q < 52 then !((memAt d p).active ++ (memAt d p).waiting).any fun r => r.mq == q - 44
  else if q = 52 ∨ q = 53 then (queueAt d p).ctl == []
  else false

/-- QUEUE_DEQUEUE: an entry leaves its queue, and is discarded whole when its descriptor fails. -/
def queueDequeueOp (d : Device) (k q : Nat) (desc : List Byte) : Device :=
  if !dieUp d k || decide (queueCount k ≤ q) || queueEmpty d k q then d
  else
    let d := modQueue d (queueKey k) fun u => { u with fill := tset 0 u.fill q (tget u.fill q 0 - 1) }
    if descGood desc then d
    else if k < 2 then descLostCtl (descBad d k) k q else descLost (descBad d k) (k - 2) q

/-- A second failure drops the entry: a touch sample takes its frame with it. -/
def entryDropped (d : Device) (k q : Nat) : Device :=
  if 2 ≤ k ∧ (q = 60 ∨ q = 61) then modLink d (2 * (k - 2) + (q - 60)) fun u => { u with spoiled := true } else d

/-- The one resend of a control, touch or event entry; a second failure drops it. DEDUCED: notes/assumptions/86.md. -/
def descriptorResendOp (d : Device) (k q : Nat) (desc : List Byte) : Device :=
  match tget (queueAt d (queueKey k)).failed q [] with
  | [] => d
  | (t, held) :: rest =>
    if !dieUp d k || decide (d.mono < t + 50000) then d
    else
      let d := modQueue d (queueKey k) fun u => { u with failed := tset [] u.failed q rest }
      if !descGood desc then entryDropped (descBad d k) k q
      else match ctlDest k q, held with
        | some p, some m => modQueue d p fun u => { u with ctl := u.ctl ++ [m] }
        | _, _ => d

/-! ### The meanings -/

def execMemTrainingDone (dt : Nat) (p : Die) (res : List TrainResult) (s : State) := act dt s fun d => memTrainingDoneOp d p res
def execRefreshAccrual (dt : Nat) (p : Die) (m : MemIf) (rank : Fin 2) (s : State) := act dt s fun d => refreshAccrualOp d p m rank
def execMr4Poll (dt : Nat) (p : Die) (m : MemIf) (rank : Fin 2) (rate : Mr4Rate) (s : State) := act dt s fun d => mr4PollOp d p m rank rate
def execPeriodicTrainingStep (dt : Nat) (p : Die) (m : MemIf) (fsp : Fin 3) (s : State) := act dt s fun d => trainingStepOp d p m fsp
def execTrainingStepEnd (dt : Nat) (p : Die) (m : MemIf) (res : StepResult) (s : State) := act dt s fun d => trainingStepEndOp d p m res
def execFspSwitchStart (dt : Nat) (p : Die) (s : State) := act dt s fun d => fspStartOp d p
def execFspSwitchDone (dt : Nat) (p : Die) (s : State) := act dt s fun d => fspDoneOp d p
def execFspSwitchNoWindow (dt : Nat) (p : Die) (s : State) := act dt s fun d => fspNoWindowOp d p
def execMigrationComplete (dt : Nat) (p : Die) (m : MemIf) (s : State) := act dt s fun d => migrationCompleteOp d p m
def execRetireDeadline (dt : Nat) (p : Die) (m : MemIf) (s : State) := act dt s fun d => retireDeadlineOp d p m
def execMemIfTimeout (dt : Nat) (p : Die) (m : MemIf) (s : State) := act dt s fun d => memIfTimeoutOp d p m
def execMemRequestEnqueue (dt : Nat) (p : Die) (port : Fin 11) (mq : Fin 8) (m : MemIf) (addr : Nat) (s : State) :=
  act dt s fun d => memRequestOp d p port mq m addr
def execRequestLate (dt : Nat) (p : Die) (id : Nat) (s : State) := act dt s fun d => requestLateOp d p id
def execDrainEnd (dt : Nat) (p : Die) (returned : List Nat) (s : State) := act dt s fun d => drainEndOp d p returned
def execQueueDequeue (dt : Nat) (p : AnyDie) (q : Fin 64) (desc : List Byte) (s : State) := act dt s fun d => queueDequeueOp d p q desc
def execDescriptorResend (dt : Nat) (p : AnyDie) (q : Fin 64) (desc : List Byte) (s : State) :=
  act dt s fun d => descriptorResendOp d p q desc

end Sys2Proof.Machine
end

