-- ==== Sys2Proof/Machine/Dxp.lean ====
section
/-! DEFINITION. What a DXP session sends and how it closes (R316, R319, R323, R326, R327, R334). -/

namespace Sys2Proof.Machine

/-- A 16-byte DXP header (R316). -/
def dxpHeader (k seq op sub idx len status : Nat) : List Byte :=
  beBytes 2 0xCE70 ++ beBytes 1 1 ++ beBytes 1 k ++ beBytes 4 seq ++ beBytes 1 op ++ beBytes 1 sub ++ beBytes 2 idx ++
  beBytes 2 len ++ beBytes 2 status

/-- Payload and tag as the device sends them: its key is bytes 32 to 63 of R322, its salt bytes 68 to 71. -/
def dxpSealed (keys hdr : List Byte) (seq : Nat) (payload : List Byte) : List Byte :=
  hdr ++ Config.gcmSeal ((keys.drop 32).take 32) ((keys.drop 68).take 4 ++ [0, 0, 0, 0] ++ beBytes 4 seq) hdr payload

/-- Session k closes (R327), and the audit log records it (R357). DEDUCED: notes/assumptions/156.md. -/
def closeSession (d : Device) (k reason : Nat) : Device :=
  if !sessOpen d k then d
  else
    let x := sessAt d k
    let d := auditAdd d 8 k (x.roles % 32) ((0x2030 + k) * 65536 + 0x0F00 + reason) (sha256 x.leaf)
    let d := { d with layers := tmap (fun _ (u : LayerUnit) => { u with owner := if u.owner = some k then none else u.owner }) d.layers }
    let d := setN (setN d 0x2700 (k + 1) 0) 0x2700 (k + 9) 0
    let d := setSess d k { Session.reset with state := 1 }
    raiseD (setN d (0x2030 + k) 0x0F reason) (supDie d) 53 (0x2030 + k) [reason]

/-- One message of session k leaves by a port; at 0xFFFF_FFF0 the session closes after it (R323). -/
def dxpMessage (d : Device) (k port kind op sub idx status : Nat) (payload : List Byte) : Device :=
  let x := sessAt d k
  if !sessOpen d k || (activeCtl d).isNone then d
  else
    let c := x.counter + 1
    let hdr := dxpHeader k c op sub idx payload.length status
    let d := send (modSess d k fun x => { x with counter := c }) port kind k (dxpSealed x.keys hdr c payload)
    if 0xFFFFFFF0 ≤ c then closeSession d k 4 else d

/-- A device-originated message to session k (R326). -/
def dxpPush (d : Device) (k op : Nat) (payload : List Byte) : Device := dxpMessage d k (sessAt d k).port 2 op 0 0 0 payload

/-- A message to every open session that satisfies a condition. -/
def dxpPushAll (d : Device) (op : Nat) (payload : List Byte) (p : Device → Nat → Bool) : Device :=
  forEach d (List.range 8) fun d k => if sessOpen d k && p d k then dxpPush d k op payload else d

def touchSubscribed (d : Device) (k link : Nat) : Bool := (regN d 0x2700 (k + 9)).testBit link
def telegramSubscribed (d : Device) (k : Nat) : Bool := (regN d 0x2700 (k + 1)).testBit 13

/-- The reports of a link that no active supervisor has had are delivered, the newest `n` of its ring (R266). -/
def deliverTouches (d : Device) (link : Nat) : Device :=
  let t := trackAt d link
  if t.waiting = 0 ∨ (activeCtl d).isNone then d
  else
    let rs := t.ring.drop (t.ring.length - t.waiting)
    let d := modTrack d link fun t => { t with waiting := 0 }
    let d := dxpPushAll d 0xC2 ((rs.take 40).flatten) fun d k => touchSubscribed d k link
    if rs.length ≤ 40 then d else dxpPushAll d 0xC2 ((rs.drop 40).flatten) fun d k => touchSubscribed d k link

end Sys2Proof.Machine
end

