-- ==== Sys2Proof/Machine/Touch.lean ====
section
/-! DEFINITION. Touch links: bring-up, frames, decoding, tracking, self-test and attribution (R242 to R270). -/

namespace Sys2Proof.Machine

def touchCfg (k : Nat) : Nat := 0x5800 + k
def touchStat (k : Nat) : Nat := 0x5840 + k
def touchDie (k : Nat) : Nat := dieNo (dieOfLink k)
/-- A subindex of the configuration as the last slot took it (R268). -/
def tc (u : TouchUnit) (sub : Nat) : Nat := pickN 0x5800 u.cfg sub
def touchCfgNow (d : Device) (k : Nat) : Table Val := pickVals d.regs (touchCfg k) 1 0x14

/-! ### The link (R243 to R248) -/

/-- A command to the front-end (R243, R244): command, length, payload, CRC-16. -/
def touchSend (d : Device) (k cmd : Nat) (payload : List Byte) : Device :=
  let b := beBytes 1 cmd ++ beBytes 1 payload.length ++ payload
  send d (6 + k) 7 cmd (b ++ beBytes 2 (crc16 b))

def writeReg (d : Device) (k addr v : Nat) : Device := touchSend d k 3 (beBytes 2 addr ++ beBytes 2 v)

/-- The lowest carrier that a mask allows. DESIGN CHOICE: notes/assumptions/92.md. -/
def firstCarrier (mask : Nat) : Nat := ((List.range 8).find? mask.testBit).getD 0

/-- Bring-up starts from the top (R247). -/
def touchStart (d : Device) (k : Nat) (said : Bool) : Device :=
  let cfg := touchCfgNow d k
  modLink d k fun u =>
    { TouchUnit.reset with step := 1, since := d.mono, stepAt := d.mono, downSaid := said, lastUp := d.mono, frameNo := u.frameNo,
                           cfg := cfg, carrier := firstCarrier (pickN 0x5800 cfg 5) }

/-- DEDUCED: notes/assumptions/94.md. -/
def touchEnd (t : TrackUnit) : TrackUnit :=
  { TrackUnit.reset with ring := t.ring, seq := t.seq, waiting := t.waiting, masked := t.masked, reports := t.reports, downs := t.downs }

/-- The time within which a step of bring-up must succeed, in nanoseconds (R247). -/
def bringLimit (step : Nat) : Nat := if step = 1 then 10000000 else if step = 2 then 100000 else 1000000
/-- Whether the running step of bring-up has failed by `now` (R247). DEDUCED: notes/assumptions/200.md. -/
def bringFailed (u : TouchUnit) (now : Nat) : Bool := decide (1 ≤ u.step ∧ u.step ≤ 3 ∧ u.stepAt + bringLimit u.step < now)

/-- A link stops in `step` without a CANCEL: its touches end, and the reports that already stand in its ring stay there to be
delivered (R266, R267). -/
def touchStop (d : Device) (k step : Nat) : Device :=
  modTrack (setLink d k { TouchUnit.reset with step := step }) k fun t => { touchEnd t with reports := [] }

/-- Whether frame slots run on a link (R247, R249). -/
def slotsRun (u : TouchUnit) : Bool := decide (4 ≤ u.step ∧ u.step ≤ 10)

/-- TouchEnable is written. FALSE takes effect at the next frame slot (R268), at once where no slots run. DEDUCED: notes/assumptions/201.md. -/
def touchEnableOp (d : Device) (k : Nat) (on : Bool) : Device :=
  let u := linkAt d k
  if on then (if u.step ≠ 0 then d else if 5 ≤ dieStage d (dieOfLink k) then touchStop d k 12 else touchStart d k false)
  else if slotsRun u then modLink d k fun u => { u with off := true } else touchStop d k 0

/-- The links of a die go down at once (R267). DESIGN CHOICE: notes/assumptions/202.md. -/
def touchDieDown (d : Device) (p : Nat) : Device :=
  forEach d [2 * p, 2 * p + 1] fun d k => if (linkAt d k).step = 0 then d else touchStop d k 12

def touchDownSaid (d : Device) (k : Nat) : Device :=
  if (linkAt d k).downSaid then d else raise (modLink d k fun u => { u with downSaid := true }) (touchDie k) 38 (touchCfg k)

/-- TOUCH_LINK_DOWN of a step of bring-up that has failed, once (R247). -/
def touchFailed (d : Device) (k : Nat) : Device := if bringFailed (linkAt d k) d.mono then touchDownSaid d k else d

def touchHeard (d : Device) (k : Nat) : Device := modLink (touchFailed d k) k fun u => { u with lastUp := d.mono }
def touchStep (d : Device) (k step : Nat) : Device := modLink d k fun u => { u with step := step, stepAt := d.mono }

/-- Upstream idle is recovered: IDENTIFY follows. -/
def touchIdleOp (d : Device) (k : Nat) : Device :=
  let u := linkAt d k
  if u.step = 0 ∨ 11 ≤ u.step then d
  else
    let d := touchHeard d k
    if u.step = 1 ∧ !bringFailed u d.mono then touchSend (touchStep d k 2) k 2 [] else d

/-- A step of bring-up fails: the link is DOWN at once, and bring-up begins again every 100 ms (R247). -/
def touchRetryOp (d : Device) (k : Nat) : Device :=
  let u := linkAt d k
  let d := touchFailed d k
  if bringFailed u d.mono ∧ u.since + 100000000 ≤ d.mono then touchStart d k true else d

/-- IDENT: its maxima are recorded and held against the configuration. -/
def touchIdentOp (d : Device) (k ver rows cols part : Nat) : Device :=
  let u := linkAt d k
  if u.step = 0 ∨ 11 ≤ u.step then d
  else
    let d := touchHeard d k
    if u.step ≠ 2 ∨ bringFailed u d.mono then d
    else
      let d := setN d (touchStat k) 2 (2 ^ 63 + (ver % 256) * 2 ^ 48 + (rows % 256) * 2 ^ 40 + part % 2 ^ 32)
      let d := setN d (touchStat k) 3 (0x8000 + cols % 512)
      if ver ≠ 1 ∨ rows < tc u 2 ∨ cols < tc u 3 then touchStep d k 11
      else
        let d := touchStep d k 3
        writeReg (writeReg (writeReg (writeReg d k 1 (tc u 2)) k 2 (tc u 3)) k 3 (tc u 0x13)) k 4 (tc u 0x14)

def touchAckOp (d : Device) (k addr : Nat) : Device :=
  let u := linkAt d k
  if u.step = 0 ∨ 11 ≤ u.step then d
  else
    let d := touchHeard d k
    if u.step ≠ 3 ∨ bringFailed u d.mono ∨ addr = 0 ∨ 4 < addr then d
    else
      let l := (u.acked ++ [addr]).eraseDups
      let d := modLink d k fun u => { u with acked := l }
      if l.length = 4 then touchStep d k 4 else d

/-- A register read back from the front-end. -/
def touchRegOp (d : Device) (k addr v : Nat) : Device :=
  if (linkAt d k).step = 0 ∨ 11 ≤ (linkAt d k).step then d
  else modLink (touchHeard d k) k fun u => { u with front := tput u.front addr v }

/-! ### Reports decided (R255, R258, R265) -/

def touchFlags (d : Device) (k : Nat) (t : Touch) : Nat :=
  0x80 + (if t.persistent then 1 else 0) + (if t.degraded then 2 else 0) + (if (trackAt d k).film then 4 else 0) +
  (if (linkAt d k).charger then 8 else 0)

def reportOf (d : Device) (k event : Nat) (t : Touch) (x y sample : Nat) : Report :=
  { id := t.id, event := event, x := x, y := y, sample := sample, flags := touchFlags d k t, peak := t.peak }

def addReport (d : Device) (k : Nat) (r : Report) : Device := modTrack d k fun t => { t with reports := t.reports ++ [r] }

/-- A link is lost (R248). -/
def touchLost (d : Device) (k : Nat) : Device :=
  let d := forEach d (trackAt d k).touches fun d t => addReport d k (reportOf d k 4 t t.x t.y t.sample)
  touchStart (modTrack (touchDownSaid d k) k touchEnd) k true

def touchTimeoutOp (d : Device) (k : Nat) : Device :=
  let u := linkAt d k
  if slotsRun u ∧ u.lastUp + 20000000 ≤ d.mono then touchLost d k else d

/-- A frame counts as discarded (R249). -/
def touchDiscard (d : Device) (k : Nat) : Device :=
  let d := bump d (touchStat k) 0x0A
  let n := (linkAt d k).badRun + 1
  let d := modLink d k fun u => { u with badRun := n, scanning := 0, samples := [], spoiled := false }
  if 3 ≤ n then touchLost d k else d

def touchSpoil (d : Device) (k : Nat) : Device := modLink d k fun u => { u with spoiled := u.scanning != 0 }

/-- STATUS spoils the frame in progress. -/
def touchStatusOp (d : Device) (k : Nat) : Device :=
  if (linkAt d k).step = 0 ∨ 11 ≤ (linkAt d k).step then d else touchSpoil (touchHeard d k) k

/-- A packet discarded whole: with it the frame it belonged to. -/
def touchBadPacketOp (d : Device) (k : Nat) (inFrame : Bool) : Device :=
  if (linkAt d k).step = 0 ∨ 11 ≤ (linkAt d k).step then d
  else
    let d := bump d (touchStat k) 0x0B
    if inFrame then touchSpoil d k else d

/-! ### Frame slots (R249, R251, R252) -/

def touchGroups (u : TouchUnit) : Nat := ceilDiv (tc u 2) 16
def codeLength (u : TouchUnit) : Nat := if u.charger then 32 else 16
def touchChips (u : TouchUnit) : Nat := if u.scanning = 1 then 8 + touchGroups u * codeLength u else tc u 2

/-- The slot rate (R252). -/
def slotRate (d : Device) (k : Nat) (u : TouchUnit) : Nat :=
  let r := if 1 ≤ dieStage d (dieOfLink k) then min (tc u 4) 120 else tc u 4
  if u.charger ∧ 1000000 < (2 + (8 + touchGroups u * 32) * 16 + 500) * r then r / 2 else r

/-- What the frames before have decided for the next FRAME_START (R251). -/
def touchAdapt (d : Device) (k : Nat) : Device :=
  let u := linkAt d k
  let d := match u.hop with
    | some c => bump (modLink d k fun u => { u with carrier := c, hop := none, carrierBad := 0 }) (touchStat k) 0x0E
    | none => d
  let d := if u.enter then raise (modLink d k fun u => { u with charger := true, enter := false, noisy := 0, quiet := 0 }) (touchDie k) 40 (touchCfg k)
    else d
  if u.leave then modLink d k fun u => { u with charger := false, leave := false, noisy := 0, quiet := 0 } else d

/-- The configuration that takes effect at this slot; drive level and gain are registers of the front-end. -/
def touchTake (d : Device) (k : Nat) : Device :=
  let old := linkAt d k
  let cfg := touchCfgNow d k
  let d := modLink d k fun u => { u with cfg := cfg }
  let d := if tc (linkAt d k) 0x13 = tc old 0x13 then d else writeReg d k 3 (tc (linkAt d k) 0x13)
  if tc (linkAt d k) 0x14 = tc old 0x14 then d else writeReg d k 4 (tc (linkAt d k) 0x14)

/-- The link is RUNNING: reports are numbered from 1 again (R247, R265). -/
def touchRunning (d : Device) (k : Nat) : Device :=
  let d := modTrack (touchStep (modLink d k fun u => { u with downSaid := false }) k 10) k fun t => { t with seq := 0 }
  raise (handled d (touchDie k) [38] (touchCfg k)) (touchDie k) 39 (touchCfg k)

/-- FRAME_START of a slot. -/
def frameStart (d : Device) (k : Nat) : Device :=
  let u := linkAt d k
  let test := u.step = 4 ∨ u.selfTest = true
  let no := (u.frameNo + 1) % 65536
  let d := modLink d k fun u =>
    { u with frameNo := no, frameAt := (pixAt d (dieOfLink k)).tb1.ns, slotAt := d.mono, rate := slotRate d k u, samples := [],
             spoiled := false, selfTest := false, scanning := if test then (if u.step = 4 then 2 else 3) else 1 }
  let d := touchSend d k 0x10 (beBytes 2 no ++ beBytes 1 u.carrier ++ beBytes 1 (codeLength u) ++ beBytes 1 (touchGroups u) ++
    beBytes 1 (if test then 2 else 1))
  if test then setN d (touchStat k) 0x0F 3 else d

/-- A self-test on demand that did not complete: its slot has counted already, and it runs again. -/
def retest (d : Device) (k : Nat) : Device :=
  modLink d k fun u => { u with scanning := 0, samples := [], spoiled := false, selfTest := true }

/-- TOUCH_FRAME_SLOT: a frame that is not complete yet is discarded first, then the configuration takes effect (R268). A
self-test on demand counts its slot as a discarded frame (R259). DEDUCED: notes/assumptions/93.md. -/
def touchSlotOp (d : Device) (k : Nat) : Device :=
  let u := linkAt d k
  if !slotsRun u ∨ !pixUp d (dieOfLink k) ∨ (u.slotAt ≠ 0 ∧ d.mono < u.slotAt + 1000000000 / max 1 u.rate) then d
  else
    let d := if u.scanning = 0 then d else if u.scanning = 3 then retest d k else touchDiscard d k
    if (linkAt d k).step < 4 then d
    else if regN d (touchCfg k) 1 ≠ 1 then touchStop d k 0
    else if (linkAt d k).off then touchStart (touchStop d k 0) k false
    else
      let d := touchTake (touchAdapt d k) k
      let d := if (linkAt d k).step = 9 then touchRunning d k else d
      let d := if (linkAt d k).selfTest ∧ (linkAt d k).step ≠ 4 then
          let n := (linkAt d k).badRun + 1
          bump (modLink d k fun u => { u with badRun := n }) (touchStat k) 0x0A
        else d
      if 3 ≤ (linkAt d k).badRun then touchLost d k else frameStart d k

/-! ### Decoding (R250, R251) -/

/-- Entry (i, k) of the Sylvester Hadamard matrix: whether it is −1. -/
def hadamardNeg (i k : Nat) : Bool := ((List.range 5).filter fun b => i.testBit b && k.testBit b).length % 2 == 1

def addLists (neg : Bool) (a b : List Int) : List Int := List.zipWith (fun x y => if neg then x - y else x + y) a b

/-- Raw counts of row i of a group whose first chip is `first`. -/
def rowRaw (s : Table (List Int)) (first L cols i : Nat) : List Int :=
  ((List.range L).foldl (fun acc k => addLists (hadamardNeg i k) acc (tget s (first + k) [])) (List.replicate cols 0)).map
    fun x => (x + Int.ofNat (L / 2)) / Int.ofNat L

/-- Raw counts of every node in row order. -/
def decodeFrame (u : TouchUnit) : List Int :=
  (List.range (tc u 2)).flatMap fun r => rowRaw u.samples (8 + r / 16 * codeLength u) (codeLength u) (tc u 3) (r % 16)

def maxAbs (l : List Int) : Nat := l.foldl (fun a x => max a x.natAbs) 0
def carrierNoise (u : TouchUnit) (c : Nat) : Nat := maxAbs (tget u.samples c [])
def allowedCarriers (u : TouchUnit) : List Nat := (List.range 8).filter (tc u 5).testBit

/-- The quietest allowed carrier, the lowest on equal noise. -/
def quietest (u : TouchUnit) : Nat :=
  (allowedCarriers u).foldl (fun a c => if carrierNoise u c < carrierNoise u a then c else a) (firstCarrier (tc u 5))

/-- What the noise of a frame decides (R251). -/
def judgeNoise (u : TouchUnit) : TouchUnit :=
  let q := quietest u
  let low := carrierNoise u q
  let bad := if 2 * low < carrierNoise u u.carrier then u.carrierBad + 1 else 0
  let noisy := if tc u 0x0A < low then u.noisy + 1 else 0
  let quiet := if 2 * low < tc u 0x0A then u.quiet + 1 else 0
  { u with carrierBad := bad, hop := if 2 ≤ bad then some q else none, noisy := noisy, quiet := quiet,
           enter := !u.charger && decide (3 ≤ noisy), leave := u.charger && decide (240 ≤ quiet) }

/-! ### Candidates and tracking (R253 to R257) -/

def nodeRow (cols n : Nat) : Nat := n / max 1 cols
def nodeCol (cols n : Nat) : Nat := n % max 1 cols
def absDiff (a b : Nat) : Nat := (a - b) + (b - a)
/-- Distance in rows or columns, whichever is greater. -/
def nodeFar (cols a b : Nat) : Nat := max (absDiff (nodeRow cols a) (nodeRow cols b)) (absDiff (nodeCol cols a) (nodeCol cols b))
def nodeNext (cols a b : Nat) : Bool := absDiff (nodeRow cols a) (nodeRow cols b) + absDiff (nodeCol cols a) (nodeCol cols b) == 1

/-- The 4-connected component that grows from `cur` within `rest`, and what is left. -/
def growNodes (cols : Nat) : Nat → List Nat → List Nat → List Nat × List Nat
  | 0, cur, rest => (cur, rest)
  | n + 1, cur, rest =>
    let new := rest.filter fun x => cur.any (nodeNext cols x)
    if new = [] then (cur, rest) else growNodes cols n (cur ++ new) (rest.filter fun x => !new.contains x)

def components (cols : Nat) : Nat → List Nat → List (List Nat)
  | _, [] => []
  | 0, _ => []
  | n + 1, x :: r => let g := growNodes cols r.length [x] r; g.1 :: components cols n g.2

/-- Deltas in 1/16 count. -/
def deltas (base raw : List Int) : List Int := List.zipWith (fun b r => b - 16 * r) base raw
/-- The effective threshold Te in 1/16 count (R253). -/
def threshold16 (u : TouchUnit) (film : Bool) : Nat :=
  tc u 6 * (if film then 24 else 16) * (if u.charger then 2 else 1)

def peakNode (D : List Int) (c : List Nat) : Nat := c.foldl (fun a n => if D.getD a 0 < D.getD n 0 then n else a) (c.headD 0)

/-- The class of a candidate: 1 LARGE, 2 DROP, 3 FINGER (R254). -/
def classOf (D : List Int) (te : Nat) (c : List Nat) : Nat :=
  if 25 < c.length then 1 else if c.length ≤ 6 ∧ D.getD (peakNode D c) 0 < 2 * Int.ofNat te then 2 else 3

/-- A turn by the codes of R146 about node (0, 0). -/
def turnPoint (code : Nat) (x y : Int) : Int × Int :=
  let x := if 4 ≤ code then -x else x
  if code % 4 = 0 then (x, y) else if code % 4 = 1 then (-y, x) else if code % 4 = 2 then (-x, -y) else (y, -x)

def clampPx (n : Nat) (v : Int) : Nat := if v < 0 then 0 else min v.toNat (n - 1)

/-- Raster position of a point in 1/64 pitch (R255). -/
def touchRaster (d : Device) (u : TouchUnit) (row col : Nat) : Nat × Nat :=
  let hc := headForce d (tc u 0x0C)
  let t := turnPoint (tc u 0x0E) (Int.ofNat col) (Int.ofNat row)
  let place (v : Int) (scale org : Nat) : Int := (v * Int.ofNat scale + 8192) / 16384 + Int.ofNat org
  (clampPx (hActive hc) (place t.1 (hi16 (tc u 0x10)) (hi16 (tc u 0x0F))),
   clampPx (vActive hc) (place t.2 (lo16 (tc u 0x10)) (lo16 (tc u 0x0F))))

/-- The sample time of a row (R256). -/
def sampleTime (u : TouchUnit) (row : Nat) : Nat :=
  u.frameAt + (if u.charger then 386 + 512 * (row / 16) else 258 + 256 * (row / 16)) * 1000

/-- A FINGER of a candidate. -/
def fingerOf (d : Device) (u : TouchUnit) (masked : List Nat) (D : List Int) (c : List Nat) : Touch :=
  let cols := tc u 3
  let pk := peakNode D c
  let near := (List.range D.length).filter fun n => decide (nodeFar cols pk n ≤ 1)
  let w (n : Nat) : Nat := (D.getD n 0).toNat
  let W := sumOf (near.map w)
  let mean (f : Nat → Nat) : Nat := if W = 0 then 64 * f pk else (128 * sumOf (near.map fun n => w n * f n) + W) / (2 * W)
  let row := mean (nodeRow cols)
  let col := mean (nodeCol cols)
  let xy := touchRaster d u row col
  { id := 0, row := row, col := col, x := xy.1, y := xy.2, sample := sampleTime u (nodeRow cols pk), born := d.mono,
    lastX := xy.1, lastY := xy.2, lastReport := sampleTime u (nodeRow cols pk), missing := 0, goneAt := 0, persistent := false,
    degraded := near.any masked.contains, peak := min (w pk / 16) 4095, node := pk, nodes := c }

def dist2 (a b : Touch) : Nat := absDiff a.row b.row * absDiff a.row b.row + absDiff a.col b.col * absDiff a.col b.col

/-- All pairs (distance, finger, touch) within 3 pitches. -/
def matchPairs (fs ts : List Touch) : List (Nat × Nat × Nat) :=
  (List.range fs.length).flatMap fun i => (List.range ts.length).filterMap fun j =>
    match fs[i]?, ts[j]? with
    | some f, some t => if dist2 f t ≤ 192 * 192 then some (dist2 f t, i, j) else none
    | _, _ => none

/-- Takes pairs nearest first (R255). -/
def nearestFirst : Nat → List (Nat × Nat × Nat) → List (Nat × Nat)
  | 0, _ => []
  | _, [] => []
  | n + 1, x :: r =>
    let b := r.foldl (fun a e => if e.1 < a.1 then e else a) x
    (b.2.1, b.2.2) :: nearestFirst n ((x :: r).filter fun e => e.2.1 != b.2.1 && e.2.2 != b.2.2)

def matchOf (m : List (Nat × Nat)) (j : Nat) : Option Nat := (m.find? fun e => e.2 == j).map (·.1)

/-- Reports the touch's move when it is due (R255). -/
def touchMove (d : Device) (k : Nat) (t : Touch) : Device × Touch :=
  let th := tc (linkAt d k) 0x12
  let m := absDiff t.x t.lastX * absDiff t.x t.lastX + absDiff t.y t.lastY * absDiff t.y t.lastY
  if th * th ≤ m ∨ t.lastReport + 100000000 ≤ t.sample then
    (addReport d k (reportOf d k 2 t t.x t.y t.sample), { t with lastX := t.x, lastY := t.y, lastReport := t.sample })
  else (d, t)

/-- A tracked touch in a scanned frame, with its FINGER if it has one. -/
def touchFollow (d : Device) (k : Nat) (t : Touch) (f : Option Touch) : Device :=
  let keep (d : Device) (t : Touch) : Device := modTrack d k fun x => { x with touches := x.touches ++ [t] }
  match f with
  | some f =>
    let r := touchMove d k
      { t with row := f.row, col := f.col, x := f.x, y := f.y, sample := f.sample, missing := 0, peak := f.peak, node := f.node,
               nodes := f.nodes, degraded := f.degraded }
    keep r.1 r.2
  | none =>
    if t.missing = 0 then keep d { t with missing := 1, goneAt := sampleTime (linkAt d k) (nodeRow (tc (linkAt d k) 3) t.node) }
    else addReport d k (reportOf d k 3 t t.x t.y t.goneAt)

/-- A FINGER of two consecutive frames becomes a touch with the lowest free ID. DEDUCED: notes/assumptions/95.md. -/
def touchBirth (d : Device) (k : Nat) (old f : Touch) : Device :=
  let used := (trackAt d k).touches.map (·.id)
  match (List.range 10).find? fun i => !used.contains i with
  | none => bump d (touchStat k) 0x0D
  | some i =>
    let d := addReport d k (reportOf d k 1 { old with id := i } old.x old.y old.sample)
    let r := touchMove d k { f with id := i, lastX := old.x, lastY := old.y, lastReport := old.sample, born := d.mono }
    modTrack r.1 k fun x => { x with touches := x.touches ++ [r.2] }

/-- FINGERs are matched to the touches and FINGERs of the frame before. -/
def trackFingers (d : Device) (k : Nat) (fs : List Touch) : Device :=
  let t := trackAt d k
  let pool := t.touches ++ t.fresh
  let m := nearestFirst fs.length (matchPairs fs pool)
  let d := setTrack d k { t with touches := [], fresh := [] }
  let d := forEach d (List.range t.touches.length) fun d j => match t.touches[j]? with
    | some x => touchFollow d k x ((matchOf m j).bind fun i => fs[i]?)
    | none => d
  let d := forEach d (List.range t.fresh.length) fun d j => match t.fresh[j]?, (matchOf m (t.touches.length + j)).bind fun i => fs[i]? with
    | some x, some f => touchBirth d k x f
    | _, _ => d
  forEach d ((List.range fs.length).filter fun i => !(m.any fun e => e.1 == i)) fun d i => match fs[i]? with
    | some f => if 10 ≤ (trackAt d k).touches.length then bump d (touchStat k) 0x0D
        else modTrack d k fun x => { x with fresh := x.fresh ++ [f] }
    | none => d

/-- WATER_FILM follows the count of damp nodes (R254). -/
def judgeFilm (t : TrackUnit) (damp limit : Nat) : TrackUnit :=
  let wet := decide (limit ≤ damp)
  let f := if wet then t.filmRun + 1 else 0
  let r := if wet then 0 else t.dryRun + 1
  { t with filmRun := f, dryRun := r, film := if 4 ≤ f then true else if 60 ≤ r then false else t.film }

/-- Whether slow tracking leaves a node alone (R253). -/
def nearTouch (cols : Nat) (t : TrackUnit) (cands : List (List Nat)) (n : Nat) : Bool :=
  if t.touches ≠ [] ∧ t.touches.all (·.persistent) then t.touches.any fun x => x.nodes.any fun m => decide (nodeFar cols m n ≤ 2)
  else cands != [] || t.touches != []

/-- The baselines after a frame: fast re-calibration (R257) or slow tracking. -/
def newBase (cols : Nat) (t : TrackUnit) (cands : List (List Nat)) (recal : List Nat) (te : Nat) (base raw : List Int) : List Int :=
  (List.range base.length).map fun n =>
    let b := base.getD n 0
    let r := raw.getD n 0
    if t.masked.contains n then b
    else if recal.contains n then
      (if t.recal = 1 ∧ b - 16 * r < Int.ofNat te then 8 * (t.recalRaw.getD n 0 + r) else b)
    else if nearTouch cols t cands n then b
    else b + (16 * r - b + 32) / 64

/-- Fast re-calibration after a frame: ends, goes on, or starts (R257). -/
def recalNext (d : Device) (k : Nat) (low : Bool) (recal : List Nat) (raw : List Int) : Device :=
  let t := trackAt d k
  if t.recal = 1 then
    let d := modTrack d k fun t => { t with recal := 0, recalRaw := [], recalSet := [], negRun := 0 }
    raise (bump d (touchStat k) 0x0C) (touchDie k) 41 (touchCfg k)
  else if t.recal = 2 then modTrack d k fun t => { t with recal := 1, recalRaw := raw, recalSet := recal }
  else
    let n := if low then t.negRun + 1 else 0
    modTrack d k fun t => { t with negRun := n, recal := if low ∧ tc (linkAt d k) 8 ≤ n then 2 else 0 }

/-- A scanned frame of a RUNNING link (R253 to R258). -/
def trackFrame (d : Device) (k : Nat) (raw : List Int) : Device :=
  let u := linkAt d k
  let t := trackAt d k
  let cols := tc u 3
  let te := threshold16 u t.film
  let D := deltas u.base raw
  let open_ := (List.range D.length).filter fun n => !t.masked.contains n
  let cands := components cols D.length (open_.filter fun n => decide (Int.ofNat te ≤ D.getD n 0))
  let recal := if t.recal = 2 then open_.filter (fun n => decide (D.getD n 0 < Int.ofNat te)) else if t.recal = 1 then t.recalSet else []
  let live := cands.filter fun c => !(c.any recal.contains)
  let fs := (live.filter fun c => classOf D te c == 3).map (fingerOf d u t.masked D)
  let d := bumpBy d (touchStat k) 0x0D (live.length - fs.length)
  let d := trackFingers d k fs
  let base := newBase cols (trackAt d k) cands recal te u.base raw
  let d := modLink d k fun u => { u with base := base }
  let damp := (open_.filter fun n => decide (Int.ofNat te ≤ 4 * D.getD n 0 ∧ D.getD n 0 < Int.ofNat te)).length
  let d := modTrack d k fun t => judgeFilm t damp (tc u 0x0B)
  recalNext d k (open_.any fun n => decide (D.getD n 0 < -(Int.ofNat (16 * tc u 7)))) recal raw

/-! ### The self-test (R259) -/

/-- The value at place i of the ascending order of a list. -/
def ranked (l : List Int) (i : Nat) : Int :=
  (l.find? fun v => decide ((l.filter (· < v)).length ≤ i ∧ i < (l.filter (· ≤ v)).length)).getD 0
/-- Twice the median. -/
def median2 (l : List Int) : Int := ranked l ((l.length - 1) / 2) + ranked l (l.length / 2)
def sumInt (l : List Int) : Int := l.foldl (· + ·) 0

/-- The faulty lines among `n` whose sums over `m` nodes are given. -/
def weakLines (sums : List Int) (m : Nat) (med2 : Int) : List Nat :=
  (List.range sums.length).filter fun i => decide (8 * sums.getD i 0 < med2 * Int.ofNat m)
def shortedRows (sums : List Int) (m : Nat) (med2 : Int) : List Nat :=
  let hot (i : Nat) : Bool := decide (i < sums.length ∧ 7 * med2 * Int.ofNat m < 8 * sums.getD i 0)
  (List.range sums.length).filter fun i => hot i && (hot (i + 1) || (decide (0 < i) && hot (i - 1)))

def sameColumn (rows : List (List Int)) (c : Nat) : Bool :=
  rows.all fun r => let a := r.getD c 0; let b := r.getD (c + 1) 0
    decide (100 * (a - b).natAbs < max a.natAbs b.natAbs ∨ a = b)

def electrodeBits (n : Nat) (l : List Nat) : List Byte :=
  (List.range n).map fun b => BitVec.ofNat 8 (sumOf ((List.range 8).map fun i => if l.contains (8 * b + i) then 2 ^ i else 0))

/-- The electrodes that a complete SELFTEST frame finds faulty. -/
def testElectrodes (u : TouchUnit) : List Nat × List Nat :=
  let rows := (List.range (tc u 2)).map fun r => tget u.samples r []
  let cols := tc u 3
  let m := median2 rows.flatten
  let rs := rows.map sumInt
  let cs := (List.range cols).map fun c => sumInt (rows.map fun r => r.getD c 0)
  let shortC := (List.range (cols - 1)).filter (sameColumn rows)
  ((weakLines rs cols m ++ shortedRows rs cols m).eraseDups,
   (weakLines cs rows.length m ++ shortC ++ shortC.map (· + 1)).eraseDups)

def selfTestDone (d : Device) (k : Nat) : Device :=
  let u := linkAt d k
  let f := testElectrodes u
  let cols := tc u 3
  let masked := (List.range (tc u 2 * cols)).filter fun n => f.1.contains (nodeRow cols n) || f.2.contains (nodeCol cols n)
  let bad := f.1 != [] || f.2 != []
  let d := setB d (touchStat k) 0x10 (electrodeBits 16 f.1 ++ electrodeBits 32 f.2)
  let d := setN d (touchStat k) 0x0F (if bad then 2 else 1)
  let d := modTrack d k fun t => { t with masked := masked }
  let d := modLink d k fun u =>
    { u with scanning := 0, samples := [], step := if u.step = 4 then 5 else u.step,
             badRun := if u.step = 4 then 0 else u.badRun }
  if bad then raise d (touchDie k) 43 (touchCfg k) else d

/-- TouchSelfTest: the next slot runs it, a slot of bring-up too (R259). -/
def touchSelfTestOp (d : Device) (k : Nat) : Device :=
  if 1 ≤ (linkAt d k).step ∧ (linkAt d k).step ≤ 10 then setN (modLink d k fun u => { u with selfTest := true }) (touchStat k) 0x0F 3 else d

/-! ### Samples (R245, R249) -/

/-- A complete SCAN frame. -/
def scanDone (d : Device) (k : Nat) : Device :=
  let d := bump d (touchStat k) 9
  let u := judgeNoise (linkAt d k)
  let raw := decodeFrame u
  let d := setLink d k { u with scanning := 0, badRun := 0 }
  let d :=
    if 5 ≤ u.step ∧ u.step ≤ 8 then
      let sum := if u.step = 5 then raw else addLists false u.warm raw
      modLink d k fun u =>
        { u with step := u.step + 1, warm := if u.step = 8 then [] else sum, base := if u.step = 8 then sum.map (4 * ·) else u.base }
    else if u.step = 10 then trackFrame d k raw else d
  modLink d k fun u => { u with samples := [] }

/-- A SAMPLE packet of the frame in progress; the last chip's ends the frame. -/
def touchSampleOp (d : Device) (k frame chip : Nat) (samples : List Int) : Device :=
  let u := linkAt d k
  if u.step = 0 ∨ 11 ≤ u.step then d
  else
    let d := touchHeard d k
    if u.scanning = 0 ∨ frame ≠ u.frameNo ∨ touchChips u ≤ chip ∨ samples.length ≠ tc u 3 then d
    else
      let d := modLink d k fun u => { u with samples := tput u.samples chip samples }
      let u := linkAt d k
      if chip + 1 ≠ touchChips u then d
      else if u.spoiled ∨ u.samples.length ≠ touchChips u then
        (if u.scanning = 3 then retest d k else touchDiscard d k)
      else if u.scanning = 1 then scanDone d k else selfTestDone d k

/-! ### Resting touches (R258) -/

def touchHoldOp (d : Device) (k id : Nat) : Device :=
  match (trackAt d k).touches.find? fun t => t.id == id with
  | none => d
  | some t =>
    if t.persistent ∨ d.mono < t.born + tc (linkAt d k) 9 * 1000000000 then d
    else
      let t := { t with persistent := true, lastX := t.x, lastY := t.y, lastReport := t.sample }
      let d := addReport d k (reportOf d k 2 t t.x t.y t.sample)
      let d := modTrack d k fun x => { x with touches := x.touches.map fun y => if y.id = id then t else y }
      raise (bump d (touchStat k) 0x14) (touchDie k) 42 (touchCfg k)

/-! ### Attribution (R260 to R265) -/

/-- The frame on screen at a touch point: the newest retained one whose line was lit by then (R261). -/
def frameShown (d : Device) (k : Nat) (r : Report) : Option PaneMap :=
  let u := linkAt d k
  let h := tc u 0x0C
  let tv := Int.ofNat r.sample - Int.ofNat (tc u 0x11 * 1000)
  let ms := (scanAt d h).maps.filter fun m =>
    m.stream == tc u 0x0D && decide (Int.ofNat (m.launch + linesNs d (headForce d h) r.y) ≤ tv)
  ms.getLast?

/-- Whether the last line of the touched block of a frame has launched (R262). -/
def mapFinal (d : Device) (h : Nat) (m : PaneMap) (y : Nat) : Bool :=
  let last := min (16 * (y / 16) + 15) (m.height - 1)
  decide (last < m.linesDone) || !(headAt d h).running || (headAt d h).frameCount != m.count

def cellAt (m : PaneMap) (x y : Nat) : Nat :=
  let i := y / 16 * m.cols + x / 16
  m.cells.getD i 0 + (if m.disturbed.contains i then 0x1000 else 0)

/-- Verdict, source and seal class shown for a cell. -/
def cellShown (m : PaneMap) (cell : Nat) : Option (Nat × Option Nat × Nat) :=
  let kind := getField cell 13 3
  let key := if kind = 2 then getField cell 0 12 else if kind = 3 then 4096 + getField cell 0 12 else 0xFFFF
  (m.shown.find? fun e => e.1 == key).map fun e => e.2

/-- The cause of R263; 1 is ACTIONABLE. DEDUCED: notes/assumptions/96.md. -/
def touchCause (r : Report) (m : Option PaneMap) (cell verdict : Nat) : Nat :=
  let kind := getField cell 13 3
  if r.event = 4 then 8
  else match m with
    | none => 6
    | some m =>
      if !m.sent then 7
      else if kind = 6 then 4
      else if kind = 1 ∨ kind = 4 ∨ kind = 5 then 3
      else if verdict ≠ 7 ∧ verdict ≠ 6 then 2
      else if cell.testBit 12 then 9
      else if r.flags.testBit 0 then 5 else 1

/-- A report with its attribution (R265). -/
def reportBytes (d : Device) (k seq : Nat) (r : Report) (m : Option PaneMap) (cell cause down : Nat) (shown : Option (Nat × Option Nat × Nat)) : List Byte :=
  let u := linkAt d k
  let sh := shown.getD (0, none, 1)
  beBytes 2 seq ++ beBytes 1 k ++ beBytes 1 (tc u 0x0C) ++ beBytes 1 (16 * r.id + tc u 0x0D) ++ beBytes 1 r.event ++ beBytes 2 r.x ++
  beBytes 2 r.y ++ beBytes 6 (r.sample % 2 ^ 48) ++ beBytes 4 (match m with
    | some m => m.count
    | none => 0) ++ beBytes 2 cell ++ beBytes 2 (match sh.2.1 with
    | some s => 0x8000 + s
    | none => 0) ++ beBytes 1 (sh.1 + 8 * (sh.2.2 - 1)) ++ beBytes 1 (if cause = 1 then 2 else 1) ++ beBytes 1 cause ++
  beBytes 1 r.flags ++ beBytes 2 down ++ beBytes 2 (0x8000 + r.peak)

/-- A released report enters the ring; one that leaves it undelivered is lost (R266). -/
def ringReport (d : Device) (k : Nat) (b : List Byte) : Device :=
  let d := deliverTouches d k
  let t := trackAt d k
  let ring := t.ring ++ [b]
  let lost := decide (64 ≤ t.waiting)
  let d := modTrack d k fun t => { t with ring := ring.drop (ring.length - 64), waiting := min 64 (t.waiting + 1) }
  let d := deliverTouches d k
  if lost then raise (bump d (touchStat k) 0x15) (touchDie k) 44 (touchCfg k) else d

/-- TOUCH_REPORT_RELEASE: the oldest decided report, once the block it lies on is final. -/
def touchReleaseOp (d : Device) (k : Nat) : Device :=
  match (trackAt d k).reports with
  | [] => d
  | r :: rest =>
    let h := tc (linkAt d k) 0x0C
    let m := frameShown d k r
    if !pixUp d (dieOfLink k) || (m.map fun m => mapFinal d h m r.y) == some false then d
    else
      let cell := (m.map fun m => cellAt m r.x r.y).getD 0
      let shown := m.bind fun m => cellShown m cell
      let cause := touchCause r m cell ((shown.map (·.1)).getD 0)
      let t := trackAt d k
      let item := putField cell 12 1 0
      let downs := if r.event = 1 then tput t.downs r.id item else t.downs
      let seq := if t.seq + 1 = 65536 then 1 else t.seq + 1
      let b := reportBytes d k seq r m cell cause (tget downs r.id 0) shown
      let d := modTrack d k fun t => { t with reports := rest, seq := seq, downs := downs }
      let d := bump d (touchStat k) 0x12
      let d := if cause = 1 then d else bump d (touchStat k) 0x13
      ringReport d k b

/-! ### The meanings -/

def execTouchUpstreamIdle (dt : Nat) (k : TouchNo) (s : State) := act dt s fun d => touchIdleOp d k
def execTouchBringupRetry (dt : Nat) (k : TouchNo) (s : State) := act dt s fun d => touchRetryOp d k
def execTouchIdent (dt : Nat) (k : TouchNo) (ver rows cols part : Nat) (s : State) :=
  act dt s fun d => touchIdentOp d k ver rows cols part
def execTouchAck (dt : Nat) (k : TouchNo) (addr : Nat) (s : State) := act dt s fun d => touchAckOp d k addr
def execTouchReg (dt : Nat) (k : TouchNo) (addr v : Nat) (s : State) := act dt s fun d => touchRegOp d k addr v
/-- The fault code of STATUS changes nothing more (R249). -/
def execTouchStatus (dt : Nat) (k : TouchNo) (_code : Nat) (s : State) := act dt s fun d => touchStatusOp d k
def execTouchFrameSlot (dt : Nat) (k : TouchNo) (s : State) := act dt s fun d => touchSlotOp d k
def execTouchSample (dt : Nat) (k : TouchNo) (frame chip : Nat) (samples : List Int) (s : State) :=
  act dt s fun d => touchSampleOp d k frame chip samples
def execTouchReportRelease (dt : Nat) (k : TouchNo) (s : State) := act dt s fun d => touchReleaseOp d k
def execTouchLinkTimeout (dt : Nat) (k : TouchNo) (s : State) := act dt s fun d => touchTimeoutOp d k
def execTouchHoldLimit (dt : Nat) (k : TouchNo) (id : Fin 10) (s : State) := act dt s fun d => touchHoldOp d k id
def execTouchPacketDiscarded (dt : Nat) (k : TouchNo) (inFrame : Bool) (s : State) :=
  act dt s fun d => touchBadPacketOp d k inFrame

end Sys2Proof.Machine
end

