-- ==== Sys2Proof/Machine/Tags.lean ====
section
/-! DEFINITION. Tag updates, however they arrive (R21, R164, R166, R168). -/

namespace Sys2Proof.Machine

/-- Whether a value of base b stamped s was 24 h old or more when die p took it (R21). -/
def tagOld (q : PixelDie) (b s : Nat) : Bool := decide (Int.ofNat (hours 24) ≤ diff48 q.tb1.ns (toTb1 q b s))

/-- A forwarded update reaches the die of a mirroring tag. -/
def copyTaken (d : Device) (t v s : Nat) (carried : Bool) (b : Nat) : Device :=
  let q := pixAt d (tagDie d t)
  let later : Bool := match (tagAt d t).copy with
    | some (_, o, _, _) => decide (0 < diff48 s o)
    | none => true
  if q.out ∧ (later ∨ !carried) then modTag d t fun u =>
    { u with copy := some (v, s, q.tb2.ns, tagOld q b s), copyBefore := copyBefore q u }
  else d

/-- The tags of other dies that mirror m. -/
def mirrorsOf (d : Device) (m : Nat) : List Nat :=
  d.tags.filterMap fun (e : Nat × TagUnit) =>
    if e.2.applied && tagForce d e.1 0x11 == m && tagDie d e.1 != tagDie d m then some e.1 else none

def tagIgnored (d : Device) (t : Nat) : Device := if pixUp d (tagDie d t) then bump d (0x6000 + t) 0x25 else d

/-- An update of tag t with value v, carried timestamp or none, arrived at control die c. The second part says whether it
was accepted. -/
def tagUpdate (d : Device) (t v : Nat) (stamp : Option Nat) (c : Nat) : Device × Bool :=
  let b := tagForce d t 0x0E
  let carried := tagForce d t 0x0F == 1
  let now := (baseOf (ctlAt d c) (b - 1)).ns
  let s? := if carried then stamp.map (· % 2 ^ 48)
    else some ((now + 2 ^ 48 - tagForce d t 0x10 * 1000 % 2 ^ 48) % 2 ^ 48)
  match (if tagForce d t 0x11 < 4096 then none else s?) with
  | none => (tagIgnored d t, false)
  | some s =>
    let q := pixAt d (tagDie d t)
    let later : Bool := match (tagAt d t).stamp with
      | some o => decide (0 < diff48 s o)
      | none => true
    let d1 := forEach d (mirrorsOf d t) fun d m => copyTaken d m v s carried b
    if !q.out then (d1, false)
    else if carried && !later then (tagIgnored d1 t, false)
    else (bump (modTag d1 t fun u =>
        { u with value := v % 2 ^ 32, stamp := some s, accepted := q.tb2.ns, old := tagOld q b s, before := some (tagBefore q u) })
      (0x6000 + t) 0x24, true)

end Sys2Proof.Machine
end

