-- ==== Sys2Proof/Machine/Power.lean ====
section
/-! DEFINITION. Clocks, supply, pins and crossings (R400 to R429, R457, R458, R463). -/

namespace Sys2Proof.Machine

/-! ### Start and device reset (R412, R415, R416, R457) -/

/-- What a power-on or device reset leaves: OTP, NOR contents and the pins' levels (R412). -/
def wholeReset (d : Device) : Device :=
  { Device.reset with mono := d.mono, fresh := d.fresh, tx := d.tx,
                      pins := { Pins.reset with resetn := d.pins.resetn, hbtest := d.pins.hbtest, secVer := d.pins.secVer, owners := d.pins.owners, fuse := d.pins.fuse },
                      ctls := tmap (fun _ (c : CtlDie) => { CtlDie.reset with flash := c.flash }) d.ctls,
                      audit := d.audit.filter fun r => !d.awaiting.contains r.num }

/-- The last sample of each rail: within the regulation range of R453, and open there. -/
def railsUp (d : Device) : Device :=
  forEach d (List.range 8) fun d k => modRail (spend d) k fun r => { r with seen := true, mv := 740 + freshVal d % 41, low := 740 + freshVal d % 41 }

/-- The oscillators start. -/
def clocksStart (d : Device) : Device :=
  forEach d (List.range 8) fun d k =>
    setClock d k { ClockUnit.reset with src := if k < 2 then 1 else 4, mon := 1, startAt := d.mono, stepAt := d.mono }

/-- DESIGN CHOICE: notes/assumptions/98.md. -/
def pwrgoodRiseOp (d : Device) : Device :=
  if d.pins.pwrgood then d
  else clocksStart (railsUp { d with pins := { d.pins with pwrgood := true, resetn := true } })

def pwrgoodFallOp (d : Device) : Device :=
  if d.pins.pwrgood then wholeReset d else d

/-- RESETn low for 10 µs: the oscillators stay ready, the straps keep their sample, THERMN follows the sensors (R457, R463), and an open
debug port closes at the next tick (R347). -/
def resetnLowOp (d : Device) : Device :=
  if !d.pins.pwrgood then d
  else
    let w := wholeReset d
    let keep (k : Nat) (c : ClockUnit) : ClockUnit :=
      { ClockUnit.reset with src := if k < 2 then 1 else 4, mon := if c.ready then 2 else 1, ready := c.ready,
                             startAt := c.startAt, stepAt := c.stepAt, stepped := c.stepped }
    let dbg := { DebugUnit.reset with opened := d.sup.dbg.opened, openedAt := d.sup.dbg.openedAt, closing := d.sup.dbg.opened }
    let w := if dbg.opened then setN w 0x2500 0x18 (regN d 0x2500 0x18) else w
    { w with pins := { w.pins with pwrgood := true, resetn := false, straps := d.pins.straps, thermn := d.pins.thermn },
             sup := { w.sup with dbg := dbg },
             rails := tmap (fun _ (r : RailUnit) => { RailUnit.reset with seen := r.seen, mv := r.mv, low := r.mv }) d.rails, clocks := tmap keep d.clocks }

def resetnRiseOp (d : Device) : Device :=
  if !d.pins.pwrgood || d.pins.resetn then d
  else
    let d := { d with pins := { d.pins with resetn := true } }
    { d with clocks := tmap (fun _ (c : ClockUnit) => { c with startAt := d.mono, pll := if c.ready then 2 else 0 }) d.clocks }

/-- Pixel die p leaves reset: memory bring-up starts and it receives the rule table (R343, R390, R416). -/
def releasePixel (d : Device) (p : Nat) : Device :=
  let d := modPix d p fun q => { q with out := true, state := 3 }
  let d := forEach d (List.range 4) fun d m => modMemIf d (ifKey p m) fun u => { u with state := 2 }
  if (activeCtl d).isSome then ruleReload d (dieNo p) else d

/-- A control die starts; its ports join the groups of the enabled ST 2110 sources they serve (R101). -/
def controlUp (d : Device) (c : Nat) : Device :=
  let d := startCtl d c
  forEach d ((namedSources d).filter fun s => srcEnabled d s && srcCfg d s 1 == 2 && st2110Ctl d s == c) fun d s => igmpReport d s true

/-- PLL_LOCK_ACQUIRED: holdover ends; at start-up the die's reset is released. -/
def pllLockOp (d : Device) (k : Nat) : Device :=
  let c := clockAt d k
  if (!c.ready && c.src != 2) || c.src == 0 || c.mon == 3 || !d.pins.resetn then d
  else
    let d := handled (modClock d k fun c => { c with pll := 4 }) k [86] 0
    if (railAt d k).held then d
    else if k < 2 then
      (if ctlUp d k ∨ (ctlAt d k).role ≠ 0 then d else controlUp d k)
    else if pixUp d (k - 2) ∨ (pixAt d (k - 2)).state ≠ 0 then d else releasePixel d (k - 2)

/-! ### Oscillators and the clock monitor (R401 to R409) -/

/-- REF switches to the internal oscillator for good (R408). -/
def clockFallback (d : Device) (k : Nat) : Device :=
  raise (modClock d k fun c => { c with src := 3, mon := 4, tripAt := none, stepAt := d.mono, pll := 3, good := 0, bad := 0 }) k 86 0

/-- The monitor of die k trips (R407 to R409). -/
def clockTrip (d : Device) (k : Nat) : Device :=
  let d := bump d 0x2210 4
  if k < 2 ∧ (clockAt d k).ready then clockFallback d k
  else modClock d k fun c => { c with mon := 3, tripAt := some d.mono, pll := 3, good := 0, bad := 0, noTrim := c.noTrim || decide (k < 2) }

/-- The oscillator is ready: 50 µs after PWRGOOD rose, or 20 µs after a trim step (R401, R416). -/
def oscReadyOp (d : Device) (k straps : Nat) : Device :=
  let c := clockAt d k
  let wait := if c.stepped then 20000 else 50000
  if c.src = 0 ∨ c.ready ∨ d.mono < c.stepAt + wait then d
  else
    let d := modClock d k fun c => { c with ready := true, mon := if c.mon = 1 then 2 else c.mon, pll := if c.stepped then c.pll else 2 }
    let d := if k < 2 ∧ d.pins.straps.isNone then { d with pins := { d.pins with straps := some straps } } else d
    if k < 2 ∧ c.mon = 3 then clockFallback d k else d

/-- The start delay of R402, ns. DEDUCED: notes/assumptions/102.md. -/
def startDelay (d : Device) : Option Nat := d.pins.straps.map fun s => 500000 * 2 ^ s

def crystalStartOp (d : Device) (k : Nat) : Device :=
  let c := clockAt d k
  match startDelay d with
  | some t => if c.src = 1 ∧ c.crystal = 0 ∧ c.startAt + t ≤ d.mono then modClock d k fun c => { c with crystal := 1, good := 0, quiet := true } else d
  | none => d

def crystalTimeoutOp (d : Device) (k : Nat) : Device :=
  let c := clockAt d k
  match startDelay d with
  | some t =>
    if c.src = 1 ∧ c.crystal = 1 ∧ c.startAt + t + 10000000 ≤ d.mono then
      raise (modClock d k fun c => { c with crystal := 3, src := 3 }) k 85 0
    else d
  | none => d

/-- The edges a REF-pair window of die k counts when both clocks are exact: the crystal against the internal oscillator, or
the Saddle clock against it. DESIGN CHOICE: notes/assumptions/99.md. -/
def pairNominal (k : Nat) : Nat := if k < 2 then 256 else 10240

/-- Nominal frequencies of R429 on die k, Hz. DEDUCED: notes/assumptions/100.md. -/
def nominalHz (d : Device) (k code : Nat) : Nat :=
  if code ≤ 3 then 25000000
  else if code = 4 then 1600000000
  else if code = 5 ∨ code = 15 ∨ code = 16 then 1000000000
  else if code = 6 then 800000000
  else if 7 ≤ code ∧ code ≤ 10 then dotMilli d (headForce d (4 * (k - 2) + (code - 7))) / 1000
  else if code = 11 then (let f := (memAt d (k - 2)).inForce; if f = 1 then 1066700000 else if f = 2 then 800000000 else 400000000)
  else if code = 14 then 805660000
  else Config.measuredHz k code d.fresh

/-- The PLL outputs that the odd windows of die k rotate through. -/
def pllCodes (d : Device) (k : Nat) : List Nat :=
  if k < 2 then (if [2, 3, 5, 6, 7, 10].contains (ctlAt d k).role then [4] else []) ++ [5, 14]
  else [5, 6] ++ ((List.range 4).filter fun h => (headAt d (4 * (k - 2) + h)).running).map (7 + ·) ++ [11]

/-- The PLL of a clock code. -/
def pllOfCode (code : Nat) : Pll :=
  if code = 4 then .sup else if code = 5 then .fab else if code = 6 then .pix else if code = 11 then .mem else if code = 14 then .net
  else if code = 8 then .dot 1 else if code = 9 then .dot 2 else if code = 10 then .dot 3 else .dot 0

/-- The link of a head whose DOT PLL fails: a reset of its pipe under way after OUTPUT FROZEN still decides as R191 has it. -/
def stopsAs (now : Nat) (l : LinkPhase) : LinkPhase := match l with
  | .latched => .latched
  | .frozen t => .frozen t
  | _ => .frozen now

/-- Whether the PLLs of die k are held over or relock after a step of their reference (R401, R403, R404, R408, R409): no fault counts. -/
def heldOver (d : Device) (k : Nat) : Bool :=
  let c := clockAt d k
  c.mon == 3 || (decide (d.mono < c.stepAt + 20000) && (c.pll == 3 || (c.src != 2 && !c.ready)))

def pllCode (pll : Pll) : Nat := match pll with
  | .sup => 4
  | .fab => 5
  | .pix => 6
  | .dot j => 7 + j
  | .mem => 11
  | .net => 14

def pllFaulty (d : Device) (k : Nat) (pll : Pll) : Device := modClock d k fun c =>
  { c with faults := if c.faults.contains (pllCode pll) then c.faults else c.faults ++ [pllCode pll] }

/-- The outcome of R410; a FATAL is recorded also while another FATAL's reset is under way (R436). DEDUCED: notes/assumptions/103.md. -/
def pllFaultOp (d : Device) (k : Nat) (pll : Pll) : Device :=
  let fatal (d : Device) : Device := modClock (fatalReset d k 89 0 [] true) k fun c => { c with pll := 2 }
  if heldOver d k ∨ !(dieUp d k ∨ (fatalPending d k ∧ 3 ≤ (clockAt d k).pll)) then d
  else match pll with
    | .dot j =>
      let h := 4 * (k - 2) + j
      if k < 2 ∨ (headAt d h).link = .idle then d
      else
        let d := raise (linkOff (pllFaulty d k pll) h) (headDie h) 23 (headUnitIdx h)
        let d := modHead d h fun u => { u with link := stopsAs d.mono u.link, running := false, lock := 1, goodTicks := 0, tries := [] }
        wbStops d h
    | .sup =>
      let r := (ctlAt d k).role
      if 2 ≤ k then d
      else if r = 3 ∨ r = 2 then modCtl (pllFaulty d k pll) k fun x => { x with role := 9 }
      else if r = 5 ∨ r = 6 ∨ r = 7 then modCtl { d with cmp := CompareUnit.reset } k fun x => { x with role := 8 }
      else d
    | .fab => fatal d
    | .pix => if k < 2 then d else fatal d
    | .mem => if k < 2 ∨ (memAt d (k - 2)).switching.isSome then d else fatal d
    | .net => if k < 2 then fatal d else d

/-- One PLL window: outside ±0.5 % twice in a row is a fault (R405, R410). -/
def pllWindow (d : Device) (k code count : Nat) : Device :=
  let n := nominalHz d k code
  let off := decide (256 * n < 200 * ((count * 25000000 - 256 * n) + (256 * n - count * 25000000)))
  let bad := if off then tget (clockAt d k).pllBad code 0 + 1 else 0
  let d := modClock d k fun c => { c with pllBad := tset 0 c.pllBad code (if 2 ≤ bad then 0 else bad) }
  if 2 ≤ bad then pllFaultOp d k (pllOfCode code) else d

/-- One window of a requested measurement (R428). DESIGN CHOICE: notes/assumptions/22.md. -/
def measureWindow (d : Device) (k req left sum : Nat) : Device :=
  if 1 < left then modClock d k fun c => { c with measure := some (req, left - 1, sum) }
  else
    let hz := sum * nominalHz d k (req / 256 % 256) / (256 * max 1 (req % 256))
    setN (modClock d k fun c => { c with measure := none }) 0x2210 0x0B (2 ^ 63 + req / 256 * 2 ^ 32 + hz % 2 ^ 32)

/-- A REF-pair window (R403, R407, R409). -/
def pairWindow (d : Device) (k count : Nat) : Device :=
  let c := clockAt d k
  let n := pairNominal k
  let e := (count - n) + (n - count)
  if k < 2 then
    if c.crystal = 1 then
      (if 100 * e ≤ 3 * n ∧ c.quiet then
        (if c.good = 3 then modClock d k fun c => { c with crystal := 2, src := 2, good := 0, bad := 0, stepAt := d.mono, pll := 3 }
         else modClock d k fun c => { c with good := c.good + 1 })
       else modClock d k fun c => { c with good := 0, quiet := true })
    else if c.src = 2 ∧ c.mon = 2 then
      (if n < 100 * e then (if c.bad = 1 then clockTrip (modClock d k fun c => { c with bad := 0 }) k else modClock d k fun c => { c with bad := 1 })
       else modClock d k fun c => { c with bad := 0 })
    else d
  else
    let t := (pixAt d (k - 2)).token
    if t < 2 ∨ !ctlUp d (t - 2) ∨ d.crossings.contains (k, 1, t - 2) then d
    else if c.mon = 3 then
      (if c.tripAt.any (fun t => decide (t + 100000 ≤ d.mono)) then d
       else if n < 50 * e then modClock d k fun c => { c with good := 0 }
       else if c.good = 1 then raise (modClock d k fun c => { c with mon := 2, tripAt := none, good := 0, pll := 4 }) k 88 0
       else modClock d k fun c => { c with good := 1 })
    else if c.mon = 2 then
      (if n < 50 * e then (if c.bad = 1 then clockTrip (modClock d k fun c => { c with bad := 0 }) k else modClock d k fun c => { c with bad := 1 })
       else modClock d k fun c => { c with bad := 0 })
    else d

/-- Whether a window that ends now overlaps the relock of a MEM or DOT PLL of die k (R181, R233, R405). -/
def relocking (d : Device) (k : Nat) : Bool :=
  decide (2 ≤ k) && ((memAt d (k - 2)).switching.isSome || ((List.range 4).map (4 * (k - 2) + ·)).any (dotLocking d) ||
    (decide ((clockAt d k).relockAt ≠ 0) && decide (d.mono < (clockAt d k).relockAt + 10240)))

/-- FREQ_WINDOW_END: even windows measure the REF pair, odd ones a requested clock or the next PLL; a window that overlaps
a step, a switch or a relock counts toward nothing (R405). -/
def freqWindowOp (d : Device) (k count : Nat) : Device :=
  let c := clockAt d k
  if c.src = 0 then d
  else
    let d := modClock d k fun c => { c with windows := c.windows + 1 }
    if d.mono < c.stepAt + 30240 ∨ relocking d k then d
    else if c.windows % 2 = 0 then pairWindow d k count
    else match c.measure with
      | some (req, left, sum) => measureWindow d k req left (sum + count)
      | none =>
        let l := pllCodes d k
        match l[c.windows / 2 % max 1 l.length]? with
        | some code => if dieUp d k then pllWindow d k code count else d
        | none => d

/-- A missing-edge detector sees no edge for 1 µs (R403, R407). -/
def missingEdgeOp (d : Device) (k : Nat) : Device :=
  let c := clockAt d k
  if c.src = 0 then d
  else if k < 2 then
    (if c.crystal = 1 then modClock d k fun c => { c with quiet := false, good := 0 }
     else if c.src = 2 ∧ c.mon = 2 then clockTrip d k else d)
  else if c.mon = 2 then clockTrip d k
  else if c.mon = 3 then modClock d k fun c => { c with good := 0 } else d

/-- 100 µs after a trip (R409). -/
def holdoverTimeoutOp (d : Device) (k : Nat) : Device :=
  match (clockAt d k).tripAt with
  | some t =>
    if t + 100000 ≤ d.mono ∧ (clockAt d k).mon = 3 then
      modClock (fatalReset d k 87 0 [] true) k fun c =>
        { c with mon := if c.ready then 2 else 1, tripAt := none, pll := 2 }
    else d
  | none => d

/-! ### Supply (R417 to R426) -/

/-- The entry level of a stage in half mV, and the level at or above which it is left. -/
def entryLevel (stage : Nat) : Nat := ([0, 1455, 1425, 1395, 1365, 1335] : List Nat).getD stage 0
def leaveLevel (stage : Nat) : Nat := ([0, 1470, 1440, 1410, 1380, 0] : List Nat).getD stage 0

/-- A drill in progress ends ABORTED at S4 (R379). -/
def drillAbort (d : Device) : Device :=
  if d.cmp.kind ≠ 2 then d
  else
    let d := forEach d [0, 1] fun d c => modCtl d c fun x => { x with role := if x.role = 5 then 4 else x.role }
    setN (setN { d with cmp := CompareUnit.reset } 0x2300 8 3) 0x2300 9 (tb3Stamp d (supDie d))

/-- A stage change is reported: SUPPLY_STAGE, the audit log, the counter and SupplyLastChangeNs (R422). -/
def stageReport (d : Device) (k old new : Nat) : Device :=
  let d := raiseFull d k 92 (if old < new then 2 else 1) 0x2200 1 [k, old + 1, new + 1, (railAt d k).mv] none
  let d := auditDev d 18 0x22000000 (newestFormed d k)
  let d := if old < new then bump d 0x2200 4 else d
  setN d 0x2200 5 (tb3Stamp d k)

/-- The rail of die k changes stage (R421, R422, R424). Of a die that a supply reset holds, and of a pixel die in reset, the change is
counted and reported alone; the stage applies from the restart (R425). -/
def setStage (d : Device) (k new : Nat) : Device :=
  let old := (railAt d k).stage
  let d := stageReport (modRail d k fun r => { r with stage := new, stageAt := d.mono, ticks := 0 }) k old new
  let d := if 4 ≤ new ∧ dieUp d k then drillAbort d else d
  if (railAt d k).held ∨ (2 ≤ k ∧ !dieUp d k) then d
  else if k < 2 then
    (if new = 5 then supplyReset d k
     else if old < 3 ∧ 3 ≤ new ∧ isActive d k ∧ (ctlAt d (1 - k)).role = 4 ∧ (railAt d (1 - k)).stage ≤ 2 then
       { d with sup := { d.sup with handover := true } }
     else d)
  else
    let p := k - 2
    let d := fspRequest d p
    let d := if new = 5 then touchDieDown d p else d
    if new < 2 ∧ 2 ≤ old then forEach d (namedSources d) sendOwed else d

/-- A dwell timer completes at `level` (0 S1 to 4 S5) with the last sample `mv`. -/
def dwellOp (d : Device) (k level mv : Nat) : Device :=
  let r := railAt d k
  if !r.seen ∨ entryLevel (level + 1) ≤ 2 * mv then d
  else
    let d := modRail d k fun r => { r with mv := mv, low := min r.low mv, real := max r.real (level + 1) }
    if r.stage < level + 1 then setStage d k (level + 1) else d

/-- One stage is left after 1 s (R419, R426). -/
def recoveryOp (d : Device) (k mv : Nat) : Device :=
  let r := railAt d k
  if !r.seen ∨ r.stage = 0 ∨ 5 ≤ r.stage ∨ d.mono < r.stageAt + 1000000000 ∨ r.stage ≤ r.forced ∨
      (r.stage ≤ r.real ∧ 2 * mv < leaveLevel r.stage) then d
  else setStage (modRail d k fun r => { r with mv := mv, low := min r.low mv, real := min r.real (r.stage - 1) }) k (r.stage - 1)

/-- A brown-out resets the die at once; a die in reset already is held, the event recorded and counted (R420, R423, R436). -/
def brownoutOp (d : Device) (k lowest : Nat) : Device :=
  if 1275 ≤ 2 * lowest ∨ !(railAt d k).seen then d
  else
    let d := bump (modRail d k fun r => { r with mv := lowest, low := min r.low lowest }) 0x2200 6
    let d := if dieUp d k then fatalReset d k 93 0x2200 [k, lowest] false else raiseFatal d k 93 0x2200 [k, lowest]
    modRail d k fun r => { r with ticks := 0, held := true, heldAt := d.mono }

/-- The rail has been at or above 96 % for 1 s: a control die restarts, and a pixel die's reset may be released (R423). The
stage is the one the rail gives: of the levels, only that of S1 lies above 96 %. DEDUCED: notes/assumptions/104.md. -/
def holdReleaseOp (d : Device) (k mv : Nat) : Device :=
  let r := railAt d k
  if !r.held ∨ 2 * mv < 1440 ∨ d.mono < r.heldAt + 1000000000 then d
  else
    let real := if 2 * mv < entryLevel 1 ∧ 1 ≤ r.real then 1 else 0
    let old := (railAt d k).stage
    let new := max real (min r.forced 4)
    let d := modRail d k fun r => { r with held := false, mv := mv, real := real, stage := new, stageAt := if old = new then r.stageAt else d.mono }
    let d := if old = new then d else stageReport d k old new
    if k < 2 then controlUp d k else d

/-- SupplyTestStage (R426): forced stages of the six pixel dies. -/
def testStageOp (d : Device) (v : Nat) : Device :=
  forEach (setN d 0x2200 8 v) (List.range 6) fun d p =>
    let f := getField v (4 * p) 4
    let r := railAt d (dieNo p)
    if f = r.forced then d
    else
      let d := modRail d (dieNo p) fun r => { r with forced := f, stageAt := if f < r.forced then d.mono else r.stageAt }
      if r.stage < f then setStage d (dieNo p) f else d

/-! ### Crossings (R413) -/

def linkCode (k : LinkKind) : Nat := match k with
  | .saddle => 1
  | .spur => 2
  | .heartbeatWire => 3

/-- Whether dies k and o share a link of a kind. DEDUCED: notes/assumptions/162.md. -/
def linked (kind : LinkKind) (k o : Nat) : Bool := match kind with
  | .saddle => decide (k < 2 ∧ 2 ≤ o ∨ o < 2 ∧ 2 ≤ k)
  | .spur => decide (2 ≤ k ∧ 2 ≤ o ∧ ((k - 2 + 1) % 6 = o - 2 ∨ (o - 2 + 1) % 6 = k - 2))
  | .heartbeatWire => decide (k < 2 ∧ o < 2 ∧ k ≠ o)

/-- Tiles queued on die p toward die q are owed; records are discarded. -/
def spurDiscard (d : Device) (p q : Nat) : Device :=
  let ks := if (p + 1) % 6 = q then [0, 1] else [2, 3]
  forEach d ks fun d k =>
    let items := spurOutOf d p k
    let d := modQueue d p fun u => { u with spurOut := tdel u.spurOut k }
    forEach d items fun d x => match x with
      | .tile s dest i _ => owe d s dest [i]
      | _ => d

def peerResetOp (d : Device) (k : Nat) (kind : LinkKind) (o : Nat) : Device :=
  if !dieUp d k || dieUp d o || !linked kind k o || d.crossings.contains (k, linkCode kind, o) then d
  else
    let d := { d with crossings := d.crossings ++ [(k, linkCode kind, o)] }
    let d := if kind = .spur then spurDiscard d (k - 2) (o - 2) else if kind = .saddle ∧ o < 2 then spoilFlight d (k - 2) o else d
    raiseD d k 90 0 [linkCode kind, o + 1]

def peerUpOp (d : Device) (k : Nat) (kind : LinkKind) (o : Nat) : Device :=
  if dieUp d k && dieUp d o && d.crossings.contains (k, linkCode kind, o) then
    raiseD { d with crossings := d.crossings.filter (· != (k, linkCode kind, o)) } k 91 0 [linkCode kind, o + 1]
  else d

/-! ### Thermal trip (R463) -/

def thermnAssertOp (d : Device) (k : Nat) (temp : Int) : Device :=
  if d.pins.pwrgood ∧ 108 ≤ temp ∧ !d.pins.thermn.contains k then { d with pins := { d.pins with thermn := d.pins.thermn ++ [k] } } else d

def thermnReleaseOp (d : Device) (temps : List Int) : Device :=
  if temps.all (· ≤ 100) then { d with pins := { d.pins with thermn := [] } } else d

/-! ### The meanings -/

def execPwrgoodRise (dt : Nat) (s : State) := act dt s pwrgoodRiseOp
def execPwrgoodFall (dt : Nat) (s : State) := act dt s pwrgoodFallOp
def execResetnLow (dt : Nat) (s : State) := act dt s resetnLowOp
def execResetnRise (dt : Nat) (s : State) := act dt s resetnRiseOp
def execPllLockAcquired (dt : Nat) (k : AnyDie) (s : State) := act dt s fun d => pllLockOp d k
def execOscillatorReady (dt : Nat) (k : AnyDie) (straps : Fin 8) (s : State) := act dt s fun d => oscReadyOp d k straps
def execCrystalStartDelayEnd (dt : Nat) (c : Ctl) (s : State) := act dt s fun d => crystalStartOp d c
def execCrystalQualifyTimeout (dt : Nat) (c : Ctl) (s : State) := act dt s fun d => crystalTimeoutOp d c
def execFreqWindowEnd (dt : Nat) (k : AnyDie) (count : Nat) (s : State) := act dt s fun d => freqWindowOp d k count
def execMissingEdge (dt : Nat) (k : AnyDie) (s : State) := act dt s fun d => missingEdgeOp d k
def execClockHoldoverTimeout (dt : Nat) (k : AnyDie) (s : State) := act dt s fun d => holdoverTimeoutOp d k
def execPllFault (dt : Nat) (k : AnyDie) (pll : Pll) (s : State) := act dt s fun d => pllFaultOp d k pll
def execSupplyDwellExpiry (dt : Nat) (k : AnyDie) (level : Fin 5) (mv : Nat) (s : State) := act dt s fun d => dwellOp d k level mv
def execSupplyRecoveryExpiry (dt : Nat) (k : AnyDie) (mv : Nat) (s : State) := act dt s fun d => recoveryOp d k mv
def execSupplyBrownout (dt : Nat) (k : AnyDie) (lowest : Nat) (s : State) := act dt s fun d => brownoutOp d k lowest
def execSupplyHoldRelease (dt : Nat) (k : AnyDie) (mv : Nat) (s : State) := act dt s fun d => holdReleaseOp d k mv
def execD2dPeerReset (dt : Nat) (k : AnyDie) (kind : LinkKind) (o : AnyDie) (s : State) := act dt s fun d => peerResetOp d k kind o
def execD2dPeerUp (dt : Nat) (k : AnyDie) (kind : LinkKind) (o : AnyDie) (s : State) := act dt s fun d => peerUpOp d k kind o
def execThermnAssert (dt : Nat) (k : AnyDie) (temp : Int) (s : State) := act dt s fun d => thermnAssertOp d k temp
def execThermnRelease (dt : Nat) (temps : List Int) (s : State) := act dt s fun d => thermnReleaseOp d temps

end Sys2Proof.Machine
end

