-- ==== Sys2Proof/Machine/Redundancy.lean ====
section
/-! DEFINITION. The two control dies: heartbeats, tokens, checkpoints, comparisons, drills, handover and the steps of a firmware
update (R364 to R369, R371 to R374, R377 to R383, R385, R386). -/

namespace Sys2Proof.Machine

def otherCtl (c : Nat) : Nat := 1 - c
def roleOf (d : Device) (c : Nat) : Nat := (ctlAt d c).role
def setRole (d : Device) (c r : Nat) : Device := modCtl d c fun x => { x with role := r }
/-- A die becomes ACTIVE; at the end of start-up NMT is OPERATIONAL (R309). Its SRAM no longer holds checkpoints. (R2, R5.) -/
def nowActive (d : Device) (c : Nat) : Device :=
  let d := { d with can := { d.can with nmt := if d.can.nmt = 0 then 3 else d.can.nmt }, sup := { d.sup with started := true } }
  modCtl d c fun x =>
    { x with role := 3, bootAt := d.mono, takeover := none, minority := none, lost := false,
             slot0 := { CkptSlot.reset with st := 1 }, slot1 := { CkptSlot.reset with st := 1 } }

/-- The standby of the active die, in one of the given roles. -/
def standbyIn (d : Device) (roles : List Nat) : Option Nat := match activeCtl d with
  | none => none
  | some a => if ctlUp d (otherCtl a) ∧ roles.contains (roleOf d (otherCtl a)) then some (otherCtl a) else none

/-! ### Firmware slots (R385, R398) -/

/-- Slot i of a NOR, 0 A or 1 B: state and image. -/
def slotSt (f : Flash) (i : Nat) : Nat := if i = 0 then f.slotA else f.slotB
def slotImg (f : Flash) (i : Nat) : List Byte := if i = 0 then f.imageA else f.imageB
def putSlotSt (f : Flash) (i st : Nat) : Flash := if i = 0 then { f with slotA := st } else { f with slotB := st }
def putSlotImg (f : Flash) (i : Nat) (b : List Byte) : Flash := if i = 0 then { f with imageA := b } else { f with imageB := b }
/-- The first slot in a state. -/
def slotIn (f : Flash) (st : Nat) : Option Nat := if f.slotA = st then some 0 else if f.slotB = st then some 1 else none
/-- Every slot in state `a` takes state `b`. -/
def slotsFrom (f : Flash) (a b : Nat) : Flash :=
  { f with slotA := if f.slotA = a then b else f.slotA, slotB := if f.slotB = a then b else f.slotB }

/-- FirmwareSecurityVersion (R349). -/
def fwSecurity (d : Device) : Nat := max Config.otpSecurityVersion d.pins.secVer
/-- The image die c runs. -/
def runningImage (d : Device) (c : Nat) : List Byte := slotImg (norOf d c) ((ctlAt d c).booted - 1)

def setFwUpdate (d : Device) (st result : Nat) : Device :=
  setN { d with sup := { d.sup with fwState := st } } 0x2520 9 result

/-! ### Firmware selection (R348, R385) -/

def imageOk (d : Device) (b : List Byte) : Bool := Config.imageSigned b && decide (fwSecurity d ≤ Config.imageSecurityVersion b)

/-- The slot the boot ROM selects. -/
def bootChoice (f : Flash) : Option Nat :=
  match (if f.used then none else slotIn f 3) with
  | some i => some i
  | none => match slotIn f 4 with
    | some i => some i
    | none => slotIn f 5

def firmwareRefused (d : Device) (c : Nat) : Device := raise d c 59 0x2520

/-- The slot die c boots: the one selected, else the other one when its image passes. A selected TRIAL is consumed, and
REJECTED when its image fails. DEDUCED: notes/assumptions/124.md. -/
def bootSelect (d : Device) (c : Nat) : Device × Option Nat := match bootChoice (norOf d c) with
  | none => (firmwareRefused d c, none)
  | some i =>
    let trial := slotSt (norOf d c) i == 3
    let d := if trial then modNor d c fun f => { f with used := true } else d
    if imageOk d (slotImg (norOf d c) i) then (d, some i)
    else
      let d := firmwareRefused (if trial then modNor d c fun f => putSlotSt f i 6 else d) c
      let f := norOf d c
      if 2 ≤ slotSt f (1 - i) ∧ imageOk d (slotImg f (1 - i)) then (d, some (1 - i)) else (firmwareRefused d c, none)

/-- The image to boot, chosen as at boot, is loaded into die c's retained SRAM (R372, R385). -/
def retain (d : Device) (c : Nat) : Device :=
  let r := bootSelect d c
  modCtl r.1 c fun x => { x with mirrored := [], retained := r.2.map fun i => (i, slotImg (norOf r.1 c) i) }
/-- Die c becomes COLD, or stays cold as SUSPECT (R381). -/
def goCold (d : Device) (c : Nat) : Device := setRole (retain d c) c 4
def goSuspect (d : Device) (c : Nat) : Device := setRole (retain d c) c 8

/-- The retained image is verified again as at boot and runs (R370, R379); the die is FAILED where it does not pass. -/
def wakeRetained (d : Device) (c : Nat) : Device × Bool := match (ctlAt d c).retained with
  | none => (setRole (firmwareRefused d c) c 9, false)
  | some (i, b) => if imageOk d b then (modCtl d c fun x => { x with booted := i + 1 }, true) else (setRole (firmwareRefused d c) c 9, false)

/-! ### Checkpoints (R372 to R376) -/

/-- Whether a subindex is the supervisor's own or staged, so that a checkpoint carries it, the liveness policy with its lock, the bundle's
serial and digest and the state of the ceremony and of an update included (R376): status belongs to the units, and what takes effect
at once lies in them. DEDUCED: notes/assumptions/193.md. -/
def supHeld (key : Nat) : Bool := match objOf (keyIdx key) with
  | none => false
  | some (base, _) =>
    base == 0x5C00 || base == 0x4A00 || (base == 0x2500 && [0x0B, 0x0C, 0x0D, 0x13, 0x16, 0x18].contains (keySub key)) || (base == 0x2520 && keySub key == 9) ||
    ((base < 0x3000 && base != 0x2100 && base != 0x2110) || [0x4000, 0x4800, 0x4900, 0x4A00, 0x6000].contains base || base % 256 == 0x60) &&
    match findEntry (keySub key) (entriesOf base) with
      | some e => e.acc != .ro
      | none => false

def owners (d : Device) : List (Nat × Nat) :=
  d.layers.filterMap fun (e : Nat × LayerUnit) => e.2.owner.map fun k => (e.1, k)

/-- Slot i of die c. -/
def ckptAt (x : CtlDie) (i : Nat) : CkptSlot := if i = 0 then x.slot0 else x.slot1
def putCkpt (x : CtlDie) (i : Nat) (s : CkptSlot) : CtlDie := if i = 0 then { x with slot0 := s } else { x with slot1 := s }

/-- Bytes of a list, its length first. -/
def listBytes {α : Type} (f : α → List Byte) (l : List α) : List Byte := beBytes 4 l.length ++ l.flatMap f
def optBytes {α : Type} (f : α → List Byte) (o : Option α) : List Byte := listBytes f o.toList
def endpointBytes (e : Endpoint) : List Byte := beBytes 4 e.ip ++ beBytes 2 e.udp
def leafBytes (b : List Byte) : List Byte := listBytes (fun x => [x]) b

/-- A session in a checkpoint: keys, roles, sequences, stored responses, peer, TPP endpoint, and the events and touch reports delivered. -/
def sessionBytes (x : Session) : List Byte :=
  beBytes 1 x.state ++ beBytes 1 x.roles ++ endpointBytes x.peer ++ beBytes 1 x.port ++ leafBytes x.leaf ++ beBytes 8 x.openedAt ++ beBytes 4 x.top ++
  beBytes 4 x.counter ++ leafBytes x.keys ++ optBytes endpointBytes x.endpoint ++
  listBytes (fun a => beBytes 4 a.seq ++ beBytes 1 a.status ++ beBytes 1 a.op ++ beBytes 2 a.idx ++ beBytes 1 a.sub ++ leafBytes a.payload) x.answers ++
  listBytes recBytes x.events ++ listBytes (fun e => beBytes 1 e.1 ++ beBytes 4 e.2) x.touches

/-- What the supervisor itself holds, in a checkpoint. -/
def supBytes (s : Sup) : List Byte :=
  listBytes (fun e => beBytes 1 e.1 ++ sessionBytes e.2) s.sessions ++
  listBytes (fun t => beBytes 1 t.tpdo ++ beBytes 1 t.base ++ beBytes 8 t.time ++ [if t.late then 1 else 0]) s.telegrams ++
  listBytes (fun e => beBytes 1 e.1 ++ listBytes (beBytes 1) e.2.waiting ++ listBytes (beBytes 1) e.2.missed ++ listBytes (beBytes 1) e.2.refused ++
    optBytes (beBytes 1) e.2.session) s.scenes ++
  [if s.dbg.opened then 1 else 0, if s.dbg.closing then 1 else 0] ++ leafBytes s.dbg.challenge ++ optBytes (beBytes 8) s.dbg.since ++ beBytes 8 s.dbg.openedAt ++
  optBytes (fun a => leafBytes a.1 ++ leafBytes a.2) s.dbg.maint ++ optBytes (fun a => leafBytes a.1 ++ leafBytes a.2) s.dbg.audit ++
  listBytes (fun e => beBytes 1 e.1 ++ padTo 32 e.2) s.meas ++ beBytes 1 s.fwState ++ beBytes 1 s.ruleLocked ++ leafBytes s.fwImage ++
  listBytes (fun e => beBytes 1 e.1 ++ beBytes 4 e.2) s.delivered

/-- A microcode update state. -/
def mcBytes (u : McUnit) : List Byte :=
  beBytes 1 u.state0 ++ beBytes 1 u.state1 ++ beBytes 1 u.running ++ optBytes (beBytes 6) u.armed ++ beBytes 4 u.probation ++ optBytes sha256 u.install

/-- The payload of a slot (R376), in a layout of the model's own: the spec lays down none. DESIGN CHOICE: notes/assumptions/191.md. -/
def CkptSlot.payload (s : CkptSlot) : List Byte :=
  let cell (e : Nat × Val) : List Byte := beBytes 4 e.1 ++ (match e.2 with
    | .num n => beBytes 8 n
    | .bytes b => b)
  supBytes s.sup ++ s.rec_.flatMap cell ++ s.regs.flatMap cell ++ s.owners.flatMap (fun e => beBytes 2 e.1 ++ beBytes 1 e.2) ++
  listBytes (fun e => beBytes 1 e.1 ++ mcBytes e.2) s.mcs ++ beBytes 4 s.auditHead ++ s.tail.flatMap auditBytes

/-- The most bytes a payload has (R373). -/
def payloadLimit : Nat := 1835008

/-- The commit record of slot i (R373). -/
def commitRecord (i : Nat) (s : CkptSlot) : List Byte :=
  let p := s.payload
  let head := beBytes 2 0xCE75 ++ beBytes 1 1 ++ beBytes 1 i ++ beBytes 8 s.seq ++ beBytes 4 p.length ++ beBytes 8 s.tb3 ++ beBytes 4 0
  head ++ beBytes 4 (crc32c (p ++ head))

/-- Whether a slot is valid: its magic, version and number are right and its CRC-32C matches (R82, R373). -/
def slotValid (i : Nat) (s : CkptSlot) : Bool :=
  let r := s.record
  r.take 4 == beBytes 2 0xCE75 ++ beBytes 1 1 ++ beBytes 1 i && r.length == 32 && decide (s.payload.length ≤ payloadLimit) &&
  bigEndian ((r.drop 12).take 4) == s.payload.length && bigEndian (r.drop 28) == crc32c (s.payload ++ r.take 28)

/-- The slot with the newest valid commit. -/
def newestSlot (x : CtlDie) : Option Nat :=
  if slotValid 0 x.slot0 ∧ (!slotValid 1 x.slot1 ∨ x.slot1.seq < x.slot0.seq) then some 0 else if slotValid 1 x.slot1 then some 1 else none

/-- The slot a commit writes. -/
def spareSlot (x : CtlDie) : Nat := if newestSlot x = some 0 then 1 else 0

def ckptCapture (d : Device) (a seq : Nat) : CkptSlot :=
  { st := 2, seq := seq, tb3 := (ctlAt d a).tb3.ns % 2 ^ 63,
    sup := { d.sup with delivered := (List.range 8).map fun k => (k, (ringAt d k).last) }, rec_ := d.record,
    regs := d.regs.filter fun e => supHeld e.1, owners := owners d, mcs := tmap (fun _ m => { m with image0 := [], image1 := [] }) d.mcs,
    auditHead := auditHead d, tail := d.audit.filter fun r => d.awaiting.contains r.num, record := List.replicate 32 0 }

/-- The roles whose die takes checkpoints (R374, R381). DESIGN CHOICE: notes/assumptions/106.md. -/
def ckptRoles : List Nat := [4, 5, 6, 7, 8]

/-- A commit begins: the slot that does not hold the newest valid commit is written. DESIGN CHOICE: notes/assumptions/121.md. -/
def ckptStart (d : Device) : Device := match activeCtl d, standbyIn d ckptRoles with
  | some a, some o =>
    if !peerPath d then d
    else if barred d a 5 false then accessDenied d a 5 false
    else if barred d o 5 true then accessDenied d o 5 true
    else modCtl d o fun x => putCkpt x (spareSlot x) (ckptCapture d a (regN d 0x2310 1 % 2 ^ 63 + 1))
  | _, _ => d

/-- The slot in writing, if the commit goes on. -/
def ckptWriting (d : Device) : Option (Nat × Nat) := match standbyIn d ckptRoles with
  | none => none
  | some o => if !peerPath d then none else if (ctlAt d o).slot0.st = 2 then some (o, 0) else if (ctlAt d o).slot1.st = 2 then some (o, 1) else none

/-- The commit record is written: the slot is valid, and the audit records it carries are programmed into the standby's NOR, so that both
hold one chain (R359). The duration is open within R374. -/
def ckptFinish (d : Device) (o i : Nat) : Device :=
  let s := ckptAt (ctlAt d o) i
  let d := modCtl (logProgram d o s.auditHead) o fun x => putCkpt x i { s with st := 3, record := commitRecord i s }
  let d := setN d 0x2310 1 (2 ^ 63 + s.seq % 2 ^ 63)
  let d := setN d 0x2310 3 (2 ^ 31 + s.payload.length)
  let d := bump (setN d 0x2310 4 (2 ^ 63 + s.tb3)) 0x2310 5
  spend (setN d 0x2310 6 (2 ^ 15 + max (regN d 0x2310 6 % 2 ^ 15) (freshVal d % 101)))

/-! ### Comparisons (R377 to R379, R382, R386) -/

/-- Matching digests a run needs. -/
def cmpLength (kind : Nat) : Nat := if kind = 1 ∨ kind = 6 then 60 else 600

def startCompare (d : Device) (kind failed : Nat) : Device :=
  { d with cmp := { CompareUnit.reset with kind := kind, shown := 2, failed := failed } }
def endCompare (d : Device) (shown : Nat) : Device := { d with cmp := { CompareUnit.reset with shown := shown, matched := d.cmp.matched } }

/-- The most bytes of mirrored requests that the shadow's SRAM holds (R372). -/
def mirrorLimit : Nat := 1048576

/-- A request executed while a die shadows joins the digest of the tick, and reaches the shadow over the peer path, which executes it from
there (R377). DEDUCED: notes/assumptions/212.md. -/
def noteRequest (d : Device) (idx sub code : Nat) (v : List Byte) : Device :=
  if d.cmp.kind = 0 then d
  else
    let n := beBytes 2 idx ++ beBytes 1 sub ++ beBytes 1 code ++ sha256 v
    let d := { d with cmp := { d.cmp with decided := d.cmp.decided ++ n } }
    if !d.cmp.based ∨ !peerPath d then d
    else forEach d [0, 1] fun d c =>
      if [5, 7].contains (roleOf d c) ∧ (ctlAt d c).mirrored.length + n.length ≤ mirrorLimit then
        modCtl d c fun x => { x with mirrored := x.mirrored ++ n } else d

/-- The entries of a store that differ from an earlier one; an entry gone reads its reset value. -/
def storeDiff (old new : Table Val) : Table Val :=
  (new.filter fun e => tfind old e.1 != some e.2) ++
  ((old.filter fun e => (tfind new e.1).isNone).map fun e => (e.1, keyReset e.1))

def pendingList (d : Device) : List (Nat × Nat) :=
  (d.sup.scenes.flatMap fun (e : Nat × SceneUnit) => e.2.waiting.map fun n => (e.1, n)) ++
  d.sup.telegrams.map fun t => (t.tpdo * 256 + t.base, t.time)

/-- The leader's decision digest of a tick. -/
def decisionDigest (d : Device) : List Byte :=
  sha256 (d.cmp.decided ++ Config.recordImage (storeDiff d.cmp.base d.record) ++ Config.pendingImage (pendingList d) ++
    ((d.audit.filter fun r => decide (d.cmp.auditAt < r.num)).flatMap fun r => (auditBytes r).take 12 ++ ((auditBytes r).drop 21).take 39) ++
    ruleDigest (ruleCopyAt d (supDie d)) ++ padTo 32 (regB d 0x2500 0x0D))

/-- At the leader's close the base checkpoint is made; a run counts from there. -/
def cmpBase (d : Device) : Device :=
  if d.cmp.kind = 0 ∨ d.cmp.kind = 6 ∨ d.cmp.based ∨ !peerPath d then d
  else { d with cmp := { d.cmp with based := true, base := d.record, auditAt := auditHead d, decided := [] } }

/-- The end of an election (R378). -/
def electionEnd (d : Device) (standby : Nat) : Device := match activeCtl d with
  | none => d
  | some a =>
    let d := { d with sup := { d.sup with drillAt := d.mono } }
    let d := forEach (nowActive d a) (List.range 12) deliverTouches
    if ctlUp d (otherCtl a) ∧ roleOf d (otherCtl a) = 2 then (if standby = 4 then goCold d (otherCtl a) else goSuspect d (otherCtl a)) else d

/-- The result of a drill (R379). -/
def drillResult (d : Device) (code : Nat) : Device := setN (setN d 0x2300 8 code) 0x2300 9 (tb3Stamp d (supDie d))

/-- The trial on the standby fails (R386 step 3). DEDUCED: notes/assumptions/117.md. -/
def trialFailed (d : Device) (result : Nat) : Device := match activeCtl d with
  | none => d
  | some a =>
    let o := otherCtl a
    let d := modNor d o fun f => slotsFrom f 3 6
    let d := modNor d a fun f => slotsFrom f 2 6
    let d := goCold d o
    let d := modCtl d o fun x => { x with booted := match x.retained with
        | some (i, _) => i + 1
        | none => x.booted }
    raise (setFwUpdate d 8 result) a 77 0x2520

/-- A digest differs or is late. -/
def mismatchOp (d : Device) : Device := match activeCtl d with
  | none => d
  | some a =>
    let o := otherCtl a
    let k := d.cmp.kind
    let d := { d with sup := { d.sup with handover := false } }
    if k = 1 then
      (if 3 ≤ d.cmp.failed + 1 then
        modCtl (raise (endCompare (electionEnd d 8) 4) a 73 0x2300) o fun x => { x with mismatch := true }
       else startCompare d 1 (d.cmp.failed + 1))
    else
      let d := modCtl (endCompare d 4) o fun x => { x with mismatch := true }
      if k = 2 then raise (drillResult (goSuspect d o) 2) a 75 0x2300
      else if k = 3 ∨ k = 7 then goSuspect d o
      else if k = 4 then modCtl (trialFailed d 6) o fun x => { x with mismatch := false }
      else setFwUpdate (goSuspect d o) 8 6

/-- At a tick: a digest that the shadow has not answered is late (R377), and the next is formed, the mirrored requests executed; a leader
that runs alone counts its ticks. -/
def cmpTick (d : Device) : Device :=
  if d.cmp.kind = 6 then
    (if (activeCtl d).isNone then d
     else if 60 ≤ d.cmp.matched + 1 then
      let a := supDie d
      raise (endCompare (electionEnd d 4) 1) a 66 0x2300
     else { d with cmp := { d.cmp with matched := d.cmp.matched + 1 } })
  else if d.cmp.kind = 0 ∨ !d.cmp.based then d
  else if d.cmp.digest ≠ [] then mismatchOp d
  else
    let d := forEach d [0, 1] fun d c => if (ctlAt d c).mirrored = [] then d else modCtl d c fun x => { x with mirrored := [] }
    { d with cmp := { d.cmp with digest := decisionDigest d, decided := [], base := d.record, auditAt := auditHead d, formedAt := d.mono } }

/-- The shadow's digest arrives over the peer path: a mismatch when it differs or comes later than 2 ms after the tick (R377). -/
def shadowDigestOp (d : Device) (dg : List Byte) : Device :=
  if d.cmp.kind = 0 ∨ d.cmp.kind = 6 ∨ d.cmp.digest = [] ∨ !peerPath d then d
  else if dg = d.cmp.digest ∧ d.mono ≤ d.cmp.formedAt + 2000000 then { d with cmp := { d.cmp with matched := d.cmp.matched + 1, digest := [] } }
  else mismatchOp d

def digestLateOp (d : Device) : Device :=
  if d.cmp.kind = 0 ∨ d.cmp.kind = 6 ∨ d.cmp.digest = [] ∨ d.mono < d.cmp.formedAt + 2000000 then d else mismatchOp d

/-- Control is to be handed over, from the next close on. -/
def wantHandover (d : Device) : Device := { d with sup := { d.sup with handover := true } }
/-- A COLD die that is to take control boots its retained image and shadows first (R383). -/
def handoverBegin (d : Device) : Device :=
  if !d.sup.handover || d.cmp.kind != 0 then d
  else match standbyIn d [4] with
    | none => d
    | some o =>
      let w := wakeRetained d o
      if w.2 then startCompare (setRole w.1 o 7) 7 0 else w.1
/-- A run that has passed goes on until the handover it leads to. -/
def passHandover (d : Device) : Device := wantHandover { d with cmp := { d.cmp with shown := 3 } }
/-- RedPreferredDie as a die number. -/
def preferred (d : Device) : Nat := regN d 0x2300 1 - 1

/-- The update is complete (R386 step 6). -/
def updateDone (d : Device) : Device :=
  let d := forEach d [0, 1] fun d c =>
    let i := (ctlAt d c).booted - 1
    modNor d c fun f => putSlotSt (putSlotSt f i 4) (1 - i) (if slotSt f (1 - i) = 4 ∨ slotSt f (1 - i) = 5 then 5 else slotSt f (1 - i))
  auditDev (raise (setFwUpdate d 7 1) (supDie d) 78 0x2520) 17 0x25200000 []

/-- The required count of matching digests is reached. -/
def comparePassOp (d : Device) : Device := match activeCtl d with
  | none => d
  | some a =>
    let o := otherCtl a
    let k := d.cmp.kind
    if k = 0 ∨ k = 6 ∨ k = 7 ∨ d.sup.handover ∨ d.cmp.matched < cmpLength k then d
    else if k = 1 then electionEnd (endCompare d 3) 4
    else if k = 2 then raise (drillResult (goCold (endCompare d 3) o) 1) a 74 0x2300
    else if k = 3 then (if preferred d = o then passHandover d else goCold (endCompare d 3) o)
    else if k = 4 then passHandover (setFwUpdate d 5 1)
    else updateDone (goCold (endCompare d 3) o)

/-! ### Drills and commands (R379, R381, R396) -/

def anyShed (d : Device) (stage : Nat) : Bool := (List.range 8).any fun k => decide (stage ≤ (railAt d k).stage)
/-- A control die at S3 or deeper starts no drill (R424). -/
def ctlShed (d : Device) : Bool := decide (3 ≤ (railAt d 0).stage) || decide (3 ≤ (railAt d 1).stage)
def pixelBusy (d : Device) : Bool := (List.range 6).any fun p => [2, 3, 4, 5].contains (pixAt d p).state
def onProbation (d : Device) : Bool := d.mcs.any fun (e : Nat × McUnit) => 0 < e.2.probation
def updating (d : Device) : Bool := [2, 4, 5, 6].contains d.sup.fwState
def takingOver (d : Device) : Bool := [0, 1].any fun c => roleOf d c == 10

/-- Whether anything of R396 makes a command BUSY. DEDUCED: notes/assumptions/118.md. -/
def controlBusy (d : Device) : Bool := d.cmp.kind != 0 || updating d || takingOver d || pixelBusy d

/-- A drill starts: the cold die wakes, verifies its retained image again and shadows (R379). -/
def startDrill (d : Device) (o : Nat) : Device :=
  let w := wakeRetained { d with sup := { d.sup with drillAt := d.mono, drillDue := false } } o
  if w.2 then startCompare (modCtl w.1 o fun x => { x with role := 5, mismatch := false }) 2 0 else w.1

/-- A due drill starts at the first tick at which nothing stands in its way. -/
def drillTick (d : Device) : Device :=
  if !d.sup.drillDue || controlBusy d || onProbation d || anyShed d 4 || ctlShed d then d
  else match standbyIn d [4] with
    | some o => startDrill d o
    | none => d

def drillIntervalOp (d : Device) : Device :=
  let s := regN d 0x2300 7
  if s ≠ 0 ∧ (activeCtl d).isSome ∧ d.sup.drillAt + s * 10 ^ 9 ≤ d.mono ∧ (standbyIn d [4]).isSome then
    { d with sup := { d.sup with drillDue := true } }
  else d

/-- RedCommand: 1 drill now, 2 hand over, 3 clear SUSPECT. DEDUCED: notes/assumptions/107.md. -/
def redCommandOp (d : Device) (v : Nat) : Device :=
  match standbyIn d (if v = 3 then [8] else [4]) with
  | none => setN d 0x2300 0x0D 2
  | some o =>
    if controlBusy d ∨ d.sup.handover ∨ (v ≠ 2 ∧ onProbation d) then setN d 0x2300 0x0D 3
    else if v ≠ 2 ∧ (anyShed d 4 ∨ ctlShed d) then setN d 0x2300 0x0D 4
    else if v = 2 then wantHandover (setN d 0x2300 0x0D 1)
    else startDrill (setN d 0x2300 0x0D 1) o

/-! ### Heartbeats (R365, R366, R462) -/

/-- Whether a path is silent at die c: HBTEST holds WIRE silent. -/
def wireSilent (d : Device) (c : Nat) : Bool := (ctlAt d c).silentW || d.pins.hbtest
def bothSilent (d : Device) (c : Nat) : Bool := (ctlAt d c).silentS && wireSilent d c

/-- The active die's heartbeats and the cold die's beacons leave, and HBMON follows the wire (R461); the pixel dies that forward
them hear their sender. A heartbeat carries the count and the sequence of the last commit, a beacon the die's state (R365, R374). DEDUCED: notes/assumptions/134.md. -/
def heartbeatSendOp (d : Device) : Device :=
  forEach d [0, 1] fun d c =>
    if ctlUp d c ∧ (isActive d c ∨ [4, 5, 6, 7, 8].contains (roleOf d c)) then
      let d := modCtl { d with pins := { d.pins with hbmon := d.pins.hbmon.set c !(d.pins.hbmon.getD c false) } } c fun x =>
        { x with beat := (x.beat + 1) % 2 ^ 32, beatSeq := if isActive d c then regN d 0x2310 1 % 2 ^ 63 else x.beatSeq, beatState := x.role }
      forEach d (List.range 6) fun d p => if pixUp d p ∧ (pixAt d p).state = 1 then modPix d p fun q => { q with heard := q.heard.set c d.mono } else d
    else d

/-- The paths of die c are judged: HEARTBEAT_PATH_DOWN for one that is silent while the other is alive, HEARTBEAT_PATH_UP when it
returns (R366). -/
def pathJudge (d : Device) (c : Nat) : Device :=
  let s := (ctlAt d c).silentS
  let w := wireSilent d c
  let down (d : Device) (now other was : Bool) (set_ : CtlDie → Bool → CtlDie) : Device :=
    if now ∧ !other ∧ !was then raise (modCtl d c fun x => set_ x true) c 64 0x2300
    else if !now ∧ was then raise (modCtl d c fun x => set_ x false) c 65 0x2300 else d
  let d := down d s w (ctlAt d c).downS fun x b => { x with downS := b }
  down d w s (ctlAt d c).downW fun x b => { x with downW := b }

/-- A path brings something again: nothing is lost any more. -/
def pathBack (d : Device) (c : Nat) : Device := pathJudge (modCtl d c fun x => { x with lost := false, minority := none }) c

/-- What die c learns from what the other die sent last over SADDLE: sender, count, and checkpoint sequence or state (R365). -/
def beatFrom (d : Device) (c : Nat) : Nat × Nat × Nat :=
  let o := otherCtl c
  (o + 1, (ctlAt d o).beat, if isActive d o then (ctlAt d o).beatSeq else (ctlAt d o).beatState)

def heartbeatArrivalOp (d : Device) (c : Nat) (path : HbPath) : Device :=
  if !ctlUp d c then d
  else match path with
    | .saddle p =>
      if pixUp d p ∧ (pixAt d p).state = 1 then
        pathBack (modCtl d c fun x => { x with heardS := d.mono, silentS := false, gotBeat := some (beatFrom d c) }) c
      else d
    | .wire =>
      if d.pins.hbtest then d
      else pathBack (modCtl d c fun x => { x with heardW := d.mono, silentW := false }) c

/-- A path has been silent for 3 ms. -/
def pathSilentOp (d : Device) (c : Nat) (path : HbPath) : Device :=
  if !ctlUp d c then d
  else
    let x := ctlAt d c
    match path with
    | .saddle _ => if x.silentS ∨ d.mono < x.heardS + 3000000 then d else pathJudge (modCtl d c fun x => { x with silentS := true }) c
    | .wire => if x.silentW ∨ d.mono < x.heardW + 3000000 then d else pathJudge (modCtl d c fun x => { x with silentW := true }) c

def hbtestHighOp (d : Device) : Device :=
  if d.pins.hbtest ∨ !d.pins.pwrgood then d
  else forEach { d with pins := { d.pins with hbtest := true } } [0, 1] fun e c => if ctlUp e c then pathJudge e c else e

def hbtestLowOp (d : Device) : Device :=
  if !d.pins.hbtest then d
  else forEach { d with pins := { d.pins with hbtest := false } } [0, 1] fun d c =>
    if ctlUp d c then pathBack (modCtl d c fun x => { x with heardW := d.mono, silentW := false }) c else d

/-! ### Takeover and tokens (R367 to R371, R380, R381) -/

/-- Whether die c may take over when the active one falls silent. -/
def mayTakeOver (d : Device) (c : Nat) : Bool :=
  let x := ctlAt d c
  x.role == 4 || x.role == 6 || ((x.role == 5 || x.role == 7) && !x.mismatch) || (x.role == 8 && regT d 0x2300 0x0B)

def beginTakeover (d : Device) (c : Nat) : Device :=
  let x := ctlAt d c
  modCtl d c fun y => { y with role := 10, was := if x.role = 5 ∨ x.role = 7 then 4 else x.role,
                               warm := (x.role == 5 || x.role == 7) && d.cmp.based, takeover := some d.mono, retry := d.mono }

def bothSilentOp (d : Device) (c : Nat) : Device :=
  let x := ctlAt d c
  if !ctlUp d c || !bothSilent d c || decide (d.mono < x.heardS + 5000000) || (!d.pins.hbtest && decide (d.mono < x.heardW + 5000000)) then d
  else if isActive d c then
    (if x.lost then d else raise (modCtl d c fun x => { x with lost := true }) c 66 0x2300)
  else if mayTakeOver d c ∧ x.minority.isNone ∧ (railAt d c).stage < 3 then raise (beginTakeover d c) c 68 0x2300
  else d

/-- Whether die c is the one that collects tokens in an election. DESIGN CHOICE: notes/assumptions/14.md. -/
def leads (d : Device) (c : Nat) : Bool :=
  roleOf d c == 2 && (0 < (tokensOf d c).length || ((tokensOf d (otherCtl c)).isEmpty &&
    (preferred d == c || !(ctlUp d (otherCtl c) && roleOf d (otherCtl c) == 2))))

/-- Whether pixel die p grants its token to die c (R368). -/
def grants (d : Device) (p c : Nat) : Bool :=
  let q := pixAt d p
  q.token == 1 || q.token == c + 2 || q.released || decide (q.heard.getD (otherCtl c) 0 + 5000000 ≤ d.mono)

/-- Whether die c requests tokens: never from S3 on (R424). -/
def asksTokens (d : Device) (c : Nat) : Bool :=
  ctlUp d c && decide ((railAt d c).stage < 3) && (leads d c || roleOf d c == 3 || roleOf d c == 10)

/-- TOKEN_REQUEST: pixel die p answers. -/
def tokenRequestOp (d : Device) (p c : Nat) : Device :=
  if pixUp d p && asksTokens d c && grants d p c then
    tokensMoved (modPix d p fun q => { q with token := c + 2, released := false })
  else d

/-- Every token of die c is returned. -/
def returnTokens (d : Device) (c : Nat) : Device :=
  tokensMoved (forEach d (List.range 6) fun d p =>
    if (pixAt d p).token = c + 2 then modPix d p fun q => { q with token := 1, released := true } else d)

/-- The requests are repeated every 100 µs, and a failed takeover begins again every 100 ms. -/
def tokenRetryOp (d : Device) (c : Nat) : Device :=
  let x := ctlAt d c
  if !ctlUp d c then d
  else if x.role = 10 then (if x.retry + 100000 ≤ d.mono then modCtl d c fun x => { x with retry := d.mono } else d)
  else match x.minority with
    | some t => if bothSilent d c ∧ mayTakeOver d c ∧ t + 100000000 ≤ d.mono ∧ (railAt d c).stage < 3 then beginTakeover d c else d
    | none => d

def noMajorityOp (d : Device) (c : Nat) : Device :=
  let x := ctlAt d c
  match x.takeover with
  | none => d
  | some t =>
    if x.role = 10 ∧ t + 20000000 ≤ d.mono ∧ (tokensOf d c).length < 4 then
      raise (modCtl (returnTokens d c) c fun x => { x with role := x.was, warm := false, takeover := none, minority := some d.mono }) c 67 0x2300
    else d

/-- An active die has held fewer than 4 tokens for 5 ms. DEDUCED: notes/assumptions/114.md. -/
def demotionOp (d : Device) (c : Nat) : Device :=
  if ctlUp d c ∧ roleOf d c = 3 ∧ (ctlAt d c).few.any (fun t => decide (t + 5000000 ≤ d.mono)) then
    noteFailed (raise (setRole (returnTokens d c) c 1) c 70 0x2300) c
  else d

/-! ### Handover (R383, R386 steps 4 and 5) -/

/-- What a handover does beyond moving control, when an update has brought it about. -/
def handoverUpdate (d : Device) (a o : Nat) : Device :=
  if d.sup.fwState ≠ 5 then goCold d a
  else
    let d := extendMeas d o 1 (sha256 (runningImage d o))
    let d := modNor d a fun f => match (slotIn f 2).orElse fun _ => slotIn f 5 with
      | some i => { putSlotSt f i 3 with used := false }
      | none => f
    setRole (setFwUpdate d 6 1) a 1

/-- Whether the shadow is ready to take control: it has shadowed since the base, and its digest for the last tick matched (R383). -/
def shadowReady (d : Device) : Bool := d.cmp.based && decide (1 ≤ d.cmp.matched) && d.cmp.digest == []

/-- MEAS3 to MEAS6 of die c are formed again from the list. DEDUCED: notes/assumptions/126.md. -/
def replayMeas (d : Device) (c : Nat) : Device :=
  let d := modCtl d c fun x => { x with meas := (List.range 8).map fun j => if 3 ≤ j ∧ j ≤ 6 then List.replicate 32 0 else measOf x j }
  forEach d d.sup.meas fun d e => extendDie d c e.1 e.2

/-- The planned handover at a close: the final checkpoint, the tokens to the shadow, which is ACTIVE with that tick (R383). Without a
die to hand over to, nothing comes of it. -/
def handoverNow (d : Device) : Device :=
  if !d.sup.handover || !peerPath d then d
  else match activeCtl d, standbyIn d [7] with
    | some a, some o =>
      if !shadowReady d then d
      else
        let back := d.cmp.kind == 3
        let d := endCompare { d with sup := { d.sup with handover := false } } 3
        let d := modCtl d o fun x => putCkpt x (spareSlot x) { ckptCapture d a (regN d 0x2310 1 % 2 ^ 63 + 1) with st := 2 }
        let d := ckptFinish d o (spareSlot (ctlAt d o))
        let d := tokensMoved (forEach d (List.range 6) fun d p =>
          if pixUp d p then modPix d p fun q => { q with token := o + 2, released := false } else d)
        let d := nowActive (replayMeas d o) o
        let d := if back then { d with sup := { d.sup with tookBack := tput d.sup.tookBack o d.mono } } else d
        let d := handoverUpdate d a o
        let d := bump d 0x2300 5
        auditDev (raise d o 76 0x2300) 14 0 (beBytes 8 (auditHead d))
    | _, _ => if (standbyIn d [4]).isSome then d else { d with sup := { d.sup with handover := false } }

/-- The hold-off of a recovering die ends (R382). -/
def holdoffEndOp (d : Device) (c : Nat) : Device :=
  let x := ctlAt d c
  if !ctlUp d c || x.role != 6 || decide (d.mono < x.bootAt + regN d 0x2300 0x0A * 10 ^ 9) || d.cmp.kind != 0 ||
      (activeCtl d).isNone then d
  else if d.sup.suspects.contains c then goSuspect { d with sup := { d.sup with suspects := d.sup.suspects.filter (· != c) } } c
  else startCompare (setRole d c 7) 3 0

/-! ### The meanings -/

def execHeartbeatSend (dt : Nat) (s : State) := act dt s heartbeatSendOp
def execHeartbeatArrival (dt : Nat) (c : Ctl) (path : HbPath) (s : State) := act dt s fun d => heartbeatArrivalOp d c path
def execHeartbeatPathSilent (dt : Nat) (c : Ctl) (path : HbPath) (s : State) := act dt s fun d => pathSilentOp d c path
def execBothPathsSilent (dt : Nat) (c : Ctl) (s : State) := act dt s fun d => bothSilentOp d c
def execTokenRequest (dt : Nat) (p : Die) (c : Ctl) (s : State) := act dt s fun d => tokenRequestOp d p c
def execTakeoverTokenRetry (dt : Nat) (c : Ctl) (s : State) := act dt s fun d => tokenRetryOp d c
def execTakeoverNoMajority (dt : Nat) (c : Ctl) (s : State) := act dt s fun d => noMajorityOp d c
def execControlDemotion (dt : Nat) (c : Ctl) (s : State) := act dt s fun d => demotionOp d c
def execShadowDigest (dt : Nat) (digest : List Byte) (s : State) := act dt s fun d => shadowDigestOp d digest
def execDigestLate (dt : Nat) (s : State) := act dt s digestLateOp
def execComparisonPass (dt : Nat) (s : State) := act dt s comparePassOp
def execDrillInterval (dt : Nat) (s : State) := act dt s drillIntervalOp
def execTakeBackHoldoffEnd (dt : Nat) (c : Ctl) (s : State) := act dt s fun d => holdoffEndOp d c
def execHbtestHigh (dt : Nat) (s : State) := act dt s hbtestHighOp
def execHbtestLow (dt : Nat) (s : State) := act dt s hbtestLowOp

end Sys2Proof.Machine
end

