-- ==== Sys2Proof/Machine/Protect.lean ====
section
/-! DEFINITION. The debug port, attestation, the TAP, firmware and microcode images, and the commands to pixel dies (R344 to
R352, R386 to R392, R469). -/

namespace Sys2Proof.Machine

/-! ### The debug port (R345 to R347) -/

def modDebug (d : Device) (f : DebugUnit → DebugUnit) : Device := { d with sup := { d.sup with dbg := f d.sup.dbg } }
def serial16 : List Byte := padTo 16 Config.serial

/-- The digest both approvals sign. -/
def approvalDigest (d : Device) : List Byte := sha256 (d.sup.dbg.challenge ++ serial16 ++ [1])

def debugStep (d : Device) (who : Nat) (roles sub code : Nat) : Device := auditAdd d 9 who roles (0x25000000 + sub * 256 + code) []

/-- DebugRequest 0x01, past its checks. -/
def debugRequestOp (d : Device) : Device :=
  if d.pins.fuse then setN d 0x2500 0x16 6
  else if d.sup.dbg.opened then d
  else
    let c := Config.randomBytes d.fresh
    let d := modDebug (spend d) fun u => { u with challenge := c, since := some d.mono, maint := none, audit := none }
    setB d 0x2500 0x13 (padTo 32 c)

/-- DebugRequest 0x02. -/
def debugCloseOp (d : Device) : Device := if d.sup.dbg.opened then modDebug d fun u => { u with closing := true } else d

/-- An approval by a session with leaf certificate `leaf`: the code of DebugResult. DEDUCED: notes/assumptions/120.md. -/
def approvalCode (d : Device) (sig leaf : List Byte) (other : Option (List Byte × List Byte)) : Nat :=
  if d.pins.fuse then 6
  else if d.sup.dbg.since.isNone ∨ !Config.ecdsaVerify (Config.leafKey leaf) (approvalDigest d) sig then 3
  else match other with
    | some (_, l) => if l = leaf then 4 else 2
    | none => 2

/-- Whether a challenge's 300 s have passed without both approvals (R346). -/
def challengeOver (d : Device) : Bool := match d.sup.dbg.since with
  | none => false
  | some t => decide (t + 300 * 10 ^ 9 ≤ d.mono) && (d.sup.dbg.maint.isNone || d.sup.dbg.audit.isNone)

def debugExpiryOp (d : Device) : Device :=
  if challengeOver d then
    debugStep (setN (modDebug d fun u => { u with since := none, maint := none, audit := none }) 0x2500 0x16 5) 0xFF 0 0x16 5
  else d

/-- An approval after the 300 s finds the challenge expired. -/
def debugApproveOp (d : Device) (maint : Bool) (sig leaf : List Byte) : Device :=
  if challengeOver d then debugExpiryOp d
  else
  let u := d.sup.dbg
  let code := approvalCode d sig leaf (if maint then u.audit else u.maint)
  let d := setN d 0x2500 0x16 code
  if code ≠ 2 then d
  else modDebug d fun u => if maint then { u with maint := some (sig, leaf) } else { u with audit := some (sig, leaf) }

def debugMaxOpenOp (d : Device) : Device :=
  let u := d.sup.dbg
  if u.opened ∧ u.openedAt + regN d 0x2500 0x17 * 10 ^ 9 ≤ d.mono then modDebug d fun u => { u with closing := true } else d

/-- The tick at which the port opens or closes. -/
def debugTick (d : Device) : Device :=
  if (activeCtl d).isNone then d
  else
    let c := supDie d
    let u := d.sup.dbg
    if u.opened ∧ (u.closing ∨ d.pins.fuse) then
      let d := modDebug d fun _ => DebugUnit.reset
      let d := auditDev (raise (setN d 0x2500 0x16 7) c 58 0x2500) 11 0x25000000 []
      extendMeas d c 6 (sha256 (beBytes 8 (regN d 0x2500 0x18)))
    else match u.since, u.maint, u.audit with
      | some _, some m, some a =>
        if d.pins.fuse ∨ u.opened then d
        else
          let d := modDebug d fun u => { u with opened := true, since := none, openedAt := d.mono, maint := none, audit := none, closing := false }
          let d := setN (setN d 0x2500 0x18 (tb3Stamp d c)) 0x2500 0x16 1
          let d := auditDev (raise d c 57 0x2500) 10 0x25000000 []
          extendMeas d c 6 (sha256 (u.challenge ++ m.1 ++ a.1))
      | _, _, _ => d

/-- DebugState. -/
def debugState (d : Device) : Nat :=
  if d.pins.fuse then 4 else if d.sup.dbg.opened then 3 else if d.sup.dbg.since.isSome then 2 else 1

/-! ### Attestation (R352) -/

def attestBody (d : Device) (nonce : List Byte) : List Byte :=
  let c := supDie d
  beBytes 2 0xCE73 ++ [1, BitVec.ofNat 8 (c + 1)] ++ serial16 ++ beBytes 8 Config.eui64 ++ padTo 32 nonce ++
  beBytes 8 ((ctlAt d c).tb3.ns % 2 ^ 63) ++ (List.range 8).flatMap (fun i => padTo 32 (measOf (ctlAt d c) i)) ++
  beBytes 8 (auditHead d) ++ padTo 32 (auditHeadHash d) ++ beBytes 2 (fwSecurity d) ++ [0, 0] ++ beBytes 8 (regN d 0x2500 0x0C) ++
  padTo 32 (ruleDigest (ruleCopyAt d c)) ++ [BitVec.ofNat 8 (debugState d), BitVec.ofNat 8 (policyLock d), 0, 0]

def attestOp (d : Device) (nonce : List Byte) : Device :=
  let b := attestBody d nonce
  setB d 0x2500 2 (b ++ padTo 64 (Config.deviceSign (sha256 b)))

/-! ### The TAP and the DEBUG master (R337, R340, R341, R344, R345, R469) -/

def memByte (d : Device) (addr : Nat) : Byte := tget d.memory addr (Config.addressByte addr)

/-- Writes bytes at an address; a byte that is what the address holds before any write is not listed. -/
def memWrite (d : Device) : Nat → List Byte → Device
  | _, [] => d
  | a, b :: r => memWrite { d with memory := tset (Config.addressByte a) d.memory a b } (a + 1) r

def tapSend (d : Device) (b : List Byte) : Device := send d 6 8 0 b
/-- The error response to a denied access, with the zeros of a read (R341). -/
def tapError (d : Device) (b : List Byte) : Device := send d 6 8 1 b

def tapAccess (d : Device) (addr len : Nat) (data : Option (List Byte)) : Device :=
  let k := addr / 2 ^ 44
  if !d.sup.dbg.opened || !dieUp d k || len == 0 then d
  else
    let x := ruleDecide (ruleCopyAt d k) 2 addr len data.isSome
    if x.1 then
      match data with
      | some b => memWrite d addr (b.take len)
      | none => tapSend d ((List.range len).map fun i => memByte d (addr + i))
    else
      let d := ruleDenied d k 2 addr data.isSome x.2
      tapError d (if data.isSome then [] else List.replicate len 0)

def tapOp (d : Device) (op : TapOp) : Device :=
  if !d.pins.pwrgood then d
  else match op with
    | .bypass => tapSend d []
    | .idcode => tapSend d (beBytes 4 0x47610CE7)
    | .sample => if d.pins.resetn then d else tapSend (spend d) (beBytes 4 (freshVal d))
    | .extest p => if d.pins.resetn then d else { d with pins := { d.pins with scan := p } }
    | .access a n b => if d.pins.resetn then tapAccess d a n b else d

/-! ### Firmware (R349, R385, R386) -/

/-- The slot of die c that a staged image goes into. -/
def freeSlot (d : Device) (c : Nat) : Nat := if slotSt (norOf d c) 0 = 4 ∨ (ctlAt d c).booted = 1 then 1 else 0

def fwStageCommitOp (d : Device) : Device :=
  let img := regB d 0x2520 5
  if updating d then setN d 0x2520 9 5
  else if !Config.imageSigned img then setN d 0x2520 9 2
  else if Config.imageSecurityVersion img < fwSecurity d then setN d 0x2520 9 3
  else
    let d := { d with sup := { d.sup with fwImage := img } }
    auditDev (setFwUpdate d 2 1) 17 0x25200601 (sha256 img)

/-- The image that was checked is programmed into both dies' free slots. -/
def fwStagingDoneOp (d : Device) : Device :=
  if d.sup.fwState ≠ 2 ∨ (activeCtl d).isNone then d
  else
    let img := d.sup.fwImage
    let d := forEach d [0, 1] fun d c => modNor d c fun f => putSlotSt (putSlotImg f (freeSlot d c) img) (freeSlot d c) 2
    setFwUpdate d 3 1

/-- FwActivate: 1 with the staged image, 2 with the FALLBACK one. DEDUCED: notes/assumptions/216.md. -/
def fwActivateOp (d : Device) (v : Nat) : Device :=
  match standbyIn d [4] with
  | none => setN d 0x2520 9 4
  | some o =>
    if updating d ∨ d.cmp.kind = 2 ∨ pixelBusy d then setN d 0x2520 9 5
    else if anyShed d 4 then setN d 0x2520 9 7
    else match slotIn (norOf d o) (if v = 1 then 2 else 5) with
      | none => setN d 0x2520 9 2
      | some i =>
        if v = 2 ∧ Config.imageSecurityVersion (slotImg (norOf d o) i) < fwSecurity d then setN d 0x2520 9 3
        else
          let d := modNor d o fun f => { putSlotSt f i 3 with used := false }
          auditDev (setRole (setFwUpdate d 4 1) o 1) 17 (0x25200700 + v) (sha256 (slotImg (norOf d o) i))

/-- Whether a FATAL record was formed in the last 60 s. DEDUCED: notes/assumptions/123.md. -/
def fatalLately (d : Device) : Bool := (List.range 8).any fun k => (ringAt d k).fatalAt.any fun t => decide (d.mono < t + 60 * 10 ^ 9)

def fwSecurityRaiseOp (d : Device) : Device := match activeCtl d with
  | none => d
  | some a =>
    let v := Config.imageSecurityVersion (runningImage d a)
    if fwSecurity d < v ∧ slotSt (norOf d a) ((ctlAt d a).booted - 1) = 4 ∧ (ctlAt d a).bootAt + 60 * 10 ^ 9 ≤ d.mono ∧ !fatalLately d then
      { d with pins := { d.pins with secVer := v } }
    else d

/-! ### Microcode (R387 to R389) -/

def mcObj (p : Nat) : Nat := pobj 0x3050 p
def mcRunning (u : McUnit) : List Byte := if u.running = 0 then u.image0 else u.image1
/-- DEDUCED: notes/assumptions/119.md. -/
def mcState (u : McUnit) (i : Nat) : Nat := if i = 0 then u.state0 else u.state1
def mcSetState (u : McUnit) (i st : Nat) : McUnit := if i = 0 then { u with state0 := st } else { u with state1 := st }
def mcLoad (u : McUnit) (i : Nat) (b : List Byte) (st : Nat) : McUnit := mcSetState (if i = 0 then { u with image0 := b } else { u with image1 := b }) i st

/-- The image of die p in the active die's NOR; key p the one to start on, 6 + p the one staged last, and 12 + p marks that the staged one
is to be installed at the die's next reset (R387). -/
def mcStored (d : Device) (p : Nat) : List Byte := match tfind (norOf d (supDie d)).micro p with
  | some b => b
  | none => Config.factoryMicrocode p
def mcStore (d : Device) (key : Nat) (b : List Byte) : Device := forEach d [0, 1] fun d c => modNor d c fun f => { f with micro := tput f.micro key b }

def mcMark (d : Device) (p : Nat) (on : Bool) : Device := forEach d [0, 1] fun d c => modNor d c fun f =>
  { f with micro := if on then tput f.micro (12 + p) [] else tdel f.micro (12 + p) }
/-- The image to install at the reset of die p. -/
def mcToInstall (d : Device) (p : Nat) : Option (List Byte) := match (mcAt d p).install with
  | some b => some b
  | none =>
    let m := (norOf d (supDie d)).micro
    if (tfind m (12 + p)).isSome then tfind m (6 + p) else none

/-- The checks of a staged image, common to 0x01 and 0x03: the code of McSwapResult. -/
def mcCheck (d : Device) (p : Nat) : Nat :=
  let u := mcAt d p
  if u.armed.isSome ∨ 0 < u.probation ∨ !pixUp d p then 4 else if !Config.imageSigned (regB d (mcObj p) 4) then 2 else 1

/-- The image takes the idle bank and the swap is armed for its TB1 time; what was to be installed is replaced. DEDUCED: notes/assumptions/232.md. -/
def mcArmOp (d : Device) (p : Nat) : Device :=
  let img := regB d (mcObj p) 4
  let u := mcAt d p
  let code := mcCheck d p
  if code ≠ 1 then setN d (mcObj p) 7 code
  else if Config.imageLayout img ≠ Config.imageLayout (mcRunning u) then setN d (mcObj p) 7 3
  else
    let at_ := regN d (mcObj p) 5
    let d := setMc (mcMark (mcStore d (6 + p) img) p false) p { mcLoad u (1 - u.running) img 2 with armed := some (if at_ = 0 then openTick d else at_), install := none }
    auditDev (setN d (mcObj p) 7 1) 17 (mcObj p * 65536 + 0x601) (sha256 img)

def mcCancelOp (d : Device) (p : Nat) : Device := setN (modMc d p fun u => { u with armed := none }) (mcObj p) 7 1

def mcInstallOp (d : Device) (p : Nat) : Device :=
  let img := regB d (mcObj p) 4
  let code := mcCheck d p
  if code ≠ 1 then setN d (mcObj p) 7 code
  else auditDev (setN (modMc (mcMark (mcStore d (6 + p) img) p true) p fun u => { u with install := some img }) (mcObj p) 7 1) 17 (mcObj p * 65536 + 0x603) (sha256 img)

/-- The swap takes effect at the tick edge of the first tick at or after its time, modulo 2^48 (R272, R388). -/
def mcSwapTick (d : Device) (p : Nat) : Device :=
  let u := mcAt d p
  match u.armed with
  | none => d
  | some t =>
    if diff48 (pixAt d p).tickAt t < 0 then d
    else
      let n := 1 - u.running
      let d := setMc d p { mcSetState u n 4 with running := n, armed := none, probation := regN d (mcObj p) 8 + 1, fault := false }
      let d := extendMeas d (supDie d) 2 (sha256 (mcRunning (mcAt d p)))
      let d := auditDev d 17 (mcObj p * 65536 + 0x601) (sha256 (mcRunning (mcAt d p)))
      raise (bump d (mcObj p) 9) (dieNo p) 79 (mcObj p)

/-- A fault in probation: back to the previous bank. -/
def mcRevertTick (d : Device) (p : Nat) : Device :=
  let u := mcAt d p
  if u.fault then
    let o := 1 - u.running
    let d := setMc d p { mcSetState (mcSetState u u.running 6) o 3 with running := o, probation := 0, fault := false }
    let d := handled (setN (bump d (mcObj p) 0x0A) (mcObj p) 7 5) (dieNo p) [95] (mcObj p)
    auditDev (raise d (dieNo p) 80 (mcObj p)) 17 (mcObj p * 65536 + 5) []
  else if 1 < u.probation then setMc d p { u with probation := u.probation - 1 } else d

def mcTick (d : Device) (p : Nat) : Device := mcSwapTick (mcRevertTick d p) p

def probationEndOp (d : Device) (p : Nat) : Device :=
  let u := mcAt d p
  if u.probation = 1 ∧ !u.fault then
    setMc (mcStore d p (mcRunning u)) p { mcSetState (mcSetState u u.running 3) (1 - u.running) 5 with probation := 0 }
  else d

/-- DEDUCED: notes/assumptions/112.md. -/
def mcFailOp (d : Device) (p : Nat) : Device :=
  if pixUp d p then
    let d := raise (modMc d p fun u => { u with fault := decide (0 < u.probation) }) (dieNo p) 95 (mcObj p)
    if 0 < (mcAt d p).probation then d else handled d (dieNo p) [95] (mcObj p)
  else d

/-- Microcode is loaded into die p (R348, R389): the installed image, else the stored one. A bad image leaves the die FAILED. -/
def loadMicro (d : Device) (p : Nat) : Device :=
  let img := (mcToInstall d p).getD (mcStored d p)
  if Config.imageSigned img then
    let d := if (mcToInstall d p).isSome then mcMark (mcStore d p img) p false else d
    let d := setMc d p { mcLoad (mcLoad McUnit.reset 0 img 3) 1 [] 1 with running := 0 }
    extendMeas d (supDie d) 2 (sha256 img)
  else handled (raise (modPix d p fun q => { q with state := 7, out := false }) (supDie d) 95 (mcObj p)) (supDie d) [95] (mcObj p)

/-! ### Commands to pixel dies (R390 to R392, R396) -/

/-- RedPixelCommand 1 and 2: RESET, RESET_WITH_REPAIR. -/
def pixelCommandOp (d : Device) (p : Nat) (repair : Bool) : Device :=
  let others := (List.range 6).filter (· != p)
  if (List.range 6).any (fun q => [2, 3, 4, 5].contains (pixAt d q).state) ∨ !pixUp d p then setN d 0x2300 0x11 3
  else if (others.filter fun q => (pixAt d q).state == 1).length < 4 then setN d 0x2300 0x11 5
  else setN (modPix d p fun q => { q with state := 2, greyLeft := 2, repair := repair }) 0x2300 0x11 1

def releaseHeldOp (d : Device) (p : Nat) : Device :=
  if (pixAt d p).state = 6 then setN (modPix d p fun q => { q with state := 3, resets := [] }) 0x2300 0x11 1
  else setN d 0x2300 0x11 6

/-! ### The meanings -/

def execDebugChallengeExpiry (dt : Nat) (s : State) := act dt s debugExpiryOp
def execDebugMaxOpenExpiry (dt : Nat) (s : State) := act dt s debugMaxOpenOp
def execDebugTapAccess (dt : Nat) (op : TapOp) (s : State) := act dt s fun d => tapOp d op
def execFwStagingDone (dt : Nat) (s : State) := act dt s fwStagingDoneOp
def execFwSecurityVersionRaise (dt : Nat) (s : State) := act dt s fwSecurityRaiseOp
def execProbationEnd (dt : Nat) (p : Die) (s : State) := act dt s fun d => probationEndOp d p
def execMicrocodeCheckFail (dt : Nat) (p : Die) (s : State) := act dt s fun d => mcFailOp d p

end Sys2Proof.Machine
end

