-- ==== Sys2Proof/Machine/Flags.lean ====
section
/-! DEFINITION. What a read of a subindex gives: the status and flag fields of every object computed from the units they
report, counters with their running bit, zeros of units that are gated or in reset, and what a read restarts (R10, R11,
R58, R411 and the object tables). -/

namespace Sys2Proof.Machine

/-! ### Shapes -/

def flag (b : Bool) (w : Nat) : Nat := if b then 2 ^ w else 0
/-- A valid bit above a field. -/
def valid (w v : Nat) : Nat := 2 ^ w + v % 2 ^ w
/-- A signed quantity as magnitude [29:0], sign [30] and valid [31]. -/
def signed32 (neg : Bool) (m : Nat) : Nat := 2 ^ 31 + flag neg 30 + min m (2 ^ 30 - 1)
/-- Fields of `w` bits packed from the lowest. -/
def packFields (w : Nat) (l : List Nat) : Nat := l.foldr (fun v a => a * 2 ^ w + v % 2 ^ w) 0
/-- A bit mask of 24 bytes over layers. -/
def layerBits (l : List Nat) : List Byte := (layerMask l false).take 24
/-- What an entry reads when its unit is gated or in reset (R11). -/
def zeroVal (idx sub : Nat) : Val := match objOf idx with
  | none => .num 0
  | some (base, _) => match findEntry sub (entriesOf base) with
    | none => .num 0
    | some e => match e.ty with
      | .num _ => .num 0
      | .str _ => .bytes []
      | .dom lo hi => .bytes (if lo = hi then List.replicate lo 0 else [])

/-! ### Clock gates (R411) -/

def gateCtl (d : Device) (c : Nat) : Nat :=
  if ctlUp d c then 2 ^ 31 + (if [2, 3, 5, 6, 7, 10].contains (ctlAt d c).role then 1 else 0) else 0

def wbShed (d : Device) (p : Nat) : Bool := decide (1 ≤ dieStage d p)
def gatePix (d : Device) (p : Nat) : Nat :=
  if !pixUp d p then 0
  else
    let heads := packFields 1 ((List.range 4).map fun k => flag (headOn d (4 * p + k)) 0)
    let ports := packFields 1 ((List.range 2).map fun k => flag (regT d (0x5400 + 2 * p + k) 1) 0)
    let pipes := packFields 1 ((List.range 2).map fun k => flag (pipeInputs d (2 * p + k) != []) 0)
    let touch := packFields 1 ((List.range 2).map fun k => flag ((linkAt d (2 * p + k)).step != 0) 0)
    let mem := packFields 1 ((List.range 4).map fun m => flag ([2, 3, 4].contains (memIfAt d (ifKey p m)).state) 0)
    let spur := flag (pixUp d ((p + 1) % 6)) 0 + flag (pixUp d ((p + 5) % 6)) 1
    2 ^ 31 + heads + ports * 16 + pipes * 64 + touch * 256 + mem * 1024 + flag (wbOn d p && !wbShed d p) 14 + spur * 32768

/-- Whether a subindex is of a unit whose clock is gated. A state field that has a code of its own for the gated unit reads
that code (notes/assumptions/16.md). DEDUCED: notes/assumptions/16.md. DEDUCED: notes/assumptions/192.md. -/
def gated411 (d : Device) (base u sub : Nat) : Bool :=
  if base = 0x4880 then sub != 1 && !headOn d u
  else if base = 0x5400 then decide (7 ≤ sub) && !regT d (0x5400 + u) 1
  else if base = 0x5440 then pipeInputs d u == []
  else if base = 0x5840 then sub != 1 && (linkAt d u).step == 0
  else if base = 0x3010 then sub != 1 && !([2, 3, 4].contains (memIfAt d u).state)
  else if base = 0x3060 then [9, 0x0A, 0x0F].contains sub && !(wbOn d u && !wbShed d u)
  else false

/-- Whether a subindex reads zeros because its die is held in reset (R11) or denies every access (R342), or because no die updates it: the
status of a source without an owner (R114). -/
def inReset (d : Device) (base u sub : Nat) (ro : Bool) : Bool :=
  (base == 0x5200 && decide (6 ≤ srcOwner d u)) || (ro || (base == 0x6000 && sub == 0x20)) && !(base == 0x4000 && sub == 0x19) &&
  (List.range 6).any fun p => heldBy d p base u sub && (!pixUp d p || denies d (dieNo p))

/-! ### Counters (R58) -/

/-- The counters of an object. -/
def countersOf (base : Nat) : List Nat :=
  if base = 0x4100 then [0x0B] else if base = 0x4000 then [0x17]
  else if base = 0x5200 then [5, 6, 7, 8, 9, 0x0B, 0x0C, 0x0D]
  else if base = 0x5400 then [8, 9, 0x0A, 0x0B] else if base = 0x5440 then [4, 5]
  else if base = 0x5480 then [0x42, 0x43, 0x44, 0x45, 0x46]
  else if base = 0x3020 then [4] else if base = 0x6000 then [0x24, 0x25] else if base = 0x3060 then [9, 0x0A]
  else if base = 0x4880 then [0x0A, 0x0B, 0x0D, 0x0E, 0x10] else if base = 0x3030 then [2, 3] else if base = 0x3040 then [0x0B, 0x0C]
  else if base = 0x3010 then [7, 8] else if base = 0x3014 then [5, 6, 0x0A]
  else if base = 0x5840 then [9, 0x0A, 0x0B, 0x0C, 0x0D, 0x0E, 0x12, 0x13, 0x14, 0x15]
  else if base = 0x2100 then [0x18, 0x19, 0x1A] else if base = 0x2110 then [7] else if base = 0x2010 then [8]
  else if base = 0x2020 then [0x0B, 0x0C, 0x0E] else if base = 0x2030 then [0x0B, 0x0C, 0x0D] else if base = 0x2700 then [0x13, 0x14]
  else if base = 0x2400 then [8] else if base = 0x2300 then [5] else if base = 0x2310 then [5] else if base = 0x3050 then [9, 0x0A]
  else if base = 0x2200 then [4, 6, 7] else if base = 0x2210 then [4] else if base = 0x2600 then [4, 9]
  else []

/-! ### Layers, guard planes, strips, scenes, tags, writeback -/

def layerStatus (d : Device) (n sub : Nat) : Option Val :=
  if sub = 0x19 then some (.num (match (layerAt d n).owner with
    | some k => 0x80 + k
    | none => 0))
  else none

def policyStatus (d : Device) (sub : Nat) : Option Val :=
  if sub = 7 then some (.num (policyLock d))
  else if sub = 8 then some (.num (crc32c ((List.range' 1 5).map fun i => BitVec.ofNat 8 (regN d 0x5C00 i))))
  else none

def guardStatus (d : Device) (h sub : Nat) : Option Val :=
  if sub = 5 then some (.num (if d.sup.dbg.opened then 2 else 1))
  else if sub = 0x0A then some (.num (if regN d (0x4900 + h) 0x0A = 2 then 2 else 1))
  else none

def stripStatus (d : Device) (p sub : Nat) : Option Val :=
  if sub = 5 then some (.bytes ((List.range 32).flatMap fun k => beBytes 2 (regN d (0x4000 + 32 * p + k) 0x18))) else none

def sceneStatus (d : Device) (k sub : Nat) : Option Val :=
  if sub = 5 then some (.num (max 1 (regN d (0x4A00 + k) 5)))
  else if sub = 9 then some (.num ((regB d (0x4A00 + k) 2).length / 40))
  else none

/-- Value and stamp that tag t shows: its own, those of the tag it mirrors, or its copy of a tag of another die. -/
def tagShown (d : Device) (t : Nat) : Nat × Option Nat :=
  let m := valueTag d t
  if m = t ∨ tagDie d m = tagDie d t then ((tagAt d m).value, (tagAt d m).stamp)
  else match (tagAt d t).copy with
    | some (v, s, _, _) => (v, some s)
    | none => (0, none)

def tagStatus (d : Device) (t sub : Nat) : Option Val :=
  if sub = 0x20 then some (.num (tagShown d t).1)
  else if sub = 0x21 then some (.num (match (tagShown d t).2 with
    | some s => 2 ^ 63 + s
    | none => 0))
  else none

/-- WritebackHeldFrame (R172). -/
def heldFrame (f : Frame) : List Byte :=
  beBytes 2 (f.source % 512) ++ beBytes 2 f.seq ++ beBytes 6 f.capture ++ [0, 0] ++ beBytes 4 f.signature ++
  beBytes 4 (ceilDiv f.declUnc 1000) ++ beBytes 2 f.width ++ beBytes 2 f.height ++
  f.tiles.flatMap fun (e : Nat × Slot) => beBytes 16 e.2.hdr.toNat ++ e.2.payload

def wbStatus (d : Device) (p sub : Nat) : Option Val :=
  if sub = 8 then some (.num (if !wbOn d p then 1 else if wbShed d p then 3 else if (wbAt d p).held.isSome then 4 else 2))
  else if sub = 0x0C then some (.bytes (match (wbAt d p).held with
    | some f => heldFrame f
    | none => []))
  else none

/-! ### Heads (R192 to R194, R200) -/

/-- HeadState (R184 to R186, R191, R193). DEDUCED: notes/assumptions/158.md. -/
def headState (d : Device) (h : Nat) : Nat :=
  let u := headAt d h
  let x := scanAt d h
  let shed := headShedShown d h != .none
  if !headOn d h then 1
  else match u.link with
    | .latched => 7
    | .frozen _ => 6
    | .up => if x.frozen then 6 else if shed then 8 else match x.cur with
      | some S => if S.grey = .starting then 3 else 4
      | none => if u.frameCount = 0 then 3 else 4
    | .training => if x.frozen then 6 else if shed then 8 else 2
    | .waitHpd => if x.frozen then 6 else if shed then 8 else if u.hpd = 2 ∧ !u.everUp then 2 else 5
    | .idle => if shed then 8 else 3
    | .failed => if shed then 8 else 5

def headStatus (d : Device) (h sub : Nat) : Option Val :=
  let u := headAt d h
  let v := headForce d h
  let n := hv v 5
  if sub = 1 then some (.num (headState d h))
  else if sub = 2 then some (.num (match u.trained with
    | some (r, l) => 0x8000 + r % 16 + 16 * (l % 16)
    | none => 0))
  else if sub = 3 then some (.num u.hpd)
  else if sub = 4 then some (.num (match u.caps with
    | some c => 2 ^ 31 + c.dpcdRev % 256 + c.rate % 16 * 256 + c.lanes % 16 * 4096 + flag c.mst 16
    | none => 0))
  else if sub = 5 then some (.num (packFields 2 ((List.range 4).map fun k =>
    if n ≤ k ∨ hv v 4 ≠ 2 then 3 else if u.payloads.getD k false then 2 else 1)))
  else if sub = 6 then some (.num u.lock)
  else if sub = 7 then some (.num (match u.phaseShown with
    | some e => signed32 (decide (0 < e)) e.natAbs
    | none => 0))
  else if sub = 8 then some (.num u.frameCount)
  else if sub = 0x0F then some (.num (packFields 2 ((List.range 4).map fun k =>
    if n ≤ k then 1 else (scanAt d h).markState.getD k 0)))
  else if sub = 0x13 then some (.num (match headShedShown d h with
    | .powerShed => 2
    | .supply => 3
    | _ => 1))
  else none

/-! ### Camera ports, pipelines and inputs (R133 to R135) -/

def portStatus (d : Device) (c sub : Nat) : Option Val :=
  if sub = 0x0C then some (.num (valid 15 (ceilDiv (portStoreBytes d (portInputs d c)) 1024))) else none

/-- A pipeline's read-outs: the streams in use are those whose source is enabled, which is when the last of their checks is passed (R127). DEDUCED: notes/assumptions/230.md. -/
def pipeStatus (d : Device) (j sub : Nat) : Option Val :=
  let l := pipeInputs d j
  let used (i : Nat) : List Nat := (camStreams d i).filter fun k => srcOn d (streamSource d i k)
  let g := dieStage d (dieOfPipe j)
  if sub = 1 then some (.num (if (pipeAt d j).service.isSome then 2 else 1))
  else if sub = 2 then some (.num (valid 15 (ceilDiv (pipeLoad d (l.filter fun i => used i != [])) (10 ^ 9))))
  else if sub = 3 then some (.num (0x80 + sumOf (l.map fun i => (used i).length)))
  else if sub = 6 then some (.num (if g = 0 then 1 else if g = 1 then 2 else 3))
  else none

/-- An input with no enabled source keeps its own signal timer (R118). DESIGN CHOICE: notes/assumptions/190.md. -/
def camState (d : Device) (i : Nat) : Nat :=
  if !camOn d i then 1
  else if (camAt d i).starts = 0 then 2
  else
    let l := (camStreams d i).filter fun k => srcEnabled d (streamSource d i k)
    let lost := if l = [] then (camAt d i).startTimes.all fun t => decide (t + 1000000000 ≤ d.mono)
      else l.any fun k => let s := streamSource d i k; (srcUnit d s (srcOwner d s)).state == 4
    if lost then 4 else 3

def camStatus (d : Device) (i sub : Nat) : Option Val :=
  let u := camAt d i
  if sub = 0x40 then some (.num (camState d i))
  else if sub = 0x48 then some (.num (1000 * (u.startTimes.filter fun t => decide (d.mono < t + 1000000000)).length))
  else if sub = 0x49 then some (.num (if camOn d i then 0x80 + min u.highWater 64 else 0))
  else none

/-! ### Surface memory and queues (R215, R216, R240, R241) -/

/-- The stretches of a tick period, from their opening as an offset from the tick, that the configured phases keep out of
MemQuietWindowUs (R232): opening and length, ns. The 20 µs before a launch are not taken off, as the worked example after
R236 reads 16 for an overlap of 16.7 µs. DEDUCED: notes/assumptions/91.md. -/
def quietBars (d : Device) (p : Nat) : List (Nat × Nat) :=
  let P := tickPeriod d
  let lead := regN d 0x2110 4 * 1000
  ((P - lead) % P, 40000) :: (fetchingHeads d p).map fun h =>
    let v := headForce d h
    (hv v 0x0E * 1000 % P, linesNs d v (vActive v))

/-- The longest interval that the configured phases leave: its length and its opening, ns. -/
def quietWindow (d : Device) (p : Nat) : Nat × Nat :=
  let P := tickPeriod d
  let bars := quietBars d p
  let ahead (a b : Nat) : Nat := (a + P - b % P) % P
  (bars.map fun e => (e.1 + e.2) % P).foldl (fun (best : Nat × Nat) c =>
    if bars.any fun e => ahead c e.1 < e.2 ∨ P ≤ e.2 then best
    else
      let len := (bars.map fun e => ahead e.1 c).foldl min P
      if best.1 < len ∨ (len = best.1 ∧ c < best.2) then (len, c) else best) (0, 0)

def memStatus (d : Device) (p sub : Nat) : Option Val :=
  let ms := ifsPlacing d p
  if sub = 4 then some (.num (memAt d p).inForce)
  else if sub = 7 then some (.num (valid 15 ((quietWindow d p).1 / 1000)))
  else if sub = 8 then some (.num (valid 31 ((quietWindow d p).2 / 1000)))
  else if sub = 0x0C then some (.num (0x80 + sumOf (ms.map fun m => 2 ^ m)))
  else if sub = 0x0D then some (.num (valid 31 (dieCapacity d p)))
  else if sub = 0x0E then some (.num (valid 31 (ceilDiv (dieReserved d p (tnrPairs d none)) (2 ^ 20))))
  else none

def memIfStatus (d : Device) (u sub : Nat) : Option Val :=
  let x := memIfAt d u
  let left := (slotsOn d (u / 4) (u % 4)).length
  if sub = 1 then some (.num x.state)
  else if sub = 2 then some (.num x.density)
  else if sub = 3 then some (.num x.ranks)
  else if sub = 4 then some (.num (if ifCapacity x = 0 then 0 else valid 15 (ifCapacity x)))
  else if sub = 5 then some (.num (x.rank0.rate + 4 * x.rank1.rate))
  else if sub = 0x0B then some (.num (if x.since.isNone then 0 else 0x80 + (if x.slotsAt = 0 then 100 else 100 * (x.slotsAt - left) / x.slotsAt)))
  else if sub = 0x0C then some (.num (valid 31 left))
  else none

/-- The highest fill of a queue since last read. The entries of Q16 to Q35 and Q54 to Q63 ride in no command of the table: how far
those queues fill is open. DESIGN CHOICE: notes/assumptions/194.md. -/
def queueHigh (d : Device) (p q : Nat) : Nat :=
  if q < 16 ∨ (36 ≤ q ∧ q < 54) then min 100 (tget (queueAt d p).high q 0) else Config.queueFill p q d.mono % 101
/-- The fill of the queues whose entries State holds, in per cent of their depth (R207). -/
def queueFills (d : Device) (p : Nat) : Table Nat :=
  let u := queueAt d p
  let c := 52 + supDie d
  ((List.range 16).map fun q => (q, tget u.fill q 0 * 100 / 128)) ++
  ((List.range 4).map fun k => (36 + k, spurFill (spurOutOf d p k) * 100 / 128)) ++
  ((List.range 8).map fun m => (44 + m, min (tget u.fill (44 + m) 0) (reserveOf m) * 100 / reserveOf m)) ++
  [(c, min 64 u.ctl.length * 100 / 64)]
def queueStatus (d : Device) (p sub : Nat) : Option Val :=
  if sub = 1 then some (.bytes ((List.range 64).map fun q => BitVec.ofNat 8 (0x80 + queueHigh d p q))) else none

/-! ### Touch (R268) -/

/-- TouchLinkState: DOWN from the moment a step of bring-up fails. -/
def touchState (u : TouchUnit) (now : Nat) : Nat :=
  if u.step = 0 then 1 else if u.step = 12 ∨ (u.step = 1 ∧ u.downSaid) ∨ bringFailed u now then 2 else if u.step = 11 then 5
  else if u.step = 10 then 4 else 3

def touchStatus (d : Device) (k sub : Nat) : Option Val :=
  let u := linkAt d k
  let t := trackAt d k
  let live := u.step == 10
  if sub = 1 then some (.num (touchState u d.mono))
  else if sub = 4 then some (.num (if live then valid 15 u.rate else 0))
  else if sub = 5 then some (.num (if live then 0x80 + u.carrier % 8 else 0))
  else if sub = 6 then some (.num (if !live then 0 else if u.charger then 2 else 1))
  else if sub = 7 then some (.num (if !live then 0 else if t.film then 2 else 1))
  else if sub = 8 then some (.num (if live then 0x80 + min 10 t.touches.length else 0))
  else if sub = 0x11 then some (.bytes t.ring.flatten)
  else none

/-! ### Time (R290, R291) -/

def timeStatus (d : Device) (b sub : Nat) : Option Val :=
  let st (c : Nat) : Nat := if ctlUp d c then (baseOf (ctlAt d c) b).st else 0
  if sub = 0x10 then some (.num (st 0))
  else if sub = 0x11 then some (.num (st 1))
  else if sub = 0x1B then some (.num (packFields 2 ((List.range 6).map fun p =>
    let c := copyOf (pixAt d p) b
    if !pixUp d p ∨ !c.loaded then 0 else if (pixAt d p).holdover then 2 else 1)))
  else if (sub < 0x12 ∨ 0x17 < sub) ∧ !(b = 3 ∧ sub = 0x1C) then none
  else match activeCtl d with
    | none => some (.num 0)
    | some a =>
      let t := baseOf (ctlAt d a) b
      some (.num (
        if sub = 0x12 then 2 ^ 63 + t.ns % (if b = 3 then 2 ^ 63 else 2 ^ 48)
        else if sub = 0x13 then 2 ^ 31 + min (ceilDiv (baseUnc d b t) 1000) (2 ^ 31 - 1)
        else if sub = 0x14 then (match t.off with
          | some o => signed32 (decide (o < 0)) o.natAbs
          | none => 0)
        else if sub = 0x15 then (match t.delay with
          | some x => 2 ^ 31 + min x (2 ^ 31 - 1)
          | none => 0)
        else if sub = 0x16 then t.gm
        else if sub = 0x17 then signed32 (decide (baseRate (ctlAt d a) b < 0)) (baseRate (ctlAt d a) b).natAbs
        else if keptTb3 d a = 0 then 0 else 2 ^ 63 + keptTb3 d a % 2 ^ 63))

def tickStatus (d : Device) (sub : Nat) : Option Val :=
  if sub = 3 then some (.num (match activeCtl d with
    | some a => (ctlAt d a).tb1.st
    | none => 0))
  else if sub = 5 then some (.num (match (if (activeCtl d).isSome then tickBefore d (nowBase d 1) else none) with
    | some t => 2 ^ 63 + t % 2 ^ 48
    | none => 0))
  else if sub = 6 then some (.num (2 ^ 63 + tickPeriodPs d % 2 ^ 40))
  else none

/-! ### Identity, CAN, DXP (R304 to R306, R314, R331 to R333, R336) -/

def identityStatus (d : Device) (sub : Nat) : Option Val :=
  if sub = 6 then some (.bytes certDigest)
  else if sub = 7 then some (.num (match activeCtl d with
    | some a => a + 1
    | none => 0))
  else none

def canStatus (d : Device) (sub : Nat) : Option Val :=
  if sub = 6 then some (.num (packFields 2 d.can.errs))
  else if sub = 7 then some (.num d.can.nmt)
  else none

/-- The anchors of DxpTrustAnchors: each a length and DER. -/
def anchorsOf : Nat → List Byte → List (List Byte)
  | 0, _ => []
  | n + 1, b => if b.length < 2 then [] else
      let z := bigEndian (b.take 2)
      ((b.drop 2).take z) :: anchorsOf n (b.drop (2 + z))

def dxpStatus (d : Device) (sub : Nat) : Option Val :=
  if sub = 0x0A then
    let l := anchorsOf 4 (regB d 0x2020 9)
    some (.bytes ((List.range 4).flatMap fun i => match l[i]? with
      | some a => sha256 a
      | none => List.replicate 32 0))
  else none

def endpointWord (e : Endpoint) : Nat := e.ip % 2 ^ 32 * 65536 + e.udp % 65536

def sessionStatus (d : Device) (k sub : Nat) : Option Val :=
  let x := sessAt d k
  let o := x.state == 3
  if sub = 1 then some (.num (max 1 x.state))
  else if sub = 2 then some (.num (if o then 0x80 + x.roles % 32 else 0))
  else if sub = 3 then some (.num (if o then 2 ^ 63 + endpointWord x.peer else 0))
  else if sub = 4 then some (.bytes (if o then sha256 x.leaf else List.replicate 32 0))
  else if sub = 5 then some (.num (if o then 2 ^ 63 + x.openedAt % 2 ^ 63 else 0))
  else if sub = 6 then some (.num (match x.endpoint with
    | some e => endpointWord e
    | none => 0))
  else if sub = 9 then some (.bytes (layerBits (d.layers.filterMap fun (e : Nat × LayerUnit) => if e.2.owner = some k then some e.1 else none)))
  else none

/-- Open sessions that hold role r. -/
def sessionsWith (d : Device) (r : Nat) : Nat := ((List.range 8).filter fun k => sessOpen d k && (sessAt d k).roles.testBit r).length

def roleStatus (d : Device) (r sub : Nat) : Option Val := if sub = 5 then some (.num (0x80 + sessionsWith d r)) else none

def telegramStatus (d : Device) (sub : Nat) : Option Val :=
  if sub = 0x12 then some (.num (0x80 + d.sup.telegrams.length % 128)) else none

/-! ### Protection and audit (R339, R362, R363) -/

def ruleStatus (d : Device) (e sub : Nat) : Option Val := if sub = 7 then some (.num (if e < lockedRules d then 2 else 1)) else none

/-- State and digest of owner key slot i: 1 EMPTY, 2 ENROLLED, 3 REVOKED. -/
def ownerSlot (d : Device) (i : Nat) : Nat × List Byte := d.pins.owners.getD i (1, List.replicate 32 0)

def securityStatus (d : Device) (sub : Nat) : Option Val :=
  let c := supDie d
  if sub = 3 then some (.bytes ((List.range 8).flatMap fun i => padTo 32 (measOf (ctlAt d c) i)))
  else if sub = 4 then some (.num (auditHead d))
  else if sub = 5 then some (.bytes (padTo 32 (auditHeadHash d)))
  else if sub = 6 then some (.num (auditOldest d))
  else if sub = 8 then some (.num (2 ^ 31 + 262144))
  else if sub = 0x0E then some (.bytes ((List.range 4).flatMap fun i => padTo 32 (ownerSlot d i).2))
  else if sub = 0x0F then some (.num (packFields 2 ((List.range 4).map fun i => (ownerSlot d i).1)))
  else if sub = 0x11 then some (.num (debugState d))
  else if sub = 0x19 then some (.num (fwSecurity d))
  else if sub = 0x1A then some (.bytes (ruleDigest (ruleCopyAt d c)))
  else if sub = 0x1B then some (.num (ruleAgreement d))
  else none

/-- AuditWindowRecords (R363). DEDUCED: notes/assumptions/159.md. -/
def auditWindow (d : Device) : List Byte :=
  let f := regN d 0x2510 1
  if f = 0 then []
  else (List.range 64).flatMap fun i => match d.audit.find? fun r => r.num == f + i with
    | some r => auditBytes r
    | none => List.replicate 128 0

/-! ### Redundancy and service (R394 to R399) -/

def redStatus (d : Device) (sub : Nat) : Option Val :=
  let beat (c : Nat) : Nat :=
    let o := ctlUp d (otherCtl c)
    (if o ∧ !(ctlAt d c).silentS then 2 else 1) + 4 * (if o ∧ !wireSilent d c then 2 else 1)
  if sub = 2 then some (.num (roleOf d 0 % 16 + 16 * (roleOf d 1 % 16)))
  else if sub = 3 then some (.num (packFields 2 ((List.range 6).map fun p => if pixUp d p then (pixAt d p).token else 0)))
  else if sub = 4 then some (.num (match activeCtl d with
    | some a => beat a
    | none => 0))
  else if sub = 0x12 then some (.num (packFields 4 ((List.range 6).map fun p => (pixAt d p).state)))
  else if sub = 0x13 then some (.num (if (activeCtl d).isNone ∧ d.cmp.kind = 0 then 0 else 2 ^ 31 + d.cmp.shown * 65536 + min d.cmp.matched 0xFFFF))
  else none

def ckptStatus (d : Device) (sub : Nat) : Option Val :=
  if sub = 2 then
    let o := otherCtl (supDie d)
    some (.num (if ctlUp d o then max 1 (ctlAt d o).slot0.st + 4 * max 1 (ctlAt d o).slot1.st else 0))
  else none

/-- Die and slot of the four firmware slots in their order: CA-A, CA-B, CB-A, CB-B; the image of one, none while EMPTY. -/
def fwImageAt (d : Device) (i : Nat) : Option (List Byte) :=
  let f := norOf d (i / 2)
  if slotSt f (i % 2) ≤ 1 then none else some (slotImg f (i % 2))
def perSlot (d : Device) (w : Nat) (f : List Byte → List Byte) : List Byte :=
  (List.range 4).flatMap fun i => match if ctlUp d (i / 2) then fwImageAt d i else none with
    | some b => padTo w (f b)
    | none => List.replicate w 0

def fwStatus (d : Device) (sub : Nat) : Option Val :=
  let slots (c : Nat) : Nat := if ctlUp d c then (norOf d c).slotA % 16 + 16 * ((norOf d c).slotB % 16) else 0
  if sub = 1 then some (.num (slots 0))
  else if sub = 2 then some (.num (slots 1))
  else if sub = 3 then some (.bytes (perSlot d 16 Config.imageVersion))
  else if sub = 4 then some (.bytes (perSlot d 2 fun b => beBytes 2 (Config.imageSecurityVersion b)))
  else if sub = 8 then some (.num d.sup.fwState)
  else if sub = 0x0A then some (.bytes (perSlot d 32 sha256))
  else none

def mcStatus (d : Device) (p sub : Nat) : Option Val :=
  let u := mcAt d p
  let ver (st : Nat) (b : List Byte) : List Byte := if st ≤ 1 then List.replicate 16 0 else padTo 16 (Config.imageVersion b)
  if sub = 1 then some (.num (u.state0 % 16 + 16 * (u.state1 % 16)))
  else if sub = 2 then some (.bytes (ver u.state0 u.image0 ++ ver u.state1 u.image1))
  else if sub = 3 then some (.num (Config.imageLayout (mcRunning u) % 65536))
  else none

/-! ### Clocks and supply (R427, R428) -/

def railWords (d : Device) (f : RailUnit → Nat) : List Byte :=
  (List.range 8).flatMap fun r => beBytes 2 (if !(railAt d r).seen then 0 else valid 15 (f (railAt d r)))

def supplyStatus (d : Device) (sub : Nat) : Option Val :=
  if sub = 1 then some (.bytes (railWords d (·.mv)))
  else if sub = 2 then some (.bytes (railWords d (·.low)))
  else if sub = 3 then some (.num (packFields 4 ((List.range 8).map (stageCode d))))
  else if sub = 9 then some (.num (if !d.rails.any (fun (e : Nat × RailUnit) => e.2.seen) then 0 else if d.rails.any fun (e : Nat × RailUnit) => e.2.forced != 0 then 2 else 1))
  else none

/-- The state of the worst PLL of die k (R428): a DOT or SUP PLL that is faulty, a PLL without lock, a locked PLL held over by an
internal REF whose ready flag is clear (R401, R404). -/
def pllState (d : Device) (k : Nat) : Nat :=
  let c := clockAt d k
  if c.faults ≠ [] then 1
  else if 2 < c.pll ∧ 2 ≤ k ∧ ((memAt d (k - 2)).switching.isSome ∨ ((List.range 4).map (4 * (k - 2) + ·)).any (dotLocking d)) then 2
  else if c.src ≠ 2 ∧ !c.ready ∧ c.pll = 4 then 3 else c.pll

def clockStatus (d : Device) (sub : Nat) : Option Val :=
  let per (f : ClockUnit → Nat) : Val := .bytes ((List.range 8).map fun k => BitVec.ofNat 8 (if dieUp d k then f (clockAt d k) else 0))
  if sub = 1 then some (per (·.src))
  else if sub = 2 then some (.num (match d.pins.straps with
    | some s => 0x80 + s % 8
    | none => 0))
  else if sub = 3 then some (per (·.mon))
  else if sub = 5 then some (.bytes ((List.range 8).flatMap fun k =>
    let c := clockAt d k
    beBytes 2 (if c.src = 0 ∨ !dieUp d k then 0 else valid 15 (c.trim + 128).toNat)))
  else if sub = 6 then some (.bytes ((regB d 0x2210 6).mapIdx fun k b => if dieUp d k then b else 0))
  else if sub = 7 then some (.bytes ((regB d 0x2210 7).mapIdx fun i b => if dieUp d (i / 2) then b else 0))
  else if sub = 8 then some (.bytes ((List.range 8).map fun k => BitVec.ofNat 8 (if dieUp d k then pllState d k else 0)))
  else if sub = 9 then some (.bytes (((List.range 2).flatMap fun c => beBytes 4 (gateCtl d c)) ++
    (List.range 6).flatMap fun p => beBytes 4 (gatePix d p)))
  else none

/-! ### Errors (R440) -/

def errorStatus (d : Device) (k sub : Nat) : Option Val :=
  let g := ringAt d k
  let l := ringOpen g
  if sub = 1 then some (.bytes (padTo 2016 (g.recs.flatMap recBytes) ++ padTo 32 (g.lost.toList.flatMap recBytes)))
  else if sub = 2 then some (.num (0x80 + l.length))
  else if sub = 3 then some (.num g.last)
  else if sub = 6 then some (.num (l.foldl (fun a r => max a (r.sev + 1)) 1))
  else if sub = 7 then some (.num (0x80 + g.handling.length))
  else none

/-! ### The read -/

/-- A status subindex that is computed as it is read; none: what the register holds. -/
def statusOf (d : Device) (base u sub : Nat) : Option Val :=
  if base = 0x4000 then layerStatus d u sub else if base = 0x5C00 then policyStatus d sub else if base = 0x4900 then guardStatus d u sub
  else if base = 0x3020 then stripStatus d u sub else if base = 0x4A00 then sceneStatus d u sub else if base = 0x6000 then tagStatus d u sub
  else if base = 0x3060 then wbStatus d u sub else if base = 0x4880 then headStatus d u sub else if base = 0x5400 then portStatus d u sub
  else if base = 0x5440 then pipeStatus d u sub else if base = 0x5480 then camStatus d u sub else if base = 0x3014 then memStatus d u sub
  else if base = 0x3010 then memIfStatus d u sub else if base = 0x3030 then queueStatus d u sub else if base = 0x5840 then touchStatus d u sub
  else if base = 0x2100 then timeStatus d u sub else if base = 0x2110 then tickStatus d sub else if base = 0x2000 then identityStatus d sub
  else if base = 0x1001 then some (.num (errorRegister d))
  else if base = 0x100A then some (.bytes (padTo 16 (Config.imageVersion (runningImage d (supDie d)))))
  else if base = 0x2010 then canStatus d sub else if base = 0x2020 then dxpStatus d sub else if base = 0x2030 then sessionStatus d u sub
  else if base = 0x2040 then roleStatus d u sub else if base = 0x2700 then telegramStatus d sub else if base = 0x2400 then ruleStatus d u sub
  else if base = 0x2500 then securityStatus d sub
  else if base = 0x2510 then (if sub = 2 then some (.bytes (auditWindow d)) else none)
  else if base = 0x2300 then redStatus d sub else if base = 0x2310 then ckptStatus d sub else if base = 0x2520 then fwStatus d sub
  else if base = 0x3050 then mcStatus d u sub else if base = 0x2200 then supplyStatus d sub else if base = 0x2210 then clockStatus d sub
  else if base = 0x2600 then errorStatus d u sub
  else none

/-- What a subindex reads. HighestSubindex and mapping counts are read as they stand. (R301.) -/
def readReg (d : Device) (idx sub : Nat) : Val := match objOf idx with
  | none => .num 0
  | some (base, u) =>
    let ro : Bool := match findEntry sub (entriesOf base) with
      | some e => e.acc == .ro
      | none => false
    if sub = 0 ∧ 0x2000 ≤ base then reg d idx sub
    else if inReset d base u sub ro || (ro && gated411 d base u sub) then zeroVal idx sub
    else match statusOf d base u sub with
      | some v => v
      | none => if (countersOf base).contains sub then .num (2 ^ 31 + regN d idx sub % 2 ^ 31) else reg d idx sub

def readN (d : Device) (idx sub : Nat) : Nat := valNum (readReg d idx sub)

/-- What a read restarts: the extremes kept since the last one. DEDUCED: notes/assumptions/105.md. -/
def readDone (d : Device) (idx sub : Nat) : Device := match objOf idx with
  | none => d
  | some (base, u) =>
    if base = 0x4100 ∧ sub = 0x0D then setN (setN d (0x10000 + idx) 0x0D 0) idx 0x0D 0
    else if base = 0x3030 ∧ sub = 1 then modQueue d u fun q => { q with high := (queueFills d u).filter fun e => e.2 != 0 }
    else if base = 0x3010 ∧ sub = 6 ∧ 0x80 ≤ regN d idx 6 then setN d idx 6 (0x80 + max (memIfAt d u).rank0.debt (memIfAt d u).rank1.debt)
    else if base = 0x2200 ∧ sub = 2 then { d with rails := tmap (fun _ (r : RailUnit) => { r with low := r.mv }) d.rails }
    else if base = 0x2310 ∧ sub = 6 then setN d idx 6 0
    else if base = 0x5480 ∧ sub = 0x49 then modCam d u fun c => { c with highWater := camHeld c }
    else d

end Sys2Proof.Machine
end

