-- ==== Sys2Proof/Machine/Can.lean ====
section
/-! DEFINITION. The CAN FD side and the timed status telegrams: mappings, PDOs, NMT, heartbeat, EMCY (R288, R307 to R313, R335,
R437, R439). -/

namespace Sys2Proof.Machine

/-! ### Mappings (R305, R310, R313) -/

def mapIdx (v : Nat) : Nat := v / 65536
def mapSub (v : Nat) : Nat := v / 256 % 256
def mapBits (v : Nat) : Nat := v % 256

/-- The entries a mapping holds: as many as its count. -/
def mapEntries (d : Device) (obj : Nat) : List Nat := (List.range' 1 (regN d obj 0)).map (regN d obj)
def mapBytes (l : List Nat) : Nat := sumOf (l.map fun v => mapBits v / 8)

/-- Whether an RPDO may map an entry. -/
def rpdoTarget (v : Nat) : Bool :=
  (decide (0x6000 ≤ mapIdx v ∧ mapIdx v < 0x7000) && mapSub v == 0x20 && mapBits v == 32) ||
  (mapIdx v == 0x2010 && mapSub v == 0x0A && mapBits v == 48)

/-- Whether a TPDO may map an entry: ro: all, of 1, 2 or 4 bytes, all of it. REAL32 is no type of a ro entry. -/
def tpdoTarget (v : Nat) : Bool := match objOf (mapIdx v) with
  | none => false
  | some (base, u) => match findEntry (mapSub v) (entriesOf base) with
    | none => false
    | some e => e.acc == .ro && e.roles &&& 32 != 0 && !reservedHere base u (mapSub v) && decide (mapSub v ≤ highestOf base) && match e.ty with
      | .num b => (b == 1 || b == 2 || b == 4) && mapBits v == 8 * b
      | _ => false

def pdoValid (cob : Nat) : Bool := decide (cob < 2 ^ 31)

/-! ### RPDOs (R308, R310) -/

/-- The mapped fields of an RPDO payload: entry and value. None when it is shorter than the mapping. -/
def rpdoFields : List Nat → List Byte → Option (List (Nat × Nat))
  | [], _ => some []
  | e :: l, b =>
    let z := mapBits e / 8
    if b.length < z then none
    else (rpdoFields l (b.drop z)).map fun r => (e, bigEndian (b.take z).reverse) :: r

/-- One RPDO is taken: each TagValue in it is a tag update. -/
def rpdoTake (d : Device) (f n : Nat) (data : List Byte) : Device :=
  match rpdoFields (mapEntries d (0x1600 + n)) data with
  | none => d
  | some l =>
    let stamp := (l.find? fun e => mapIdx e.1 == 0x2010).map (·.2)
    forEach d (l.filter fun e => mapIdx e.1 != 0x2010) fun d e => (tagUpdate d (mapIdx e.1 - 0x6000) e.2 stamp f).1

/-- PRESUMED: notes/assumptions/135.md. -/
def rpdoOp (d : Device) (f cob : Nat) (data : List Byte) : Device :=
  if !canLive d f || d.can.nmt != 3 then d
  else forEach d ((List.range 64).filter fun n => regN d (0x1400 + n) 1 == cob % 2048) fun d n => rpdoTake d f n data

/-! ### TPDOs and STATUS_TELEGRAM (R313, R326, R335) -/

/-- The mapped values of TPDO m as they are: size and value. -/
def tpdoSample (d : Device) (m : Nat) : List (Nat × Nat) :=
  (mapEntries d (0x1A00 + m)).map fun v => (mapBits v / 8, readN d (mapIdx v) (mapSub v))

/-- TPDO m is sent with the given values, on both ports and to every session with TELEGRAMS set. `time` is the launch time, or
the sample tick time. DEDUCED: notes/assumptions/138.md. -/
def tpdoSend (d : Device) (m : Nat) (vals : List (Nat × Nat)) (time : Nat) (late timed : Bool) : Device :=
  let cob := regN d (0x1800 + m) 1
  let d := if pdoValid cob && d.can.nmt == 3 then sendCan d (cob % 2048) (vals.flatMap fun e => leBytes e.1 e.2) else d
  let d := dxpPushAll d 0xC3 (beBytes 1 m ++ beBytes 1 ((if late then 1 else 0) + (if timed then 2 else 0)) ++ beBytes 6 time ++
    vals.flatMap fun e => beBytes e.1 e.2) telegramSubscribed
  { d with can := { d.can with sentAt := tput d.can.sentAt m d.mono, sent := tput d.can.sent m vals } }

/-- The TB1 time of the last tick, by the lowest pixel die out of reset. -/
def lastTickTime (d : Device) : Nat := match (List.range 6).find? (pixUp d) with
  | some p => (pixAt d p).tickAt % 2 ^ 48
  | none => 0

/-- The latch of a tick: mapped values are sampled, and a TPDO of type 0xFE is sent when one has changed. -/
def tpdoTick (d : Device) : Device :=
  if (activeCtl d).isNone then d
  else forEach d ((List.range 16).filter fun m => 0 < regN d (0x1A00 + m) 0) fun d m =>
    let vals := tpdoSample d m
    let d := { d with can := { d.can with latched := tput d.can.latched m vals } }
    match tfind d.can.sent m with
    | none => { d with can := { d.can with sent := tput d.can.sent m vals } }
    | some old =>
      if regN d (0x1800 + m) 2 = 0xFE ∧ pdoValid (regN d (0x1800 + m) 1) ∧ d.can.nmt = 3 ∧ old ≠ vals ∧
          tget d.can.sentAt m 0 + regN d (0x1800 + m) 3 * 100000 ≤ d.mono then
        tpdoSend d m vals (lastTickTime d) false false
      else d

def tpdoTimerOp (d : Device) (m : Nat) : Device :=
  if (activeCtl d).isSome ∧ regN d (0x1800 + m) 2 = 0xFF ∧ pdoValid (regN d (0x1800 + m) 1) ∧ d.can.nmt = 3 ∧ 0 < regN d (0x1A00 + m) 0 ∧
      tget d.can.sentAt m 0 + regN d (0x1800 + m) 5 * 1000000 ≤ d.mono then
    tpdoSend d m (tget d.can.latched m (tpdoSample d m)) (lastTickTime d) false false
  else d

/-! ### Timed telegrams (R288, R335) -/

def telegramLate (d : Device) (late : Bool) : Device := if late then bump d 0x2700 0x13 else d

/-- A telegram leaves, its values sampled now. -/
def telegramGo (d : Device) (t : Telegram) : Device :=
  telegramLate (bump (tpdoSend d t.tpdo (tpdoSample d t.tpdo) t.time t.late true) 0x2700 0x14) t.late

/-- What is left of a telegram's time, ns. -/
def telegramLeft (d : Device) (t : Telegram) : Int := diff48 t.time (nowBase d (t.base - 1))

def telegramDueOp (d : Device) : Device :=
  if (activeCtl d).isNone then d
  else
    let due (t : Telegram) : Bool := t.late || decide (telegramLeft d t ≤ 0)
    let go := d.sup.telegrams.filter due
    forEach { d with sup := { d.sup with telegrams := d.sup.telegrams.filter fun t => !due t } } go telegramGo

/-- The record of a write to TelegramLaunch: the code of R299, and the device. -/
def telegramLaunchOp (d : Device) (rec_ : List Byte) : Device × Nat :=
  let m := (rec_.getD 0 0).toNat
  let b := (rec_.getD 1 0).toNat
  let t : Telegram := { tpdo := m, base := b, time := bigEndian ((rec_.drop 2).take 6), late := false }
  let code := firstCode [
    if (rec_.drop 8).any (· != 0) then 10 else 0,
    if 16 ≤ m ∨ (b ≠ 1 ∧ b ≠ 2) ∨ regN d (0x1A00 + m) 0 = 0 then 11 else 0,
    if telegramLeft d t < -1000000000 ∨ Int.ofNat (hours 24) < telegramLeft d t then 45 else 0,
    if 64 ≤ d.sup.telegrams.length then 46 else 0]
  if code ≠ 1 then (d, code)
  else if telegramLeft d t < 0 then (telegramGo d { t with late := true }, 1)
  else ({ d with sup := { d.sup with telegrams := d.sup.telegrams ++ [t] } }, 1)

/-! ### NMT, heartbeat, EMCY, error states (R307 to R309, R314, R437) -/

/-- Whether an NMT command reaches the FLX8: node 0 names every node. -/
def nmtHeard (d : Device) (f node : Nat) : Bool :=
  canServed d f && serving d && (activeCtl d).isSome && (node == 0 || node == d.can.nodes.getD f 0)

def nmtSet (d : Device) (st : Nat) : Device := { d with can := { d.can with nmt := st } }
def nmtStartOp (d : Device) (f node : Nat) : Device := if nmtHeard d f node then nmtSet d 3 else d
def nmtPreOpOp (d : Device) (f node : Nat) : Device := if nmtHeard d f node then nmtSet d 2 else d
def nmtStopOp (d : Device) (f node : Nat) : Device := if nmtHeard d f node then nmtSet d 1 else d

/-- The communication area and the settings of 0x2010 take effect. PRESUMED: notes/assumptions/137.md. -/
def canReload (d : Device) : Device :=
  { d with can := { d.can with nodes := [regN d 0x2010 1, regN d 0x2010 2], rates := (regN d 0x2010 3, regN d 0x2010 4),
                               sentAt := [], sent := [], latched := [] } }
def nmtResetOp (d : Device) (f node : Nat) : Device := if nmtHeard d f node then nmtSet (canReload d) 3 else d

/-- The state byte of a heartbeat, per CiA 1301. PRESUMED: notes/assumptions/136.md. -/
def nmtByte (st : Nat) : Nat := if st = 1 then 4 else if st = 2 then 0x7F else if st = 3 then 5 else 0

/-- Port f's controller sends its heartbeat. -/
def canHeartbeatOp (d : Device) (f : Nat) : Device :=
  if canLive d f ∧ d.can.beatAt.getD f 0 + regN d 0x1017 0 * 1000000 ≤ d.mono then
    sendCanOn { d with can := { d.can with beatAt := d.can.beatAt.set f d.mono } } f (0x700 + d.can.nodes.getD f 0)
      (beBytes 1 (nmtByte d.can.nmt))
  else d

def emcyInhibitEndOp (d : Device) : Device := match d.can.waiting with
  | some r => if emcyOn d && !emcyInhibited d then emcySend d r else d
  | none => d

def canErrCode (st : CanErr) : Nat := match st with
  | .busOff => 1
  | .passive => 2
  | .active => 3

def canErrorOp (d : Device) (f : Nat) (st : CanErr) : Device :=
  if !ctlUp d f then d
  else
    let was := d.can.errs.getD f 0
    let d := { d with can := { d.can with errs := d.can.errs.set f (canErrCode st) } }
    if st = .busOff ∧ was ≠ 1 then bump d 0x2010 8 else d

/-! ### EVENT messages (R326, R439) -/

def eventSendOp (d : Device) (k : Nat) : Device :=
  let ev := (sessAt d k).events
  if !sessOpen d k || (activeCtl d).isNone || ev == [] then d
  else dxpPush (modSess d k fun x => { x with events := ev.drop 40 }) k 0xC1 ((ev.take 40).flatMap recBytes)

/-! ### The meanings -/

def execRpdo (dt : Nat) (f : CanPort) (cobId : Nat) (data : List Byte) (s : State) := act dt s fun d => rpdoOp d f cobId data
def execNmtStartRemoteNode (dt : Nat) (f : CanPort) (node : Nat) (s : State) := act dt s fun d => nmtStartOp d f node
def execNmtEnterPreOperational (dt : Nat) (f : CanPort) (node : Nat) (s : State) := act dt s fun d => nmtPreOpOp d f node
def execNmtStopRemoteNode (dt : Nat) (f : CanPort) (node : Nat) (s : State) := act dt s fun d => nmtStopOp d f node
def execNmtResetCommunication (dt : Nat) (f : CanPort) (node : Nat) (s : State) := act dt s fun d => nmtResetOp d f node
/-- NMT_RESET_NODE: handled as reset communication. -/
def execNmtResetNode (dt : Nat) (f : CanPort) (node : Nat) (s : State) := act dt s fun d => nmtResetOp d f node
def execCanHeartbeat (dt : Nat) (f : CanPort) (s : State) := act dt s fun d => canHeartbeatOp d f
def execTpdoEventTimer (dt : Nat) (m : Fin 16) (s : State) := act dt s fun d => tpdoTimerOp d m
def execEmcyInhibitEnd (dt : Nat) (s : State) := act dt s emcyInhibitEndOp
def execTelegramDue (dt : Nat) (s : State) := act dt s telegramDueOp
def execCanErrorStateChange (dt : Nat) (f : CanPort) (st : CanErr) (s : State) := act dt s fun d => canErrorOp d f st
def execEventMessageSend (dt : Nat) (k : SessNo) (s : State) := act dt s fun d => eventSendOp d k

end Sys2Proof.Machine
end

