-- ==== Sys2Proof/Machine/Request.lean ====
section
/-! DEFINITION. Writes of the dictionary: the rules of each object, the effect of each entry, refusals, the audit records of
writes, and configuration bundles (R84 to R87, R119, R120, R127, R163, R178, R184, R231, R268, R269, R290, R295, R296, R299,
R300, R305, R310, R330, R353 to R357, R433). -/

namespace Sys2Proof.Machine

/-! ### Values as they travel (R293) -/

def entryOf (idx sub : Nat) : Option Entry := match objOf idx with
  | none => none
  | some (base, _) => findEntry sub (entriesOf base)

/-- A value as on DXP. A reserved subindex that its table gives no type reads as UNSIGNED8 (R9). -/
def valWire (idx sub : Nat) (v : Val) : List Byte := match v with
  | .bytes b => b
  | .num n => match entryOf idx sub with
    | some e => match e.ty with
      | .num z => beBytes z n
      | _ => beBytes 8 n
    | none => beBytes 1 n

/-- The value that bytes on DXP carry for an entry. Bytes of a wrong length are no number. -/
def valOfWire (idx sub : Nat) (b : List Byte) : Val := match entryOf idx sub with
  | some e => match e.ty with
    | .num z => if b.length = z then .num (bigEndian b) else .bytes b
    | _ => .bytes b
  | none => .bytes b

/-- The key that signs the bundle at hand: its slot, and whether the bundle passes by first enrolment (R355). Slot 4 is no
slot: no bundle is at hand. `again` says that a stored bundle is reapplied (R356). -/
structure Signer where
  slot  : Nat
  first : Bool
  again : Bool
  deriving DecidableEq, Repr, Inhabited

def noSigner : Signer := { slot := 4, first := false, again := false }

/-! ### The rules of the objects: check 10 of R295, 0 passed -/

/-- R305, R310, R313: a mapping entry or count. DEDUCED: notes/assumptions/140.md. -/
def mappingRefusal (d : Device) (tpdo : Bool) (u sub n : Nat) : Nat :=
  let obj := (if tpdo then 0x1A00 else 0x1600) + u
  let ok (v : Nat) : Bool := if tpdo then tpdoTarget v else rpdoTarget v
  let l := (List.range' 1 (if sub = 0 then n else regN d obj 0)).map fun i => if i = sub then n else regN d obj i
  let stamps := (l.filter fun v => mapIdx v == 0x2010 && mapSub v == 0x0A).length
  if (sub ≠ 0 ∧ !ok n) ∨ !l.all ok ∨ 64 < mapBytes l ∨ (!tpdo ∧ 1 < stamps) then 11
  else if pdoValid (regN d ((if tpdo then 0x1800 else 0x1400) + u) 1) then 14 else 0

/-- The anchors of a DOMAIN of DxpTrustAnchors: at most four, each whole. DEDUCED: notes/assumptions/141.md. -/
def anchorsWhole : Nat → List Byte → Bool
  | _, [] => true
  | 0, _ => false
  | n + 1, b => decide (2 ≤ b.length ∧ 2 + bigEndian (b.take 2) ≤ b.length) && anchorsWhole n (b.drop (2 + bigEndian (b.take 2)))

/-- Layer claims and releases (R330). -/
def claimRefusal (d : Device) (who : Requester) (u n : Nat) : Nat :=
  if !sessOpen d u then 11
  else if holds (rolesOf d who) 8 then 0
  else match (layerAt d n).owner with
    | some o => if o = u then 0 else 7
    | none => 0
/-- DEDUCED: notes/assumptions/149.md. -/
def releaseRefusal (d : Device) (who : Requester) (u n : Nat) : Nat :=
  if holds (rolesOf d who) 8 ∨ (layerAt d n).owner = some u then 0 else 7

/-- Whether die k has the clock of a code of R429. -/
def hasClock (k code : Nat) : Bool :=
  if k < 2 then [1, 2, 3, 4, 5, 14].contains code else [1, 3, 5, 6, 7, 8, 9, 10, 11, 12, 13, 15, 16].contains code

def anyHeadOn (d : Device) : Bool := (List.range 24).any (headOn d)

/-- The wall tick object (R178, R198, R286). -/
def tickRefusal (d : Device) (sub n : Nat) : Nat :=
  if sub = 2 ∧ tickPeriod d ≤ n then 11
  else if sub = 1 ∧ ceilDiv (10 ^ 12) n ≤ regN d 0x2110 2 then 11
  else if anyHeadOn d then 38 else 0

/-- OwnerKeyCommand (R355). DEDUCED: notes/assumptions/144.md. -/
def ownerRefusal (d : Device) (sg : Signer) (b : List Byte) : Nat :=
  let slot := (b.getD 0 0).toNat
  let op := (b.getD 1 0).toNat
  if sg.first ∨ (ownerSlot d sg.slot).1 ≠ 2 then 6
  else if 4 ≤ slot ∨ op = 0 ∨ 2 < op then 11
  else if sg.again ∧ ownerSlot d slot = (op + 1, if op = 1 then b.drop 2 else (ownerSlot d slot).2) then 0
  else if op = 1 ∧ (ownerSlot d slot).1 ≠ 1 then 11
  else if op = 2 ∧ ((ownerSlot d slot).1 ≠ 2 ∨ slot = sg.slot) then 11 else 0

/-- Object 0x2500. -/
def securityRefusal (d : Device) (who : Requester) (sg : Signer) (sub n : Nat) (b : List Byte) : Nat :=
  if sub = 7 then (if n < regN d 0x2500 7 then 11 else 0)
  else if sub = 0x0A then (if who = .bundle then 6 else 0)
  else if sub = 0x10 then ownerRefusal d sg b
  else if sub = 0x12 then (if n = 1 ∧ d.sup.dbg.since.isSome ∧ !d.pins.fuse then 12 else 0)
  else if sub = 0x14 ∨ sub = 0x15 then (if (whoSession who).isNone then 6 else 0)
  else if sub = 0x1C then (if sg.first ∨ (ownerSlot d sg.slot).1 ≠ 2 then 6 else 0)
  else 0

/-- ErrorRingAck (R433): no record in handling may go. -/
def ackRefusal (d : Device) (k n : Nat) : Nat :=
  let g := ringAt d k
  if g.recs.any fun r => decide (r.num ≤ n) && g.handling.any fun h => h.num == r.num then 11 else 0

def telegramRefusal (d : Device) (b : List Byte) : Nat :=
  let c := (telegramLaunchOp d b).2
  if c = 1 then 0 else c

/-- MemLatencyTargetsUs: the ranges of R223. -/
def latencyRefusal (b : List Byte) : Nat :=
  if (List.range 11).all fun k => decide (5 ≤ be16At b k ∧ be16At b k ≤ if k < 4 then 200 else 1000) then 0 else 11

/-- Whether a change to `d'` is refused with ADMISSION on any die (R205). -/
def anyAdmissionBars (d d' : Device) : Bool := (List.range 6).any fun p => admissionBars d d' p

def sceneRule (d : Device) (k sub n : Nat) (b : List Byte) : Nat :=
  let armed : Nat := if regN d (0x4A00 + k) 5 = 2 then 37 else 0
  if sub = 2 then firstOf [sceneRefusal b, armed]
  else if sub = 3 then armed
  else if sub = 4 ∧ n = 1 ∧ Int.ofNat (hours 24) < diff48 (regN d (0x4A00 + k) 3) (nowBase d 1) then 36
  else 0

/-- A source's export mask (R84, R86, R205). -/
def maskRefusal (d : Device) (s n : Nat) : Nat :=
  let gone := (List.range 6).filter fun p => (srcCfg d s 0x0E).testBit p && !n.testBit p
  let o := srcOwner d s
  firstOf [if o < 6 ∧ n.testBit o then 11 else 0,
    if d.layers.any (fun (e : Nat × LayerUnit) => e.2.committed && gone.contains (e.1 / 32) && frcN d (0x4000 + e.1) 2 == s) then 17 else 0,
    if srcOn d s ∧ anyAdmissionBars d (setN d (0x5000 + s) 0x0E n) then 40 else 0]

/-- SourceEnable TRUE (R87, R102, R127, R205, R220). DEDUCED: notes/assumptions/142.md. -/
def srcEnableRefusal (d : Device) (s : Nat) : Nat :=
  if srcOn d s then 0
  else firstOf [enableRefusal d s (tnrPairs d (some s)), if srcCfg d s 1 = 3 then streamRefusal d s else 0,
    if anyAdmissionBars d (srcEnableOp d s) then 40 else 0]

/-- Two ports of ST 2110 paths that lie on different control dies (R102). -/
def pathsApart (a b : Nat) : Bool := decide (a < 4 ∧ b < 4 ∧ a / 2 ≠ b / 2)

/-- DEDUCED: notes/assumptions/143.md. -/
def sourceRule (d : Device) (s sub n : Nat) : Nat :=
  if sub = 2 then (if n = 1 then srcEnableRefusal d s else 0)
  else if sub = 0x0E then maskRefusal d s n
  else if sub = 3 ∧ n < 6 ∧ (srcCfg d s 0x0E).testBit n then 11
  else if (sub = 1 ∨ (3 ≤ sub ∧ sub ≤ 7) ∨ (0x11 ≤ sub ∧ sub ≤ 0x19)) ∧ (srcOn d s ∨ srcEnabled d s) then 15
  else if (sub = 0x11 ∧ pathsApart n (srcCfg d s 0x14)) ∨ (sub = 0x14 ∧ pathsApart (srcCfg d s 0x11) n) then 19
  else 0

/-- A camera input's entries (R119, R120, R127, R205). -/
def cameraRule (d : Device) (i sub n : Nat) : Nat :=
  if sub = 1 then
    (if n = 0 ∨ camOn d i then 0 else firstOf [camRefusal d i, if anyAdmissionBars d (camEnableOp d i) then 40 else 0])
  else if sub < 0x10 then
    (if camOn d i then 27
     else if sub = 6 ∧ (camStreams d i).any (fun k => srcOn d (streamSource d i k)) then 15 else 0)
  else if 0x20 ≤ sub ∧ sub < 0x40 then
    let k := (sub - 0x20) / 8
    let cur := streamSource d i k
    if cur < 512 ∧ srcOn d cur then 15
    else if (sub - 0x20) % 8 = 0 ∧ n < 512 ∧ n ≠ cur then
      (if (streamOf d n).isSome ∨ srcCfg d n 1 ≠ 3 then 32 else if srcOn d n then 15 else 0)
    else 0
  else 0

/-- A touch link's entries (R268, R269). DEDUCED: notes/assumptions/97.md. -/
def touchRule (d : Device) (k sub n : Nat) : Nat :=
  let c (s : Nat) : Nat := regN d (touchCfg k) s
  if sub = 0x0C ∧ n < 24 ∧ dieOfHead n ≠ dieOfLink k then 11
  else if sub = 1 ∧ n = 1 then
    firstOf [if c 2 = 0 ∨ c 3 = 0 ∨ c 0x10 = 0 ∨ c 0x0C = 0xFF then 44 else 0,
      if c 0x0C < 24 ∧ dieOfHead (c 0x0C) ≠ dieOfLink k then 34 else 0,
      if headStreams d (c 0x0C) ≤ c 0x0D then 35 else 0]
  else if ((2 ≤ sub ∧ sub ≤ 5) ∨ sub = 0x0C ∨ sub = 0x0D) ∧ c 1 = 1 then 43 else 0

/-- Whether any session has a block read of die p's held frame open (R324). -/
def heldRead (d : Device) (p : Nat) : Bool := d.sup.sessions.any fun (e : Nat × Session) => match e.2.rdCopy with
  | some (i, s, _) => i == pobj 0x3060 p && s == 0x0C
  | none => false

/-- The rules of the object itself, on a write that passed checks 1 to 9. -/
def ruleRefusal (d : Device) (who : Requester) (sg : Signer) (base u sub : Nat) (v : Val) : Nat :=
  let n := valNum v
  let b := valBytes v
  if base = 0x1600 then mappingRefusal d false u sub n
  else if base = 0x1A00 then mappingRefusal d true u sub n
  else if base = 0x2020 then
    (if (sub = 1 ∧ n = regN d 0x2020 2) ∨ (sub = 2 ∧ n = regN d 0x2020 1) ∨ (sub = 9 ∧ !anchorsWhole 4 b) then 11 else 0)
  else if base = 0x2030 then (if sub = 7 then claimRefusal d who u n else if sub = 8 then releaseRefusal d who u n else 0)
  else if base = 0x2110 then tickRefusal d sub n
  else if base = 0x2210 then (if hasClock (n / 2 ^ 24) (n / 2 ^ 16 % 256) && hasClock (n / 2 ^ 24) (n / 256 % 256) then 0 else 11)
  else if base = 0x2300 then (if (sub = 0x0E ∨ sub = 0x0F) ∧ (whoSession who).isNone then 6 else 0)
  else if base = 0x2500 then securityRefusal d who sg sub n b
  else if base = 0x2510 then (if auditOldest d ≤ n ∧ n ≤ auditHead d then 0 else 11)
  else if base = 0x2600 then (if sub = 5 then ackRefusal d u n else 0)
  else if base = 0x2700 then (if sub = 0x11 then telegramRefusal d b else 0)
  else if base = 0x3010 then (if lastInterfaces d (u / 4) (u % 4) then 42 else 0)
  else if base = 0x3014 then
    (if sub = 9 then latencyRefusal b else if sub = 3 ∧ fspLimitBars d u n then 40 else 0)
  else if base = 0x3040 then (if admissionBars d (setN d (pobj 0x3040 u) 1 n) u then 40 else 0)
  else if base = 0x3060 then
    (if sub = 2 ∧ n < 24 ∧ dieOfHead n ≠ u then 11 else if sub = 7 ∧ n = 2 ∧ heldRead d u then 12 else 0)
  else if base = 0x4000 then (if sub = 4 ∧ regN d (0x4000 + u) 3 < n then 11 else 0)
  else if base = 0x4900 then (if sub = 2 ∧ !(b.all fun x => charOk x.toNat) then 11 else 0)
  else if base = 0x4800 then (if 2 ≤ sub ∧ sub ≤ 0x0D ∧ headOn d u then 39 else 0)
  else if base = 0x4A00 then sceneRule d u sub n b
  else if base = 0x6000 then (if sub = 0x0C ∧ regN d (0x6000 + u) 0x0B < n then 11 else 0)
  else if base = 0x5000 then sourceRule d u sub n
  else if base = 0x5400 then (if portInputs d u = [] then 0 else 28)
  else if base = 0x5480 then cameraRule d u sub n
  else if base = 0x5800 then touchRule d u sub n
  else 0

/-- The code of R299 of a write. -/
def writeCheck (d : Device) (who : Requester) (sg : Signer) (idx sub : Nat) (v : Val) : Nat :=
  let c := writeCode d who idx sub v
  if c ≠ 1 then c
  else match objOf idx with
    | none => 2
    | some (base, u) => let r := ruleRefusal d who sg base u sub v; if r = 0 then 1 else r

/-! ### Effects -/

def setOwner (d : Device) (n : Nat) (o : Option Nat) : Device := modLayer d n fun u => { u with owner := o }

/-- SessionClaimLayer (R330): a change of owner by MAINT is announced. -/
def claimOp (d : Device) (who : Requester) (u n : Nat) : Device :=
  let was := (layerAt d n).owner
  let d := setOwner d n (some u)
  if holds (rolesOf d who) 8 ∧ was ≠ some u then raise d (supDie d) 54 (0x4000 + n) else d

/-- OTP of owner key slot i. -/
def setOwnerSlot (d : Device) (i : Nat) (v : Nat × List Byte) : Device :=
  { d with pins := { d.pins with owners := (List.range 4).map fun j => if j = i then v else ownerSlot d j } }

def ownerCommandOp (d : Device) (b : List Byte) : Device :=
  let slot := (b.getD 0 0).toNat
  if (b.getD 1 0).toNat = 1 then setOwnerSlot d slot (2, b.drop 2) else setOwnerSlot d slot (3, (ownerSlot d slot).2)

/-- One half of a control restart (R384). DEDUCED: notes/assumptions/122.md. -/
def restartHalf (d : Device) (who : Requester) (maint : Bool) : Device := match whoSession who with
  | none => d
  | some k =>
    let h := some (d.mono, (sessAt d k).leaf)
    { d with sup := if maint then { d.sup with restartM := h } else { d.sup with restartA := h } }

def approve (d : Device) (who : Requester) (maint : Bool) (sig : List Byte) : Device := match whoSession who with
  | none => d
  | some k => debugApproveOp d maint sig (sessAt d k).leaf

def securityWrite (d : Device) (who : Requester) (sub : Nat) (v : Val) : Device :=
  let n := valNum v
  let b := valBytes v
  if sub = 1 then attestOp d b
  else if sub = 0x0A then d
  else if sub = 0x10 then ownerCommandOp d b
  else if sub = 0x12 then (if n = 1 then debugRequestOp d else debugCloseOp d)
  else if sub = 0x14 then approve d who true b
  else if sub = 0x15 then approve d who false b
  else if sub = 0x1C then
    let asked := d.sup.dbg.since.isSome
    let d := modDebug { d with pins := { d.pins with fuse := true } } fun u => { u with since := none, maint := none, audit := none }
    if asked then setN d 0x2500 0x16 6 else d
  else setReg d 0x2500 sub v

def redWrite (d : Device) (who : Requester) (sub : Nat) (v : Val) : Device :=
  let n := valNum v
  if sub = 0x0C then redCommandOp d n
  else if sub = 0x0E then restartHalf d who true
  else if sub = 0x0F then restartHalf d who false
  else if sub = 0x10 then
    (if n % 256 = 3 then releaseHeldOp d (n / 256) else pixelCommandOp d (n / 256) (n % 256 == 2))
  else setReg d 0x2300 sub v

/-- ErrorRingAck (R433). -/
def ringAckOp (d : Device) (k n : Nat) : Device :=
  emcyCheck (modRing d k fun g =>
    { g with recs := g.recs.filter fun r => decide (n < r.num),
             lost := match g.lost with
               | some l => if l.whil ≤ n then none else some l
               | none => none })

/-- The TB1 instant of SceneLaunchTimeNs nearest to now. DEDUCED: notes/assumptions/148.md. -/
def launchInstant (d : Device) (k : Nat) : Nat := (Int.ofNat (nowBase d 1) + diff48 (regN d (0x4A00 + k) 3) (nowBase d 1)).toNat

def sceneWrite (d : Device) (who : Requester) (k sub : Nat) (v : Val) : Device :=
  if sub ≠ 4 then setReg d (0x4A00 + k) sub v
  else if valNum v = 1 then sceneLaunchOp d who k (some (launchInstant d k))
  else if valNum v = 2 then sceneLaunchOp d who k none
  else sceneCancelOp d k

/-- The liveness policy takes effect at once and is measured (R42, R45, R351). DEDUCED: notes/assumptions/147.md. -/
def policyBytes (d : Device) : List Byte := (List.range' 1 5).flatMap (fun i => beBytes 1 (regN d 0x5C00 i)) ++ beBytes 1 (policyLock d)
/-- DEDUCED: notes/assumptions/44.md. -/
def policyWrite (d : Device) (sub : Nat) (v : Val) : Device :=
  let d := if sub = 6 then setN d 0x5C00 7 2 else setReg d 0x5C00 sub v
  extendMeas d (supDie d) 5 (sha256 (policyBytes d))

/-- SourceFormat of an ST2110 source follows St2110Sampling (R86, R101). -/
def sourceFormatOf (d : Device) (s : Nat) : Device :=
  if srcCfg d s 1 = 2 ∧ samplingFormat (srcCfg d s 0x18) ≠ 0 then setN d (0x5000 + s) 4 (samplingFormat (srcCfg d s 0x18)) else d

def sourceWrite (d : Device) (s sub : Nat) (v : Val) : Device :=
  if sub ≠ 2 then sourceFormatOf (setReg d (0x5000 + s) sub v) s
  else if valNum v = 1 then (if srcOn d s then d else srcEnableOp d s)
  else if srcOn d s then srcDisableOp d s else d

def cameraWrite (d : Device) (i sub : Nat) (v : Val) : Device :=
  if sub = 1 then
    (if valNum v = 1 then (if camOn d i then d else camEnableOp d i) else if camOn d i then camDisableOp d i else d)
  else if sub = 0x1C then camCommitOp d i
  else
    let d := setReg d (0x5480 + i) sub v
    if sub = 6 then bindStreams d i else if 0x20 ≤ sub then bindStream d i ((sub - 0x20) / 8) else d

/-- The effect of a write that passed every check. -/
def writeApply (d : Device) (who : Requester) (base u idx sub : Nat) (v : Val) : Device :=
  let n := valNum v
  if base = 0x2030 then
    (if sub = 6 then modSess d u fun x => { x with endpoint := if n = 0 then none else some { ip := n / 65536 % 2 ^ 32, udp := n % 65536 } }
     else if sub = 7 then claimOp d who u n
     else if sub = 8 then setOwner d n none
     else closeSession d u (if whoSession who = some u then 1 else 3))
  else if base = 0x2100 then (if sub ≤ 6 then baseConfigWritten (setReg d idx sub v) u sub (n == regN d idx sub) else setReg d idx sub v)
  else if base = 0x2200 then testStageOp d n
  else if base = 0x2210 then modClock d (n / 2 ^ 24) fun c => { c with measure := some (n, n % 256, 0) }
  else if base = 0x2300 then redWrite d who sub v
  else if base = 0x2400 then (if sub = 6 then ruleLockOp d u else if sub = 9 then ruleCommitOp d u else setReg d idx sub v)
  else if base = 0x2500 then securityWrite d who sub v
  else if base = 0x2520 then (if sub = 6 then fwStageCommitOp d else if sub = 7 then fwActivateOp d n else setReg d idx sub v)
  else if base = 0x2600 then (if sub = 5 then ringAckOp d u n else setReg d idx sub v)
  else if base = 0x2700 then (if sub = 0x11 then (telegramLaunchOp d (valBytes v)).1 else setReg d idx sub v)
  else if base = 0x3010 then (if (memIfAt d u).state = 3 then retireBegin d (u / 4) (u % 4) else d)
  else if base = 0x3014 then (if sub = 3 then fspRequest (setReg d idx sub v) u else setReg d idx sub v)
  else if base = 0x3050 then
    (if sub = 6 then (if n = 1 then mcArmOp d u else if n = 2 then mcCancelOp d u else mcInstallOp d u) else setReg d idx sub v)
  else if base = 0x3060 then
    (if sub = 6 then wbCommitOp d u else if sub = 7 then (if n = 1 then wbHoldOp d u else wbReleaseOp d u) else setReg d idx sub v)
  else if base = 0x4000 then (if sub = 0x14 then layerCommitOp d u else setReg d idx sub v)
  else if base = 0x4800 then (if sub = 0x19 then headCommitOp d u (!holds (rolesOf d who) 8) else setReg d idx sub v)
  else if base = 0x4900 then (if sub = 4 then guardCommitOp d u else if sub = 9 then setN d idx 0x0A 2 else setReg d idx sub v)
  else if base = 0x4A00 then sceneWrite d who u sub v
  else if base = 0x5000 then sourceWrite d u sub v
  else if base = 0x5480 then cameraWrite d u sub v
  else if base = 0x5800 then
    (if sub = 0x15 then touchSelfTestOp d u
     else if sub = 1 ∧ n ≠ regN d idx 1 then touchEnableOp (setReg d idx sub v) u (n == 1) else setReg d idx sub v)
  else if base = 0x5C00 then policyWrite d sub v
  else if base = 0x6000 then
    (if sub = 0x12 then tagCommitOp d u
     else if sub = 0x20 then (tagUpdate d u n none (match who with
       | .session k => ctlOfPort (sessAt d k).port
       | .can f _ => f
       | .bundle => supDie d)).1
     else setReg d idx sub v)
  else setReg d idx sub v

/-! ### Refusals and the audit log (R299, R357, R361) -/

/-- SessionLastRefusal and SessionRefusals, or CanLastRefusal. -/
def noteRefusal (d : Device) (who : Requester) (idx sub code : Nat) : Device :=
  let w := idx % 65536 * 65536 + sub % 256 * 256 + code
  match who with
  | .session k => bump (setN d (0x2030 + k) 0x0A w) (0x2030 + k) 0x0B
  | .can _ _ => setN d 0x2010 9 w
  | .bundle => d

/-- The kind of the audit record that a write is owed; 0 none. `roles` are those held when it was made. DESIGN CHOICE: notes/assumptions/145.md. -/
def auditKind (who : Requester) (roles base sub n code : Nat) : Nat :=
  if code = 1 ∧ base = 0x2500 ∧ sub = 0x0A then 0
  else if code = 1 ∧ ((base = 0x2400 ∧ sub = 6) ∨ (base = 0x4900 ∧ sub = 9) ∨ (base = 0x5C00 ∧ sub = 6)) then 2
  else if code = 1 ∧ base = 0x4A00 ∧ sub = 4 ∧ n < 3 then 3
  else if code = 1 ∧ base = 0x2500 ∧ (sub = 0x12 ∨ sub = 0x14 ∨ sub = 0x15) then 9
  else if base = 0x6000 ∧ sub = 0x20 then 0
  else if base = 0x2400 ∨ base = 0x2500 ∨ base = 0x5C00 ∨ (code = 1 ∧ (whoSession who).isSome ∧ holds roles 24) then 1
  else 0

def auditWrite (d : Device) (who : Requester) (roles idx sub : Nat) (v : Val) (code : Nat) : Device :=
  let base := match objOf idx with
    | some (b, _) => b
    | none => 0
  let k := auditKind who roles base sub (valNum v) code
  let r := if k = 9 ∧ sub ≠ 0x12 then regN d 0x2500 0x16 else code
  if k = 0 then d
  else auditAdd d k (whoNumber who) (if (whoSession who).isSome then roles else 0) (idx % 65536 * 65536 + sub % 256 * 256 + r)
    (sha256 (valWire idx sub v))

/-- The dies whose limit bars a write refused with ADMISSION (R205, R231). -/
def barringDies (d : Device) (base u sub n : Nat) : List Nat :=
  let by' (d' : Device) : List Nat := (List.range 6).filter fun p => admissionBars d d' p
  if base = 0x3014 ∨ base = 0x3040 then [u]
  else if base = 0x5000 then by' (if sub = 2 then srcEnableOp d u else setN d (0x5000 + u) sub n)
  else if base = 0x5480 then by' (camEnableOp d u)
  else []

/-- AdmissionRefusals counts every refusal with ADMISSION (R215). -/
def noteAdmission (d : Device) (idx sub n code : Nat) : Device := match objOf idx with
  | some (base, u) => if code = 40 then (barringDies d base u sub n).foldl admissionRefused d else d
  | none => d

/-- One write, bundles apart: the device and the code of R299. -/
def writeOne (d : Device) (who : Requester) (sg : Signer) (idx sub : Nat) (v : Val) : Device × Nat :=
  let roles := rolesOf d who
  let code := writeCheck d who sg idx sub v
  let e := match objOf idx with
    | some (base, u) =>
      if code = 1 then writeApply d who base u idx sub v else noteRefusal (noteAdmission d idx sub (valNum v) code) who idx sub code
    | none => noteRefusal d who idx sub code
  (noteRequest (auditWrite e who roles idx sub v code) idx sub code (valWire idx sub v), code)

/-! ### Bundles (R353 to R356) -/

def beAt (b : List Byte) (off n : Nat) : Nat := bigEndian ((b.drop off).take n)

/-- The records of a bundle: index, subindex and value. None when they do not fill their bytes. -/
def bundleRecs : Nat → List Byte → Option (List (Nat × Nat × List Byte))
  | 0, b => if b = [] then some [] else none
  | n + 1, b =>
    let z := beAt b 4 4
    if b.length < 8 ∨ b.length < 8 + z ∨ (b.getD 3 0) ≠ 0 then none
    else (bundleRecs n (b.drop (8 + z))).map fun r => (beAt b 0 2, beAt b 2 1, (b.drop 8).take z) :: r

def bundleCount (b : List Byte) : Nat := beAt b 34 2
def bundleLen (b : List Byte) : Nat := beAt b 36 4
def bundleSerial (b : List Byte) : Nat := beAt b 4 8
def bundleTarget (b : List Byte) : List Byte := (b.drop 12).take 16
def bundleSlot (b : List Byte) : Nat := beAt b (40 + bundleLen b) 1
def bundleKey (b : List Byte) : List Byte := (b.drop (42 + bundleLen b)).take 65
def bundleSig (b : List Byte) : List Byte := (b.drop (107 + bundleLen b)).take 64
def bundleRecords (b : List Byte) : Option (List (Nat × Nat × List Byte)) :=
  bundleRecs (bundleCount b) ((b.drop 40).take (bundleLen b))

def bundleForm (b : List Byte) : Bool :=
  beAt b 0 2 == 0xCE72 && beAt b 2 1 == 1 && decide (beAt b 3 1 < 2) && decide (1 ≤ bundleCount b ∧ bundleCount b ≤ 4096) &&
  b.length == 171 + bundleLen b && beAt b (41 + bundleLen b) 1 == 0 && decide (bundleSlot b < 4) && (bundleRecords b).isSome

/-- First enrolment (R355). -/
def firstEnrolment (d : Device) (b : List Byte) : Bool :=
  (List.range 4).all (fun i => (ownerSlot d i).1 == 1) && beAt b 3 1 == 1 && bundleTarget b == serial16

/-- Checks 2 to 6 of R354; 1 passed. -/
def bundleCode (d : Device) (b : List Byte) (runtime : Bool) : Nat :=
  let o := ownerSlot d (bundleSlot b)
  firstCode [
    if bundleForm b then 0 else 2,
    if bundleTarget b = List.replicate 16 0 ∨ bundleTarget b = serial16 then 0 else 3,
    if firstEnrolment d b || (o.1 == 2 && o.2 == sha256 (bundleKey b)) then 0 else 4,
    if Config.ecdsaVerify (bundleKey b) (sha256 (b.take (107 + bundleLen b))) (bundleSig b) then 0 else 5,
    if runtime ∧ bundleSerial b ≤ regN d 0x2500 0x0C then 6 else 0]

/-- The value in force of an entry that a lock covers (R356). DEDUCED: notes/assumptions/155.md. -/
def lockedValue (d : Device) (idx sub : Nat) : Val := match objOf idx with
  | some (base, _) => if base = 0x4900 ∨ base = 0x2400 then frc d idx sub else reg d idx sub
  | none => .num 0

/-- Records in order from number `i`; with `skip`, one that names a locked entry is passed over and announced when it differs.
The second part is the number of the first that fails. -/
def applyRecords (sg : Signer) (skip : Bool) : Nat → List (Nat × Nat × List Byte) → Device → Device × Option Nat
  | _, [], d => (d, none)
  | i, (idx, sub, b) :: r, d =>
    let v := valOfWire idx sub b
    let code := writeCheck d .bundle sg idx sub v
    if code = 8 ∧ skip then
      let d := if lockedValue d idx sub = v ∨ (idx / 128 = 0x48 ∧ sub = 9) ∨ (idx = 0x5C00 ∧ sub = 6) then d
        else raiseD d (supDie d) 61 0x2500 [7, i]
      applyRecords sg skip (i + 1) r d
    else if code ≠ 1 then (d, some i)
    else applyRecords sg skip (i + 1) r (writeOne d .bundle sg idx sub v).1

def bundleRefused (d : Device) (b : List Byte) (code i : Nat) : Device :=
  let d := raiseD (setN d 0x2500 0x0B (code + 256 * i)) (supDie d) 61 0x2500 [code, i]
  auditDev d 5 (0x25000A00 + code) (sha256 b)

/-- The bundle is stored in the NOR of every control die that is up, in place of the older of its two copies (R466). DEDUCED: notes/assumptions/116.md. -/
def bundleStore (d : Device) (b : List Byte) : Device :=
  forEach d [0, 1] fun d c =>
    if ctlUp d c then modNor d c fun f => if f.bundle = b then f else { f with bundle := b, bundleOld := f.bundle } else d

def bundleApplied (d : Device) (b : List Byte) : Device :=
  let dg := sha256 b
  let d := setB (setN (setN d 0x2500 0x0B 1) 0x2500 0x0C (bundleSerial b)) 0x2500 0x0D dg
  let d := extendMeas (bundleStore d b) (supDie d) 3 dg
  auditDev (raise d (supDie d) 60 0x2500) 4 0x25000A01 dg

/-- A bundle is checked and applied whole, or changes nothing (R354). -/
def bundleTake (d : Device) (b : List Byte) (runtime skip : Bool) : Device :=
  let code := bundleCode d b runtime
  if code ≠ 1 then bundleRefused d b code 0
  else
    let first := firstEnrolment d b
    match applyRecords { slot := bundleSlot b, first := first, again := !runtime } skip 0 ((bundleRecords b).getD []) d with
    | (_, some i) => bundleRefused d b 7 i
    | (d, none) => bundleApplied (if first then setOwnerSlot d 0 (2, sha256 (bundleKey b)) else d) b

/-- A write request: the device and the code of R299. BundleApply takes the staged bundle. -/
def writeOp (d : Device) (who : Requester) (idx sub : Nat) (v : Val) : Device × Nat :=
  let r := writeOne d who noSigner idx sub v
  if idx = 0x2500 ∧ sub = 0x0A ∧ r.2 = 1 then (bundleTake r.1 (regB r.1 0x2500 9) true false, 1) else r

/-! ### Requests as commands -/

/-- Whether a requester is served: an active supervisor, and an open session or a live CAN port whose NMT state is not
STOPPED. -/
def served (d : Device) (who : Requester) : Bool := (activeCtl d).isSome && match who with
  | .session k => sessOpen d k
  | .can f _ => canServed d f && serving d && d.can.nmt != 1
  | .bundle => true

/-- An authenticated request keeps its session from the idle timeout (R327). -/
def touchSession (d : Device) (who : Requester) : Device := match whoSession who with
  | some k => modSess d k fun x => { x with lastReq := d.mono }
  | none => d

/-- DESIGN CHOICE: notes/assumptions/146.md. -/
def request (d : Device) (who : Requester) (idx sub : Nat) (v : Val) : Device :=
  if served d who then (writeOp (touchSession d who) who idx sub v).1 else d

def execLayerCommit (dt : Nat) (who : Requester) (n : LayerNo) (s : State) := act dt s fun d => request d who (0x4000 + n) 0x14 (.num 1)
def execHeadCommit (dt : Nat) (who : Requester) (h : HeadNo) (s : State) := act dt s fun d => request d who (0x4800 + h) 0x19 (.num 1)
def execGuardCommit (dt : Nat) (who : Requester) (h : HeadNo) (s : State) := act dt s fun d => request d who (0x4900 + h) 4 (.num 1)
def execGuardLock (dt : Nat) (who : Requester) (h : HeadNo) (s : State) := act dt s fun d => request d who (0x4900 + h) 9 (.num 1)
def execTagCommit (dt : Nat) (who : Requester) (t : TagNo) (s : State) := act dt s fun d => request d who (0x6000 + t) 0x12 (.num 1)
def execWritebackCommit (dt : Nat) (who : Requester) (p : Die) (s : State) := act dt s fun d => request d who (pobj 0x3060 p) 6 (.num 1)
def execWritebackHold (dt : Nat) (who : Requester) (p : Die) (s : State) := act dt s fun d => request d who (pobj 0x3060 p) 7 (.num 1)
def execWritebackRelease (dt : Nat) (who : Requester) (p : Die) (s : State) := act dt s fun d => request d who (pobj 0x3060 p) 7 (.num 2)
def execSceneLaunchAtTime (dt : Nat) (who : Requester) (k : SceneNo) (s : State) := act dt s fun d => request d who (0x4A00 + k) 4 (.num 1)
def execSceneLaunchNow (dt : Nat) (who : Requester) (k : SceneNo) (s : State) := act dt s fun d => request d who (0x4A00 + k) 4 (.num 2)
def execSceneCancel (dt : Nat) (who : Requester) (k : SceneNo) (s : State) := act dt s fun d => request d who (0x4A00 + k) 4 (.num 3)
def execPolicyLock (dt : Nat) (who : Requester) (s : State) := act dt s fun d => request d who 0x5C00 6 (.num 1)
def execTagValueWrite (dt : Nat) (who : Requester) (t : TagNo) (v : Nat) (s : State) := act dt s fun d => request d who (0x6000 + t) 0x20 (.num v)
def execSourceEnableWrite (dt : Nat) (who : Requester) (src : SourceNo) (on : Bool) (s : State) :=
  act dt s fun d => request d who (0x5000 + src) 2 (.num on.toNat)
def execCameraInputEnable (dt : Nat) (who : Requester) (i : InputNo) (on : Bool) (s : State) :=
  act dt s fun d => request d who (0x5480 + i) 1 (.num on.toNat)
def execCameraInputCommit (dt : Nat) (who : Requester) (i : InputNo) (s : State) := act dt s fun d => request d who (0x5480 + i) 0x1C (.num 1)
def execTouchEnableWrite (dt : Nat) (who : Requester) (k : TouchNo) (on : Bool) (s : State) :=
  act dt s fun d => request d who (0x5800 + k) 1 (.num on.toNat)
def execTouchSelfTest (dt : Nat) (who : Requester) (k : TouchNo) (s : State) := act dt s fun d => request d who (0x5800 + k) 0x15 (.num 1)
def execMemIfRetire (dt : Nat) (who : Requester) (p : Die) (m : MemIf) (s : State) := act dt s fun d => request d who (ifObj p m) 0x0A (.num 1)
def execMemFspLimitWrite (dt : Nat) (who : Requester) (p : Die) (v : Nat) (s : State) := act dt s fun d => request d who (memObj p) 3 (.num v)
def execClockMeasureRequest (dt : Nat) (who : Requester) (v : Nat) (s : State) := act dt s fun d => request d who 0x2210 0x0A (.num v)
def execSupplyTestStage (dt : Nat) (who : Requester) (v : Nat) (s : State) := act dt s fun d => request d who 0x2200 8 (.num v)
def execTimebaseConfigWrite (dt : Nat) (who : Requester) (b : Fin 4) (sub v : Nat) (s : State) :=
  act dt s fun d => request d who (0x2100 + b) sub (.num v)
def execRuleCommit (dt : Nat) (who : Requester) (e : Fin 128) (s : State) := act dt s fun d => request d who (0x2400 + e) 9 (.num 1)
def execRuleLock (dt : Nat) (who : Requester) (e : Fin 128) (s : State) := act dt s fun d => request d who (0x2400 + e) 6 (.num 1)
def execRegisterWrite (dt : Nat) (who : Requester) (idx sub : Nat) (v : Val) (s : State) := act dt s fun d => request d who idx sub v
def execSessionClaimLayer (dt : Nat) (who : Requester) (k : SessNo) (n : Nat) (s : State) := act dt s fun d => request d who (0x2030 + k) 7 (.num n)
def execSessionReleaseLayer (dt : Nat) (who : Requester) (k : SessNo) (n : Nat) (s : State) := act dt s fun d => request d who (0x2030 + k) 8 (.num n)
def execSessionCloseWrite (dt : Nat) (who : Requester) (k : SessNo) (s : State) := act dt s fun d => request d who (0x2030 + k) 0x0E (.num 1)
def execErrorRingAck (dt : Nat) (who : Requester) (k : AnyDie) (num : Nat) (s : State) := act dt s fun d => request d who (0x2600 + k) 5 (.num num)
def execAttestNonceWrite (dt : Nat) (who : Requester) (nonce : List Byte) (s : State) := act dt s fun d => request d who 0x2500 1 (.bytes nonce)
def execBundleApply (dt : Nat) (who : Requester) (s : State) := act dt s fun d => request d who 0x2500 0x0A (.num 1)
def execDebugRequest (dt : Nat) (who : Requester) (s : State) := act dt s fun d => request d who 0x2500 0x12 (.num 1)
def execDebugClose (dt : Nat) (who : Requester) (s : State) := act dt s fun d => request d who 0x2500 0x12 (.num 2)
def execDebugApproveMaint (dt : Nat) (who : Requester) (sig : List Byte) (s : State) := act dt s fun d => request d who 0x2500 0x14 (.bytes sig)
def execDebugApproveAudit (dt : Nat) (who : Requester) (sig : List Byte) (s : State) := act dt s fun d => request d who 0x2500 0x15 (.bytes sig)
def execTelegramLaunch (dt : Nat) (who : Requester) (rec_ : List Byte) (s : State) := act dt s fun d => request d who 0x2700 0x11 (.bytes rec_)
def execRedCommandDrill (dt : Nat) (who : Requester) (s : State) := act dt s fun d => request d who 0x2300 0x0C (.num 1)
def execRedCommandHandover (dt : Nat) (who : Requester) (s : State) := act dt s fun d => request d who 0x2300 0x0C (.num 2)
def execRedCommandClearSuspect (dt : Nat) (who : Requester) (s : State) := act dt s fun d => request d who 0x2300 0x0C (.num 3)
def execControlRestartMaint (dt : Nat) (who : Requester) (s : State) := act dt s fun d => request d who 0x2300 0x0E (.num 1)
def execControlRestartAudit (dt : Nat) (who : Requester) (s : State) := act dt s fun d => request d who 0x2300 0x0F (.num 1)
def execFwStageCommit (dt : Nat) (who : Requester) (s : State) := act dt s fun d => request d who 0x2520 6 (.num 1)
def execFwActivateStaged (dt : Nat) (who : Requester) (s : State) := act dt s fun d => request d who 0x2520 7 (.num 1)
def execFwActivateFallback (dt : Nat) (who : Requester) (s : State) := act dt s fun d => request d who 0x2520 7 (.num 2)
def execMcSwapArm (dt : Nat) (who : Requester) (p : Die) (s : State) := act dt s fun d => request d who (mcObj p) 6 (.num 1)
def execMcSwapCancel (dt : Nat) (who : Requester) (p : Die) (s : State) := act dt s fun d => request d who (mcObj p) 6 (.num 2)
def execMcInstallNextReset (dt : Nat) (who : Requester) (p : Die) (s : State) := act dt s fun d => request d who (mcObj p) 6 (.num 3)
def execRedPixelReset (dt : Nat) (who : Requester) (p : Die) (s : State) := act dt s fun d => request d who 0x2300 0x10 (.num (256 * p + 1))
def execRedPixelResetWithRepair (dt : Nat) (who : Requester) (p : Die) (s : State) :=
  act dt s fun d => request d who 0x2300 0x10 (.num (256 * p + 2))
def execRedPixelReleaseHeld (dt : Nat) (who : Requester) (p : Die) (s : State) := act dt s fun d => request d who 0x2300 0x10 (.num (256 * p + 3))

end Sys2Proof.Machine
end

