-- ==== Sys2Proof/Machine/Sessions.lean ====
section
/-! DEFINITION. DXP: handshakes, requests with their replay window and held answers, block transfers, tag telegrams, closing;
USDO; ARP and ICMP (R297, R311, R315 to R328, R332, R357, R374). -/

namespace Sys2Proof.Machine

/-! ### Ports and dropped datagrams (R315, R316, R319) -/

/-- Whether DXP datagrams that arrive at a port reach a supervisor. -/
def dxpHeard (d : Device) (e : Nat) : Bool := hostPort d e && (activeCtl d).isSome && serving d

/-- A datagram whose tag fails, or that names no open session. -/
def authFailure (d : Device) : Device := raiseLimited (bump d 0x2020 0x0E) (supDie d) 51 0x2020 0 [] (10 ^ 9) none

def dxpDroppedOp (d : Device) (e : Nat) (why : DxpDrop) : Device :=
  if !dxpHeard d e then d
  else match why with
    | .header => d
    | .tag k => if sessOpen d k then authFailure d else d
    | .noSession k => if sessOpen d k then d else authFailure d

/-- ARP and ICMP echo are answered on the port of arrival. -/
def arpIcmpOp (d : Device) (e : Nat) (echo : Bool) (from_ : Endpoint) : Device :=
  if hostPort d e then send d e 4 (endpointWord from_) [if echo then 1 else 0] else d

/-! ### Handshakes (R320 to R322) -/

def helloBytes (m : Hello) : List Byte :=
  beBytes 1 m.session ++ beBytes 1 m.roles ++ [0, 0] ++ padTo 32 m.nonce ++ padTo 65 m.key ++ beBytes 2 m.chain.length ++ m.chain

/-- A handshake message: session 0xFF, sequence 0. -/
def sendHandshake (d : Device) (port op : Nat) (peer : Endpoint) (payload : List Byte) : Device :=
  send d port 3 (endpointWord peer) (dxpHeader 0xFF 0 op 0 0 payload.length 0 ++ payload)

/-- REJECT with a code of R299. -/
def rejectHandshake (d : Device) (port : Nat) (peer : Endpoint) (roles code : Nat) (leaf : List Byte) : Device :=
  let d := sendHandshake d port 0xF5 peer (beBytes 1 code ++ [0, 0, 0])
  let d := setN (bump d 0x2020 0x0C) 0x2020 0x0D code
  auditAdd d 7 0xFF (roles % 32) (0x20200000 + code) (sha256 leaf)

def handshakeOf (d : Device) (peer : Endpoint) : Option Handshake := d.sup.handshakes.find? fun h => h.peer == peer

/-- The handshake of an address ends; a session number it held is free again. -/
def dropHandshake (d : Device) (peer : Endpoint) : Device :=
  let free (d : Device) (h : Handshake) : Device := if (sessAt d h.session).state = 2 then setSess d h.session { Session.reset with state := 1 } else d
  let d := forEach d (d.sup.handshakes.filter fun h => h.peer.ip == peer.ip) free
  { d with sup := { d.sup with handshakes := d.sup.handshakes.filter fun h => h.peer.ip != peer.ip } }

/-- A session number neither open nor in a handshake. -/
def sessFree (d : Device) (k : Nat) : Bool := decide ((sessAt d k).state < 2)

/-- The session a HELLO gets, or the code of its REJECT. DEDUCED: notes/assumptions/215.md. -/
def helloSession (d : Device) (m : Hello) : Nat × Nat :=
  if 2 ≤ d.sup.handshakes.length then (0, 12)
  else if m.session < 8 then (m.session, if sessFree d m.session then 0 else 54)
  else if m.session ≠ 0xFF then (0, 11)
  else match (List.range 8).find? (sessFree d) with
    | some k => (k, 0)
    | none => (0, 53)

def challengeHead (d : Device) (k : Nat) : List Byte :=
  beBytes 1 k ++ [0, 0, 0] ++ padTo 32 (Config.randomBytes d.fresh) ++ padTo 65 (Config.ephemeralKey d.fresh)

def challengeBytes (d : Device) (k : Nat) (m : Hello) : List Byte :=
  let h := challengeHead d k
  let cert := Config.deviceCertificate
  h ++ padTo 64 (Config.deviceSign (sha256 (helloBytes m ++ h))) ++ beBytes 2 cert.length ++ cert

def dxpHelloOp (d : Device) (e : Nat) (peer : Endpoint) (m : Hello) : Device :=
  if !dxpHeard d e then d
  else
    let d := dropHandshake d peer
    let (k, code) := helloSession d m
    if code ≠ 0 then rejectHandshake d e peer m.roles code (Config.chainLeaf m.chain)
    else
      let c := challengeBytes d k m
      let h : Handshake :=
        { peer := peer, port := e, session := k, hello := m, nonce := padTo 32 (Config.randomBytes d.fresh), seed := d.fresh,
          challenge := c, since := d.mono }
      let d := modSess (spend d) k fun x => { x with state := 2 }
      sendHandshake { d with sup := { d.sup with handshakes := d.sup.handshakes ++ [h] } } e 0xF2 peer c

/-- Roles granted of those requested: the anchor's bit in RoleAnchorMask and an organisational unit of the leaf. -/
def grantedRoles (d : Device) (m : Hello) (anchor : Nat) : List Nat :=
  (List.range 5).filter fun r => m.roles.testBit r && (regN d (0x2040 + r) 3).testBit anchor &&
    (Config.leafUnits (Config.chainLeaf m.chain)).contains (regB d (0x2040 + r) 2)

/-- The roles of a PROVE as bits, or the code of its REJECT (R321). -/
def proveCheck (d : Device) (h : Handshake) (sig : List Byte) : Nat × Nat :=
  let m := h.hello
  let anchors := regB d 0x2020 9
  match Config.chainAnchor anchors m.chain with
  | none => (0, 47)
  | some a =>
    let t := (baseOf (ctlAt d (supDie d)) 0)
    let g := grantedRoles d m a
    let code :=
      if t.st ≠ 1 ∧ !Config.chainInDate m.chain t.ns then 48
      else if !Config.chainSigned anchors m.chain ||
          !Config.ecdsaVerify (Config.leafKey (Config.chainLeaf m.chain)) (sha256 (helloBytes m ++ h.challenge)) sig then 49
      else if g = [] then 50
      else if g.contains 3 && g.contains 4 then 51
      else if g.any fun r => decide (regN d (0x2040 + r) 4 ≤ sessionsWith d r) then 52
      else 0
    (sumOf (g.map fun r => 2 ^ r), code)

def sessionKeys (h : Handshake) (sig : List Byte) : List Byte :=
  Config.hkdf72 (Config.ecdhShared h.seed h.hello.key) (padTo 32 h.hello.nonce ++ h.nonce)
    ([70, 76, 88, 56, 45, 68, 88, 80, 45, 49] ++ sha256 (helloBytes h.hello ++ h.challenge ++ padTo 64 sig))

/-- Session k opens: its counters restart, ACCEPT leaves sealed with sequence 0. -/
def openSession (d : Device) (h : Handshake) (e roles : Nat) (sig : List Byte) : Device :=
  let k := h.session
  let keys := sessionKeys h sig
  let leaf := Config.chainLeaf h.hello.chain
  let d := setSess d k { Session.reset with
    state := 3, roles := roles, peer := h.peer, port := e, leaf := leaf, openedAt := (ctlAt d (supDie d)).tb3.ns % 2 ^ 63,
    lastReq := d.mono, keys := keys }
  let d := forEach d [0x0A, 0x0B, 0x0C, 0x0D] fun d sub => setN d (0x2030 + k) sub 0
  let d := auditAdd (bump d 0x2020 0x0B) 6 k roles ((0x2030 + k) * 65536 + 1) (sha256 leaf)
  let payload := beBytes 1 k ++ beBytes 1 roles ++ [0, 0] ++ beBytes 2 (regN d 0x2020 3)
  let hdr := dxpHeader 0xFF 0 0xF4 0 0 payload.length 0
  send d e 3 (endpointWord h.peer) (dxpSealed keys hdr 0 payload)

/-- DEDUCED: notes/assumptions/154.md. -/
def handshakeLate (d : Device) (h : Handshake) : Bool := decide (h.since + regN d 0x2020 4 * 1000000 ≤ d.mono)

/-- A handshake ends with REJECT. -/
def failHandshake (d : Device) (h : Handshake) (e code : Nat) : Device :=
  rejectHandshake (dropHandshake d h.peer) e h.peer h.hello.roles code (Config.chainLeaf h.hello.chain)

def dxpProveOp (d : Device) (e : Nat) (peer : Endpoint) (sig : List Byte) : Device :=
  if !dxpHeard d e then d
  else match handshakeOf d peer with
    | none => d
    | some h =>
      if handshakeLate d h then failHandshake d h e 55
      else
        let anchored := (Config.chainAnchor (regB d 0x2020 9) h.hello.chain).isSome
        let d := if anchored ∧ (baseOf (ctlAt d (supDie d)) 0).st = 1 then raise d (supDie d) 52 0x2020 else d
        let (roles, code) := proveCheck d h sig
        if code ≠ 0 then failHandshake d h e code else openSession (dropHandshake d peer) h e roles sig

def handshakeTimeoutOp (d : Device) (peer : Endpoint) : Device := match handshakeOf d peer with
  | some h => if (activeCtl d).isSome && handshakeLate d h then failHandshake d h h.port 55 else d
  | none => d

/-! ### Answers (R317, R323, R328, R357) -/

/-- Whether a standby holds a checkpoint, so that answers to writes wait for the next. DEDUCED: notes/assumptions/150.md. -/
def ckptHolding (d : Device) : Bool := match standbyIn d ckptRoles with
  | some o => (newestSlot (ctlAt d o)).isSome
  | none => false

def answerReady (a : Answer) : Bool := !a.ckpt && a.audit.isNone

/-- The last 16 answers, and older ones not yet sent. DEDUCED: notes/assumptions/153.md. -/
def keepAnswers (l : List Answer) : List Answer :=
  (l.take (l.length - 16)).filter (fun a => !a.sent) ++ l.drop (l.length - 16)

/-- A response leaves; a session closes after the answer to its own SessionClose or CLOSE (R327), or at the end of the
sequence (R323). -/
def sendAnswer (d : Device) (k : Nat) (a : Answer) : Device :=
  let d := modSess d k fun x => { x with answers := x.answers.map fun b => if b.seq = a.seq then { b with sent := true } else b }
  let d := dxpMessage d k a.port 1 (0x80 + a.op) a.sub a.idx a.status (beBytes 4 a.seq ++ a.payload)
  if a.closes then closeSession d k 1
  else if 0xFFFFFFF0 ≤ a.seq then closeSession d k 4 else d

/-- Session k sends the answers that wait for nothing more, in order. -/
def sendReady (d : Device) (k : Nat) : Device :=
  forEach d ((sessAt d k).answers.filter fun a => !a.sent && answerReady a) fun d a => if sessOpen d k then sendAnswer d k a else d

/-- Every waiting answer changes, and those that wait for nothing more leave. -/
def releaseAnswers (d : Device) (f : Nat → Answer → Answer) : Device :=
  forEach d (List.range 8) fun d k =>
    if sessOpen d k ∧ (sessAt d k).answers.any (fun a => !a.sent) then
      sendReady (modSess d k fun x => { x with answers := x.answers.map fun a => if a.sent then a else f k a }) k
    else d

/-- With no standby to checkpoint to, answers are not held. -/
def releaseUnheld (d : Device) : Device :=
  if (activeCtl d).isSome ∧ !ckptHolding d then releaseAnswers d fun _ a => { a with ckpt := false } else d

/-- A commit of the checkpoint begins (R374). -/
def checkpointOp (d : Device) : Device := ckptStart (releaseUnheld d)

/-- The commit record of the slot in writing is complete: the answers that the slot records no longer wait for it. -/
def checkpointDoneOp (d : Device) : Device := match ckptWriting d with
  | none => d
  | some (o, i) =>
    let s := (ckptAt (ctlAt d o) i).sup
    let saved (k : Nat) (a : Answer) : Bool := (tget s.sessions k Session.reset).answers.any fun b => b.seq == a.seq
    releaseAnswers (ckptFinish d o i) fun k a => if saved k a then { a with ckpt := false } else a

/-- The oldest record in programming is in QSPI NOR; the answers that waited for it leave (R357). -/
def auditProgrammedOp (d : Device) : Device := match d.awaiting with
  | [] => d
  | n :: rest =>
    if (activeCtl d).isNone then d
    else
      let d := logProgram { d with awaiting := rest } (supDie d) n
      let due := d.can.held.filter fun h => decide (h.1 ≤ n)
      let d := { d with can := { d.can with held := d.can.held.filter fun h => decide (n < h.1) } }
      let d := forEach d due fun d h => sendCanOn d h.2.1 (0x580 + d.can.nodes.getD h.2.1 0) h.2.2
      releaseAnswers d fun _ a => if a.audit.any (· ≤ n) then { a with audit := none } else a

/-! ### Requests (R296, R317, R323) -/

/-- What a request came to: status, payload, whether it wrote. -/
structure Reply where
  status  : Nat
  payload : List Byte
  wrote   : Bool
  deriving DecidableEq, Repr, Inhabited

def refusedReply (code : Nat) : Reply := { status := code, payload := [], wrote := false }
def okReply (payload : List Byte) : Reply := { status := 1, payload := payload, wrote := false }

/-- An authenticated request of session k: executed, answered again, or dropped. A datagram whose payload of `len` bytes is
longer than 1,400 is no DXP message and is dropped (R316, R318). DEDUCED: notes/assumptions/208.md. -/
def dxpRequest (d : Device) (e : Nat) (peer : Endpoint) (k seq op idx sub len : Nat) (run : Device → Device × Reply) : Device :=
  if !dxpHeard d e || decide (1400 < len) then d
  else if !sessOpen d k then authFailure d
  else
    let d := modSess d k fun x => { x with lastReq := d.mono, peer := peer, port := e }
    let x := sessAt d k
    if x.top < seq then
      let (d', r) := run (modSess d k fun x => { x with top := seq })
      let d' := if r.wrote then d' else noteRequest d' idx sub r.status []
      let a : Answer :=
        { seq := seq, status := r.status, payload := r.payload, op := op, idx := idx, sub := sub, ckpt := r.wrote && ckptHolding d',
          audit := if auditHead d' = auditHead d then none else some (auditHead d'), sent := false, port := e,
          closes := r.status == 1 && (op == 8 || (r.wrote && idx == 0x2030 + k && sub == 0x0E)) }
      if sessOpen d' k then sendReady (modSess d' k fun x => { x with answers := keepAnswers (x.answers ++ [a]) }) k else d'
    else match (x.answers.drop (x.answers.length - 16)).find? fun a => a.seq == seq with
      | some a => if a.sent then sendAnswer d k { a with port := e } else d
      | none => bump d (0x2030 + k) 0x0C

/-- A refusal of session k. -/
def refuse (d : Device) (k idx sub code : Nat) : Device × Reply := (noteRefusal d (.session (Fin.ofNat 8 k)) idx sub code, refusedReply code)

def sessWho (k : Nat) : Requester := .session (Fin.ofNat 8 k)

def readRun (k idx sub : Nat) (d : Device) : Device × Reply :=
  let code := readCode d (sessWho k) idx sub
  let v := valWire idx sub (readReg d idx sub)
  if code ≠ 1 then refuse d k idx sub code
  else if 1396 < v.length then refuse d k idx sub 9
  else (readDone d idx sub, okReply v)

/-- A session's write of its own SessionClose is checked and recorded; the session closes once it is answered. -/
def selfClose (d : Device) (k idx sub : Nat) (v : Val) : Bool :=
  idx == 0x2030 + k && sub == 0x0E && writeCheck d (sessWho k) noSigner idx sub v == 1

def writeRun (k idx sub : Nat) (v : Val) (d : Device) : Device × Reply :=
  if selfClose d k idx sub v then
    (noteRequest (auditWrite d (sessWho k) (rolesOf d (sessWho k)) idx sub v 1) idx sub 1 (valWire idx sub v),
      { status := 1, payload := [], wrote := true })
  else
    let (d, c) := writeOp d (sessWho k) idx sub v
    (d, { status := c, payload := [], wrote := true })

/-- Strings and DOMAINs of a READ_ALL are preceded by their length. -/
def readAllPart (d : Device) (idx sub : Nat) : List Byte :=
  let b := valWire idx sub (readReg d idx sub)
  match entryOf idx sub with
  | some e => match e.ty with
    | .num _ => b
    | _ => beBytes 2 b.length ++ b
  | none => b

def readAllRun (k idx : Nat) (d : Device) : Device × Reply := match objOf idx with
  | none => refuse d k idx 0 2
  | some _ =>
    let l := readableSubs idx
    let b := l.flatMap (readAllPart d idx)
    if l.any fun sub => readCode d (sessWho k) idx sub != 1 then refuse d k idx 0 6
    else if 1396 < b.length then refuse d k idx 0 9
    else (forEach d l fun d sub => readDone d idx sub, okReply b)

/-! ### Block transfers (R324) -/

/-- Whether a block read of a DOMAIN reads it in place. -/
def inPlace (idx sub len : Nat) : Bool := decide (32768 < len) || (decide (0x3060 ≤ idx ∧ idx ≤ 0x3560) && idx % 256 == 0x60 && sub == 0x0C)

def blockReadRun (k idx sub off len : Nat) (d : Device) : Device × Reply :=
  let code := readCode d (sessWho k) idx sub
  if code ≠ 1 then refuse d k idx sub code
  else
    let x := sessAt d k
    let fresh := valWire idx sub (readReg d idx sub)
    let kept : Option (List Byte) := match x.rdCopy with
      | some (i, s, b) => if i = idx ∧ s = sub ∧ off ≠ 0 ∧ !inPlace idx sub fresh.length then some b else none
      | none => none
    let b := kept.getD fresh
    if len < 1 ∨ 1024 < len ∨ b.length < off + len then refuse d k idx sub 11
    else
      let ends := decide (b.length ≤ off + len)
      let copy := if inPlace idx sub fresh.length then [] else b
      let d := modSess d k fun x => { x with rdCopy := if ends ∧ inPlace idx sub fresh.length then none else some (idx, sub, copy) }
      (if off = 0 then readDone d idx sub else d, okReply ((b.drop off).take len))

def dropBlock (d : Device) (k : Nat) : Device := modSess d k fun x => { x with wr := none }

/-- DEDUCED: notes/assumptions/152.md. -/
def blockWriteRun (k idx sub off : Nat) (last : Bool) (total : Nat) (data : List Byte) (d : Device) : Device × Reply :=
  let d := if off = 0 then dropBlock d k else d
  let x := sessAt d k
  let got : Option (List Byte) := if off = 0 then some [] else match x.wr with
    | some (i, s, b) => if i = idx ∧ s = sub ∧ b.length = off then some b else none
    | none => none
  match got with
  | none => refuse (dropBlock d k) k idx sub 13
  | some b =>
    if 1024 < data.length then refuse (dropBlock d k) k idx sub 9
    else
      let b := b ++ data
      if !last then (modSess d k fun x => { x with wr := some (idx, sub, b) }, okReply [])
      else if b.length ≠ total then refuse (dropBlock d k) k idx sub 13
      else writeRun k idx sub (valOfWire idx sub b) (dropBlock d k)

/-! ### Tag telegrams (R325) -/

def tagEntryRun (f : Nat) (p : Device × Nat) (e : TagEntry) : Device × Nat :=
  if 4095 < e.tag ∨ e.rsvd then p
  else
    let r := tagUpdate p.1 e.tag e.value e.stamp f
    (r.1, if r.2 then p.2 + 1 else p.2)

def telegramRun (k e count len : Nat) (entries : List TagEntry) (d : Device) : Device × Reply :=
  if !holds (rolesOf d (sessWho k)) 4 then refuse d k 0 0 6
  else if len ≠ 2 + 16 * count then refuse d k 0 0 9
  else if count < 1 ∨ 80 < count then refuse d k 0 0 11
  else
    let r := (entries.take count).foldl (tagEntryRun (ctlOfPort e)) (d, 0)
    (r.1, okReply (beBytes 2 r.2))

/-- No authenticated request for DxpIdleTimeoutS. -/
def idleTimeoutOp (d : Device) (k : Nat) : Device :=
  if (activeCtl d).isSome ∧ sessOpen d k ∧ (sessAt d k).lastReq + regN d 0x2020 3 * 10 ^ 9 ≤ d.mono then closeSession d k 2 else d

/-! ### USDO (R293, R299, R311) -/

def usdoAbort (code : Nat) : Nat :=
  if code = 2 then 0x06020000 else if code = 3 then 0x06090011 else if code = 4 then 0x06010002 else if code = 5 then 0x06010001
  else if code = 6 ∨ code = 7 then 0x06010000 else if code = 8 then 0x08000021 else if code = 9 then 0x06070010
  else if code = 10 ∨ code = 11 then 0x06090030 else if code = 12 ∨ code = 14 then 0x08000022 else 0x08000020

/-- A value as on CANopen FD: numbers little-endian. -/
def valCan (idx sub : Nat) (v : Val) : List Byte := match v with
  | .num _ => (valWire idx sub v).reverse
  | .bytes b => b

def usdoBody (node kind idx sub : Nat) (data : List Byte) : List Byte :=
  beBytes 1 kind ++ beBytes 1 node ++ leBytes 2 idx ++ beBytes 1 sub ++ data

/-- The answer of port f's node: what it is, the client, the entry, and the value or abort code (notes/assumptions/52.md). PRESUMED: notes/assumptions/52.md. -/
def usdoAnswer (d : Device) (f node kind idx sub : Nat) (data : List Byte) : Device :=
  sendCanOn d f (0x580 + d.can.nodes.getD f 0) (usdoBody node kind idx sub data)

/-- A USDO write; one that is logged is answered once its record is programmed (R357). -/
def usdoDownloadOp (d : Device) (f : CanPort) (node idx sub : Nat) (v : Val) : Device :=
  if !served d (.can f node) then d
  else
    let n := auditHead d
    let (d, c) := writeOp d (.can f node) idx sub v
    let kind := if c = 1 then 0 else 2
    let data := if c = 1 then [] else leBytes 4 (usdoAbort c)
    if auditHead d = n then usdoAnswer d f node kind idx sub data
    else { d with can := { d.can with held := d.can.held ++ [(auditHead d, f.val, usdoBody node kind idx sub data)] } }

def usdoUploadOp (d : Device) (f : CanPort) (node idx sub : Nat) : Device :=
  if !served d (.can f node) then d
  else
    let c := readCode d (.can f node) idx sub
    let d := noteRequest d idx sub c []
    if c = 1 then usdoAnswer (readDone d idx sub) f node 1 idx sub (valCan idx sub (readReg d idx sub))
    else usdoAnswer (noteRefusal d (.can f node) idx sub c) f node 2 idx sub (leBytes 4 (usdoAbort c))

/-! ### The meanings -/

def execDxpHello (dt : Nat) (port : EthPort) (peer : Endpoint) (m : Hello) (s : State) := act dt s fun d => dxpHelloOp d port peer m
def execDxpProve (dt : Nat) (port : EthPort) (peer : Endpoint) (sig : List Byte) (s : State) := act dt s fun d => dxpProveOp d port peer sig
def execHandshakeTimeout (dt : Nat) (peer : Endpoint) (s : State) := act dt s fun d => handshakeTimeoutOp d peer
def execDxpRead (dt : Nat) (port : EthPort) (peer : Endpoint) (k : SessNo) (seq idx sub : Nat) (s : State) :=
  act dt s fun d => dxpRequest d port peer k seq 1 idx sub 0 (readRun k idx sub)
def execDxpWrite (dt : Nat) (port : EthPort) (peer : Endpoint) (k : SessNo) (seq idx sub : Nat) (v : Val) (s : State) :=
  act dt s fun d => dxpRequest d port peer k seq 2 idx sub (valBytes v).length (writeRun k idx sub v)
def execDxpReadAll (dt : Nat) (port : EthPort) (peer : Endpoint) (k : SessNo) (seq idx : Nat) (s : State) :=
  act dt s fun d => dxpRequest d port peer k seq 3 idx 0 0 (readAllRun k idx)
def execDxpBlockRead (dt : Nat) (port : EthPort) (peer : Endpoint) (k : SessNo) (seq idx sub off len : Nat) (s : State) :=
  act dt s fun d => dxpRequest d port peer k seq 4 idx sub 6 (blockReadRun k idx sub off len)
def execDxpBlockWrite (dt : Nat) (port : EthPort) (peer : Endpoint) (k : SessNo) (seq idx sub off : Nat) (last : Bool) (total : Nat)
    (data : List Byte) (s : State) :=
  act dt s fun d => dxpRequest d port peer k seq 5 idx sub (10 + data.length) (blockWriteRun k idx sub off last total data)
def execDxpTagTelegram (dt : Nat) (port : EthPort) (peer : Endpoint) (k : SessNo) (seq count len : Nat) (entries : List TagEntry)
    (s : State) :=
  act dt s fun d => dxpRequest d port peer k seq 6 0 0 len (telegramRun k port count len entries)
def execDxpKeepalive (dt : Nat) (port : EthPort) (peer : Endpoint) (k : SessNo) (seq : Nat) (s : State) :=
  act dt s fun d => dxpRequest d port peer k seq 7 0 0 0 fun d => (d, okReply [])
def execDxpClose (dt : Nat) (port : EthPort) (peer : Endpoint) (k : SessNo) (seq : Nat) (s : State) :=
  act dt s fun d => dxpRequest d port peer k seq 8 0 0 0 fun d => (d, okReply [])
def execSessionIdleTimeout (dt : Nat) (k : SessNo) (s : State) := act dt s fun d => idleTimeoutOp d k
def execUsdoDownload (dt : Nat) (f : CanPort) (node idx sub : Nat) (v : Val) (s : State) := act dt s fun d => usdoDownloadOp d f node idx sub v
def execUsdoUpload (dt : Nat) (f : CanPort) (node idx sub : Nat) (s : State) := act dt s fun d => usdoUploadOp d f node idx sub
def execDxpDatagramDropped (dt : Nat) (port : EthPort) (why : DxpDrop) (s : State) := act dt s fun d => dxpDroppedOp d port why
def execArpIcmpEchoRequest (dt : Nat) (port : EthPort) (echo : Bool) (from_ : Endpoint) (s : State) :=
  act dt s fun d => arpIcmpOp d port echo from_
def execCheckpointCommit (dt : Nat) (s : State) := act dt s checkpointOp
def execCheckpointCommitDone (dt : Nat) (s : State) := act dt s checkpointDoneOp
def execAuditRecordProgrammed (dt : Nat) (s : State) := act dt s auditProgrammedOp

end Sys2Proof.Machine
end

