-- ==== Sys2Proof/Machine/Boot.lean ====
section
/-! DEFINITION. How dies come into service: a control die's boot and a takeover, a pixel die's restart and the reload of its
configuration (R302, R348, R351, R356, R370, R375, R377 to R382, R384 to R386, R390 to R392, R416). -/

namespace Sys2Proof.Machine

/-! ### Stores moved whole -/

/-- One entry of a store, by key. -/
def keyPut (t : Table Val) (k : Nat) (v : Val) : Table Val := tset (keyReset k) t k v
def keyPuts (t : Table Val) (l : Table Val) : Table Val := l.foldl (fun t e => keyPut t e.1 e.2) t

/-- The pixel die that holds an entry of the configuration in force or of its record, as `force` says. -/
def entryDie (force : Table Val) (key : Nat) : Option Nat := match objOf (keyIdx key % 0x10000) with
  | none => none
  | some (base, u) =>
    if base = 0x4000 then some (u / 32)
    else if base = 0x4800 ∨ base = 0x4900 then some (u / 4)
    else if base = 0x3060 then some u
    else if base = 0x6000 then (let h := valNum (storeGet force (0x6000 + u) 3); some (if h < 24 then h / 4 else 0))
    else none

/-- The configuration in force on the pixel dies out of reset, as they report it. -/
def reported (d : Device) : Table Val := d.force.filter fun e => match entryDie d.force e.1 with
  | some p => pixUp d p
  | none => false

/-- The supervisor's own registers are those given; the rest stays with the units. -/
def takeRegs (d : Device) (l : Table Val) : Device := { d with regs := keyPuts (d.regs.filter fun e => !supHeld e.1) l }

/-! ### Boot (R275, R348, R356) -/

/-- A register of die c alone is extended, and the audit log says so. -/
def extendOwn (d : Device) (c i : Nat) (dg : List Byte) : Device := auditDev (extendDie d c i dg) 13 0 dg

/-- The boot ROM: MEAS0 (R348). DEDUCED: notes/assumptions/111.md. -/
def bootRom (d : Device) (c : Nat) : Device :=
  let d := modCtl d c fun x => { x with meas := List.replicate 8 (List.replicate 32 0) }
  let keys := packFields 2 ((List.range 4).map fun i => (ownerSlot d i).1)
  let d := extendOwn d c 0 Config.bootRomDigest
  extendOwn d c 0 (sha256 (Config.otpImage (fwSecurity d) (if d.pins.fuse then 1 else 0) keys))

/-- TB3 as the supervisor of die c boots. -/
def bootTb3 (d : Device) (c : Nat) : Nat :=
  let kept := keptTb3 d c
  let peer := if ctlUp d (otherCtl c) ∧ roleOf d (otherCtl c) ≠ 1 then (ctlAt d (otherCtl c)).tb3.ns else 0
  max (if kept = 0 then 0 else kept + 60 * 10 ^ 9) peer

/-- The rule table of the bundle held: the entries its records stage and commit; its locks come with the records themselves. -/
def bundleRules : List (Nat × Nat × List Byte) → Table Val → RuleCopy → RuleCopy
  | [], _, c => c
  | (idx, sub, b) :: r, t, c =>
    if idx / 128 ≠ 0x48 then bundleRules r t c
    else
      let e := idx - 0x2400
      if sub = 6 then bundleRules r t c
      else if sub = 9 then
        let rule : Option Rule := if valNum (storeGet t idx 1) = 1 then
            some { masters := valNum (storeGet t idx 2), base := valNum (storeGet t idx 3), pages := valNum (storeGet t idx 4),
                   access := valNum (storeGet t idx 5) }
          else none
        bundleRules r t (setRule c e rule)
      else bundleRules r (storePut t idx sub (valOfWire idx sub b)) c

def builtinRules : RuleCopy :=
  { RuleCopy.reset with rules := (List.range 128).filterMap fun e => (Config.builtinRule e).map fun r =>
      (e, { masters := r.1, base := r.2.1, pages := r.2.2.1, access := r.2.2.2 }) }

/-- The table a booting die enforces. -/
def bootRules (d : Device) (c : Nat) : RuleCopy :=
  let b := (norOf d c).bundle
  if b = [] then builtinRules else bundleRules ((bundleRecords b).getD []) [] RuleCopy.reset

/-- Every pixel die, and the other control die, that runs and does not deny everything. -/
def ruleHolders (d : Device) (c : Nat) : List Nat := ((List.range 8).reverse.filter fun k => k != c && dieUp d k && !denies d k)

/-- Die c enforces a rule table before any other master runs (R348): after a device reset or a control restart that of its bundle, on
every die; else the table in force, with its locks, from a die that holds it (R343). No deviant copy is rewritten (R342). -/
def enforceRules (d : Device) (c : Nat) : Device :=
  if !d.sup.started ∧ roleOf d (otherCtl c) ≠ 2 then
    let r := bootRules d c
    let d := forEach d (c :: ruleHolders d c) fun d k => setRuleCopy d k r
    extendMeas (ruleSettle d) c 4 (ruleDigest r)
  else
    let own := ruleCopyAt d c
    let r := match (if ctlUp d (otherCtl c) ∧ !denies d (otherCtl c) ∧ roleOf d (otherCtl c) ≠ 1 then some (otherCtl c) else (ruleHolders d c).head?) with
      | some k => { ruleCopyAt d k with differ := 0 }
      | none => own
    if own.denyAll then d else extendOwn (ruleSettle (setRuleCopy d c r)) c 4 (ruleDigest r)

/-- The bundle of a die that boots while the other leads is only compared; the peer's copy replaces one that differs. -/
def bundleCompare (d : Device) (c : Nat) : Device :=
  let b := (norOf d c).bundle
  if b = [] ∧ regN d 0x2500 0x0C = 0 then d
  else
    let code := bundleCode d b false
    if code = 1 ∧ sha256 b = regB d 0x2500 0x0D then d
    else
      let d := raiseD (setN d 0x2500 0x0B (if code = 1 then 0 else code)) c 61 0x2500 [code, 0]
      let d := auditDev d 5 (0x25000A00 + code) (sha256 b)
      modNor d c fun f => { f with bundle := (norOf d (otherCtl c)).bundle, bundleOld := f.bundle }

/-- Microcode for every pixel die that has none, in die order. -/
def microAll (d : Device) : Device :=
  forEach d (List.range 6) fun d p => if pixUp d p && (mcAt d p).state0 == 0 then loadMicro d p else d

/-- MEAS2 of die c at its boot: the microcode image of each pixel die, in die order (R348, R351). -/
def microMeas (d : Device) (c : Nat) : Device :=
  forEach d (List.range 6) fun d p => if pixUp d p && (mcAt d p).state0 != 0 then extendOwn d c 2 (sha256 (mcRunning (mcAt d p))) else d

/-- An update that was under way ends. -/
def updateLost (d : Device) (c : Nat) : Device :=
  if updating d then raise { d with sup := { d.sup with fwState := 8 } } c 77 0x2520 else d

/-- A boot that fails: the die takes no part. DEDUCED: notes/assumptions/125.md. -/
def bootFailed (d : Device) (c : Nat) : Device :=
  let d := updateLost (setRole d c 9) (supDie d)
  if (activeCtl d).isSome then raise d (supDie d) 66 0x2300 else d

/-- Nothing of a supervisor is left: every session is closed, the record is rebuilt from what the pixel dies report, and the open state of the
debug port is theirs (R347, R375). -/
def supLost (d : Device) (c : Nat) : Device :=
  let d := forEach d (List.range 8) fun d k =>
    if (sessAt d k).state = 2 then setSess d k { Session.reset with state := 1 } else closeSession d k 0
  let opened := regN d 0x2500 0x18
  let sup := { Sup.reset with dbg := { DebugUnit.reset with opened := d.sup.dbg.opened, openedAt := d.sup.dbg.openedAt }, sessions := d.sup.sessions,
                              delivered := (List.range 8).map fun k => (k, (ringAt d k).last), fwState := 1, ruleLocked := d.sup.ruleLocked,
                              started := d.sup.started, tookBack := d.sup.tookBack, suspects := d.sup.suspects }
  let d := takeRegs { d with sup := sup, record := reported d } []
  let d := if d.sup.dbg.opened then setN (setN d 0x2500 0x18 opened) 0x2500 0x16 1 else d
  replayMeas d c

/-- The stored bundle is applied; `kept` says that the locks in force stand (R356). -/
def bundleBoot (d : Device) (c : Nat) (kept : Bool) : Device :=
  let b := (norOf d c).bundle
  if b = [] then d else bundleTake d b false kept

/-- Die c boots as one of the election (R356, R378). Where a leader has run since the device reset or the control restart, the locks in
force stand. -/
def bootElecting (d : Device) (c : Nat) : Device :=
  let o := otherCtl c
  if ctlUp d o ∧ roleOf d o = 2 then
    let d := enforceRules d c
    let d := if regN d 0x2500 0x0B = 1 then extendOwn d c 3 (regB d 0x2500 0x0D) else d
    startCompare (microAll (microMeas (setRole d c 2) c)) 1 0
  else
    let kept := d.sup.started
    let d := setRole (enforceRules d c) c 2
    let d := if kept then supLost d c else { d with record := reported d, sup := { d.sup with fwState := 1 } }
    let d := bundleBoot d c kept
    let d := if d.can.nmt = 0 then canReload d else d
    let d := microAll (microMeas d c)
    { d with cmp := { CompareUnit.reset with kind := 6 } }

/-- Die c boots while the other leads: recovery, or a step of an update (R382, R386). -/
def bootJoining (d : Device) (c : Nat) (trial : Bool) : Device :=
  let d := microMeas (bundleCompare (enforceRules d c) c) c
  let d := modCtl d c fun x => { x with bootAt := d.mono, lost := false, silentS := false, silentW := false, heardS := d.mono, heardW := d.mono,
                                        takeover := none, minority := none, warm := false,
                                        slot0 := { x.slot0 with st := max 1 x.slot0.st }, slot1 := { x.slot1 with st := max 1 x.slot1.st } }
  if d.sup.fwState = 4 then
    (if trial then startCompare (setRole d c 7) 4 0
     else trialFailed d (if (slotIn (norOf d c) 6).any fun i => Config.imageSigned (slotImg (norOf d c) i) then 3 else 2))
  else if d.sup.fwState = 6 then
    (if trial then startCompare (setRole d c 7) 5 0 else setFwUpdate (goSuspect d c) 8 6)
  else setRole (retain d c) c 6

def ctlReady (d : Device) (c : Nat) : Bool :=
  d.pins.pwrgood && d.pins.resetn && ctlUp d c && roleOf d c == 1 && decide (3 ≤ (clockAt d c).pll) && !(railAt d c).held

/-- A die that boots with no supervisor beside it goes on from the log in its own NOR; what was not programmed is gone (R359, R466). -/
def bootLog (d : Device) (c : Nat) : Device :=
  if (activeCtl d).isSome ∨ (ctlUp d (otherCtl c) ∧ !([0, 1, 9].contains (roleOf d (otherCtl c)))) then d
  else { d with audit := (norOf d c).log, awaiting := [] }

/-- A control die has restarted: what was in handling for that is complete, but for RULE_TABLE_MISMATCH while it still denies (R342, R434). -/
def restarted (d : Device) (c : Nat) : Device := modRing d c fun g =>
  { g with handling := g.handling.filter fun r => r.code == 56 && denies d c }

/-- CONTROL_DIE_BOOT. -/
def controlBootOp (d : Device) (c : Nat) (selfTest : Bool) : Device :=
  if !ctlReady d c then d
  else
    let d := { d with can := { d.can with errs := d.can.errs.set c (if d.can.errs.getD c 0 = 0 then 3 else d.can.errs.getD c 0) } }
    let d := modClock d c fun x => { x with faults := x.faults.filter (· != 4) }
    let t := bootTb3 d c
    let d := bootLog d c
    let d := modCtl d c fun x => { x with tb3 := { x.tb3 with ns := max t x.tb3.ns, frac := 0, slew := 0 } }
    let r := bootSelect (bootRom d c) c
    match r.2 with
    | none => bootFailed r.1 c
    | some i =>
      let d := r.1
      let trial := slotSt (norOf d c) i == 3
      let d := extendOwn d c 1 (sha256 (slotImg (norOf d c) i))
      let d := restarted (modCtl d c fun x => { x with booted := i + 1 }) c
      if !selfTest then bootFailed d c
      else if ctlUp d (otherCtl c) ∧ !([0, 1, 2, 9].contains (roleOf d (otherCtl c))) then bootJoining d c trial
      else bootElecting d c

/-! ### Takeover (R328, R370, R375, R380, R382) -/

/-- Sessions as a checkpoint gives them: the counter moves on, answers are those of executed requests, handshakes end. DEDUCED: notes/assumptions/113.md. -/
def revived (now : Nat) (x : Session) : Session :=
  if x.state = 3 then
    { x with counter := x.counter + 2 ^ 20, lastReq := now,
             answers := x.answers.map fun a => { a with ckpt := false, audit := none, sent := true } }
  else { Session.reset with state := 1 }

def restoreOwners (d : Device) (l : List (Nat × Nat)) : Device :=
  let d := { d with layers := tmap (fun _ (u : LayerUnit) => { u with owner := none }) d.layers }
  forEach d l fun d e => setOwner d e.1 (some e.2)

/-- The source of a source event (R334). -/
def recSource (r : EventRec) : Option Nat :=
  if r.code = 2 then r.detail.head? else if 0x5000 ≤ r.unit ∧ r.unit < 0x5100 then some (r.unit - 0x5000) else none

/-- Records formed since the checkpoint are delivered again (R439). DEDUCED: notes/assumptions/128.md. -/
def redeliver (d : Device) : Device :=
  forEach d (List.range 8) fun d k =>
    let from_ := tget d.sup.delivered k 0
    forEach d ((ringAt d k).recs.filter fun r => decide (from_ < r.num)) fun d r => deliverEvent d r (recSource r)

/-- A scene of the checkpoint: a member that its die has decided meanwhile has the outcome that the die reports (R163, R376). -/
def sceneBack (u now : SceneUnit) : SceneUnit :=
  { u with waiting := u.waiting.filter now.waiting.contains, missed := u.missed ++ (u.waiting.filter now.missed.contains),
           refused := u.refused ++ (u.waiting.filter now.refused.contains) }

/-- The microcode update state of the checkpoint, for a die whose banks have not swapped since. -/
def microBack (u now : McUnit) : McUnit :=
  if u.running = now.running ∧ u.state0 = now.state0 ∧ u.state1 = now.state1 then
    { now with armed := u.armed, probation := u.probation, install := u.install } else now

/-- What the dies hold of the debug port is open or closed as they say; a ceremony is that of the checkpoint (R347, R376). -/
def debugBack (u now : DebugUnit) : DebugUnit := if u.opened = now.opened then u else now

/-- The state of checkpoint slot i of die c (R375, R376). DEDUCED: notes/assumptions/110.md. DEDUCED: notes/assumptions/127.md. -/
def restoreSlot (d : Device) (c i : Nat) : Device :=
  let s := ckptAt (ctlAt d c) i
  let sup := { s.sup with sessions := tmap (fun _ x => revived d.mono x) s.sup.sessions, handshakes := [],
                          scenes := tmap (fun k u => sceneBack u (tget d.sup.scenes k SceneUnit.reset)) s.sup.scenes,
                          dbg := debugBack s.sup.dbg d.sup.dbg, handover := false, restartM := none, restartA := none,
                          ruleLocked := d.sup.ruleLocked, started := true }
  let d := takeRegs { d with sup := sup, record := keyPuts [] s.rec_, mcs := tmap (fun p u => microBack (tget s.mcs p u) u) d.mcs } s.regs
  let d := forEach (restoreOwners d s.owners) ((s.sup.scenes.filter fun e => e.2.waiting ≠ []).map (·.1)) sceneShow
  let d := { d with audit := d.audit.filter fun r => decide (r.num ≤ s.auditHead), awaiting := s.tail.map (·.num) }
  let d := replayMeas d c
  let d := redeliver (setN d 0x2310 7 (2 ^ 63 + s.seq % 2 ^ 63))
  if slotValid (1 - i) (ckptAt (ctlAt d c) (1 - i)) then d else raise d c 71 0x2310

/-- A takeover without a checkpoint (R375). -/
def restoreNone (d : Device) (c : Nat) : Device := raise (bundleBoot (supLost d c) c true) c 72 0x2310

/-- The supervisor of the die that failed is reset for recovery (R382). -/
def resetPeer (d : Device) (o : Nat) : Device :=
  if !ctlUp d o then d
  else modCtl (noteFailed (logReset d o) o) o fun x =>
    { x with role := 1, mismatch := false, takeover := none, minority := none, warm := false,
             slot0 := { CkptSlot.reset with st := 1 }, slot1 := { CkptSlot.reset with st := 1 } }

/-- Telegrams that fell due meanwhile leave, flagged LATE (R288). -/
def lateTelegrams (d : Device) : Device :=
  let mark (t : Telegram) : Telegram := if telegramLeft d t ≤ 0 then { t with late := true } else t
  telegramDueOp { d with sup := { d.sup with telegrams := d.sup.telegrams.map mark } }

/-- Pixel dies that came out of reset while no supervisor was active get their microcode and rule table (R343, R390). -/
def serveStarted (d : Device) : Device :=
  forEach d (List.range 6) fun d p => if pixUp d p && (mcAt d p).state0 == 0 then ruleReload (loadMicro d p) (dieNo p) else d

/-- The number of the last audit record that the restored state holds (R359). -/
def headHeld (d : Device) (c : Nat) : Nat := match (if (ctlAt d c).warm then none else newestSlot (ctlAt d c)) with
  | some i => (ckptAt (ctlAt d c) i).auditHead
  | none => auditHead d

/-- What die c goes on from: as a running shadow from its own state (R380), else from a checkpoint (R375). -/
def restored (d : Device) (c : Nat) : Device :=
  if (ctlAt d c).warm then
    replayMeas { d with sup := { d.sup with sessions := tmap (fun _ s => revived d.mono s) d.sup.sessions, handshakes := [], handover := false } } c
  else match newestSlot (ctlAt d c) with
    | some i => restoreSlot d c i
    | none => restoreNone d c

/-- RedLastFailoverUs, and from when DXP and USDO are served (R370): the time is open up to the bound. -/
def failoverTime (d : Device) (last : Nat) (warm : Bool) : Device :=
  let least := (d.mono - last) / 1000
  let most := if warm then 20000 else 80000
  let us := min (2 ^ 31 - 1) (least + freshVal d % (most - least + 1))
  spend { setN d 0x2300 6 (2 ^ 31 + us) with sup := { d.sup with drillAt := d.mono, drillDue := false, serveFrom := last + 1000 * us } }

/-- The failover of R370, or of R380 from a running shadow. (R53.) DESIGN CHOICE: notes/assumptions/108.md. -/
def failover (d : Device) (c : Nat) : Device :=
  let x := ctlAt d c
  let head := headHeld d c
  let d := updateLost (restored { d with cmp := CompareUnit.reset } c) c
  let d := nowActive (modCtl d c fun x => { x with warm := false }) c
  let d := failoverTime d (max x.heardS x.heardW) x.warm
  let d := auditDev (bump d 0x2300 5) 14 0 (beBytes 8 head)
  let d := serveStarted (resetPeer d (otherCtl c))
  let d := emcyCheck (emcyInhibitEndOp { d with can := { d.can with held := [] } })
  let d := lateTelegrams (raise (handledAll d c) c 69 0x2300)
  forEach d (List.range 12) deliverTouches

/-- TOKEN_GRANT: with four tokens in time a takeover runs. The retained image is verified again as at boot (R370). -/
def tokenGrantOp (d : Device) (c p : Nat) : Device :=
  let x := ctlAt d c
  match x.takeover with
  | none => d
  | some t =>
    if !ctlUp d c ∨ x.role ≠ 10 ∨ (pixAt d p).token ≠ c + 2 ∨ (tokensOf d c).length < 4 ∨ t + 20000000 < d.mono then d
    else if x.warm then failover d c
    else
      let w := wakeRetained d c
      if w.2 then failover w.1 c else returnTokens w.1 c

/-! ### Pixel dies (R302, R390 to R392) -/

/-- Whether anything can load microcode over Saddle. -/
def leaderRuns (d : Device) : Bool := (activeCtl d).isSome || [0, 1].any fun c => ctlUp d c && roleOf d c == 2

/-- Reset ends: links train, memory bring-up starts, microcode is loaded. -/
def restartPixel (d : Device) (p : Nat) : Device :=
  let d := releasePixel d p
  if leaderRuns d then loadMicro d p else d

/-- PIXEL_DIE_RESET_RELEASE. DEDUCED: notes/assumptions/129.md. -/
def resetReleaseOp (d : Device) (p : Nat) : Device :=
  let q := pixAt d p
  if q.out ∨ q.state ≠ 3 ∨ d.mono < q.resetAt + 1000000 ∨ (railAt d (dieNo p)).held ∨ !d.pins.pwrgood ∨ !d.pins.resetn ∨ (clockAt d (dieNo p)).pll < 3 then d
  else if q.repair then modPix d p fun q => { q with state := 4 }
  else restartPixel d p

/-- DIE_REPAIR_TEST_DONE. -/
def repairDoneOp (d : Device) (p failing : Nat) : Device :=
  let q := pixAt d p
  if q.state ≠ 4 then d
  else if q.spare < failing then raise (modPix d p fun q => { q with state := 7, repair := false, spare := 0 }) (dieNo p) 83 0
  else restartPixel (modPix d p fun q => { q with repair := false, spare := q.spare - failing, repairs := min (q.repairs + 1) 0x7FFFFFFF }) p

/-- A unit whose configuration came back has one applied. -/
def markUnit (d : Device) (idx : Nat) : Device :=
  match objOf idx with
  | none => d
  | some (base, u) =>
    if base = 0x4000 then modLayer d u fun x => { x with committed := true, kib := cfgKib d (layerCfg d u) }
    else if base = 0x4800 then modHead d u fun x => { x with applied := true }
    else if base = 0x6000 then modTag d u fun x => { x with applied := true }
    else if base = 0x3060 then modWb d u fun x => { x with applied := true }
    else d

/-- The configuration of die p from the records of R302. -/
def reload (d : Device) (p : Nat) : Device :=
  let mine := d.record.filter fun e => entryDie d.record e.1 == some p
  let d := { d with force := keyPuts d.force mine }
  forEach d ((mine.map fun e => keyIdx e.1).filter fun i => decide (0x10000 ≤ i)) fun d i => markUnit d (i % 0x10000)

/-- Enabled camera inputs and touch links of die p start again. -/
def reviveInputs (d : Device) (p : Nat) : Device :=
  let d := forEach d ((namedInputs d).filter fun i => camOn d i && dieOfPort (camPort d i) == p) fun d i =>
    setN (setCam d i { CamUnit.reset with params := stagedVals d.force (0x5480 + i) 0x10 0x1B }) (0x5480 + i) 0x41 1
  forEach d [2 * p, 2 * p + 1] fun d k => if regT d (0x5800 + k) 1 then touchStart d k false else d

/-- PIXEL_DIE_CONFIG_RELOADED. -/
def configReloadedOp (d : Device) (p : Nat) : Device :=
  let q := pixAt d p
  match activeCtl d with
  | none => d
  | some a =>
    if !q.out ∨ q.state ≠ 3 ∨ q.token ≠ a + 2 ∨ !q.tb1.loaded ∨ (mcAt d p).state0 = 0 ∨
        (List.range 4).any (fun m => (memIfAt d (ifKey p m)).state == 2) then d
    else modPix (reviveInputs (reload d p) p) p fun q => { q with state := 5 }

/-! ### The meanings -/

def execTokenGrant (dt : Nat) (c : Ctl) (p : Die) (s : State) := act dt s fun d => tokenGrantOp d c p
def execControlDieBoot (dt : Nat) (c : Ctl) (selfTest : Bool) (s : State) := act dt s fun d => controlBootOp d c selfTest
def execPixelDieResetRelease (dt : Nat) (p : Die) (s : State) := act dt s fun d => resetReleaseOp d p
def execDieRepairTestDone (dt : Nat) (p : Die) (failing : Nat) (s : State) := act dt s fun d => repairDoneOp d p failing
def execPixelDieConfigReloaded (dt : Nat) (p : Die) (s : State) := act dt s fun d => configReloadedOp d p

end Sys2Proof.Machine
end

