-- ==== Sys2Proof/Machine/Tick.lean ====
section
/-! DEFINITION. The commit window's close and the wall tick of a pixel die, with what happens once a tick for the device (R13
to R15, R52, R56, R158, R181, R194, R197 to R199, R206, R302, R313, R342, R345, R377, R379, R383, R384, R390, R423). -/

namespace Sys2Proof.Machine

/-- The first die that ticks: what happens once a tick for the device happens with it. DEDUCED: notes/assumptions/109.md. -/
def firstTicking (d : Device) : Option Nat := (List.range 6).find? fun p => pixUp d p && (pixAt d p).tb1.loaded

/-! ### The close (R14, R158, R199) -/

/-- The GREY frames before a reset are counted by closes: with the second, the tick is known whose scans end them. -/
def greyCount (d : Device) (p : Nat) : Device :=
  let next := (pixAt d p).ticks + 1
  let d := if (pixAt d p).state = 2 ∧ 0 < (pixAt d p).greyLeft then
      modPix d p fun q => { q with greyLeft := q.greyLeft - 1, endTick := if q.greyLeft = 1 then next else q.endTick }
    else d
  if (railAt d (dieNo p)).stage = 5 then
    let d := modRail d (dieNo p) fun r => { r with ticks := r.ticks + 1 }
    if (railAt d (dieNo p)).ticks = 2 then modPix d p fun q => { q with endTick := next } else d
  else d

/-- What follows the decisions of die p: budgets, strip memory, credits and latency targets as of this snapshot. -/
def closeShow (d : Device) (p : Nat) : Device :=
  let d := stripShow (admissionCheck d p) p
  let d := forEach d ((List.range 4).map (4 * p + ·)) guardShow
  let d := setN d (pobj 0x3030 p) 5 (0x8000 + sharedFree (memAt d p))
  modMem d p fun u => { u with latency := targetsUs d p }

/-- The supervisor's part of a close: the base of a comparison, a handover, a checkpoint (R374, R377, R383). DEDUCED: notes/assumptions/132.md. -/
def closeControl (d : Device) : Device := checkpointOp (handoverNow (cmpBase (handoverBegin d)))

/-- COMMIT_WINDOW_CLOSE, TickCommitLeadUs before the tick (R198). DEDUCED: notes/assumptions/50.md. -/
def closeOp (d : Device) (p : Nat) : Device :=
  let q := pixAt d p
  let T := aimTick d q
  if !closeDue d q then d
  else
    let d := modPix d p fun q => { q with closes := q.closes + 1, aimAt := T, closedAt := d.mono, closeStage := dieStage d p }
    let d := srcSnapshot (decideAll (greyCount d p) p T) p
    let d := forEach d (dieTags d p) fun d t => evalTag d p T t
    let d := forEach d (dieLayers d p) fun d n => evalLayer d p T n
    let d := forEach d ((List.range 4).map (4 * p + ·)) fun d h => planScan d p h
    let d := closeShow (migrateTick (deliverBehind d p) p) p
    if firstTicking d = some p then closeControl d else d

/-! ### The tick (R15, R181, R183) -/

/-- The phase detector of head h. DESIGN CHOICE: notes/assumptions/20.md. -/
def phaseTick (d : Device) (h : Nat) (last : Nat) : Device :=
  let u := headAt d h
  match u.phaseErr with
  | none => d
  | some e =>
    if !u.running || u.curTick != last then d
    else if e.natAbs ≤ 1000 then
      modHead d h fun u => { u with goodTicks := u.goodTicks + 1, lock := if 4 ≤ u.goodTicks + 1 then 2 else u.lock }
    else if 5000 < e.natAbs then lockLost d h
    else modHead d h fun u => { u with goodTicks := 0 }

/-- The planned frame becomes the one that launches in the interval of this tick. -/
def latchScan (d : Device) (h : Nat) : Device :=
  modScan d h fun x => { x with next := none, ready := x.next.map fun S => { S with forced := d.sup.dbg.opened } }

def lowestOf : List Nat → Nat
  | [] => 0
  | a :: r => r.foldl min a

/-- HeadWorstVerdict. -/
def worstShow (d : Device) (h : Nat) : Device :=
  let l := (layersOn d h).map fun n => match (layerAt d n).latched with
    | some e => e.verdict
    | none => 0
  let t := (tagsOn d h).map fun t => (tagAt d t).verdict
  setN d (0x4880 + h) 9 (lowestOf (l ++ t))

/-- The heads of die p at its tick; `last` is the tick before, `moved` that the grid moved. -/
def headsTick (d : Device) (p last : Nat) (moved : Bool) : Device :=
  forEach d ((List.range 4).map (4 * p + ·)) fun d h =>
    let d := phaseTick (modHead d h fun u => { u with phaseShown := u.phaseErr }) h last
    let d := if moved ∧ (headAt d h).running then lockLost d h else d
    worstShow (headTick (latchScan d h) h) h

/-! ### The record of R302 -/

/-- Whether a key names configuration of die p, marks apart. -/
def comparedKey (d : Device) (p key : Nat) : Bool := decide (keyIdx key < 0x10000) && entryDie d.force key == some p

def keyGet (t : Table Val) (k : Nat) : Val := (tfind t k).getD (keyReset k)

/-- Entries that the record and die p differ in. -/
def disagreeing (d : Device) (p : Nat) : List Nat :=
  (((d.force ++ d.record).map (·.1)).filter fun k => comparedKey d p k && keyGet d.force k != keyGet d.record k).eraseDups

/-- The comparison at a tick: at the third differing tick in a row the record takes the unit's value. DEDUCED: notes/assumptions/131.md. -/
def recordTick (d : Device) (p : Nat) : Device :=
  if (activeCtl d).isNone || !([1, 2].contains (pixAt d p).state) then modPix d p fun q => { q with disagree := [] }
  else
    let n (k : Nat) : Nat := tget (pixAt d p).disagree k 0 + 1
    let ks := disagreeing d p
    let due := ks.filter fun k => decide (3 ≤ n k)
    let marks := d.force.filter fun e => decide (0x10000 ≤ keyIdx e.1) && entryDie d.force e.1 == some p
    let d := modPix { d with record := keyPuts d.record marks } p fun q =>
      { q with disagree := (ks.filter fun k => decide (n k < 3)).foldl (fun t k => tput t k (n k)) [] }
    forEach d due fun d k =>
      raiseD { d with record := keyPut d.record k (keyGet d.force k) } (supDie d) 50 (keyIdx k) [keyIdx k, keySub k]

/-! ### The control restart (R384) -/

/-- Both halves within 60 s, by different certificates. -/
def restartAgreed (d : Device) : Bool := match d.sup.restartM, d.sup.restartA with
  | some (t, l), some (u, m) => l != m && decide ((t - u) + (u - t) ≤ 60 * 10 ^ 9)
  | _, _ => false

/-- Every lock is released (R45, R298, R343). -/
def unlockAll (d : Device) : Device :=
  let d := if regN d 0x5C00 7 = 2 then setN d 0x5C00 7 1 else d
  let d := forEach d (List.range 24) fun d h => if regN d (0x4900 + h) 0x0A = 2 then setN d (0x4900 + h) 0x0A 1 else d
  { d with rules := tmap (fun _ (c : RuleCopy) => { c with locked := 0 }) d.rules, sup := { d.sup with ruleLocked := 0 } }

def resetSupervisor (d : Device) (c : Nat) : Device :=
  if !ctlUp d c then d
  else
    let staged := d.sup.fwState == 3
    let d := logReset (returnTokens d c) c
    let d := if staged then modNor d c fun f => { slotsFrom f 2 3 with used := false } else d
    modCtl d c fun x => { x with role := 1, takeover := none, minority := none, warm := false, lost := false, mismatch := false,
                                 slot0 := { CkptSlot.reset with st := 1 }, slot1 := { CkptSlot.reset with st := 1 } }

def controlRestart (d : Device) : Device :=
  if (activeCtl d).isNone || !restartAgreed d then d
  else
    let d := unlockAll d
    let d := forEach d (List.range 8) fun d k => closeSession d k 0
    let d := resetSupervisor (resetSupervisor d 0) 1
    let sup := { Sup.reset with scenes := d.sup.scenes, dbg := d.sup.dbg, sessions := tmap (fun _ _ => { Session.reset with state := 1 }) d.sup.sessions,
                                delivered := d.sup.delivered, fwState := 1, tookBack := d.sup.tookBack, suspects := d.sup.suspects }
    setN { d with sup := sup, cmp := CompareUnit.reset } 0x2310 1 0

/-! ### The latch -/

/-- What happens once a tick for the device. -/
def deviceTick (d : Device) : Device :=
  let d := forEach d [0, 1] fun d c => if ctlUp d c then ruleTick d c else d
  let d := cmpTick (tpdoTick d)
  releaseUnheld (drillTick (controlRestart d))

/-- A die enters service at the tick after its configuration is back (R390); one that restarts says so. -/
def serviceTick (d : Device) (p : Nat) : Device :=
  if (pixAt d p).state ≠ 5 then d
  else
    let again := (pixAt d p).again
    let d := handledAll (modPix d p fun q => { q with state := 1, again := false }) (dieNo p)
    forEach (if again then raise d (dieNo p) 82 0 else d) (namedSources d) sendOwed

/-- A die whose last GREY scans have ended is reset at a tick, when no scan's end brought it. DEDUCED: notes/assumptions/90.md. -/
def endTickCheck (d : Device) (p : Nat) : Device :=
  let q := pixAt d p
  if q.endTick ≠ 0 ∧ q.endTick < q.ticks ∧ (scansEnded d p || decide (q.endTick + 2 ≤ q.ticks)) then announcedReset d p else d

/-- TICK_LATCH. -/
def latchOp (d : Device) (p : Nat) : Device :=
  let q := pixAt d p
  if !q.out ∨ q.closes ≠ q.ticks + 1 ∨ q.tb1.ns < q.aimAt then d
  else
    let n := q.ticks + 1
    let first := firstTicking d == some p
    let d := modPix d p fun q => { q with ticks := n, tickAt := q.aimAt, gridTick := 0, tickStage := q.closeStage }
    let d := if first then debugTick d else d
    let d := forEach d ((List.range 32).map (32 * p + ·)) fun d k => latchLayer d n k
    let d := forEach d (dieTags d p) latchTag
    let d := serviceTick d p
    let d := headsTick (wbTick d p) p q.ticks (decide (5000 < q.gridTick.natAbs))
    let d := mcTick (recordTick (ruleTick (spurStatusTick d p) (dieNo p)) p) p
    let d := if first then deviceTick d else d
    endTickCheck d p

/-! ### The meanings -/

def execCommitWindowClose (dt : Nat) (p : Die) (s : State) := act dt s fun d => closeOp d p
def execTickLatch (dt : Nat) (p : Die) (s : State) := act dt s fun d => latchOp d p
def execCommitMessage (dt : Nat) (p : Die) (s : State) := act dt s fun d => commitMessageOp d p

end Sys2Proof.Machine
end

