-- ==== Sys2Proof/Machine/Dispatch.lean ====
section
/-! DEFINITION. One arm per command: the one place where a command meets its meaning. -/

namespace Sys2Proof.Machine

/-- The effect of one command on everything but the queue. -/
def exec (i : Instr) (s : State) : Host.Outcome State Fault Refusal :=
  match i with
  | .commitWindowClose dt p => Sys2Proof.Machine.execCommitWindowClose dt p s
  | .tickLatch dt p => Sys2Proof.Machine.execTickLatch dt p s
  | .headFrameLaunch dt h => Sys2Proof.Machine.execHeadFrameLaunch dt h s
  | .rasterLine dt h k line parity stuck => Sys2Proof.Machine.execRasterLine dt h k line parity stuck s
  | .tileFetchDone dt n ahead tile hdrFlips payFlips => Sys2Proof.Machine.execTileFetchDone dt n ahead tile hdrFlips payFlips s
  | .headPipeResetDone dt h => Sys2Proof.Machine.execHeadPipeResetDone dt h s
  | .dotPllLock dt h => Sys2Proof.Machine.execDotPllLock dt h s
  | .linkTrainingResult dt h ok => Sys2Proof.Machine.execLinkTrainingResult dt h ok s
  | .linkTrainingRetry dt h caps => Sys2Proof.Machine.execLinkTrainingRetry dt h caps s
  | .hpdLowTimeout dt h => Sys2Proof.Machine.execHpdLowTimeout dt h s
  | .hpdHigh dt h caps => Sys2Proof.Machine.execHpdHigh dt h caps s
  | .irqHpd dt h ev => Sys2Proof.Machine.execIrqHpd dt h ev s
  | .tppTileUpdate dt port peer hd tiles => Sys2Proof.Machine.execTppTileUpdate dt port peer hd tiles s
  | .tppReseal dt port peer hd tiles => Sys2Proof.Machine.execTppReseal dt port peer hd tiles s
  | .tppEndOfFrame dt port peer hd fc => Sys2Proof.Machine.execTppEndOfFrame dt port peer hd fc s
  | .tppKeepalive dt port peer hd time st => Sys2Proof.Machine.execTppKeepalive dt port peer hd time st s
  | .unattributedDatagram dt port => Sys2Proof.Machine.execUnattributedDatagram dt port s
  | .ingressUnitStored dt p q => Sys2Proof.Machine.execIngressUnitStored dt p q s
  | .rtpPacket dt port group udp pkt => Sys2Proof.Machine.execRtpPacket dt port group udp pkt s
  | .st2110MergeWaitEnd dt src => Sys2Proof.Machine.execSt2110MergeWaitEnd dt src s
  | .st2110FrameRecord dt src => Sys2Proof.Machine.execSt2110FrameRecord dt src s
  | .st2110PathSilence dt src path => Sys2Proof.Machine.execSt2110PathSilence dt src path s
  | .signalLossTimeout dt src p => Sys2Proof.Machine.execSignalLossTimeout dt src p s
  | .intPatternFrame dt p => Sys2Proof.Machine.execIntPatternFrame dt p s
  | .spurTileArrival dt p q => Sys2Proof.Machine.execSpurTileArrival dt p q s
  | .spurPublishRecord dt p q => Sys2Proof.Machine.execSpurPublishRecord dt p q s
  | .spurStatusRecord dt p q => Sys2Proof.Machine.execSpurStatusRecord dt p q s
  | .csiFrameStart dt c vc eccFixed => Sys2Proof.Machine.execCsiFrameStart dt c vc eccFixed s
  | .csiLongPacket dt c vc dtype samples crcOk eccFixed => Sys2Proof.Machine.execCsiLongPacket dt c vc dtype samples crcOk eccFixed s
  | .csiFrameEnd dt c vc eccFixed => Sys2Proof.Machine.execCsiFrameEnd dt c vc eccFixed s
  | .csiHeaderEccUncorrectable dt c => Sys2Proof.Machine.execCsiHeaderEccUncorrectable dt c s
  | .csiPacketIgnored dt c => Sys2Proof.Machine.execCsiPacketIgnored dt c s
  | .csiFrameGap dt inp => Sys2Proof.Machine.execCsiFrameGap dt inp s
  | .pipelineLineDone dt j => Sys2Proof.Machine.execPipelineLineDone dt j s
  | .commitMessage dt p => Sys2Proof.Machine.execCommitMessage dt p s
  | .layerCommit dt who n => Sys2Proof.Machine.execLayerCommit dt who n s
  | .headCommit dt who h => Sys2Proof.Machine.execHeadCommit dt who h s
  | .guardCommit dt who h => Sys2Proof.Machine.execGuardCommit dt who h s
  | .guardLock dt who h => Sys2Proof.Machine.execGuardLock dt who h s
  | .tagCommit dt who t => Sys2Proof.Machine.execTagCommit dt who t s
  | .writebackCommit dt who p => Sys2Proof.Machine.execWritebackCommit dt who p s
  | .writebackHold dt who p => Sys2Proof.Machine.execWritebackHold dt who p s
  | .writebackRelease dt who p => Sys2Proof.Machine.execWritebackRelease dt who p s
  | .sceneLaunchAtTime dt who k => Sys2Proof.Machine.execSceneLaunchAtTime dt who k s
  | .sceneLaunchNow dt who k => Sys2Proof.Machine.execSceneLaunchNow dt who k s
  | .sceneCancel dt who k => Sys2Proof.Machine.execSceneCancel dt who k s
  | .policyLock dt who => Sys2Proof.Machine.execPolicyLock dt who s
  | .tagValueWrite dt who t v => Sys2Proof.Machine.execTagValueWrite dt who t v s
  | .sourceEnableWrite dt who src on => Sys2Proof.Machine.execSourceEnableWrite dt who src on s
  | .cameraInputEnable dt who inp on => Sys2Proof.Machine.execCameraInputEnable dt who inp on s
  | .cameraInputCommit dt who inp => Sys2Proof.Machine.execCameraInputCommit dt who inp s
  | .touchEnableWrite dt who k on => Sys2Proof.Machine.execTouchEnableWrite dt who k on s
  | .touchSelfTest dt who k => Sys2Proof.Machine.execTouchSelfTest dt who k s
  | .memIfRetire dt who p m => Sys2Proof.Machine.execMemIfRetire dt who p m s
  | .memFspLimitWrite dt who p v => Sys2Proof.Machine.execMemFspLimitWrite dt who p v s
  | .clockMeasureRequest dt who v => Sys2Proof.Machine.execClockMeasureRequest dt who v s
  | .supplyTestStage dt who v => Sys2Proof.Machine.execSupplyTestStage dt who v s
  | .timebaseConfigWrite dt who b sub v => Sys2Proof.Machine.execTimebaseConfigWrite dt who b sub v s
  | .ruleCommit dt who e => Sys2Proof.Machine.execRuleCommit dt who e s
  | .ruleLock dt who e => Sys2Proof.Machine.execRuleLock dt who e s
  | .registerWrite dt who idx sub v => Sys2Proof.Machine.execRegisterWrite dt who idx sub v s
  | .sessionClaimLayer dt who k n => Sys2Proof.Machine.execSessionClaimLayer dt who k n s
  | .sessionReleaseLayer dt who k n => Sys2Proof.Machine.execSessionReleaseLayer dt who k n s
  | .sessionCloseWrite dt who k => Sys2Proof.Machine.execSessionCloseWrite dt who k s
  | .errorRingAck dt who d num => Sys2Proof.Machine.execErrorRingAck dt who d num s
  | .attestNonceWrite dt who nonce => Sys2Proof.Machine.execAttestNonceWrite dt who nonce s
  | .bundleApply dt who => Sys2Proof.Machine.execBundleApply dt who s
  | .debugRequest dt who => Sys2Proof.Machine.execDebugRequest dt who s
  | .debugClose dt who => Sys2Proof.Machine.execDebugClose dt who s
  | .debugApproveMaint dt who sig => Sys2Proof.Machine.execDebugApproveMaint dt who sig s
  | .debugApproveAudit dt who sig => Sys2Proof.Machine.execDebugApproveAudit dt who sig s
  | .debugChallengeExpiry dt => Sys2Proof.Machine.execDebugChallengeExpiry dt s
  | .debugMaxOpenExpiry dt => Sys2Proof.Machine.execDebugMaxOpenExpiry dt s
  | .dxpHello dt port peer m => Sys2Proof.Machine.execDxpHello dt port peer m s
  | .dxpProve dt port peer sig => Sys2Proof.Machine.execDxpProve dt port peer sig s
  | .handshakeTimeout dt peer => Sys2Proof.Machine.execHandshakeTimeout dt peer s
  | .dxpRead dt port peer k seq idx sub => Sys2Proof.Machine.execDxpRead dt port peer k seq idx sub s
  | .dxpWrite dt port peer k seq idx sub v => Sys2Proof.Machine.execDxpWrite dt port peer k seq idx sub v s
  | .dxpReadAll dt port peer k seq idx => Sys2Proof.Machine.execDxpReadAll dt port peer k seq idx s
  | .dxpBlockRead dt port peer k seq idx sub off len => Sys2Proof.Machine.execDxpBlockRead dt port peer k seq idx sub off len s
  | .dxpBlockWrite dt port peer k seq idx sub off last total data => Sys2Proof.Machine.execDxpBlockWrite dt port peer k seq idx sub off last total data s
  | .dxpTagTelegram dt port peer k seq count len entries => Sys2Proof.Machine.execDxpTagTelegram dt port peer k seq count len entries s
  | .dxpKeepalive dt port peer k seq => Sys2Proof.Machine.execDxpKeepalive dt port peer k seq s
  | .dxpClose dt port peer k seq => Sys2Proof.Machine.execDxpClose dt port peer k seq s
  | .sessionIdleTimeout dt k => Sys2Proof.Machine.execSessionIdleTimeout dt k s
  | .eventMessageSend dt k => Sys2Proof.Machine.execEventMessageSend dt k s
  | .rpdo dt f cobId data => Sys2Proof.Machine.execRpdo dt f cobId data s
  | .usdoDownload dt f node idx sub v => Sys2Proof.Machine.execUsdoDownload dt f node idx sub v s
  | .usdoUpload dt f node idx sub => Sys2Proof.Machine.execUsdoUpload dt f node idx sub s
  | .nmtStartRemoteNode dt f node => Sys2Proof.Machine.execNmtStartRemoteNode dt f node s
  | .nmtEnterPreOperational dt f node => Sys2Proof.Machine.execNmtEnterPreOperational dt f node s
  | .nmtStopRemoteNode dt f node => Sys2Proof.Machine.execNmtStopRemoteNode dt f node s
  | .nmtResetCommunication dt f node => Sys2Proof.Machine.execNmtResetCommunication dt f node s
  | .nmtResetNode dt f node => Sys2Proof.Machine.execNmtResetNode dt f node s
  | .canHeartbeat dt f => Sys2Proof.Machine.execCanHeartbeat dt f s
  | .tpdoEventTimer dt m => Sys2Proof.Machine.execTpdoEventTimer dt m s
  | .emcyInhibitEnd dt => Sys2Proof.Machine.execEmcyInhibitEnd dt s
  | .telegramLaunch dt who rec => Sys2Proof.Machine.execTelegramLaunch dt who rec s
  | .telegramDue dt => Sys2Proof.Machine.execTelegramDue dt s
  | .touchUpstreamIdle dt k => Sys2Proof.Machine.execTouchUpstreamIdle dt k s
  | .touchBringupRetry dt k => Sys2Proof.Machine.execTouchBringupRetry dt k s
  | .touchIdent dt k ver rows cols part => Sys2Proof.Machine.execTouchIdent dt k ver rows cols part s
  | .touchAck dt k addr => Sys2Proof.Machine.execTouchAck dt k addr s
  | .touchReg dt k addr v => Sys2Proof.Machine.execTouchReg dt k addr v s
  | .touchStatus dt k code => Sys2Proof.Machine.execTouchStatus dt k code s
  | .touchFrameSlot dt k => Sys2Proof.Machine.execTouchFrameSlot dt k s
  | .touchSample dt k frame chip samples => Sys2Proof.Machine.execTouchSample dt k frame chip samples s
  | .touchReportRelease dt k => Sys2Proof.Machine.execTouchReportRelease dt k s
  | .touchLinkTimeout dt k => Sys2Proof.Machine.execTouchLinkTimeout dt k s
  | .touchHoldLimit dt k id => Sys2Proof.Machine.execTouchHoldLimit dt k id s
  | .memTrainingDone dt p res => Sys2Proof.Machine.execMemTrainingDone dt p res s
  | .refreshAccrual dt p m rank => Sys2Proof.Machine.execRefreshAccrual dt p m rank s
  | .mr4Poll dt p m rank rate => Sys2Proof.Machine.execMr4Poll dt p m rank rate s
  | .periodicTrainingStep dt p m fsp => Sys2Proof.Machine.execPeriodicTrainingStep dt p m fsp s
  | .trainingStepEnd dt p m res => Sys2Proof.Machine.execTrainingStepEnd dt p m res s
  | .fspSwitchStart dt p => Sys2Proof.Machine.execFspSwitchStart dt p s
  | .fspSwitchDone dt p => Sys2Proof.Machine.execFspSwitchDone dt p s
  | .fspSwitchNoWindow dt p => Sys2Proof.Machine.execFspSwitchNoWindow dt p s
  | .migrationComplete dt p m => Sys2Proof.Machine.execMigrationComplete dt p m s
  | .retireDeadline dt p m => Sys2Proof.Machine.execRetireDeadline dt p m s
  | .memIfTimeout dt p m => Sys2Proof.Machine.execMemIfTimeout dt p m s
  | .memRequestEnqueue dt p port mq m addr => Sys2Proof.Machine.execMemRequestEnqueue dt p port mq m addr s
  | .requestLate dt p id => Sys2Proof.Machine.execRequestLate dt p id s
  | .drainEnd dt p returned => Sys2Proof.Machine.execDrainEnd dt p returned s
  | .queueDequeue dt p q desc => Sys2Proof.Machine.execQueueDequeue dt p q desc s
  | .descriptorResend dt p q desc => Sys2Proof.Machine.execDescriptorResend dt p q desc s
  | .timeFeedSend dt => Sys2Proof.Machine.execTimeFeedSend dt s
  | .timeFeedMessage dt p c => Sys2Proof.Machine.execTimeFeedMessage dt p c s
  | .timeFeedTimeout dt p => Sys2Proof.Machine.execTimeFeedTimeout dt p s
  | .saddleDelayMeasure dt c p roundTrip => Sys2Proof.Machine.execSaddleDelayMeasure dt c p roundTrip s
  | .peerTimeAlign dt => Sys2Proof.Machine.execPeerTimeAlign dt s
  | .tb3Persist dt => Sys2Proof.Machine.execTb3Persist dt s
  | .oscTrim dt d errPpm => Sys2Proof.Machine.execOscTrim dt d errPpm s
  | .ptpSync dt c b m => Sys2Proof.Machine.execPtpSync dt c b m s
  | .ptpFollowUp dt c b seq origin => Sys2Proof.Machine.execPtpFollowUp dt c b seq origin s
  | .ptpDelayResp dt c b seq receive logInterval => Sys2Proof.Machine.execPtpDelayResp dt c b seq receive logInterval s
  | .ptpAnnounce dt c b a => Sys2Proof.Machine.execPtpAnnounce dt c b a s
  | .ptpAnnounceTimeout dt c b => Sys2Proof.Machine.execPtpAnnounceTimeout dt c b s
  | .ptpSyncTimeout dt c b => Sys2Proof.Machine.execPtpSyncTimeout dt c b s
  | .heartbeatSend dt => Sys2Proof.Machine.execHeartbeatSend dt s
  | .heartbeatArrival dt c path => Sys2Proof.Machine.execHeartbeatArrival dt c path s
  | .heartbeatPathSilent dt c path => Sys2Proof.Machine.execHeartbeatPathSilent dt c path s
  | .bothPathsSilent dt c => Sys2Proof.Machine.execBothPathsSilent dt c s
  | .tokenRequest dt p c => Sys2Proof.Machine.execTokenRequest dt p c s
  | .tokenGrant dt c p => Sys2Proof.Machine.execTokenGrant dt c p s
  | .takeoverTokenRetry dt c => Sys2Proof.Machine.execTakeoverTokenRetry dt c s
  | .takeoverNoMajority dt c => Sys2Proof.Machine.execTakeoverNoMajority dt c s
  | .controlDemotion dt c => Sys2Proof.Machine.execControlDemotion dt c s
  | .checkpointCommit dt => Sys2Proof.Machine.execCheckpointCommit dt s
  | .shadowDigest dt digest => Sys2Proof.Machine.execShadowDigest dt digest s
  | .digestLate dt => Sys2Proof.Machine.execDigestLate dt s
  | .comparisonPass dt => Sys2Proof.Machine.execComparisonPass dt s
  | .drillInterval dt => Sys2Proof.Machine.execDrillInterval dt s
  | .redCommandDrill dt who => Sys2Proof.Machine.execRedCommandDrill dt who s
  | .redCommandHandover dt who => Sys2Proof.Machine.execRedCommandHandover dt who s
  | .redCommandClearSuspect dt who => Sys2Proof.Machine.execRedCommandClearSuspect dt who s
  | .takeBackHoldoffEnd dt c => Sys2Proof.Machine.execTakeBackHoldoffEnd dt c s
  | .controlRestartMaint dt who => Sys2Proof.Machine.execControlRestartMaint dt who s
  | .controlRestartAudit dt who => Sys2Proof.Machine.execControlRestartAudit dt who s
  | .fwStageCommit dt who => Sys2Proof.Machine.execFwStageCommit dt who s
  | .fwStagingDone dt => Sys2Proof.Machine.execFwStagingDone dt s
  | .fwActivateStaged dt who => Sys2Proof.Machine.execFwActivateStaged dt who s
  | .fwActivateFallback dt who => Sys2Proof.Machine.execFwActivateFallback dt who s
  | .fwSecurityVersionRaise dt => Sys2Proof.Machine.execFwSecurityVersionRaise dt s
  | .mcSwapArm dt who p => Sys2Proof.Machine.execMcSwapArm dt who p s
  | .mcSwapCancel dt who p => Sys2Proof.Machine.execMcSwapCancel dt who p s
  | .mcInstallNextReset dt who p => Sys2Proof.Machine.execMcInstallNextReset dt who p s
  | .probationEnd dt p => Sys2Proof.Machine.execProbationEnd dt p s
  | .redPixelReset dt who p => Sys2Proof.Machine.execRedPixelReset dt who p s
  | .redPixelResetWithRepair dt who p => Sys2Proof.Machine.execRedPixelResetWithRepair dt who p s
  | .redPixelReleaseHeld dt who p => Sys2Proof.Machine.execRedPixelReleaseHeld dt who p s
  | .pixelDieResetRelease dt p => Sys2Proof.Machine.execPixelDieResetRelease dt p s
  | .dieRepairTestDone dt p failing => Sys2Proof.Machine.execDieRepairTestDone dt p failing s
  | .pixelDieConfigReloaded dt p => Sys2Proof.Machine.execPixelDieConfigReloaded dt p s
  | .controlDieBoot dt c selfTest => Sys2Proof.Machine.execControlDieBoot dt c selfTest s
  | .pwrgoodRise dt => Sys2Proof.Machine.execPwrgoodRise dt s
  | .pwrgoodFall dt => Sys2Proof.Machine.execPwrgoodFall dt s
  | .resetnLow dt => Sys2Proof.Machine.execResetnLow dt s
  | .resetnRise dt => Sys2Proof.Machine.execResetnRise dt s
  | .oscillatorReady dt d straps => Sys2Proof.Machine.execOscillatorReady dt d straps s
  | .crystalStartDelayEnd dt c => Sys2Proof.Machine.execCrystalStartDelayEnd dt c s
  | .crystalQualifyTimeout dt c => Sys2Proof.Machine.execCrystalQualifyTimeout dt c s
  | .freqWindowEnd dt d count => Sys2Proof.Machine.execFreqWindowEnd dt d count s
  | .missingEdge dt d => Sys2Proof.Machine.execMissingEdge dt d s
  | .clockHoldoverTimeout dt d => Sys2Proof.Machine.execClockHoldoverTimeout dt d s
  | .pllFault dt d pll => Sys2Proof.Machine.execPllFault dt d pll s
  | .supplyDwellExpiry dt d level mv => Sys2Proof.Machine.execSupplyDwellExpiry dt d level mv s
  | .supplyRecoveryExpiry dt d mv => Sys2Proof.Machine.execSupplyRecoveryExpiry dt d mv s
  | .supplyBrownout dt d lowest => Sys2Proof.Machine.execSupplyBrownout dt d lowest s
  | .supplyHoldRelease dt d mv => Sys2Proof.Machine.execSupplyHoldRelease dt d mv s
  | .d2dPeerReset dt d kind o => Sys2Proof.Machine.execD2dPeerReset dt d kind o s
  | .d2dPeerUp dt d kind o => Sys2Proof.Machine.execD2dPeerUp dt d kind o s
  | .thermnAssert dt d temp => Sys2Proof.Machine.execThermnAssert dt d temp s
  | .thermnRelease dt temps => Sys2Proof.Machine.execThermnRelease dt temps s
  | .hbtestHigh dt => Sys2Proof.Machine.execHbtestHigh dt s
  | .hbtestLow dt => Sys2Proof.Machine.execHbtestLow dt s
  | .portLinkStateChange dt c st => Sys2Proof.Machine.execPortLinkStateChange dt c st s
  | .canErrorStateChange dt f st => Sys2Proof.Machine.execCanErrorStateChange dt f st s
  | .ptpDelayReqSend dt c b => Sys2Proof.Machine.execPtpDelayReqSend dt c b s
  | .dxpDatagramDropped dt port why => Sys2Proof.Machine.execDxpDatagramDropped dt port why s
  | .arpIcmpEchoRequest dt port echo from_ => Sys2Proof.Machine.execArpIcmpEchoRequest dt port echo from_ s
  | .touchPacketDiscarded dt k inFrame => Sys2Proof.Machine.execTouchPacketDiscarded dt k inFrame s
  | .microcodeCheckFail dt p => Sys2Proof.Machine.execMicrocodeCheckFail dt p s
  | .pllLockAcquired dt d => Sys2Proof.Machine.execPllLockAcquired dt d s
  | .checkpointCommitDone dt => Sys2Proof.Machine.execCheckpointCommitDone dt s
  | .auditRecordProgrammed dt => Sys2Proof.Machine.execAuditRecordProgrammed dt s
  | .debugTapAccess dt op => Sys2Proof.Machine.execDebugTapAccess dt op s

end Sys2Proof.Machine
end

