-- ==== Sys2Proof/Safety.lean ====
section
/-! DEFINITION. What counts as a safe run, in the terms statements use: a step answers a next state, the stores of
registers stay in their canonical form, and a meaning leaves the queue of commands alone. -/

namespace Sys2Proof.Safety

open Sys2Proof.Machine

/-- An outcome that is a next state with property `P`. -/
def Completes (o : Host.Outcome State Fault Refusal) (P : State → Prop) : Prop := ∃ t, o = .next t ∧ P t

/-- Command `i` in state `s` answers a next state that has the queue it was given and a device of which `P` holds. -/
def Does (i : Instr) (s : State) (P : Device → Prop) : Prop := ∃ t, exec i s = .next t ∧ t.pending = s.pending ∧ P t.dev

/-- A table's keys rise strictly: the canonical form of a sparse table. -/
def Rising {α : Type} (t : Table α) : Prop := (t.map (·.1)).Pairwise (· < ·)

/-- A store of registers is canonical: keys rising, and no entry at its reset value (`keyReset`). -/
def Canonical (t : Table Val) : Prop := Rising t ∧ ∀ e ∈ t, e.2 ≠ keyReset e.1

/-- The written bytes of the address space are canonical: addresses rising, and no byte at what it holds before any write. -/
def MemWf (t : Table Byte) : Prop := Rising t ∧ ∀ e ∈ t, e.2 ≠ Config.addressByte e.1

/-- The three register stores and the memory are canonical. -/
def StoresCanonical (s : State) : Prop :=
  Canonical s.dev.regs ∧ Canonical s.dev.force ∧ Canonical s.dev.record ∧ MemWf s.dev.memory

/-! ### Frames: what a command leaves as it was -/

/-- The parts of the device beside its registers, one for each field of `Device`. -/
inductive Part where
  | mono
  | fresh
  | force
  | record
  | pins
  | ctls
  | pix
  | rails
  | clocks
  | rules
  | rings
  | sup
  | cmp
  | can
  | audit
  | awaiting
  | srcs
  | st2110
  | cams
  | pipes
  | layers
  | heads
  | scans
  | tags
  | wbs
  | ifs
  | mems
  | queues
  | links
  | tracks
  | mcs
  | unattr
  | crossings
  | limits
  | layout
  | memory
  | tx
  deriving DecidableEq, Repr

/-- A part is unchanged: the two stores and the memory by what they read as, every other part as data. -/
def Same (p : Part) (d e : Device) : Prop :=
  match p with
  | .mono => e.mono = d.mono
  | .fresh => e.fresh = d.fresh
  | .force => ∀ i s, s < 256 → frc e i s = frc d i s
  | .record => ∀ i s, s < 256 → storeGet e.record i s = storeGet d.record i s
  | .pins => e.pins = d.pins
  | .ctls => e.ctls = d.ctls
  | .pix => e.pix = d.pix
  | .rails => e.rails = d.rails
  | .clocks => e.clocks = d.clocks
  | .rules => e.rules = d.rules
  | .rings => e.rings = d.rings
  | .sup => e.sup = d.sup
  | .cmp => e.cmp = d.cmp
  | .can => e.can = d.can
  | .audit => e.audit = d.audit
  | .awaiting => e.awaiting = d.awaiting
  | .srcs => e.srcs = d.srcs
  | .st2110 => e.st2110 = d.st2110
  | .cams => e.cams = d.cams
  | .pipes => e.pipes = d.pipes
  | .layers => e.layers = d.layers
  | .heads => e.heads = d.heads
  | .scans => e.scans = d.scans
  | .tags => e.tags = d.tags
  | .wbs => e.wbs = d.wbs
  | .ifs => e.ifs = d.ifs
  | .mems => e.mems = d.mems
  | .queues => e.queues = d.queues
  | .links => e.links = d.links
  | .tracks => e.tracks = d.tracks
  | .mcs => e.mcs = d.mcs
  | .unattr => e.unattr = d.unattr
  | .crossings => e.crossings = d.crossings
  | .limits => e.limits = d.limits
  | .layout => e.layout = d.layout
  | .memory => ∀ a, memByte e a = memByte d a
  | .tx => e.tx = d.tx

/-- From `d` to `e` nothing changed but the parts listed and the registers (object, subindex) that `rs` allows. -/
structure Keeps (ps : List Part) (rs : Nat → Nat → Prop) (d e : Device) : Prop where
  parts : ∀ p, p ∉ ps → Same p d e
  regs  : ∀ i s, s < 256 → ¬ rs i s → reg e i s = reg d i s

/-- No register, every register. -/
def noReg : Nat → Nat → Prop := fun _ _ => False
def anyReg : Nat → Nat → Prop := fun _ _ => True

/-- The registers in which events are counted: records formed and lost by a die, event messages dropped by a session. -/
def eventReg : Nat → Nat → Prop := fun i s => (0x2600 ≤ i ∧ i < 0x2608 ∧ (s = 9 ∨ s = 4)) ∨ (0x2030 ≤ i ∧ i < 0x2038 ∧ s = 0x0D)

/-- The parts that the recording of an event may change. -/
def eventParts : List Part := [.rings, .can, .sup, .tx]

/-- Die `k` formed exactly one record from `d` to `e`: it has the next number, this code and this unit, and its ring holds it
unless it was full. -/
def Recorded (d e : Device) (k code unit : Nat) : Prop :=
  (ringAt e k).last = (if (ringAt d k).last + 1 < 2 ^ 32 then (ringAt d k).last + 1 else 1) ∧
  ((ringAt d k).recs.length < 63 →
    ∃ r, (ringAt e k).recs = (ringAt d k).recs ++ [r] ∧ r.code = code ∧ r.unit = unit ∧ r.num = (ringAt e k).last ∧ r.die = k + 1)

/-- Die `k` formed exactly one NOTE from `d` to `e`: it has the next number, and its ring holds it if notes are recorded there and
it was not full. -/
def Noted (d e : Device) (k code unit : Nat) : Prop :=
  (ringAt e k).last = (if (ringAt d k).last + 1 < 2 ^ 32 then (ringAt d k).last + 1 else 1) ∧
  (regT d (0x2600 + k) 8 = true → (ringAt d k).recs.length < 63 →
    ∃ r, (ringAt e k).recs = (ringAt d k).recs ++ [r] ∧ r.code = code ∧ r.unit = unit ∧ r.num = (ringAt e k).last ∧ r.die = k + 1)

/-- A counter of R58 rose by `k` from `d` to `e`. -/
def Counted (d e : Device) (i s k : Nat) : Prop :=
  regN e i s = if k = 0 then regN d i s else min (regN d i s + k) 0x7FFFFFFF

/-- Of the control dies nothing changed but base `b` of die `c`. -/
def OnlyBase (d e : Device) (c b : Nat) : Prop :=
  (∀ j, j ≠ c → ctlAt e j = ctlAt d j) ∧ ctlAt e c = setBase (ctlAt d c) b (baseAt e c b)

/-- A TPP datagram of source `s` was accepted for die `o` by a switch's queue `q`: it is counted, the signal timer of R88 starts
anew and a credit of R91 is taken. -/
def TppTaken (d e : Device) (s o q : Nat) : Prop :=
  Counted d e (srcLive s) 7 1 ∧ (srcUnit e s o).lastSignal = d.mono ∧ iqUsed e o q = iqUsed d o q + 1

/-- What a TPP datagram may change beside registers. -/
def tppParts : List Part := .srcs :: .queues :: .mems :: .limits :: eventParts

/-- Registers of a source's live status, and the counters of events. -/
def srcReg (s : Nat) : Nat → Nat → Prop := fun i r => eventReg i r ∨ i = srcLive s

/-- The audit log holds a record of this kind and target, next in number after the log's head in `d`, chained to it and waiting to
be programmed (R358, R359). -/
def Logged (d e : Device) (kind target : Nat) : Prop :=
  ∃ r ∈ e.audit, r.kind = kind ∧ r.target = target ∧ r.num = auditHead d + 1 ∧ r.num ∈ e.awaiting ∧
    r.prev = ((auditLast d).map (·.hash)).getD certDigest

/-- The parts an audit record may change: the log, and events when the log wraps (R360). -/
def auditParts : List Part := .audit :: .awaiting :: eventParts

/-- The parts a reset of one die may change. -/
def dieParts : List Part :=
  [.force, .pins, .ctls, .pix, .rails, .clocks, .rules, .srcs, .st2110, .cams, .pipes, .layers, .heads, .scans, .tags, .wbs, .ifs, .mems,
   .queues, .links, .tracks, .mcs] ++ auditParts

/-- What a message to sessions may change: closing one at the end of its sequence included (R323, R327). -/
def pushParts : List Part := .layers :: auditParts

/-- Registers of the sessions and of the event counters. -/
def pushReg : Nat → Nat → Prop := fun x i => eventReg x i ∨ x = 0x2700 ∨ (0x2030 ≤ x ∧ x < 0x2038)

/-! ### Tags, sessions and writes -/

/-- Tag t takes values that carry no timestamp: it mirrors no tag, its mode is not CARRIED and its die is out of reset. -/
def TagOpen (d : Device) (t : Nat) : Prop :=
  4096 ≤ tagForce d t 0x11 ∧ tagForce d t 0x0F ≠ 1 ∧ pixUp d (tagDie d t) = true

/-- Tag t has value v, stamped by control die c on arrival, and the update is counted (R166, R168). -/
def TagTaken (d e : Device) (c t v : Nat) : Prop :=
  (tagAt e t).value = v % 2 ^ 32 ∧
  (tagAt e t).stamp = some (((baseOf (ctlAt d c) (tagForce d t 0x0E - 1)).ns + 2 ^ 48 - tagForce d t 0x10 * 1000 % 2 ^ 48) % 2 ^ 48) ∧
  (tagAt e t).accepted = (pixAt d (tagDie d t)).tb2.ns ∧ Counted d e (0x6000 + t) 0x24 1

/-- Session k closed with a reason: nothing of it is left, it owns no layer and the audit log says so (R327, R330, R357). -/
def Closed (d e : Device) (k reason : Nat) : Prop :=
  sessAt e k = { Session.reset with state := 1 } ∧ regN e (0x2030 + k) 0x0F = reason ∧ (∀ n, (layerAt e n).owner ≠ some k) ∧
  Logged d e 8 ((0x2030 + k) * 65536 + 0x0F00 + reason)

/-- Session k can be sent one more message and has every answer behind it. -/
def Settled (d : Device) (k : Nat) : Prop :=
  sessOpen d k = true ∧ (activeCtl d).isSome = true ∧ (sessAt d k).counter + 1 < 0xFFFFFFF0 ∧ ∀ a ∈ (sessAt d k).answers, a.sent = true

/-- The response to request `seq` of session k left by `port`: sealed, numbered next, and kept (R316, R317, R323). -/
def Answered (d e : Device) (port k seq op sub idx status : Nat) (payload : List Byte) : Prop :=
  e.tx = d.tx ++ [Msg.mk port 1 k (dxpSealed (sessAt d k).keys
    (dxpHeader k ((sessAt d k).counter + 1) (0x80 + op) sub idx (beBytes 4 seq ++ payload).length status)
    ((sessAt d k).counter + 1) (beBytes 4 seq ++ payload))] ∧
  (sessAt e k).counter = (sessAt d k).counter + 1 ∧
  ∃ a ∈ (sessAt e k).answers, a.seq = seq ∧ a.status = status ∧ a.payload = payload ∧ a.sent = true

/-- The session with an authenticated request of number `seq` from `peer` at `port` noted. -/
def heardFrom (d : Device) (port : Nat) (peer : Endpoint) (k seq : Nat) : Device :=
  modSess d k fun x => { x with lastReq := d.mono, peer := peer, port := port, top := seq }

/-- Request `seq` of session k is new and arrives where a supervisor hears it. -/
def NewRequest (d : Device) (port k seq : Nat) : Prop :=
  dxpHeard d port = true ∧ Settled d k ∧ (sessAt d k).top < seq ∧ seq < 0xFFFFFFF0

/-- A write that is served and passes every check of R295. -/
def Allowed (d : Device) (who : Requester) (idx sub : Nat) (v : Val) : Prop :=
  served d who = true ∧ writeCheck (touchSession d who) who noSigner idx sub v = 1

/-- What a write may change beside its effect: the session it keeps alive, the audit log and the digest of the tick. -/
def writeParts : List Part := .cmp :: auditParts

end Sys2Proof.Safety
end

