-- ==== Sys2Proof/Certificates/Slice0/Obligations.lean ====
section
/-! DEFINITION. What is stated of the model, each statement a proposition for the provers. `Does i s P` says that command
`i` in state `s` answers a next state with the queue it was given, of whose device `P` holds; `d` is the device after the
command's own lapse of time, to which the effect and the frame (`Keeps`) refer. That time passes with a command, that sent
messages are listed in `tx` under the model's port and kind numbers, and that open values are `Config`'s, are the model's
choices (notes/assumptions 1, 2, 4); every statement about a command rests on them. -/

open Sys2Proof Sys2Proof.Machine Sys2Proof.Safety

/-! ### The block as a whole -/

/-- A step takes the command at the front of the queue: it answers what `exec` answers on the rest of the queue.
Clauses that rest on the model's choices: notes/assumptions 5. -/
def Obligations.StepRunsTheFrontCommand : Prop :=
  ∀ (c : Instr) (l : List Instr) (d : Device), step { pending := c :: l, dev := d } = exec c { pending := l, dev := d }

/-- Every command answers a next state whatever the state, and leaves the queue it was given; with nothing waiting the block
idles, the model's choice of notes/assumptions/5.md; so a queue of any length is worked off, one command a step.
Clauses that rest on the model's choices: notes/assumptions 5, 7. -/
def Obligations.EveryCommandCompletesAndTheQueueDrains : Prop :=
  (∀ (c : Instr) (s : State), ∃ t, exec c s = .next t ∧ t.pending = s.pending) ∧
  (∀ (s : State), s.pending = [] → step s = .next s) ∧
  (∀ (s : State), ∃ t, Sys2Proof.core.run s.pending.length s = .next t ∧ t.pending = [])

/-- The stores of registers and the memory stay in their canonical form: no entry at its reset value, keys rising.
Clauses that rest on the model's choices: notes/assumptions 157. -/
def Obligations.EveryStepKeepsTheStoresCanonical : Prop :=
  ∀ (s t : State), StoresCanonical s → step s = .next t → StoresCanonical t

/-- R412, R415, R10: after reset every register holds the value its object table gives, nothing is written or sent, every die is
in reset and no command waits.
Clauses that rest on the model's choices: notes/assumptions 3, 9, 165. -/
def Obligations.ResetHoldsTheTablesValues : Prop :=
  StoresCanonical State.reset ∧ State.reset.pending = [] ∧ State.reset.dev.tx = [] ∧ State.reset.dev.mono = 0 ∧
  (∀ i x, x < 256 → reg State.reset.dev i x = resetVal i x) ∧ (∀ i x, x < 256 → frc State.reset.dev i x = resetVal i x) ∧
  (∀ a, memByte State.reset.dev a = Config.addressByte a) ∧ (∀ k, k < 8 → dieUp State.reset.dev k = false) ∧
  State.reset.dev.pins.pwrgood = false ∧ activeCtl State.reset.dev = none ∧
  regN State.reset.dev 0x2110 1 = 60000 ∧ regN State.reset.dev 0x2020 3 = 30 ∧ regN State.reset.dev 0x2300 0x0A = 60

/-- R340: of the entries enabled, with the master's bit set and the address in their region, the lowest-numbered one decides;
it permits a read with READ set and a write with WRITE set; an access that matches none is denied. A copy holds exactly the
entries that are enabled: a commit of a disabled one takes it out; a copy in the state of R342 denies every access. -/
def Obligations.TheLowestMatchingRuleDecides : Prop :=
  (∀ (c : RuleCopy) (master addr : Nat) (write : Bool), Rising c.rules → c.denyAll = false →
    ((ruleDecide c master addr 1 write).1 = true ↔
      ∃ e r, tfind c.rules e = some r ∧ r.masters.testBit master = true ∧ r.base ≤ addr ∧ addr < r.base + r.pages * 4096 ∧
        (∀ f q, f < e → tfind c.rules f = some q →
          ¬ (q.masters.testBit master = true ∧ q.base ≤ addr ∧ addr < q.base + q.pages * 4096)) ∧
        r.access.testBit (if write then 1 else 0) = true)) ∧
  (∀ (c : RuleCopy) (master addr : Nat) (write : Bool), c.denyAll = true → (ruleDecide c master addr 1 write).1 = false) ∧
  (∀ (d : Device) (c : RuleCopy) (e : Nat), Rising c.rules →
    tfind (setRule c e (stagedRule d e)).rules e =
      (if regN d (0x2400 + e) 1 = 1 then
         some { masters := regN d (0x2400 + e) 2, base := regN d (0x2400 + e) 3, pages := regN d (0x2400 + e) 4,
                access := regN d (0x2400 + e) 5 }
       else none))

/-- R67: a frame's signature is the CRC-32C over header bytes 12 to 15 of its tiles in tile order, 4k bytes for k tiles. -/
def Obligations.SignaturesCoverTheTileCrcs : Prop :=
  ∀ (tiles : Table Slot) (b : List Byte), b = tiles.flatMap (fun t => ((beBytes 16 t.2.hdr.toNat).drop 12).take 4) →
    frameSignature tiles = crc32c b ∧ b.length = 4 * tiles.length

/-! ### Time bases (spec/10) -/

/-- R274: the active die's feed message, its holder's arrival, its absence, and the measured delay.
Clauses that rest on the model's choices: notes/assumptions 1, 21, 203. -/
def Obligations.TimeFeedReachesTheCopies : Prop :=
  (∀ (dt : Nat) (s : State) (d : Device) (c : Nat), d = elapse s.dev dt → activeCtl d = some c →
    Does (.timeFeedSend dt) s fun e =>
      (∀ p, p < 6 → pixUp d p = true → ∃ m : FeedMsg, (pixAt e p).feed = (pixAt d p).feed ++ [(c, m)] ∧
        m.times = [(ctlAt d c).tb0.ns, (ctlAt d c).tb1.ns, (ctlAt d c).tb2.ns, (ctlAt d c).tb3.ns] ∧
        m.sts = [(ctlAt d c).tb0.st, (ctlAt d c).tb1.st, (ctlAt d c).tb2.st, (ctlAt d c).tb3.st] ∧
        m.uncs = [baseUnc d 0 (ctlAt d c).tb0, baseUnc d 1 (ctlAt d c).tb1, baseUnc d 2 (ctlAt d c).tb2,
          baseUnc d 3 (ctlAt d c).tb3] ∧ (∀ b, b < 4 → m.ppbs.getD b 0 = baseRate (ctlAt d c) b) ∧ m.sent = d.mono) ∧
      (∀ p, pixUp d p = false ∨ 6 ≤ p → pixAt e p = pixAt d p) ∧ Keeps [.pix] noReg d e) ∧
  (∀ (dt : Nat) (s : State) (d : Device) (p : Die) (c : Ctl) (m : FeedMsg) (rest : List (Nat × FeedMsg)),
    d = elapse s.dev dt → pixUp d p = true → (pixAt d p).feed = (c.val, m) :: rest → (pixAt d p).token = c + 2 →
    Does (.timeFeedMessage dt p c) s fun e =>
      (pixAt e p).feed = rest ∧ (pixAt e p).holdover = false ∧ (pixAt e p).token = c + 2 ∧
      (∀ b, b < 4 → (copyOf (pixAt e p) b).loaded = true ∧ (copyOf (pixAt e p) b).st = m.sts.getD b 0 ∧
        (copyOf (pixAt e p) b).unc = m.uncs.getD b 0 ∧ (copyOf (pixAt e p) b).feedAt = d.mono ∧
        (let at_ := m.times.getD b 0 + (pixAt d p).delays.getD c 0
         let err := Int.ofNat at_ - Int.ofNat (copyOf (pixAt d p) b).ns
         if (copyOf (pixAt d p) b).loaded = false ∨ (b < 2 ∧ 100000 < err.natAbs) then
           (copyOf (pixAt e p) b).ns = at_ ∧ (copyOf (pixAt e p) b).slew = 0
         else (copyOf (pixAt e p) b).ns = (copyOf (pixAt d p) b).ns ∧ (copyOf (pixAt e p) b).slew = err)) ∧
      (∀ q, q ≠ p.val → pixAt e q = pixAt d q) ∧ Keeps [.pix] (fun i r => i = 0x2110 ∧ r = 7) d e) ∧
  (∀ (dt : Nat) (s : State) (d : Device) (p : Die), d = elapse s.dev dt → pixUp d p = true →
    (pixAt d p).tb0.loaded = true → (pixAt d p).holdover = false → (pixAt d p).tb0.feedAt + 500000 ≤ d.mono →
    Does (.timeFeedTimeout dt p) s fun e =>
      (pixAt e p).holdover = true ∧ (∀ b, b < 4 → (copyOf (pixAt e p) b).follow = false ∧
        (copyOf (pixAt e p) b).ns = (copyOf (pixAt d p) b).ns ∧ (copyOf (pixAt e p) b).ppb = (copyOf (pixAt d p) b).ppb) ∧
      Recorded d e (p + 2) 45 0 ∧ (∀ q, q ≠ p.val → pixAt e q = pixAt d q) ∧ Keeps (.pix :: eventParts) eventReg d e) ∧
  (∀ (dt : Nat) (s : State) (d : Device) (c : Ctl) (p : Die) (rt : Nat), d = elapse s.dev dt → ctlUp d c = true →
    pixUp d p = true → (pixAt d p).delays.length = 2 →
    Does (.saddleDelayMeasure dt c p rt) s fun e =>
      (pixAt e p).delays.getD c 0 = rt / 2 ∧ (∀ k, k ≠ c.val → (pixAt e p).delays.getD k 0 = (pixAt d p).delays.getD k 0) ∧
      (∀ q, q ≠ p.val → pixAt e q = pixAt d q) ∧ Keeps [.pix] noReg d e)

/-- R275, R289: the cold die's TB2 and TB3 slew to the active die's, TB3 goes to NOR, and an oscillator is trimmed.
Clauses that rest on the model's choices: notes/assumptions 1, 8, 204, 207. -/
def Obligations.PeerTimeAndTrimFollowTheirReference : Prop :=
  (∀ (dt : Nat) (s : State) (d : Device) (c : Nat), d = elapse s.dev dt → activeCtl d = some c → ctlUp d (1 - c) = true →
    (∃ p, p < 6 ∧ pixUp d p = true ∧ (pixAt d p).state = 1) →
    Does (.peerTimeAlign dt) s fun e =>
      (ctlAt e (1 - c)).tb2.slew = Int.ofNat (ctlAt d c).tb2.ns - Int.ofNat (ctlAt d (1 - c)).tb2.ns ∧
      (ctlAt e (1 - c)).tb3.slew = Int.ofNat (ctlAt d c).tb3.ns - Int.ofNat (ctlAt d (1 - c)).tb3.ns ∧
      (ctlAt e (1 - c)).tb2.ns = (ctlAt d (1 - c)).tb2.ns ∧ (ctlAt e (1 - c)).tb3.ns = (ctlAt d (1 - c)).tb3.ns ∧
      (ctlAt e (1 - c)).tb0 = (ctlAt d (1 - c)).tb0 ∧ (ctlAt e (1 - c)).tb1 = (ctlAt d (1 - c)).tb1 ∧
      (∀ j, j ≠ 1 - c → ctlAt e j = ctlAt d j) ∧ Keeps [.ctls] noReg d e) ∧
  (∀ (dt : Nat) (s : State) (d : Device) (c : Nat), d = elapse s.dev dt → activeCtl d = some c →
    Does (.tb3Persist dt) s fun e =>
      (ctlAt e c).flash.tb3 = (ctlAt d c).tb3.ns % 2 ^ 63 ∧
      (ctlAt e c).tb3 = (ctlAt d c).tb3 ∧ (∀ j, j ≠ c → ctlAt e j = ctlAt d j) ∧ Keeps [.ctls] noReg d e) ∧
  (∀ (dt : Nat) (s : State) (d : Device) (k : AnyDie) (err : Int) (ref : Nat) (m : Int), d = elapse s.dev dt →
    dieUp d k = true → trimReference d k err = (ref, m) → ref ≠ 5 → 500000 < m.natAbs → (clockAt d k).noTrim = false →
    -128 < (clockAt d k).trim → (clockAt d k).trim < 128 → (regB d 0x2210 6).length = 8 →
    Does (.oscTrim dt k err) s fun e =>
      (clockAt e k).trim = (clockAt d k).trim + (if 0 < m then -1 else 1) ∧ (clockAt e k).ready = false ∧
      (clockAt e k).stepAt = d.mono ∧ (regB e 0x2210 6).getD k 0 = BitVec.ofNat 8 ref ∧
      (∀ j, j ≠ k.val → clockAt e j = clockAt d j) ∧
      Keeps [.clocks] (fun i r => i = 0x2210 ∧ (r = 6 ∨ r = 7)) d e)

/-- R276, R278: what a one-step Sync, a Follow_Up, a Delay_Req and a Delay_Resp do to a base that follows their master; an
offset within TimeBaseStepUs moves the rate by at most 100 ppm, a greater one steps the base.
Clauses that rest on the model's choices: notes/assumptions 11, 13, 205. -/
def Obligations.PtpMessagesMeasureTheOffset : Prop :=
  (∀ (dt : Nat) (s : State) (d : Device) (c : Ctl) (b : Fin 2) (m : PtpSyncMsg) (t : TimeBase) (dl : Nat) (o : Int),
    d = elapse s.dev dt → t = baseAt d c b → ptpOn d c b m.domain = true → t.gm = m.grandmaster → t.gm ≠ 0 →
    -7 ≤ m.logInterval → m.logInterval ≤ 1 → m.twoStep = false → t.delay = some dl → t.st = 2 → t.check = false →
    o = Int.ofNat t.ns - Int.ofNat m.origin - Int.ofNat dl →
    Does (.ptpSync dt c b m) s fun e =>
      (baseAt e c b).off = some o ∧ (baseAt e c b).last = d.mono ∧ (baseAt e c b).syncAt = d.mono ∧ (baseAt e c b).st = 2 ∧
      (if regN d (0x2100 + b) 8 * 1000 < o.natAbs then
         (baseAt e c b).ns = (Int.ofNat t.ns - o).toNat ∧ (baseAt e c b).ppb = t.ppb ∧ Noted d e c 47 (0x2100 + b)
       else (baseAt e c b).ns = t.ns ∧ ((baseAt e c b).ppb - t.ppb).natAbs ≤ 100000 ∧ e.rings = d.rings) ∧
      OnlyBase d e c b ∧
      Keeps (.ctls :: .fresh :: eventParts) (fun i r => eventReg i r ∨ (i = 0x2100 + b ∧ r = 0x18)) d e) ∧
  (∀ (dt : Nat) (s : State) (d : Device) (c : Ctl) (b : Fin 2) (m : PtpSyncMsg) (t : TimeBase),
    d = elapse s.dev dt → t = baseAt d c b → ptpOn d c b m.domain = true → t.gm = m.grandmaster → t.gm ≠ 0 →
    -7 ≤ m.logInterval → m.logInterval ≤ 1 → m.twoStep = true →
    Does (.ptpSync dt c b m) s fun e =>
      baseAt e c b = { t with syncLog := m.logInterval, syncAt := d.mono, twoStep := some (m.seq, t.ns) } ∧
      OnlyBase d e c b ∧ Keeps [.ctls] noReg d e) ∧
  (∀ (dt : Nat) (s : State) (d : Device) (c : Ctl) (b : Fin 2) (seq origin arr : Nat) (t : TimeBase),
    d = elapse s.dev dt → t = baseAt d c b → t.twoStep = some (seq, arr) → ptpPort d c b = true → regN d (0x2100 + b) 1 = 2 →
    t.delay = none →
    Does (.ptpFollowUp dt c b seq origin) s fun e =>
      baseAt e c b = { t with twoStep := none, ms := some (Int.ofNat arr - Int.ofNat origin), msAt := t.syncAt } ∧
      OnlyBase d e c b ∧ Keeps [.ctls] noReg d e) ∧
  (∀ (dt : Nat) (s : State) (d : Device) (c : Ctl) (b : Fin 2) (t : TimeBase) (seq : Nat),
    d = elapse s.dev dt → t = baseAt d c b → ptpPort d c b = true → regN d (0x2100 + b) 1 = 2 → t.gm ≠ 0 →
    (∀ a, t.asked = some a → a.1 + logNs (if t.delay.isSome then t.reqLog else -4) ≤ d.mono) →
    seq = t.asked.elim 1 (fun a => (a.2 + 1) % 65536) →
    Does (.ptpDelayReqSend dt c b) s fun e =>
      baseAt e c b = { t with reqAt := some (seq, t.ns), asked := some (d.mono, seq) } ∧
      e.tx = d.tx ++ [Msg.mk (regN d (0x2100 + b) (4 + c)) 6 b (beBytes 8 (clockIdentity d c b) ++ beBytes 2 seq)] ∧
      OnlyBase d e c b ∧ Keeps [.ctls, .tx] noReg d e) ∧
  (∀ (dt : Nat) (s : State) (d : Device) (c : Ctl) (b : Fin 2) (seq receive t3 : Nat) (ms logInterval : Int) (t : TimeBase),
    d = elapse s.dev dt → t = baseAt d c b → t.reqAt = some (seq, t3) → t.ms = some ms → ptpPort d c b = true → t.delay.isSome = true →
    Does (.ptpDelayResp dt c b seq receive logInterval) s fun e =>
      baseAt e c b =
        { t with delay := some ((ms + (Int.ofNat receive - Int.ofNat t3)) / 2).toNat, reqLog := max logInterval (-4), reqAt := none } ∧
      OnlyBase d e c b ∧ Keeps [.ctls] noReg d e)

/-- R276, R277: a master's first Announce is noted and its second within four intervals selects it; an Announce or Sync that
stays away puts a LOCKED base into HOLDOVER, and another master that is qualified is followed at once.
Clauses that rest on the model's choices: notes/assumptions 12, 206. -/
def Obligations.PtpMastersComeAndGo : Prop :=
  (∀ (dt : Nat) (s : State) (d : Device) (c : Ctl) (b : Fin 2) (a : PtpAnnounceMsg) (t : TimeBase),
    d = elapse s.dev dt → t = baseAt d c b → ptpOn d c b a.domain = true → -3 ≤ a.logInterval → a.logInterval ≤ 4 →
    a.grandmaster ≠ 0 → t.gm = 0 → t.others = [] →
    Does (.ptpAnnounce dt c b a) s fun e =>
      (baseAt e c b).gm = 0 ∧
      (baseAt e c b).others = [{ gm := a.grandmaster, rank := a.rank, at_ := d.mono, log := a.logInterval, good := false }] ∧
      OnlyBase d e c b ∧ Keeps [.ctls] noReg d e) ∧
  (∀ (dt : Nat) (s : State) (d : Device) (c : Ctl) (b : Fin 2) (a : PtpAnnounceMsg) (t : TimeBase) (o : Foreign),
    d = elapse s.dev dt → t = baseAt d c b → ptpOn d c b a.domain = true → -3 ≤ a.logInterval → a.logInterval ≤ 4 →
    a.grandmaster ≠ 0 → t.gm = 0 → t.others = [o] → o.gm = a.grandmaster → d.mono ≤ o.at_ + 4 * logNs o.log →
    Does (.ptpAnnounce dt c b a) s fun e =>
      (baseAt e c b).gm = a.grandmaster ∧ (baseAt e c b).rank = a.rank ∧ (baseAt e c b).syncAt = d.mono ∧
      (baseAt e c b).st = t.st ∧ OnlyBase d e c b ∧ Keeps [.ctls] noReg d e) ∧
  (∀ (dt : Nat) (s : State) (d : Device) (c : Ctl) (b : Fin 2) (t : TimeBase),
    d = elapse s.dev dt → t = baseAt d c b → ctlUp d c = true → t.gm ≠ 0 → t.st = 2 → (∀ f ∈ t.others, f.gm = t.gm) →
    t.annAt + regN d (0x2100 + b) 6 * logNs t.annLog ≤ d.mono →
    Does (.ptpAnnounceTimeout dt c b) s fun e =>
      (baseAt e c b).gm = 0 ∧ (baseAt e c b).st = 3 ∧ (baseAt e c b).check = true ∧ (baseAt e c b).ns = t.ns ∧
      Recorded d e c 46 (0x2100 + b) ∧ OnlyBase d e c b ∧
      Keeps (.ctls :: eventParts) (fun i r => eventReg i r ∨ (i = 0x2100 + b ∧ r = 0x19)) d e) ∧
  (∀ (dt : Nat) (s : State) (d : Device) (c : Ctl) (b : Fin 2) (t : TimeBase),
    d = elapse s.dev dt → t = baseAt d c b → ctlUp d c = true → t.gm ≠ 0 → t.st = 2 → t.syncAt + 4 * logNs t.syncLog ≤ d.mono →
    Does (.ptpSyncTimeout dt c b) s fun e =>
      (baseAt e c b).st = 3 ∧
      (if t.others.any (fun f => f.gm != t.gm && qualified d.mono f) then
         ∃ f ∈ t.others, f.gm ≠ t.gm ∧ qualified d.mono f = true ∧ (baseAt e c b).gm = f.gm
       else (baseAt e c b).gm = t.gm) ∧ (baseAt e c b).check = true ∧ (baseAt e c b).ns = t.ns ∧
      Recorded d e c 46 (0x2100 + b) ∧ OnlyBase d e c b ∧
      Keeps (.ctls :: eventParts) (fun i r => eventReg i r ∨ (i = 0x2100 + b ∧ r = 0x19)) d e)

/-! ### Sources (spec/03) -/

/-- R91, R96, R97: an update that passes the checks of R96 is counted, takes a credit and opens its frame; its tile, when good
and placed, is held in that frame as it was sent.
Clauses that rest on the model's choices: notes/assumptions 25, 172, 173. -/
def Obligations.TppUpdateFillsItsOpenFrame : Prop :=
  (∀ (dt : Nat) (st : State) (d : Device) (port : EthPort) (peer : Endpoint) (h : TppHeader) (tiles : List TppTile) (s o c : Nat),
    d = elapse st.dev dt → s = tppSource h → o = srcOwner d s → c = ctlOfPort port → hostPort d port = true →
    tppForm d h 1 1 = 0 → tppAllowed d h peer = 0 → tppIndices d s (tiles.map (·.index)) = 0 →
    (∀ t ∈ tiles, hdrSeq t.hdr = h.seq ∧ hdrLast t.hdr = isLast (srcW d s) (srcH d s) t.index) →
    tppFrameMismatch d s 1 h.seq = false → tppFull d s c = 0 → barred d (o + 2) 4 true = false →
    Does (.tppTileUpdate dt port peer h tiles) st fun e =>
      TppTaken d e s o (ingressQueue d s c) ∧
      (∃ x, (srcUnit e s o).opn = some x ∧ x.seq = h.seq ∧ x.reseal = false) ∧
      (srcUnit e s o).frame = (srcUnit d s o).frame ∧ Keeps tppParts (srcReg s) d e) ∧
  (∀ (dt : Nat) (st : State) (d g : Device) (port : EthPort) (peer : Endpoint) (h : TppHeader) (t : TppTile) (s o c : Nat),
    d = elapse st.dev dt → g = tppOpen (tppAccept d s o c [t.index]) s o h.seq false → s = tppSource h → o = srcOwner d s → c = ctlOfPort port → hostPort d port = true →
    tppForm d h 1 1 = 0 → tppAllowed d h peer = 0 → tppIndices d s [t.index] = 0 →
    hdrSeq t.hdr = h.seq → hdrLast t.hdr = isLast (srcW d s) (srcH d s) t.index →
    tppFrameMismatch d s 1 h.seq = false → tppFull d s c = 0 → barred d (o + 2) 4 true = false → (srcUnit d s o).opn = none →
    tileDrop s (srcCfg d s 4) t = 0 → ifsPlacing d o ≠ [] →
    bytesInUse g o + 256 * 2 ^ 20 + 16 + t.payload.length ≤ dieCapacity d o * 2 ^ 20 →
    Does (.tppTileUpdate dt port peer h [t]) st fun e =>
      (∃ x sl, (srcUnit e s o).opn = some x ∧ x.got = [(t.index, sl)] ∧ sl.hdr = t.hdr ∧ sl.payload = t.payload) ∧
      e.rings = d.rings)

/-- R98, R64, R21: an END_OF_FRAME that fits publishes the frame on the owner die when count, grid and signature agree;
when the count disagrees the frame is freed, counted and reported as FRAME_INCOMPLETE.
Clauses that rest on the model's choices: notes/assumptions 26, 173. -/
def Obligations.TppEndOfFramePublishesOrRejects : Prop :=
  (∀ (dt : Nat) (st : State) (d : Device) (port : EthPort) (peer : Endpoint) (h : TppHeader) (fc : FrameClose) (x : OpenFrame)
      (s o c : Nat),
    d = elapse st.dev dt → s = tppSource h → o = srcOwner d s → c = ctlOfPort port → hostPort d port = true →
    tppForm d h 3 1 = 0 → tppAllowed d h peer = 0 → tppFull d s c = 0 → barred d (o + 2) 4 true = false → (srcUnit d s o).opn = some x → x.seq = h.seq →
    x.reseal = false → fc.count ≠ 0 → x.got.length = fc.count → x.spoiled = false →
    (overlay (frameTiles (srcUnit d s o).frame) x.got).length = srcGrid d s →
    frameSignature (overlay (frameTiles (srcUnit d s o).frame) x.got) = fc.signature →
    Does (.tppEndOfFrame dt port peer h fc) st fun e =>
      TppTaken d e s o (ingressQueue d s c) ∧ Counted d e (srcLive s) 5 1 ∧ (srcUnit e s o).opn = none ∧
      regN e (srcLive s) 2 = 2 ^ 31 + h.seq ∧ regN e (srcLive s) 3 = 2 ^ 63 + fc.capture ∧
      regN e (srcLive s) 4 = 2 ^ 63 + fc.signature ∧
      (∃ f, (srcUnit e s o).frame = some f ∧ f.seq = h.seq ∧ f.capture = fc.capture ∧ f.signature = fc.signature ∧
        f.tiles = overlay (frameTiles (srcUnit d s o).frame) x.got ∧ f.published = (pixAt d o).tb2.ns ∧
        f.expired = oldAtPublication (pixAt d o) (srcCfg d s 7) fc.capture) ∧
      e.rings = d.rings ∧ Keeps tppParts (srcReg s) d e) ∧
  (∀ (dt : Nat) (st : State) (d : Device) (port : EthPort) (peer : Endpoint) (h : TppHeader) (fc : FrameClose) (x : OpenFrame)
      (s o c : Nat),
    d = elapse st.dev dt → s = tppSource h → o = srcOwner d s → c = ctlOfPort port → hostPort d port = true →
    tppForm d h 3 1 = 0 → tppAllowed d h peer = 0 → tppFull d s c = 0 → barred d (o + 2) 4 true = false → (srcUnit d s o).opn = some x → x.seq = h.seq →
    x.reseal = false → fc.count ≠ 0 → x.got.length ≠ fc.count →
    Does (.tppEndOfFrame dt port peer h fc) st fun e =>
      TppTaken d e s o (ingressQueue d s c) ∧ Counted d e (srcLive s) 6 1 ∧ (srcUnit e s o).opn = none ∧
      (srcUnit e s o).frame = (srcUnit d s o).frame ∧ Noted d e (o + 2) 4 (0x5000 + s) ∧ Keeps tppParts (srcReg s) d e)

/-- R100, R88, R92: a reseal covers the tiles whose headers are good, a keepalive keeps the source's signal and says its state,
and a datagram that no rule attributes is counted and reported at most once per second per port.
Clauses that rest on the model's choices: notes/assumptions 34, 46, 173. -/
def Obligations.TppResealKeepaliveAndUnattributed : Prop :=
  (∀ (dt : Nat) (st : State) (d : Device) (port : EthPort) (peer : Endpoint) (h : TppHeader) (tiles : List (Nat × BitVec 128))
      (s o c : Nat),
    d = elapse st.dev dt → s = tppSource h → o = srcOwner d s → c = ctlOfPort port → hostPort d port = true →
    tppForm d h 2 1 = 0 → tppAllowed d h peer = 0 → tppIndices d s (tiles.map (·.1)) = 0 →
    tppFrameMismatch d s 2 h.seq = false → tppFull d s c = 0 → barred d (o + 2) 4 true = false →
    Does (.tppReseal dt port peer h tiles) st fun e =>
      TppTaken d e s o (ingressQueue d s c) ∧
      (∃ x, (srcUnit e s o).opn = some x ∧ x.seq = h.seq ∧ x.reseal = true ∧
        ∀ t ∈ tiles, hdrGood t.2 = true → hdrValid t.2 = true → hdrOrigin t.2 = true → hdrRsvd t.2 = 0 → hdrSource t.2 = s →
          t.1 ∈ x.covered) ∧
      (srcUnit e s o).frame = (srcUnit d s o).frame ∧ e.rings = d.rings ∧ Keeps [.srcs, .queues, .mems] (fun i _ => i = srcLive s) d e) ∧
  (∀ (dt : Nat) (st : State) (d : Device) (port : EthPort) (peer : Endpoint) (h : TppHeader) (time state : Nat) (s o c : Nat),
    d = elapse st.dev dt → s = tppSource h → o = srcOwner d s → c = ctlOfPort port → hostPort d port = true →
    tppForm d h 4 state = 0 → tppAllowed d h peer = 0 → tppFull d s c = 0 →
    Does (.tppKeepalive dt port peer h time state) st fun e =>
      TppTaken d e s o (ingressQueue d s c) ∧
      (srcUnit e s o).state = (if state = 2 then 5 else if (srcUnit d s o).frame.isSome then 3 else 2) ∧
      (srcUnit e s o).frame = (srcUnit d s o).frame ∧
      ((copyOf (pixAt d o) (srcCfg d s 7 - 1)).loaded = true → srcFrc d s 8 * 1000 < (keepaliveOffset d s o time).natAbs →
        Noted d e (o + 2) 7 (0x5000 + s)) ∧
      Keeps (.srcs :: .queues :: .mems :: eventParts) (srcReg s) d e) ∧
  (∀ (dt : Nat) (st : State) (d : Device) (port : EthPort), d = elapse st.dev dt → hostPort d port = true →
    Does (.unattributedDatagram dt port) st fun e =>
      (if (tfind d.unattr port).isSome ∧ d.mono < (tget d.unattr port (0, 0)).1 + 1000000000 then
         tget e.unattr port (0, 0) = ((tget d.unattr port (0, 0)).1, (tget d.unattr port (0, 0)).2 + 1) ∧ e.rings = d.rings
       else tget e.unattr port (0, 0) = (d.mono, 0) ∧ Noted d e (ctlOfPort port) 6 0) ∧
      Keeps (.unattr :: eventParts) eventReg d e)

/-- R103 to R107: a packet of an enabled ST 2110 source enters the frame of its timestamp once; at the end of the wait the
frame becomes a record or is discarded; the owner die publishes the record's frame; a silent path is reported.
Clauses that rest on the model's choices: notes/assumptions 27, 28, 29, 174, 186, 187. -/
def Obligations.St2110PacketsBecomeFrames : Prop :=
  (∀ (dt : Nat) (st : State) (d : Device) (port : EthPort) (group udp : Nat) (k : RtpPacket) (s path ext : Nat),
    d = elapse st.dev dt → hostPort d port = true → barred d (srcOwner d s + 2) 4 true = false → rtpRoute d port group udp = some (s, path) →
    k.payloadType = srcCfg d s 0x17 → rtpBadForm d s k = false → k.timestamp ∉ (st2110At d s).lateTs → srcCfg d s 0x11 < 4 →
    ((st2110At d s).timestamp = none ∨ (st2110At d s).timestamp = some k.timestamp) → ext = k.extSeqHi * 65536 + k.seq →
    Does (.rtpPacket dt port group udp k) st fun e =>
      (if ext ∈ (st2110At d s).seen then (st2110At e s).seen = (st2110At d s).seen ∧ regN e (srcLive s) 7 = regN d (srcLive s) 7
       else (st2110At e s).seen = (st2110At d s).seen ++ [ext] ∧ (st2110At e s).timestamp = some k.timestamp ∧
         Counted d e (srcLive s) 7 1 ∧ (k.marker = true → ((st2110At e s).marker.map (·.1)) = some d.mono)) ∧
      Keeps (.st2110 :: tppParts) (srcReg s) d e) ∧
  (∀ (dt : Nat) (st : State) (d : Device) (s : SourceNo) (u : St2110Unit) (t arr ts : Nat), d = elapse st.dev dt →
    u = st2110At d s → u.marker = some (t, arr) → u.timestamp = some ts →
    (rtpComplete d s = true ∨ t + srcCfg d s 0x19 * 1000000 ≤ d.mono) →
    Does (.st2110MergeWaitEnd dt s) st fun e =>
      (st2110At e s).timestamp = none ∧ (st2110At e s).marker = none ∧ ts ∈ (st2110At e s).lateTs ∧
      (if rtpComplete d s = true then
         (st2110At e s).count = u.count + 1 ∧
         (st2110At e s).records = u.records ++ [FrameRec.mk s ((u.count + 1) % 65536) (rtpCapture ts arr) (signatureOf (u.crcs.map (·.2)))]
       else (st2110At e s).records = u.records ∧ Counted d e (srcLive s) 6 1 ∧
         Counted d e (srcLive s) 0x0D (rtpMissing u (maxOf u.seen))) ∧
      Keeps [.st2110] (fun i r => i = srcLive s ∧ (r = 6 ∨ r = 0x0D)) d e) ∧
  (∀ (dt : Nat) (st : State) (d : Device) (s : SourceNo) (r : FrameRec) (rest : List FrameRec) (o : Nat) (held : Table Slot),
    d = elapse st.dev dt → (st2110At d s).records = r :: rest → liveOwner d s = some o →
    held = ((srcUnit d s o).held.filter fun e => hdrSeq e.2.hdr == r.seq) → srcEnabled d s = true →
    Does (.st2110FrameRecord dt s) st fun e =>
      (st2110At e s).records = rest ∧
      (if held.length = srcGrid d s ∧ frameSignature held = r.signature ∧ held.all (fun e => hdrValid e.2.hdr) = true then
         (∃ f, (srcUnit e s o).frame = some f ∧ f.seq = r.seq ∧ f.capture = r.capture ∧ f.tiles = held) ∧
         Counted d e (srcLive s) 5 1
       else (srcUnit e s o).frame = (srcUnit d s o).frame ∧ Counted d e (srcLive s) 6 1 ∧ Noted d e (o + 2) 4 (0x5000 + s)) ∧
      Keeps (.st2110 :: tppParts) (srcReg s) d e) ∧
  (∀ (dt : Nat) (st : State) (d : Device) (s : SourceNo) (path : Fin 2), d = elapse st.dev dt → srcEnabled d s = true →
    srcCfg d s 1 = 2 → st2110Protected d s = true → srcCfg d s 0x11 < 4 → ctlUp d (st2110Ctl d s) = true →
    (st2110At d s).lastPath.getD path 0 + srcLossNs d s ≤ d.mono →
    d.mono < (st2110At d s).lastPath.getD (1 - path.val) 0 + srcLossNs d s → (st2110At d s).downPath.getD path false = false →
    Does (.st2110PathSilence dt s path) st fun e =>
      (st2110At e s).downPath = (st2110At d s).downPath.set path true ∧ Recorded d e (st2110Ctl d s) 8 (0x5000 + s) ∧
      Keeps (.st2110 :: eventParts) eventReg d e)

/-- R88, R210, R473: a source that stays silent loses its signal, a stored unit gives its credit back when the round
robin serves its queue, and a test pattern source publishes one frame for the tick.
Clauses that rest on the model's choices: notes/assumptions 7, 25, 87. -/
def Obligations.SignalLossCreditsAndTestPatterns : Prop :=
  (∀ (dt : Nat) (st : State) (d : Device) (s : SourceNo) (p : Die), d = elapse st.dev dt → pixUp d p = true →
    (srcUnit d s p).present = true → ((srcUnit d s p).state = 2 ∨ (srcUnit d s p).state = 3) →
    (srcUnit d s p).lastSignal + srcLossNs d s < d.mono → ((srcUnit d s p).owner = false ∨ srcCfg d s 1 ≠ 5) →
    Does (.signalLossTimeout dt s p) st fun e =>
      srcUnit e s p = { srcUnit d s p with state := 4 } ∧ (∀ j, j ≠ srcKey s p → srcAt e j = srcAt d j) ∧ Keeps [.srcs] noReg d e) ∧
  (∀ (dt : Nat) (st : State) (d : Device) (p : Die) (q : Fin 16), d = elapse st.dev dt → iqUsed d p q ≠ 0 →
    Does (.ingressUnitStored dt p q) st fun e =>
      (if (iqNext d p).map (·.1) = some q.val then
         iqUsed e p q + 1 = iqUsed d p q ∧ (queueAt e p).turn = q.val % 8 ∧ tget (queueAt e p).lastIq (q.val % 8) 0 = q.val / 8 + 1
       else queueAt e p = queueAt d p) ∧ (∀ r, r ≠ q.val → iqUsed e p r = iqUsed d p r) ∧
      (∀ j, j ≠ p.val → queueAt e j = queueAt d j) ∧ Keeps [.queues, .mems] noReg d e) ∧
  (∀ (dt : Nat) (st : State) (d g : Device) (p : Die) (s n : Nat) (tiles : List (Nat × BitVec 128 × List Byte)),
    d = elapse st.dev dt → g = modPix d p (fun q => { q with intTick := q.ticks }) → pixUp d p = true →
    (pixAt d p).intTick < (pixAt d p).ticks → namedSources d = [s] → srcOwner d s = p → srcCfg d s 1 = 5 →
    srcEnabled d s = true → n = tget (pixAt d p).intCount s 0 →
    tiles = ((List.range (srcGrid d s)).map fun i =>
      (i, sealTile s ((n + 1) % 65536) (tickInTb2 (pixAt d p)) (srcW d s) (srcH d s) i true
         (tilePayload (srcCfg d s 4) (srcW d s) (srcH d s) i (intPixel (srcFrc d s 0x1A) (srcW d s) n)),
       tilePayload (srcCfg d s 4) (srcW d s) (srcH d s) i (intPixel (srcFrc d s 0x1A) (srcW d s) n))) →
    (allocTiles g p tiles).2.isSome = true →
    Does (.intPatternFrame dt p) st fun e =>
      (pixAt e p).intTick = (pixAt d p).ticks ∧ tget (pixAt e p).intCount s 0 = n + 1 ∧
      (∃ f, (srcUnit e s p).frame = some f ∧ f.seq = (n + 1) % 65536 ∧ f.capture = tickInTb2 (pixAt d p)) ∧
      Counted d e (srcLive s) 5 1 ∧ Keeps (.pix :: tppParts) (srcReg s) d e)

/-- R108 to R111: an item at the front of a neighbour's out queue moves on toward its die, or is taken there: a tile is held, a
complete frame published, the owner's status adopted.
Clauses that rest on the model's choices: notes/assumptions 30, 31, 162, 229. -/
def Obligations.SpurCarriesTilesFramesAndStatus : Prop :=
  (∀ (dt : Nat) (st : State) (d : Device) (p : Die) (k : Fin 4) (s i : Nat) (sl : Slot) (rest : List SpurItem),
    d = elapse st.dev dt → spurOutOf d (spurFrom p k) k = .tile s p i sl :: rest → pixUp d p = true →
    pixUp d (spurFrom p k) = true → (k.val % 2 = 0 ∨ spurOutOf d (spurFrom p k) (k.val - 1) = []) →
    shedExport d s p = false → shedExport d s (spurFrom p k) = false → replicaOn d s p = true → ifsPlacing d p ≠ [] →
    bytesInUse d p + 256 * 2 ^ 20 + 16 + sl.payload.length ≤ dieCapacity d p * 2 ^ 20 →
    Does (.spurTileArrival dt p k) st fun e =>
      spurOutOf e (spurFrom p k) k = rest ∧
      (∃ t, tfind (srcUnit e s p).held i = some t ∧ t.hdr = sl.hdr ∧ t.payload = sl.payload) ∧
      (∀ j, j ≠ srcKey s p → srcAt e j = srcAt d j) ∧ Keeps [.srcs, .queues, .mems] noReg d e) ∧
  (∀ (dt : Nat) (st : State) (d : Device) (p : Die) (k : Fin 4) (s q i : Nat) (sl : Slot) (rest : List SpurItem),
    d = elapse st.dev dt → spurOutOf d (spurFrom p k) k = .tile s q i sl :: rest → pixUp d p = true →
    pixUp d (spurFrom p k) = true → (k.val % 2 = 0 ∨ spurOutOf d (spurFrom p k) (k.val - 1) = []) →
    shedExport d s p = false → shedExport d s (spurFrom p k) = false → p.val ≠ q → ((spurOutOf d p k).filter isTile).length < 128 →
    hopUp d p (if k.val < 2 then (p.val + 1) % 6 else (p.val + 5) % 6) = true →
    Does (.spurTileArrival dt p k) st fun e =>
      spurOutOf e (spurFrom p k) k = rest ∧ spurOutOf e p k = spurOutOf d p k ++ [.tile s q i sl] ∧
      Keeps [.queues, .mems] noReg d e) ∧
  (∀ (dt : Nat) (st : State) (d : Device) (p : Die) (k : Fin 4) (s : Nat) (f : Frame) (rest : List SpurItem),
    d = elapse st.dev dt → spurOutOf d (spurFrom p k) k = .publish s p f :: rest → pixUp d p = true →
    pixUp d (spurFrom p k) = true → (k.val % 2 = 0 ∨ spurOutOf d (spurFrom p k) (k.val - 1) = []) →
    shedExport d s p = false → shedExport d s (spurFrom p k) = false → replicaOn d s p = true →
    (srcUnit d s p).held.length = gridTiles f.width f.height → frameSignature (srcUnit d s p).held = f.signature →
    Does (.spurPublishRecord dt p k) st fun e =>
      spurOutOf e (spurFrom p k) k = rest ∧
      (∃ g, (srcUnit e s p).frame = some g ∧ g.seq = f.seq ∧ g.capture = f.capture ∧ g.signature = f.signature ∧
        g.tiles = (srcUnit d s p).held ∧ g.published = (pixAt d p).tb2.ns) ∧
      (∀ j, j ≠ srcKey s p → srcAt e j = srcAt d j) ∧ Keeps [.srcs, .queues, .mems] noReg d e) ∧
  (∀ (dt : Nat) (st : State) (d : Device) (p : Die) (k : Fin 4) (s n : Nat) (differ : List Nat) (rest : List SpurItem),
    d = elapse st.dev dt → spurOutOf d (spurFrom p k) k = .status s p n differ :: rest → pixUp d p = true →
    pixUp d (spurFrom p k) = true → (k.val % 2 = 0 ∨ spurOutOf d (spurFrom p k) (k.val - 1) = []) →
    replicaOn d s p = true →
    Does (.spurStatusRecord dt p k) st fun e =>
      spurOutOf e (spurFrom p k) k = rest ∧
      (srcUnit e s p).state = (if n = 1 ∨ n = 4 ∨ n = 5 then n else if (srcUnit d s p).frame.isSome then 3 else 2) ∧
      (srcUnit e s p).lastSignal = d.mono ∧ (∀ i ∈ differ, i ∈ (srcUnit e s p).differ) ∧
      (srcUnit e s p).frame = (srcUnit d s p).frame ∧ (∀ j, j ≠ srcKey s p → srcAt e j = srcAt d j) ∧
      Keeps [.srcs, .queues] noReg d e)

/-! ### Camera ports and pipelines (spec/04) -/

/-- R120 to R122: a Frame Start opens a frame with its capture time and parameters, a line of it is taken and waits while the
pipeline is busy, and a Frame End after the last line completes it.
Clauses that rest on the model's choices: notes/assumptions 40. -/
def Obligations.CsiFramesOpenFillAndComplete : Prop :=
  (∀ (dt : Nat) (st : State) (d : Device) (c : CamPort) (vc : Fin 16) (fixed : Bool) (i : Nat) (u : CamUnit) (p : Table Val),
    d = elapse st.dev dt → u = camAt d i → p = u.pending.getD u.params → portLive d c = true → camAtVc d c vc = some i →
    u.opened = false → dieStage d (dieOfPort c) < 2 →
    Does (.csiFrameStart dt c vc fixed) st fun e =>
      (camAt e i).opened = true ∧ (camAt e i).starts = u.starts + 1 ∧ (camAt e i).received = 0 ∧ (camAt e i).lastPkt = d.mono ∧
      (camAt e i).jobs = u.jobs ++ [CamJob.mk (u.starts + 1) (camCapture d i p) p [] [] false 0 (decide (1 ≤ camStage d i))] ∧
      (camAt e i).params = p ∧ (camAt e i).pending = none ∧ Counted d e (0x5480 + i) 0x42 1 ∧
      (fixed = true → Counted d e (0x5400 + c) 8 1) ∧ (∀ j, j ≠ i → camAt e j = camAt d j) ∧
      Keeps [.cams, .srcs, .force] (fun x r => (x = 0x5480 + i ∧ (r = 0x42 ∨ r = 0x41 ∨ r = 0x4A)) ∨ (x = 0x5400 + c ∧ r = 8)) d e) ∧
  (∀ (dt : Nat) (st : State) (d : Device) (c : CamPort) (vc : Fin 16) (dtype : Nat) (samples : List Nat) (fixed : Bool) (i w : Nat)
      (u : CamUnit),
    d = elapse st.dev dt → u = camAt d i → portLive d c = true → camAtVc d c vc = some i → camCfg d i 4 = dtype → u.opened = true →
    w = camCfg d i 7 * camSamples (camCfg d i 4) → w ≤ samples.length → u.received < camCfg d i 8 → camHeld u < 64 →
    Does (.csiLongPacket dt c vc dtype samples true fixed) st fun e =>
      (camAt e i).received = u.received + 1 ∧ (camAt e i).opened = true ∧ (camAt e i).lastPkt = d.mono ∧
      (camAt e i).longFrame = (u.longFrame || decide (w < samples.length)) ∧
      (∀ o j, u.jobs = [j] → j.start = u.starts → (pipeAt d (camCfg d i 6)).service = some o → camStreams d i ≠ [] →
        (camCrop d i).2.1 ≤ u.received → u.received < (camCrop d i).2.1 + (camCrop d i).2.2.2 →
        (camAt e i).jobs = [{ j with lines := j.lines ++ [(samples.drop ((camCrop d i).1 * camSamples (camCfg d i 4))).take
          ((camCrop d i).2.2.1 * camSamples (camCfg d i 4))] }]) ∧
      Keeps [.cams, .pipes] (fun x r => x = 0x5400 + c ∧ r = 8) d e) ∧
  (∀ (dt : Nat) (st : State) (d : Device) (c : CamPort) (vc : Fin 16) (fixed : Bool) (i : Nat) (u : CamUnit),
    d = elapse st.dev dt → u = camAt d i → portLive d c = true → camAtVc d c vc = some i → u.opened = true →
    camCfg d i 8 ≤ u.received →
    Does (.csiFrameEnd dt c vc fixed) st fun e =>
      (camAt e i).opened = false ∧ (camAt e i).completed = u.completed + 1 ∧ Counted d e (0x5480 + i) 0x43 1 ∧
      (u.longFrame = true → Counted d e (0x5480 + i) 0x45 1) ∧
      Keeps (.cams :: tppParts) (fun x r => eventReg x r ∨ x = 0x5480 + i ∨ (x = 0x5400 + c ∧ r = 8) ∨ ∃ s, s < 512 ∧ x = srcLive s)
        d e)

/-- R117, R115, R121, R133: header errors and gaps discard open frames, ignored packets are counted, the lane state shows.
Clauses that rest on the model's choices: notes/assumptions 40, 225. -/
def Obligations.CsiErrorsDiscardAndAreCounted : Prop :=
  (∀ (dt : Nat) (st : State) (d : Device) (c : CamPort), d = elapse st.dev dt → portLive d c = true →
    Does (.csiHeaderEccUncorrectable dt c) st fun e =>
      Counted d e (0x5400 + c) 9 1 ∧ (∀ i ∈ portInputs d c, (camAt e i).opened = false) ∧
      (∀ i ∈ portInputs d c, (camAt d i).opened = true → regN e (0x5480 + i) 0x47 = 5) ∧
      Keeps (.cams :: .pipes :: eventParts)
        (fun x r => eventReg x r ∨ (x = 0x5400 + c ∧ r = 9) ∨ ∃ i ∈ portInputs d c, x = 0x5480 + i ∧ (r = 0x44 ∨ r = 0x47)) d e) ∧
  (∀ (dt : Nat) (st : State) (d : Device) (k : StrayPacket), d = elapse st.dev dt → portLive d k.port = true →
    Does (.csiPacketIgnored dt k) st fun e =>
      Counted d e (0x5400 + k.port) 0x0B 1 ∧ (k.eccFixed = true → Counted d e (0x5400 + k.port) 8 1) ∧
      (k.crcOk = false → Counted d e (0x5400 + k.port) 0x0A 1) ∧
      Keeps [] (fun x r => x = 0x5400 + k.port ∧ (r = 8 ∨ r = 0x0A ∨ r = 0x0B)) d e) ∧
  (∀ (dt : Nat) (st : State) (d : Device) (i : InputNo), d = elapse st.dev dt → (camAt d i).opened = true →
    (camAt d i).lastPkt + 50000000 ≤ d.mono → camPort d i < 12 → portLive d (camPort d i) = true →
    Does (.csiFrameGap dt i) st fun e =>
      (camAt e i).opened = false ∧ (camAt e i).skipping = false ∧ Counted d e (0x5480 + i) 0x44 1 ∧ regN e (0x5480 + i) 0x47 = 4 ∧
      (∀ j ∈ (camAt e i).jobs, j.start ≠ (camAt d i).starts) ∧
      Keeps (.cams :: .pipes :: eventParts) (fun x r => eventReg x r ∨ (x = 0x5480 + i ∧ (r = 0x44 ∨ r = 0x47))) d e) ∧
  (∀ (dt : Nat) (st : State) (d : Device) (c : CamPort) (l : PortLink), d = elapse st.dev dt → portLive d c = true →
    Does (.portLinkStateChange dt c l) st fun e =>
      regN e (0x5400 + c) 7 = (match l with | .down => 1 | .lpIdle => 2 | .ulps => 3 | .receiving => 4) ∧
      Keeps [] (fun x r => x = 0x5400 + c ∧ r = 7) d e)

/-- R130: the line a pipeline finishes joins its frame's processed lines, and the pipeline takes the next waiting line.
Clauses that rest on the model's choices: notes/assumptions 40. -/
def Obligations.PipelineFinishesALineAndTakesTheNext : Prop :=
  (∀ (dt : Nat) (st : State) (d : Device) (j : PipeNo) (i start : Nat) (l : List Nat) (x : CamJob),
    d = elapse st.dev dt → pixUp d (dieOfPipe j) = true → (pipeAt d j).service = some (i, start, l) → (camAt d i).jobs = [x] →
    x.start = start → x.ended = false →
    Does (.pipelineLineDone dt j) st fun e =>
      (camAt e i).jobs.map (·.done) = [x.done ++ [l]] ∧ regN e (0x5440 + j) 5 = (regN d (0x5440 + j) 5 + 1) % 2 ^ 31 ∧
      ((∀ k ∈ pipeInputs d j, camHeld (camAt d k) = 0) → (pipeAt e j).service = none) ∧
      Keeps [.cams, .pipes] (fun o r => o = 0x5440 + j ∧ r = 5) d e) ∧
  (∀ (dt : Nat) (st : State) (d : Device) (j : PipeNo) (i : Nat) (x : CamJob) (l : List Nat) (ls : List (List Nat)),
    d = elapse st.dev dt → pixUp d (dieOfPipe j) = true → (pipeAt d j).service = none → pipeNext d j = some i →
    (camAt d i).jobs = [x] → x.lines = l :: ls →
    Does (.pipelineLineDone dt j) st fun e =>
      (pipeAt e j).service = some (i, x.start, l) ∧ (camAt e i).jobs = [{ x with lines := ls }] ∧
      (∀ k, k ≠ i → camAt e k = camAt d k) ∧ Keeps [.cams, .pipes] noReg d e)

/-! ### Heads, the close and the tick (spec/06, spec/01, spec/07) -/

/-- R184, R185, R191: when training begins and what its result does. `v` is the head's configuration in force.
Clauses that rest on the model's choices: notes/assumptions 72, 73. -/
def Obligations.LinkTrainingBeginsAndEnds : Prop :=
  (∀ (dt : Nat) (s : State) (d : Device) (h : HeadNo) (v : Table Val), d = elapse s.dev dt → v = headForce d h →
    pixUp d (dieOfHead h) = true → headOn d h = true → (headAt d h).running = false → (headAt d h).link = .waitHpd →
    Does (.dotPllLock dt h) s fun e =>
      (headAt e h).running = true ∧ (headAt e h).lock = 1 ∧ (headAt e h).goodTicks = 0 ∧
      ((headAt d h).hpd ≠ 2 → (headAt e h).link = .waitHpd) ∧
      ((headAt d h).hpd = 2 → sinkSuits v (headAt d h).caps = true → trainOrder d v ≠ [] →
        (headAt e h).link = .training ∧ (headAt e h).tries = trainOrder d v) ∧
      (∀ j, j ≠ h.val → headAt e j = headAt d j) ∧
      (∀ k, k ≠ dieOfHead h + 2 → clockAt e k = clockAt d k) ∧
      Keeps (.heads :: .clocks :: eventParts) (fun x r => eventReg x r ∨ (x = 0x4880 + h ∧ (r = 0x0D ∨ r = 0x0E))) d e) ∧
  (∀ (dt : Nat) (s : State) (d : Device) (h : HeadNo) (t : Nat × Nat) (rest : List (Nat × Nat)), d = elapse s.dev dt →
    (headAt d h).link = .training → (headAt d h).tries = t :: rest →
    Does (.linkTrainingResult dt h true) s fun e =>
      (headAt e h).link = .up ∧ (headAt e h).trained = some t ∧ (headAt e h).tries = [] ∧ (headAt e h).everUp = true ∧
      (∀ j, j ≠ h.val → headAt e j = headAt d j) ∧ Keeps (.heads :: eventParts) eventReg d e) ∧
  (∀ (dt : Nat) (s : State) (d : Device) (h : HeadNo) (t : Nat × Nat) (rest : List (Nat × Nat)), d = elapse s.dev dt →
    (headAt d h).link = .training → (headAt d h).tries = t :: rest →
    Does (.linkTrainingResult dt h false) s fun e =>
      (headAt e h).tries = rest ∧
      (if rest = [] then (headAt e h).link = .failed ∧ (headAt e h).retryAt = d.mono + 1000000000 ∧
         Counted d e (0x4880 + h) 0x0E 1 ∧
         (if (headAt d h).dropped = true then Counted d e (0x4880 + h) 0x0D 1
          else Recorded d e (h / 4 + 2) 19 (0x4800 + h))
       else (headAt e h).link = .training ∧ e.rings = d.rings) ∧
      (∀ j, j ≠ h.val → headAt e j = headAt d j) ∧
      Keeps (.heads :: eventParts) (fun x r => eventReg x r ∨ (x = 0x4880 + h ∧ (r = 0x0D ∨ r = 0x0E))) d e) ∧
  (∀ (dt : Nat) (s : State) (d : Device) (h : HeadNo) (caps : SinkCaps) (v : Table Val), d = elapse s.dev dt → v = headForce d h →
    (headAt d h).link = .failed → (headAt d h).hpd = 2 → (headAt d h).retryAt ≤ d.mono → sinkSuits v (some caps) = true →
    trainOrder d v ≠ [] →
    Does (.linkTrainingRetry dt h caps) s fun e =>
      (headAt e h).link = .training ∧ (headAt e h).tries = trainOrder d v ∧ (headAt e h).caps = some caps ∧
      (∀ j, j ≠ h.val → headAt e j = headAt d j) ∧ Keeps [.heads] noReg d e) ∧
  (∀ (dt : Nat) (s : State) (d : Device) (h : HeadNo) (v : Table Val) (t : Nat), d = elapse s.dev dt → v = headForce d h →
    (headAt d h).link = .frozen t → sinkSuits v (headAt d h).caps = true → trainOrder d v ≠ [] →
    Does (.headPipeResetDone dt h) s fun e =>
      (if (headAt d h).hpd = 2 ∧ (headAt d h).running = true then
         (headAt e h).link = .training ∧ (headAt e h).tries = trainOrder d v
       else (headAt e h).link = .waitHpd) ∧
      (∀ j, j ≠ h.val → headAt e j = headAt d j) ∧ Keeps [.heads] noReg d e)

/-- R186: what a low, a high and a pulse of HPD do to a head's link.
Clauses that rest on the model's choices: notes/assumptions 72, 73. -/
def Obligations.HotPlugEventsMoveTheLink : Prop :=
  (∀ (dt : Nat) (s : State) (d : Device) (h : HeadNo), d = elapse s.dev dt → pixUp d (dieOfHead h) = true →
    (headAt d h).hpd = 2 → (headAt d h).link = .up →
    Does (.hpdLowTimeout dt h) s fun e =>
      (headAt e h).hpd = 1 ∧ (headAt e h).caps = none ∧ (headAt e h).link = .waitHpd ∧ (headAt e h).trained = none ∧
      (scanAt e h).sent = false ∧ Counted d e (0x4880 + h) 0x0D 1 ∧ Recorded d e (h / 4 + 2) 20 (0x4800 + h) ∧
      (∀ j, j ≠ h.val → headAt e j = headAt d j ∧ scanAt e j = scanAt d j) ∧
      Keeps (.heads :: .scans :: eventParts) (fun x r => eventReg x r ∨ (x = 0x4880 + h ∧ r = 0x0D)) d e) ∧
  (∀ (dt : Nat) (s : State) (d : Device) (h : HeadNo) (caps : SinkCaps) (v : Table Val), d = elapse s.dev dt → v = headForce d h →
    pixUp d (dieOfHead h) = true → sinkSuits v (some caps) = true → trainOrder d v ≠ [] →
    Does (.hpdHigh dt h caps) s fun e =>
      (headAt e h).hpd = 2 ∧ (headAt e h).caps = some caps ∧
      (if (headAt d h).link = .waitHpd ∧ (headAt d h).running = true then
         (headAt e h).link = .training ∧ (headAt e h).tries = trainOrder d v
       else (headAt e h).link = (headAt d h).link) ∧
      (∀ j, j ≠ h.val → headAt e j = headAt d j) ∧ Keeps [.heads] noReg d e) ∧
  (∀ (dt : Nat) (s : State) (d : Device) (h : HeadNo) (ev : IrqKind) (v : Table Val), d = elapse s.dev dt → v = headForce d h →
    pixUp d (dieOfHead h) = true → (headAt d h).link = .up → (headAt d h).payloads.length = 4 →
    Does (.irqHpd dt h ev) s fun e =>
      (match ev with
       | .lossOfLock => sinkSuits v (headAt d h).caps = true → trainOrder d v ≠ [] →
         (headAt e h).link = .training ∧ (headAt e h).tries = (headAt d h).trained.toList ++ trainOrder d v ∧
         (scanAt e h).sent = false
       | .sinkRemoved k => hv v 4 = 2 → (headAt d h).payloads.getD k false = true →
         (headAt e h).payloads = (headAt d h).payloads.set k false ∧ (headAt e h).link = .up ∧
         Recorded d e (h / 4 + 2) 21 (0x4800 + h)
       | .sinkAdded k => hv v 4 = 2 → k.val < hv v 5 → (headAt d h).payloads.getD k false = false →
         k.val ∈ (headAt e h).rising ∧ (headAt e h).payloads = (headAt d h).payloads ∧ (headAt e h).link = .up) ∧
      (∀ j, j ≠ h.val → headAt e j = headAt d j ∧ scanAt e j = scanAt d j) ∧
      Keeps (.heads :: .scans :: eventParts) (fun x r => eventReg x r ∨ (x = 0x4880 + h ∧ (r = 0x0D ∨ r = 0x0E))) d e)

/-- R179, R181, R183, R187, R199: a launch that is due ends the scan before it, where that is still to end, and puts the latched
frame on screen with the next frame count; each line of it follows in order when it is due, and the first line of blanking of the
last stream ends the scan.
Clauses that rest on the model's choices: notes/assumptions 78, 80, 182, 231. -/
def Obligations.HeadFramesLaunchAndScan : Prop :=
  (∀ (dt : Nat) (s : State) (d c : Device) (h : HeadNo) (S : Scan), d = elapse s.dev dt → (scanAt d h).ready = some S →
    pixUp d (dieOfHead h) = true → (headAt d h).running = true → (headAt d h).curTick ≠ (pixAt d (dieOfHead h)).ticks →
    launchDue d h S = true → c = scanEnds d h → pixUp c (dieOfHead h) = true → (headAt c h).running = true →
    Does (.headFrameLaunch dt h) s fun e =>
      (scanAt e h).cur = some S ∧ (scanAt e h).ready = none ∧ (scanAt e h).lines = [0, 0, 0, 0] ∧
      (headAt e h).curTick = (pixAt d (dieOfHead h)).ticks ∧
      (headAt e h).frameCount = (if 0xFFFFFFFE ≤ (headAt d h).frameCount then 1 else (headAt d h).frameCount + 1) ∧
      (headAt e h).phaseErr =
        some (Int.ofNat (pixAt d (dieOfHead h)).tb1.ns - Int.ofNat ((pixAt d (dieOfHead h)).tickAt + hv S.hcfg 0x0E * 1000)) ∧
      ((scanAt e h).sent = true ↔ (headAt c h).link = .up ∧ (scanAt c h).resumeTick ≤ (pixAt d (dieOfHead h)).ticks) ∧
      (∀ k ∈ (headAt c h).rising, k < (headAt c h).payloads.length → (headAt e h).payloads.getD k false = true) ∧
      (∀ j, j ≠ h.val → headAt e j = headAt c j ∧ scanAt e j = scanAt c j) ∧
      Keeps [.heads, .scans, .wbs, .srcs, .rings] noReg c e) ∧
  (∀ (dt : Nat) (s : State) (d : Device) (h : HeadNo) (k : StreamNo) (line : Nat) (parity : List (LayerNo × Nat)) (stuck : Bool)
      (S : Scan),
    d = elapse s.dev dt → (scanAt d h).cur = some S → pixUp d (dieOfHead h) = true → (headAt d h).running = true →
    k.val < hv S.hcfg 5 → (scanAt d h).lines.length = 4 → (scanAt d h).lines.getD k 0 = line → line < vActive S.hcfg →
    lineDue d h line S = true →
    Does (.rasterLine dt h k line parity stuck) s fun e =>
      (scanAt e h).lines = (scanAt d h).lines.set k (line + 1) ∧ (scanAt e h).cur.isSome = true ∧
      (headAt e h).frameCount = (headAt d h).frameCount ∧
      (wbv (wbAt d (dieOfHead h)).capture 1 = 1 → wbv (wbAt d (dieOfHead h)).capture 2 = h →
        wbv (wbAt d (dieOfHead h)).capture 3 = k → (wbAt d (dieOfHead h)).spoiled = false →
        (wbAt e (dieOfHead h)).rows.length = (wbAt d (dieOfHead h)).rows.length + 1) ∧
      (∀ j, j ≠ h.val → headAt e j = headAt d j ∧ scanAt e j = scanAt d j) ∧
      Keeps (.scans :: .layers :: .heads :: .wbs :: .fresh :: eventParts)
        (fun x r => eventReg x r ∨ x = 0x4880 + h ∨ (r = 0x0B ∧ 0x4100 ≤ x ∧ x < 0x4100 + 192)) d e) ∧
  (∀ (dt : Nat) (s : State) (d : Device) (h : HeadNo) (k : StreamNo) (parity : List (LayerNo × Nat)) (stuck : Bool) (S : Scan),
    d = elapse s.dev dt → (scanAt d h).cur = some S → pixUp d (dieOfHead h) = true → (headAt d h).running = true →
    k.val < hv S.hcfg 5 → (scanAt d h).lines.length = 4 → (scanAt d h).lines.getD k 0 = vActive S.hcfg →
    lineDue d h (vActive S.hcfg) S = true →
    Does (.rasterLine dt h k (vActive S.hcfg) parity stuck) s fun e =>
      if ∃ j, j < hv S.hcfg 5 ∧ j ≠ k.val ∧ (scanAt d h).lines.getD j 0 ≤ vActive S.hcfg then
        (scanAt e h).cur = some S ∧ (scanAt e h).lines = (scanAt d h).lines.set k (vActive S.hcfg + 1)
      else (scanAt e h).cur = none)

/-- R32, R73, R200: the tile that scan fetch asks for next in a frame (`w` 0 on screen, 1 latched, 2 planned), when it
verifies, is kept for that frame and counted; one that fails is posted, counted and reported.
Clauses that rest on the model's choices: notes/assumptions 70, 169, 221. -/
def Obligations.FetchedTilesAreVerified : Prop :=
  ∀ (dt : Nat) (s : State) (d : Device) (n : LayerNo) (tile : Nat) (hf pf : List Nat) (h : Nat) (w : Fin 3) (S : Scan)
    (L : ScanLayer) (f : Frame) (sl : Slot) (kind : Nat),
    d = elapse s.dev dt → pixUp d (dieOfLayer n) = true → dieOfHead h = dieOfLayer n → scanPick (scanAt d h) w = some S →
    nextFetch d (dieOfLayer n) h w = some (n.val, tile) →
    (∀ (j : Nat) (v : Fin 3), dieOfHead j = dieOfLayer n → (v = 0 ↔ w = 0) → (j ≠ h ∨ v ≠ w) →
      nextFetch d (dieOfLayer n) j v ≠ some (n.val, tile)) →
    S.layers.find? (fun L => L.n == n.val) = some L → L.frame = some f → tfind f.tiles tile = some sl →
    kind = verifyTile f.source f.width f.height tile (flipBits (readSlot d (dieOfLayer n) sl).1 hf)
      (flipBytes (readSlot d (dieOfLayer n) sl).2 pf) →
    Does (.tileFetchDone dt n (decide (w ≠ 0)) tile ⟨hf, false⟩ ⟨pf, false⟩) s fun e =>
      (if kind = 0 then
         regN e (0x4100 + n) 0x0C = (regN d (0x4100 + n) 0x0C + 1) % 2 ^ 32 ∧ e.rings = d.rings ∧
         (∃ T M, scanPick (scanAt e h) w = some T ∧ M ∈ T.layers ∧ M.n = n ∧
           tfind M.verified tile = some { sl with hdr := flipBits (readSlot d (dieOfLayer n) sl).1 hf,
                                                  payload := flipBytes (readSlot d (dieOfLayer n) sl).2 pf })
       else (layerAt e n).posted = true ∧ Counted d e (0x4100 + n) 0x0B 1 ∧ Noted d e (n / 32 + 2) 2 (0x4000 + n) ∧
         (∃ T M, scanPick (scanAt e h) w = some T ∧ M ∈ T.layers ∧ M.n = n ∧ (tile, kind, 0) ∈ M.failed)) ∧
      (∀ j, j ≠ h → scanAt e j = scanAt d j) ∧
      Keeps (.scans :: .layers :: eventParts) (fun x r => eventReg x r ∨ (x = 0x4100 + n ∧ (r = 0x0B ∨ r = 0x0C))) d e

/-- R14, R15, R158: the close of a commit window is counted and leaves every latched verdict as it was; the tick latches the
verdicts of the committed layers; a commit message reaches its unit and waits there, behind the
close where that is due.
Clauses that rest on the model's choices: notes/assumptions 50, 62, 109, 183, 185. -/
def Obligations.CloseAndTickLatchVerdicts : Prop :=
  (∀ (dt : Nat) (s : State) (d : Device) (p : Die), d = elapse s.dev dt → pixUp d p = true → (pixAt d p).tb1.loaded = true →
    (pixAt d p).closes = (pixAt d p).ticks → aimTick d (pixAt d p) ≤ (pixAt d p).tb1.ns + regN d 0x2110 4 * 1000 →
    Does (.commitWindowClose dt p) s fun e =>
      (pixAt e p).closes = (pixAt d p).closes + 1 ∧ (pixAt e p).ticks = (pixAt d p).ticks ∧
      (pixAt e p).aimAt = aimTick d (pixAt d p) ∧ (∀ n, (layerAt e n).latched = (layerAt d n).latched) ∧
      (∀ n, dieOfLayer n = p → (layerAt e n).committed = true → (layerAt e n).eval.isSome = true)) ∧
  (∀ (dt : Nat) (s : State) (d : Device) (p : Die), d = elapse s.dev dt → pixUp d p = true → (pixAt d p).tb1.loaded = true →
    (pixAt d p).closes = (pixAt d p).ticks → aimTick d (pixAt d p) ≤ (pixAt d p).tb1.ns + regN d 0x2110 4 * 1000 →
    firstTicking d ≠ some p.val →
    Does (.commitWindowClose dt p) s fun e =>
      Keeps (.pix :: .rails :: .force :: .record :: .srcs :: .st2110 :: .heads :: .tags :: .wbs :: .layers :: .scans :: .ifs :: .mems :: eventParts)
        anyReg d e) ∧
  (∀ (dt : Nat) (s : State) (d : Device) (p : Die), d = elapse s.dev dt → pixUp d p = true →
    (pixAt d p).closes = (pixAt d p).ticks + 1 → (pixAt d p).aimAt ≤ (pixAt d p).tb1.ns → (pixAt d p).endTick = 0 → firstTicking d ≠ some p.val →
    Does (.tickLatch dt p) s fun e =>
      (pixAt e p).ticks = (pixAt d p).ticks + 1 ∧ (pixAt e p).closes = (pixAt d p).closes ∧
      (pixAt e p).tickAt = (pixAt d p).aimAt ∧ (pixAt e p).gridTick = 0 ∧
      (∀ n, (layerAt e n).latched = (if dieOfLayer n = p ∧ (layerAt d n).committed = true then some ((layerAt d n).eval.getD noEval)
        else (layerAt d n).latched))) ∧
  (∀ (dt : Nat) (s : State) (d : Device) (p : Die) (c : Nat) (m : CtlMsg) (rest : List CtlMsg), d = elapse s.dev dt →
    activeCtl d = some c → (queueAt d p).ctl = m :: rest → pixUp d p = true → (pixAt d p).token = c + 2 →
    barred d (p + 2) 3 true = false →
    Does (.commitMessage dt p) s fun e =>
      (queueAt e p).ctl = rest ∧
      (if closeDue d (pixAt d p) = true then (pixAt e p).behind = (pixAt d p).behind ++ [m] else match m with
       | .layer n w => (layerAt e n).pending = some (commitLate d p w)
       | .head h w => (headAt e h).pending = some (commitLate d p w)
       | .guard h w => (headAt e h).guardPend = some (commitLate d p w)
       | .tag t w => (tagAt e t).pending = some (commitLate d p w)
       | .writeback w => (wbAt e p).pending = some (commitLate d p w)) ∧
      (∀ q, q ≠ p.val → pixAt e q = pixAt d q) ∧
      Keeps (.pix :: .layers :: .heads :: .tags :: .wbs :: .queues :: eventParts) anyReg d e)

/-! ### Surface memory, credits and queues (spec/08, spec/07) -/

/-- R225 to R227: an accrual raises a rank's debt and, with nothing urgent waiting, issues it; a change of rate re-expresses
it.
Clauses that rest on the model's choices: notes/assumptions 81, 82. -/
def Obligations.RefreshDebtAccruesAndCrosses : Prop :=
  (∀ (dt : Nat) (s : State) (d : Device) (p : Die) (m : MemIf) (r : Fin 2) (u : MemIfUnit) (k : RankUnit), d = elapse s.dev dt →
    u = memIfAt d (ifKey p m) → k = rankOf u r → pixUp d p = true → (u.state = 3 ∨ u.state = 4) → r.val < u.ranks →
    k.last + trefi k.rate ≤ d.mono →
    Does (.refreshAccrual dt p m r) s fun e =>
      (rankOf (memIfAt e (ifKey p m)) r).debt = (if (memAt d p).switching.isSome = true ∨ urgentFor d p m r = true then min (k.debt + 1) 8 else 0) ∧
      (rankOf (memIfAt e (ifKey p m)) r).last = k.last + trefi k.rate ∧ (rankOf (memIfAt e (ifKey p m)) r).rate = k.rate ∧
      rankOf (memIfAt e (ifKey p m)) (1 - r.val) = rankOf u (1 - r.val) ∧
      regN e (ifObj p m) 6 = 0x80 + max (regN d (ifObj p m) 6 % 16) (min (k.debt + 1) 8) ∧
      (∀ j, j ≠ ifKey p m → memIfAt e j = memIfAt d j) ∧ Keeps [.ifs] (fun x i => x = ifObj p m ∧ i = 6) d e) ∧
  (∀ (dt : Nat) (s : State) (d : Device) (p : Die) (m : MemIf) (r : Fin 2) (rate : Mr4Rate) (u : MemIfUnit) (k : RankUnit) (f : Nat),
    d = elapse s.dev dt → u = memIfAt d (ifKey p m) → k = rankOf u r → pixUp d p = true → (u.state = 3 ∨ u.state = 4) →
    r.val < u.ranks → (memAt d p).switching = none → f = d.mono - k.last →
    Does (.mr4Poll dt p m r rate) s fun e =>
      (rankOf (memIfAt e (ifKey p m)) r).rate = (match rate with | .oneOrSlower => 1 | .two => 2 | .faster => 3) ∧
      (k.rate = 1 → rate ≠ .oneOrSlower → 2 * k.debt + f / 1953 ≤ 8 →
        (rankOf (memIfAt e (ifKey p m)) r).debt = 2 * k.debt + f / 1953 ∧
        (rankOf (memIfAt e (ifKey p m)) r).last = d.mono - f % 1953) ∧
      (k.rate = 1 → rate ≠ .oneOrSlower → 8 < 2 * k.debt + f / 1953 →
        (rankOf (memIfAt e (ifKey p m)) r).debt = 8 ∧ Counted d e (ifObj p m) 7 1) ∧
      (2 ≤ k.rate → rate = .oneOrSlower →
        (rankOf (memIfAt e (ifKey p m)) r).debt = (k.debt + 1) / 2 ∧ (rankOf (memIfAt e (ifKey p m)) r).last = d.mono - f) ∧
      (∀ j, j ≠ ifKey p m → memIfAt e j = memIfAt d j) ∧
      Keeps (.ifs :: .mems :: .limits :: eventParts) (fun x i => eventReg x i ∨ (x = ifObj p m ∧ (i = 6 ∨ i = 7))) d e) ∧
  (∀ (dt : Nat) (s : State) (d : Device) (p : Die) (m : MemIf) (r : Fin 2) (rate : Mr4Rate) (u : MemIfUnit) (k : RankUnit),
    d = elapse s.dev dt → u = memIfAt d (ifKey p m) → k = rankOf u r → pixUp d p = true → (u.state = 3 ∨ u.state = 4) →
    r.val < u.ranks → (memAt d p).switching.isSome = true →
    Does (.mr4Poll dt p m r rate) s fun e =>
      rankOf (memIfAt e (ifKey p m)) r =
        { k with crossing := some (match rate with | .oneOrSlower => 1 | .two => 2 | .faster => 3) } ∧
      (∀ j, j ≠ ifKey p m → memIfAt e j = memIfAt d j) ∧ Keeps (.ifs :: .limits :: eventParts) eventReg d e)

/-- R218, R229, R230: bring-up gives each interface its state and the die its set point; one training step runs on a die at a
time, and its result is shown, counted and, at the third failure, retires the interface.
Clauses that rest on the model's choices: notes/assumptions 7, 195, 198. -/
def Obligations.InterfacesTrainAndRetrain : Prop :=
  (∀ (dt : Nat) (s : State) (d : Device) (p : Die) (res : List TrainResult) (a b : Nat), d = elapse s.dev dt → pixUp d p = true →
    (memAt d p).inForce = 0 → res.length = 4 → firstOrg res = some (a, b) → 3 ≤ res.countP (fun r => r == .trained a b) →
    Does (.memTrainingDone dt p res) s fun e =>
      (∀ m r, res[m]? = some r → (memIfAt e (ifKey p m)).state =
        (match r with | .notPresent => 1 | .failed => 6 | .trained x y => if x = a ∧ y = b then 3 else 6)) ∧
      (∀ m, res[m]? = some (.trained a b) → (memIfAt e (ifKey p m)).density = a ∧ (memIfAt e (ifKey p m)).ranks = b) ∧
      (memAt e p).inForce = wantFsp d p ∧ regN e (memObj p) 2 = regN d (memObj p) 1 ∧
      Keeps (.ifs :: .mems :: eventParts) (fun x i => eventReg x i ∨ (x = memObj p ∧ i = 2)) d e) ∧
  (∀ (dt : Nat) (s : State) (d : Device) (p : Die) (m : MemIf) (f : Fin 3), d = elapse s.dev dt → pixUp d p = true →
    ((memIfAt d (ifKey p m)).state = 3 ∨ (memIfAt d (ifKey p m)).state = 4) →
    (∀ j, j < 4 → (memIfAt d (ifKey p j)).step = none) → (memAt d p).pending = none → (memAt d p).switching = none →
    stepDue d p m (f.val + 1) = true →
    Does (.periodicTrainingStep dt p m f) s fun e =>
      memIfAt e (ifKey p m) =
        (if f.val + 1 = (memAt d p).inForce then
           { memIfAt d (ifKey p m) with step := some (f.val + 1), ownStep := some d.mono, stepped := [] }
         else { memIfAt d (ifKey p m) with step := some (f.val + 1), stepped := (memIfAt d (ifKey p m)).stepped ++ [f.val + 1] }) ∧
      (∀ j, j ≠ ifKey p m → memIfAt e j = memIfAt d j) ∧ Keeps [.ifs] noReg d e) ∧
  (∀ (dt : Nat) (s : State) (d : Device) (p : Die) (m : MemIf) (res : StepResult) (f : Nat) (u : MemIfUnit), d = elapse s.dev dt →
    u = memIfAt d (ifKey p m) → u.step = some f → (memAt d p).armed = false →
    Does (.trainingStepEnd dt p m res) s fun e =>
      (memIfAt e (ifKey p m)).step = none ∧
      (res = .pass → tget (memIfAt e (ifKey p m)).stored f 0 = delayAt (ifKey p m) f d.mono) ∧
      (res = .pass → f = (memAt d p).inForce →
        (memIfAt e (ifKey p m)).rank0.fresh = some (delayAt (ifKey p m) f d.mono) ∧
        (memIfAt e (ifKey p m)).rank1.fresh = some (delayAt (ifKey p m) f d.mono)) ∧
      regN e (ifObj p m) 9 = (match res with | .pass => 1 | .outOfRange => 2 | .noResponse => 3) ∧
      (memIfAt e (ifKey p m)).failRun =
        (if f = (memAt d p).inForce then (if res = .pass then 0 else u.failRun + 1) else u.failRun) ∧
      (res ≠ .pass → Counted d e (ifObj p m) 8 1) ∧
      (res ≠ .pass → u.failRun < 2 → Recorded d e (p + 2) 34 (ifObj p m)) ∧
      (res ≠ .pass → f = (memAt d p).inForce → u.failRun = 2 → u.state = 3 → u.retiring = false → regT d (memObj p) 0x0B = true →
        lastInterfaces d p m = false → (memIfAt e (ifKey p m)).retiring = true) ∧
      Keeps (.ifs :: eventParts) (fun x i => eventReg x i ∨ (x = ifObj p m ∧ (i = 8 ∨ i = 9))) d e) ∧
  (∀ (dt : Nat) (s : State) (d : Device) (p : Die) (m : MemIf) (f g : Nat), d = elapse s.dev dt →
    (memIfAt d (ifKey p m)).step = some f → (memAt d p).armed = true → (memAt d p).pending = some g →
    (memAt d p).switching = none → (memAt d p).burstEnd ≤ d.mono + 150000 →
    Does (.trainingStepEnd dt p m .pass) s fun e =>
      (memIfAt e (ifKey p m)).step = none ∧ (memAt e p).switching = some g ∧ (memAt e p).pending = none ∧
      (f = (memAt d p).inForce → (memIfAt e (ifKey p m)).stored = (memIfAt d (ifKey p m)).stored) ∧
      (∀ q, q ≠ p.val → memAt e q = memAt d q) ∧ Keeps [.ifs, .mems] (fun x i => x = ifObj p m ∧ i = 9) d e)

/-- R232 to R235: a pending set point starts at a qualifying moment with every rank refreshed, is in force when it is done, and
is scheduled when no moment qualifies within a tick.
Clauses that rest on the model's choices: notes/assumptions 88, 195, 199. -/
def Obligations.SetPointSwitchesRun : Prop :=
  (∀ (dt : Nat) (s : State) (d : Device) (p : Die) (f : Nat), d = elapse s.dev dt → pixUp d p = true →
    (memAt d p).pending = some f → (memAt d p).switching = none → (∀ j, j < 4 → (memIfAt d (ifKey p j)).step = none) →
    (memAt d p).burstEnd ≤ d.mono + 150000 →
    ((memAt d p).armed = true ∨
      (if (memAt d p).scheduled = true then (memAt d p).startAt ≤ (pixAt d p).tb1.ns else qualifies d p = true)) →
    Does (.fspSwitchStart dt p) s fun e =>
      (memAt e p).pending = none ∧ (memAt e p).switching = some f ∧ (memAt e p).inForce = (memAt d p).inForce ∧
      (∀ j, j < 4 → (memIfAt e (ifKey p j)).rank0.debt = 0 ∧ (memIfAt e (ifKey p j)).rank1.debt = 0 ∧
        (memIfAt e (ifKey p j)).openRows = [] ∧ (memIfAt e (ifKey p j)).state = (memIfAt d (ifKey p j)).state) ∧
      (∀ k, k / 4 ≠ p → memIfAt e k = memIfAt d k) ∧ (∀ q, q ≠ p.val → memAt e q = memAt d q) ∧ Keeps [.ifs, .mems] noReg d e) ∧
  (∀ (dt : Nat) (s : State) (d : Device) (p : Die) (f : Nat), d = elapse s.dev dt → pixUp d p = true →
    (memAt d p).pending = some f → (memAt d p).switching = none →
    ((∃ j, j < 4 ∧ (memIfAt d (ifKey p j)).step ≠ none) ∨ d.mono + 150000 < (memAt d p).burstEnd) →
    (if (memAt d p).scheduled = true then (memAt d p).startAt ≤ (pixAt d p).tb1.ns else qualifies d p = true) →
    Does (.fspSwitchStart dt p) s fun e =>
      memAt e p = { memAt d p with armed := true } ∧ (∀ q, q ≠ p.val → memAt e q = memAt d q) ∧ Keeps [.mems] noReg d e) ∧
  (∀ (dt : Nat) (s : State) (d : Device) (p : Die) (f : Nat), d = elapse s.dev dt → pixUp d p = true →
    (memAt d p).switching = some f →
    Does (.fspSwitchDone dt p) s fun e =>
      (memAt e p).inForce = f ∧ (memAt e p).switching = none ∧ Counted d e (memObj p) 5 1 ∧
      (∀ j, j < 4 → (memIfAt e (ifKey p j)).rank0.crossing = none ∧ (memIfAt e (ifKey p j)).rank1.crossing = none) ∧
      (∀ q, q ≠ p.val → memAt e q = memAt d q) ∧ (∀ k, k ≠ p.val + 2 → clockAt e k = clockAt d k) ∧
      Keeps (.ifs :: .mems :: .clocks :: eventParts) (fun x i => eventReg x i ∨ (x = memObj p ∧ i = 5) ∨ x = 0x3040 + 0x100 * p ∨
        ∃ j, j < 4 ∧ x = ifObj p j ∧ (i = 6 ∨ i = 7)) d e) ∧
  (∀ (dt : Nat) (s : State) (d : Device) (p : Die), d = elapse s.dev dt → pixUp d p = true → (memAt d p).pending.isSome = true →
    (memAt d p).scheduled = false → (memAt d p).armed = false → (memAt d p).switching = none →
    (memAt d p).asked + tickPeriod d ≤ d.mono →
    Does (.fspSwitchNoWindow dt p) s fun e =>
      memAt e p =
        { memAt d p with
            scheduled := true,
            startAt := (pixAt d p).tb1.ns + ((Int.ofNat ((pixAt d p).tickAt + bestOpening d p) - Int.ofNat (pixAt d p).tb1.ns) %
              Int.ofNat (tickPeriod d)).toNat } ∧ Counted d e (memObj p) 6 1 ∧ Recorded d e (p + 2) 36 (memObj p) ∧
      (∀ q, q ≠ p.val → memAt e q = memAt d q) ∧
      Keeps (.mems :: eventParts) (fun x i => eventReg x i ∨ (x = memObj p ∧ i = 6)) d e)

/-- R237, R238: a migrated interface is retired; one that misses its deadline or answers no more fails at once, and no request
stays on it.
Clauses that rest on the model's choices: notes/assumptions 83, 84. -/
def Obligations.InterfacesRetireOrFail : Prop :=
  (∀ (dt : Nat) (s : State) (d : Device) (p : Die) (m : MemIf), d = elapse s.dev dt → pixUp d p = true →
    (memIfAt d (ifKey p m)).state = 4 → slotsOn d p m = [] →
    Does (.migrationComplete dt p m) s fun e =>
      (memIfAt e (ifKey p m)).state = 5 ∧ (memIfAt e (ifKey p m)).since = none ∧ Recorded d e (p + 2) 37 (ifObj p m) ∧
      (∀ j, j ≠ ifKey p m → memIfAt e j = memIfAt d j) ∧ Keeps (.ifs :: .mems :: eventParts) eventReg d e) ∧
  (∀ (dt : Nat) (s : State) (d : Device) (p : Die) (m : MemIf) (t : Nat), d = elapse s.dev dt → pixUp d p = true →
    (memIfAt d (ifKey p m)).since = some t → (memIfAt d (ifKey p m)).state = 4 → t + 10000000000 ≤ d.mono → slotsOn d p m ≠ [] →
    lastInterfaces d p m = false →
    Does (.retireDeadline dt p m) s fun e =>
      (memIfAt e (ifKey p m)).state = 6 ∧ (∀ r ∈ (memAt e p).active, r.mem ≠ m) ∧ (∀ r ∈ (memAt e p).waiting, r.mem ≠ m) ∧
      (memAt e p).retireEnd = d.mono + 150000 ∧ (∀ j, j / 4 ≠ p → memIfAt e j = memIfAt d j) ∧
      (∀ j, j < 4 → j ≠ m.val → (memIfAt e (ifKey p j)).state = (memIfAt d (ifKey p j)).state) ∧
      Keeps (.ifs :: .mems :: .srcs :: .wbs :: eventParts)
        (fun x i => eventReg x i ∨ x = 0x3040 + 0x100 * p ∨ (x = 0x3030 + 0x100 * p ∧ i = 4)) d e) ∧
  (∀ (dt : Nat) (s : State) (d : Device) (p : Die) (m : MemIf), d = elapse s.dev dt → pixUp d p = true →
    ((memIfAt d (ifKey p m)).state = 3 ∨ (memIfAt d (ifKey p m)).state = 4) → lastInterfaces d p m = false →
    Does (.memIfTimeout dt p m) s fun e =>
      (memIfAt e (ifKey p m)).state = 6 ∧ (∀ r ∈ (memAt e p).active, r.mem ≠ m) ∧ (∀ r ∈ (memAt e p).waiting, r.mem ≠ m) ∧
      (memAt e p).retireEnd = d.mono + 150000 ∧ (∀ j, j / 4 ≠ p → memIfAt e j = memIfAt d j) ∧
      (∀ j, j < 4 → j ≠ m.val → (memIfAt e (ifKey p j)).state = (memIfAt d (ifKey p j)).state) ∧
      Keeps (.ifs :: .mems :: .srcs :: .wbs :: eventParts)
        (fun x i => eventReg x i ∨ x = 0x3040 + 0x100 * p ∨ (x = 0x3030 + 0x100 * p ∧ i = 4)) d e)

/-- R211, R213, R224: a request takes a credit of its share of its class's reserve, else a shared one, else waits; the credit of
the request that an interface works on returns when it completes and ends drain mode at 80 shared free, and a request that no
interface works on cannot complete; a late request counts once.
Clauses that rest on the model's choices: notes/assumptions 84, 196. -/
def Obligations.MemoryRequestsTakeAndReturnCredits : Prop :=
  (∀ (dt : Nat) (s : State) (d : Device) (p : Die) (port : Fin 11) (mq : Fin 8) (m : MemIf) (addr : Nat) (u : MemUnit) (r : MemReq),
    d = elapse s.dev dt → u = memAt d p → pixUp d p = true → portQueue port mq = true → u.inForce ≠ 0 →
    ((memIfAt d (ifKey p m)).state = 3 ∨ (memIfAt d (ifKey p m)).state = 4) →
    r = MemReq.mk u.nextReq port mq m addr d.mono false false →
    Does (.memRequestEnqueue dt p port mq m addr) s fun e =>
      (memAt e p).nextReq = u.nextReq + 1 ∧
      (if shareUsed u mq port < shareSize mq then (memAt e p).active = u.active ++ [r] ∧ (memAt e p).waiting = u.waiting
       else if 0 < sharedFree u ∧ classShared u (drainClass mq) < 160 then
         (memAt e p).active = u.active ++ [{ r with shared := true }] ∧ (memAt e p).waiting = u.waiting
       else (memAt e p).active = u.active ∧ (memAt e p).waiting = u.waiting ++ [r]) ∧
      (∀ q, q ≠ p.val → memAt e q = memAt d q) ∧
      Keeps [.mems, .ifs, .queues] (fun x i => x = 0x3030 + 0x100 * p ∧ i = 3) d e) ∧
  (∀ (dt : Nat) (s : State) (d : Device) (p : Die) (id : Nat) (u : MemUnit) (r : MemReq), d = elapse s.dev dt → u = memAt d p →
    pixUp d p = true → (u.active ++ u.waiting).find? (fun x => x.id == id) = some r → r.late = false →
    r.since + reqTarget u r ≤ d.mono →
    Does (.requestLate dt p id) s fun e =>
      Counted d e (memObj p) 0x0A 1 ∧ (∀ x ∈ (memAt e p).active ++ (memAt e p).waiting, x.id = id → x.late = true) ∧
      (memAt e p).active.length = u.active.length ∧ (∀ q, q ≠ p.val → memAt e q = memAt d q) ∧
      Keeps [.mems] (fun x i => x = memObj p ∧ i = 0x0A) d e) ∧
  (∀ (dt : Nat) (s : State) (d : Device) (p : Die) (id : Nat) (u : MemUnit) (r : MemReq) (t : Nat) (left : List MemReq),
    d = elapse s.dev dt → u = memAt d p → pixUp d p = true → u.waiting = [] → u.draining = some t →
    u.active.find? (fun x => x.id == id) = some r → (memIfAt d (ifKey p r.mem)).serving = some id →
    left = u.active.filter (fun x => x.id != id) →
    Does (.drainEnd dt p [id]) s fun e =>
      (memAt e p).active = left ∧
      (if (left.filter (·.shared)).length + 80 ≤ 320 then
         (memAt e p).draining = none ∧
         regN e (0x3030 + 0x100 * p) 4 =
           2 ^ 31 + min (max (regN d (0x3030 + 0x100 * p) 4 % 2 ^ 31) (d.mono - t)) (2 ^ 31 - 1) ∧
         (10000 < d.mono - t → Noted d e (p + 2) 27 (0x3030 + 0x100 * p))
       else (memAt e p).draining = some t) ∧
      (∀ q, q ≠ p.val → memAt e q = memAt d q) ∧
      Keeps (.mems :: .ifs :: eventParts) (fun x i => eventReg x i ∨ (x = 0x3030 + 0x100 * p ∧ i = 4)) d e) ∧
  (∀ (dt : Nat) (s : State) (d : Device) (p : Die) (id : Nat), d = elapse s.dev dt → pixUp d p = true →
    (memAt d p).waiting = [] → (∀ r ∈ (memAt d p).active, r.id = id → (memIfAt d (ifKey p r.mem)).serving ≠ some id ∧
      ((memIfAt d (ifKey p r.mem)).serving.isSome = true ∨ d.mono < (memIfAt d (ifKey p r.mem)).burstTill)) →
    Does (.drainEnd dt p [id]) s fun e =>
      (memAt e p).active = (memAt d p).active ∧ (∀ q, q ≠ p.val → memAt e q = memAt d q) ∧
      Keeps (.mems :: .ifs :: eventParts) (fun x i => eventReg x i ∨ (x = 0x3030 + 0x100 * p ∧ i = 4)) d e)

/-- R209: an entry whose descriptor is good leaves its queue, on pixel dies and control dies alike; one that fails is reported,
counted where the die counts them, and costs what its class loses: the strip's tiles, the capture, the frame, the tile's place on its
replica; of a control, touch or event queue it is resent once. An empty queue, and a die in reset, are left alone.
Clauses that rest on the model's choices: notes/assumptions 85, 86, 197. -/
def Obligations.DescriptorsAreCheckedAndResentOnce : Prop :=
  (∀ (dt : Nat) (s : State) (d : Device) (k : AnyDie) (q : Fin 64) (desc : List Byte) (u : QueueUnit), d = elapse s.dev dt →
    dieUp d k = true → q.val < queueCount k → queueEmpty d k q = false → u = queueAt d (queueKey k) → descGood desc = true →
    Does (.queueDequeue dt k q desc) s fun e =>
      queueAt e (queueKey k) = { u with fill := tset 0 u.fill q (tget u.fill q 0 - 1) } ∧
      (∀ j, j ≠ queueKey k → queueAt e j = queueAt d j) ∧ Keeps [.queues] noReg d e) ∧
  (∀ (dt : Nat) (s : State) (d : Device) (k : AnyDie) (q : Fin 64) (desc : List Byte), d = elapse s.dev dt →
    (dieUp d k = false ∨ queueCount k ≤ q.val ∨ queueEmpty d k q = true) →
    Does (.queueDequeue dt k q desc) s fun e => Keeps [] noReg d e) ∧
  (∀ (dt : Nat) (s : State) (d : Device) (k : AnyDie) (q : Fin 64) (desc : List Byte), d = elapse s.dev dt →
    dieUp d k = true → q.val < queueCount k → queueEmpty d k q = false → descGood desc = false →
    (if k.val < 2 then q.val ≠ 0 ∧ q.val ≠ 2 ∧ (q.val < 6 ∨ 12 ≤ q.val) else 49 ≤ q.val) →
    Does (.queueDequeue dt k q desc) s fun e =>
      (∃ held, tget (queueAt e (queueKey k)).failed q [] = tget (queueAt d (queueKey k)).failed q [] ++ [(d.mono, held)] ∧
        ∀ p m rest, ctlDest k q = some p → (queueAt d p).ctl = m :: rest → (queueAt e p).ctl = rest ∧ held = some m) ∧
      (2 ≤ k.val → Counted d e (0x3030 + 0x100 * (k.val - 2)) 2 1) ∧
      Recorded d e k 26 (if k.val < 2 then 0 else 0x3030 + 0x100 * (k.val - 2)) ∧
      Keeps (.queues :: eventParts) (fun x i => eventReg x i ∨ (x = 0x3030 + 0x100 * (k.val - 2) ∧ i = 2)) d e) ∧
  (∀ (dt : Nat) (s : State) (d : Device) (k : AnyDie) (q : Fin 64) (desc : List Byte) (p h w n t : Nat) (S : Scan) (L : ScanLayer)
      (f : Frame),
    d = elapse s.dev dt → dieUp d k = true → descGood desc = false → k.val = p + 2 → 24 ≤ q.val → q.val < 32 →
    h = 4 * p + (q.val - 24) / 2 → w < 3 → (∀ v, v < w → nextFetch d p h v = none) → nextFetch d p h w = some (n, t) →
    scanPick (scanAt d h) w = some S → S.layers.find? (fun L => L.n == n) = some L → L.frame = some f →
    Does (.queueDequeue dt k q desc) s fun e =>
      (∃ T M, scanPick (scanAt e h) w = some T ∧ M ∈ T.layers ∧ M.n = n ∧ M.verified = L.verified ∧
        ∀ i ∈ L.wanted, outstanding L i = true → tileStrip S L f i = tileStrip S L f t → i ∈ M.dropped) ∧
      Recorded d e k 26 (0x3030 + 0x100 * p) ∧ (∀ j, j ≠ h → scanAt e j = scanAt d j) ∧
      Keeps (.scans :: .queues :: eventParts) (fun x i => eventReg x i ∨ (x = 0x3030 + 0x100 * p ∧ i = 2)) d e) ∧
  (∀ (dt : Nat) (s : State) (d : Device) (k : AnyDie) (q : Fin 64) (desc : List Byte) (p : Nat), d = elapse s.dev dt →
    dieUp d k = true → descGood desc = false → k.val = p + 2 → 32 ≤ q.val → q.val < 36 → wbOn d p = true →
    (wbAt d p).spoiled = false →
    Does (.queueDequeue dt k q desc) s fun e =>
      wbAt e p = { wbAt d p with spoiled := true } ∧ Counted d e (0x3060 + 0x100 * p) 0x0A 1 ∧
      Recorded d e k 26 (0x3030 + 0x100 * p) ∧
      Keeps (.wbs :: .queues :: eventParts)
        (fun x i => eventReg x i ∨ (x = 0x3030 + 0x100 * p ∧ i = 2) ∨ (x = 0x3060 + 0x100 * p ∧ i = 0x0A)) d e) ∧
  (∀ (dt : Nat) (s : State) (d : Device) (k : AnyDie) (q : Fin 64) (desc : List Byte) (p i start : Nat) (l : List Nat),
    d = elapse s.dev dt → dieUp d k = true → descGood desc = false → k.val = p + 2 → 16 ≤ q.val → q.val < 24 →
    (pipeAt d (2 * p + (q.val - 16) / 4)).service = some (i, start, l) →
    Does (.queueDequeue dt k q desc) s fun e =>
      (camAt e i).jobs = (camAt d i).jobs.filter (fun j => j.start != start) ∧ Recorded d e k 26 (0x3030 + 0x100 * p) ∧
      (∀ c, camStreams d i = [c] → srcEnabled d (streamSource d i c) = true → Counted d e (srcLive (streamSource d i c)) 6 1) ∧
      Keeps (.cams :: .queues :: eventParts)
        (fun x j => eventReg x j ∨ (x = 0x3030 + 0x100 * p ∧ j = 2) ∨ (j = 6 ∧ ∃ c ∈ camStreams d i, x = srcLive (streamSource d i c)))
        d e) ∧
  (∀ (dt : Nat) (s : State) (d : Device) (k : AnyDie) (q : Fin 64) (desc : List Byte) (p u : Nat) (x : SpurItem) (rest : List SpurItem),
    d = elapse s.dev dt → dieUp d k = true → descGood desc = false → k.val = p + 2 → 36 ≤ q.val → q.val < 44 →
    u = (if q.val < 40 then p else spurFrom p (q.val % 4)) → spurOutOf d u (q.val % 4) = x :: rest →
    Does (.queueDequeue dt k q desc) s fun e =>
      spurOutOf e u (q.val % 4) = rest ∧
      (∀ src dest i sl, x = .tile src dest i sl → (dest, i) ∈ (srcUnit e src (srcOwner d src)).owed) ∧
      Recorded d e k 26 (0x3030 + 0x100 * p) ∧
      Keeps (.srcs :: .queues :: eventParts) (fun y i => eventReg y i ∨ (y = 0x3030 + 0x100 * p ∧ i = 2)) d e) ∧
  (∀ (dt : Nat) (s : State) (d : Device) (k : AnyDie) (q : Fin 64) (desc : List Byte) (p src : Nat) (idx : List Nat) (x : OpenFrame),
    d = elapse s.dev dt → dieUp d k = true → descGood desc = false → k.val = p + 2 → q.val < 16 →
    tget (queueAt d p).fill q 0 ≠ 0 →
    (tget (queueAt d p).flight q [])[iqUsed d p q - tget (queueAt d p).fill q 0]? = some (src, idx) →
    tget (queueAt d p).fill q 0 ≤ iqUsed d p q → (srcUnit d src p).opn = some x →
    Does (.queueDequeue dt k q desc) s fun e =>
      iqUsed e p q + 1 = iqUsed d p q ∧ (∃ y, (srcUnit e src p).opn = some y ∧ y.seq = x.seq ∧ y.spoiled = true) ∧
      Recorded d e k 26 (0x3030 + 0x100 * p) ∧ (∀ j, j ≠ srcKey src p → srcAt e j = srcAt d j) ∧
      Keeps (.srcs :: .queues :: eventParts) (fun y i => eventReg y i ∨ (y = 0x3030 + 0x100 * p ∧ i = 2)) d e) ∧
  (∀ (dt : Nat) (s : State) (d : Device) (k : AnyDie) (q : Fin 64) (desc : List Byte) (p : Nat) (r : MemReq), d = elapse s.dev dt →
    dieUp d k = true → descGood desc = false → k.val = p + 2 → 44 ≤ q.val → q.val < 49 → (memAt d p).waiting = [] →
    (memAt d p).active.find? (fun x => x.mq == q.val - 44) = some r →
    Does (.queueDequeue dt k q desc) s fun e =>
      (memAt e p).active = (memAt d p).active.filter (fun x => x.id != r.id) ∧ Counted d e (0x3030 + 0x100 * p) 2 1 ∧
      (∀ j, j ≠ p → memAt e j = memAt d j) ∧
      Keeps (.mems :: .ifs :: .queues :: .scans :: .wbs :: .cams :: .srcs :: .fresh :: eventParts) anyReg d e) ∧
  (∀ (dt : Nat) (s : State) (d : Device) (k : AnyDie) (q : Fin 64) (desc : List Byte), d = elapse s.dev dt →
    dieUp d k = true → descGood desc = false → k.val < 2 → (q.val = 0 ∨ q.val = 2 ∨ (6 ≤ q.val ∧ q.val < 12)) →
    Does (.queueDequeue dt k q desc) s fun e =>
      Recorded d e k 26 0 ∧ (queueAt e (queueKey k)).failed = (queueAt d (queueKey k)).failed ∧
      Keeps (.srcs :: .queues :: .fresh :: eventParts) eventReg d e) ∧
  (∀ (dt : Nat) (s : State) (d : Device) (k : AnyDie) (q : Fin 64) (desc : List Byte) (t : Nat) (held : Option CtlMsg)
      (rest : List (Nat × Option CtlMsg)), d = elapse s.dev dt →
    dieUp d k = true → tget (queueAt d (queueKey k)).failed q [] = (t, held) :: rest → t + 50000 ≤ d.mono → descGood desc = true →
    Does (.descriptorResend dt k q desc) s fun e =>
      tget (queueAt e (queueKey k)).failed q [] = rest ∧
      (∀ j, (queueAt e j).ctl = (match ctlDest k q, held with
        | some p, some m => if j = p then (queueAt d j).ctl ++ [m] else (queueAt d j).ctl
        | _, _ => (queueAt d j).ctl)) ∧
      Keeps [.queues] noReg d e) ∧
  (∀ (dt : Nat) (s : State) (d : Device) (k : AnyDie) (q : Fin 64) (desc : List Byte) (t : Nat) (held : Option CtlMsg)
      (rest : List (Nat × Option CtlMsg)), d = elapse s.dev dt →
    dieUp d k = true → tget (queueAt d (queueKey k)).failed q [] = (t, held) :: rest → t + 50000 ≤ d.mono → descGood desc = false →
    Does (.descriptorResend dt k q desc) s fun e =>
      tget (queueAt e (queueKey k)).failed q [] = rest ∧
      (∀ j, (queueAt e j).ctl = (queueAt d j).ctl) ∧ (2 ≤ k.val → Counted d e (0x3030 + 0x100 * (k.val - 2)) 2 1) ∧
      (2 ≤ k.val → (q.val = 60 ∨ q.val = 61) → (linkAt e (2 * (k.val - 2) + (q.val - 60))).spoiled = true) ∧
      Recorded d e k 26 (if k.val < 2 then 0 else 0x3030 + 0x100 * (k.val - 2)) ∧
      Keeps (.queues :: .links :: eventParts) (fun x i => eventReg x i ∨ (x = 0x3030 + 0x100 * (k.val - 2) ∧ i = 2)) d e) ∧
  (∀ (dt : Nat) (s : State) (d : Device) (k : AnyDie) (q : Fin 64) (desc : List Byte), d = elapse s.dev dt →
    (dieUp d k = false ∨ ∀ x ∈ (tget (queueAt d (queueKey k)).failed q []).head?, d.mono < x.1 + 50000) →
    Does (.descriptorResend dt k q desc) s fun e => Keeps [] noReg d e)

/-! ### Touch (spec/09) -/

/-- R247: bring-up goes from idle to IDENTIFY, from IDENT to the four register writes, from their acknowledgements to the
self-test; a step that misses its time is reported once and bring-up begins again, every 100 ms.
Clauses that rest on the model's choices: notes/assumptions 92, 93, 200. -/
def Obligations.TouchBringUpAdvances : Prop :=
  (∀ (dt : Nat) (s : State) (d : Device) (k : TouchNo) (u : TouchUnit), d = elapse s.dev dt → u = linkAt d k → u.step ≠ 0 →
    u.step < 11 → bringFailed u d.mono = false →
    Does (.touchUpstreamIdle dt k) s fun e =>
      (linkAt e k).lastUp = d.mono ∧
      (if u.step = 1 then
         (linkAt e k).step = 2 ∧ (linkAt e k).stepAt = d.mono ∧
         e.tx = d.tx ++ [Msg.mk (6 + k) 7 2 ([2, 0] ++ beBytes 2 (crc16 [2, 0]))]
       else (linkAt e k).step = u.step ∧ e.tx = d.tx) ∧
      (∀ j, j ≠ k.val → linkAt e j = linkAt d j) ∧ Keeps [.links, .tx] noReg d e) ∧
  (∀ (dt : Nat) (s : State) (d : Device) (k : TouchNo) (u : TouchUnit), d = elapse s.dev dt → u = linkAt d k → 1 ≤ u.step →
    u.step ≤ 3 → u.stepAt + (if u.step = 1 then 10000000 else if u.step = 2 then 100000 else 1000000) < d.mono →
    Does (.touchBringupRetry dt k) s fun e =>
      (linkAt e k).downSaid = true ∧
      (if u.since + 100000000 ≤ d.mono then
         (linkAt e k).step = 1 ∧ (linkAt e k).since = d.mono ∧ (linkAt e k).stepAt = d.mono ∧ (linkAt e k).acked = []
       else linkAt e k = { u with downSaid := true }) ∧
      (if u.downSaid = true then e.rings = d.rings else Recorded d e (k / 2 + 2) 38 (0x5800 + k)) ∧
      (∀ j, j ≠ k.val → linkAt e j = linkAt d j) ∧ Keeps (.links :: eventParts) eventReg d e) ∧
  (∀ (dt : Nat) (s : State) (d : Device) (k : TouchNo) (ver rows cols part : Nat) (u : TouchUnit), d = elapse s.dev dt →
    u = linkAt d k → u.step = 2 → d.mono ≤ u.stepAt + 100000 →
    Does (.touchIdent dt k ver rows cols part) s fun e =>
      (linkAt e k).lastUp = d.mono ∧
      (if ver = 1 ∧ tc u 2 ≤ rows ∧ tc u 3 ≤ cols then
         (linkAt e k).step = 3 ∧ (linkAt e k).stepAt = d.mono ∧ e.tx.length = d.tx.length + 4
       else (linkAt e k).step = 11 ∧ e.tx = d.tx) ∧
      regN e (0x5840 + k) 2 = 2 ^ 63 + (ver % 256) * 2 ^ 48 + (rows % 256) * 2 ^ 40 + part % 2 ^ 32 ∧
      regN e (0x5840 + k) 3 = 0x8000 + cols % 512 ∧
      (∀ j, j ≠ k.val → linkAt e j = linkAt d j) ∧ Keeps [.links, .tx] (fun x r => x = 0x5840 + k ∧ (r = 2 ∨ r = 3)) d e) ∧
  (∀ (dt : Nat) (s : State) (d : Device) (k : TouchNo) (addr : Nat) (u : TouchUnit), d = elapse s.dev dt → u = linkAt d k →
    u.step = 3 → d.mono ≤ u.stepAt + 1000000 → 1 ≤ addr → addr ≤ 4 →
    Does (.touchAck dt k addr) s fun e =>
      (linkAt e k).acked = (u.acked ++ [addr]).eraseDups ∧ (linkAt e k).lastUp = d.mono ∧
      (linkAt e k).step = (if (u.acked ++ [addr]).eraseDups.length = 4 then 4 else 3) ∧
      (∀ j, j ≠ k.val → linkAt e j = linkAt d j) ∧ Keeps [.links] noReg d e) ∧
  (∀ (dt : Nat) (s : State) (d : Device) (k : TouchNo) (addr v : Nat) (u : TouchUnit), d = elapse s.dev dt → u = linkAt d k →
    u.step ≠ 0 → u.step < 11 → bringFailed u d.mono = false →
    Does (.touchReg dt k addr v) s fun e =>
      tfind (linkAt e k).front addr = some v ∧ (linkAt e k).lastUp = d.mono ∧ (linkAt e k).step = u.step ∧
      (∀ j, j ≠ k.val → linkAt e j = linkAt d j) ∧ Keeps [.links] noReg d e)

/-- R245, R249, R252, R268: a slot starts the next frame and says so to the front-end, or takes a disabled link down; a packet's samples are kept until the last one
of a good frame; STATUS and discarded packets spoil the frame in progress.
Clauses that rest on the model's choices: notes/assumptions 92, 93, 201. -/
def Obligations.TouchFramesStartFillAndSpoil : Prop :=
  (∀ (dt : Nat) (s : State) (d : Device) (k : TouchNo) (u : TouchUnit), d = elapse s.dev dt → u = linkAt d k → 4 ≤ u.step →
    u.step ≤ 10 → u.step ≠ 9 → pixUp d (dieOfLink k) = true → (u.slotAt = 0 ∨ u.slotAt + 1000000000 / max 1 u.rate ≤ d.mono) →
    u.scanning = 0 → u.hop = none → u.enter = false → u.leave = false → u.selfTest = false → u.badRun < 3 →
    regN d (0x5800 + k) 1 = 1 →
    Does (.touchFrameSlot dt k) s fun e =>
      (linkAt e k).frameNo = (u.frameNo + 1) % 65536 ∧ (linkAt e k).slotAt = d.mono ∧
      (linkAt e k).frameAt = (pixAt d (dieOfLink k)).tb1.ns ∧ (linkAt e k).cfg = touchCfgNow d k ∧
      (linkAt e k).samples = [] ∧ (linkAt e k).spoiled = false ∧ (linkAt e k).scanning = (if u.step = 4 then 2 else 1) ∧
      (∃ l b, e.tx = d.tx ++ l ++ [Msg.mk (6 + k) 7 0x10 b]) ∧ (u.step = 4 → regN e (0x5840 + k) 0x0F = 3) ∧
      (∀ j, j ≠ k.val → linkAt e j = linkAt d j) ∧ Keeps [.links, .tx] (fun x r => x = 0x5840 + k ∧ r = 0x0F) d e) ∧
  (∀ (dt : Nat) (s : State) (d : Device) (k : TouchNo) (u : TouchUnit), d = elapse s.dev dt → u = linkAt d k → 4 ≤ u.step →
    u.step ≤ 10 → pixUp d (dieOfLink k) = true → (u.slotAt = 0 ∨ u.slotAt + 1000000000 / max 1 u.rate ≤ d.mono) →
    u.scanning = 0 → regN d (0x5800 + k) 1 = 0 →
    Does (.touchFrameSlot dt k) s fun e =>
      linkAt e k = TouchUnit.reset ∧ (trackAt e k).touches = [] ∧ (trackAt e k).reports = [] ∧
      (trackAt e k).ring = (trackAt d k).ring ∧ (∀ j, j ≠ k.val → linkAt e j = linkAt d j ∧ trackAt e j = trackAt d j) ∧
      Keeps [.links, .tracks] noReg d e) ∧
  (∀ (dt : Nat) (s : State) (d : Device) (k : TouchNo) (frame chip : Nat) (samples : List Int) (u : TouchUnit),
    d = elapse s.dev dt → u = linkAt d k → u.step ≠ 0 → u.step < 11 → bringFailed u d.mono = false → u.scanning ≠ 0 → frame = u.frameNo →
    chip + 1 < touchChips u → samples.length = tc u 3 →
    Does (.touchSample dt k frame chip samples) s fun e =>
      linkAt e k = { u with lastUp := d.mono, samples := tput u.samples chip samples } ∧
      (∀ j, j ≠ k.val → linkAt e j = linkAt d j) ∧ Keeps [.links] noReg d e) ∧
  (∀ (dt : Nat) (s : State) (d : Device) (k : TouchNo) (frame chip : Nat) (samples : List Int) (u : TouchUnit),
    d = elapse s.dev dt → u = linkAt d k → u.step = 5 → u.scanning = 1 → u.spoiled = false → frame = u.frameNo →
    chip + 1 = touchChips u → samples.length = tc u 3 → (tput u.samples chip samples).length = touchChips u →
    Does (.touchSample dt k frame chip samples) s fun e =>
      (linkAt e k).step = 6 ∧ (linkAt e k).warm = decodeFrame { u with samples := tput u.samples chip samples } ∧
      (linkAt e k).scanning = 0 ∧ (linkAt e k).badRun = 0 ∧ (linkAt e k).samples = [] ∧ Counted d e (0x5840 + k) 9 1 ∧
      (∀ j, j ≠ k.val → linkAt e j = linkAt d j) ∧ Keeps [.links] (fun x r => x = 0x5840 + k ∧ r = 9) d e) ∧
  (∀ (dt : Nat) (s : State) (d : Device) (k : TouchNo) (code : Nat) (u : TouchUnit), d = elapse s.dev dt → u = linkAt d k →
    u.step ≠ 0 → u.step < 11 → bringFailed u d.mono = false →
    Does (.touchStatus dt k code) s fun e =>
      linkAt e k = { u with lastUp := d.mono, spoiled := u.scanning != 0 } ∧ (∀ j, j ≠ k.val → linkAt e j = linkAt d j) ∧
      Keeps [.links] noReg d e) ∧
  (∀ (dt : Nat) (s : State) (d : Device) (k : TouchNo) (inFrame : Bool) (u : TouchUnit), d = elapse s.dev dt → u = linkAt d k →
    u.step ≠ 0 → u.step < 11 →
    Does (.touchPacketDiscarded dt k inFrame) s fun e =>
      Counted d e (0x5840 + k) 0x0B 1 ∧ (linkAt e k).spoiled = (if inFrame = true then u.scanning != 0 else u.spoiled) ∧
      (linkAt e k).samples = u.samples ∧ (∀ j, j ≠ k.val → linkAt e j = linkAt d j) ∧
      Keeps [.links] (fun x r => x = 0x5840 + k ∧ r = 0x0B) d e)

/-- R262, R265, R266, R248, R258: a decided report is numbered, counted and enters the ring; a lost link cancels its touches;
a touch held to its limit becomes persistent.
Clauses that rest on the model's choices: notes/assumptions 94, 96, 202. -/
def Obligations.TouchReportsAreReleasedAndCancelled : Prop :=
  (∀ (dt : Nat) (s : State) (d : Device) (k : TouchNo) (r : Report) (rest : List Report) (seq : Nat), d = elapse s.dev dt →
    (trackAt d k).reports = r :: rest → pixUp d (dieOfLink k) = true →
    (∀ m, frameShown d k r = some m → mapFinal d (tc (linkAt d k) 0x0C) m r.y = true) →
    seq = (if (trackAt d k).seq + 1 = 65536 then 1 else (trackAt d k).seq + 1) →
    Does (.touchReportRelease dt k) s fun e =>
      (trackAt e k).reports = rest ∧ (trackAt e k).seq = seq ∧ Counted d e (0x5840 + k) 0x12 1 ∧
      (frameShown d k r = none → Counted d e (0x5840 + k) 0x13 1) ∧
      (∃ b, (trackAt e k).ring.getLast? = some b ∧ b.take 2 = beBytes 2 seq) ∧ (trackAt e k).touches = (trackAt d k).touches ∧
      (∀ j, j ≠ k.val → trackAt e j = trackAt d j) ∧
      Keeps (.tracks :: .audit :: .awaiting :: .layers :: eventParts) anyReg d e) ∧
  (∀ (dt : Nat) (s : State) (d : Device) (k : TouchNo) (u : TouchUnit), d = elapse s.dev dt → u = linkAt d k → 4 ≤ u.step →
    u.step ≤ 10 → u.lastUp + 20000000 ≤ d.mono →
    Does (.touchLinkTimeout dt k) s fun e =>
      (linkAt e k).step = 1 ∧ (linkAt e k).downSaid = true ∧ (trackAt e k).touches = [] ∧
      (trackAt e k).reports = (trackAt d k).reports ++ (trackAt d k).touches.map (fun t => reportOf d k 4 t t.x t.y t.sample) ∧
      (if u.downSaid = true then e.rings = d.rings else Recorded d e (k / 2 + 2) 38 (0x5800 + k)) ∧
      (∀ j, j ≠ k.val → linkAt e j = linkAt d j ∧ trackAt e j = trackAt d j) ∧
      Keeps (.links :: .tracks :: eventParts) eventReg d e) ∧
  (∀ (dt : Nat) (s : State) (d : Device) (k : TouchNo) (id : Fin 10) (t : Touch), d = elapse s.dev dt →
    (trackAt d k).touches.find? (fun t => t.id == id.val) = some t → t.persistent = false →
    t.born + tc (linkAt d k) 9 * 1000000000 ≤ d.mono →
    Does (.touchHoldLimit dt k id) s fun e =>
      (∀ y ∈ (trackAt e k).touches, y.id = id.val → y.persistent = true) ∧
      (trackAt e k).touches.length = (trackAt d k).touches.length ∧
      (∃ r, (trackAt e k).reports = (trackAt d k).reports ++ [r] ∧ r.event = 2 ∧ r.id = id.val ∧ r.x = t.x ∧ r.y = t.y ∧
        r.flags % 2 = 1) ∧
      Counted d e (0x5840 + k) 0x14 1 ∧ Noted d e (k / 2 + 2) 42 (0x5800 + k) ∧
      (∀ j, j ≠ k.val → trackAt e j = trackAt d j) ∧
      Keeps (.tracks :: eventParts) (fun x r => eventReg x r ∨ (x = 0x5840 + k ∧ r = 0x14)) d e)

/-! ### Clocks, supply, pins and crossings (spec/14, spec/16) -/

/-- R402, R404, R416: an oscillator is ready 50 µs after its start, the crystal starts after its strap's delay and fails when it
does not qualify, and a first PLL lock lets a die out of reset.
Clauses that rest on the model's choices: notes/assumptions 101, 102, 204, 213. -/
def Obligations.OscillatorsCrystalsAndPllsStart : Prop :=
  (∀ (dt : Nat) (s : State) (d : Device) (k : AnyDie) (straps : Fin 8) (c : ClockUnit), d = elapse s.dev dt → c = clockAt d k →
    c.src ≠ 0 → c.ready = false → c.stepAt + (if c.stepped = true then 20000 else 50000) ≤ d.mono → (2 ≤ k.val ∨ c.mon ≠ 3) →
    Does (.oscillatorReady dt k straps) s fun e =>
      clockAt e k = { c with ready := true, mon := (if c.mon = 1 then 2 else c.mon), pll := (if c.stepped = true then c.pll else 2) } ∧
      (∀ j, j ≠ k.val → clockAt e j = clockAt d j) ∧
      e.pins = { d.pins with straps := (if k.val < 2 ∧ d.pins.straps = none then some straps.val else d.pins.straps) } ∧
      Keeps [.clocks, .pins] noReg d e) ∧
  (∀ (dt : Nat) (s : State) (d : Device) (k : Ctl) (x : Nat) (c : ClockUnit), d = elapse s.dev dt → c = clockAt d k →
    d.pins.straps = some x → c.src = 1 → c.crystal = 0 → c.startAt + 500000 * 2 ^ x ≤ d.mono →
    Does (.crystalStartDelayEnd dt k) s fun e =>
      clockAt e k = { c with crystal := 1, good := 0, quiet := true } ∧ (∀ j, j ≠ k.val → clockAt e j = clockAt d j) ∧
      Keeps [.clocks] noReg d e) ∧
  (∀ (dt : Nat) (s : State) (d : Device) (k : Ctl) (x : Nat) (c : ClockUnit), d = elapse s.dev dt → c = clockAt d k →
    d.pins.straps = some x → c.src = 1 → c.crystal = 1 → c.startAt + 500000 * 2 ^ x + 10000000 ≤ d.mono →
    Does (.crystalQualifyTimeout dt k) s fun e =>
      clockAt e k = { c with crystal := 3, src := 3 } ∧ Recorded d e k 85 0 ∧ (∀ j, j ≠ k.val → clockAt e j = clockAt d j) ∧
      Keeps (.clocks :: eventParts) eventReg d e) ∧
  (∀ (dt : Nat) (s : State) (d : Device) (k : AnyDie) (c : ClockUnit), d = elapse s.dev dt → c = clockAt d k → c.ready = true →
    c.src ≠ 0 → c.mon ≠ 3 → d.pins.resetn = true → (railAt d k).held = false →
    Does (.pllLockAcquired dt k) s fun e =>
      clockAt e k = { c with pll := 4 } ∧ (∀ j, j ≠ k.val → clockAt e j = clockAt d j) ∧
      (k.val < 2 → ctlUp d k = false → (ctlAt d k).role = 0 →
        (ctlAt e k).out = true ∧ (ctlAt e k).role = 1 ∧
        ∀ b, b < 2 → (baseAt e k b).ns = (if ctlUp d (1 - k.val) = true then (baseAt d (1 - k.val) b).ns else 0)) ∧
      (∀ j, j ≠ k.val ∨ ctlUp d k = true → ctlAt e j = ctlAt d j) ∧
      (2 ≤ k.val → pixUp d (k.val - 2) = false → (pixAt d (k.val - 2)).state = 0 →
        pixAt e (k.val - 2) = { pixAt d (k.val - 2) with out := true, state := 3 } ∧
        (∀ m, m < 4 → (memIfAt e (ifKey (k.val - 2) m)).state = 2)) ∧
      (∀ j, j + 2 ≠ k.val → pixAt e j = pixAt d j) ∧
      Keeps (.clocks :: .ctls :: .pix :: .ifs :: .rules :: eventParts) (fun x i => 0x2400 ≤ x ∧ x < 0x2480 ∧ i = 0x0A) d e)

/-- R403, R407 to R410: four good windows in a row qualify the crystal, two bad ones or a missing edge trip the monitor, a trip
that lasts resets the die, and the fault of one PLL takes out what it clocks.
Clauses that rest on the model's choices: notes/assumptions 99, 103. -/
def Obligations.ClockMonitorsTripAndHoldOver : Prop :=
  (∀ (dt : Nat) (s : State) (d : Device) (k : AnyDie) (count : Nat) (c : ClockUnit), d = elapse s.dev dt → c = clockAt d k →
    k.val < 2 → c.src ≠ 0 → c.windows % 2 = 0 → c.stepAt + 30240 ≤ d.mono → c.crystal = 1 → c.quiet = true →
    Does (.freqWindowEnd dt k count) s fun e =>
      (clockAt e k).windows = c.windows + 1 ∧
      (if 100 * ((count - 256) + (256 - count)) ≤ 768 then
         (if c.good = 3 then (clockAt e k).crystal = 2 ∧ (clockAt e k).src = 2 ∧ (clockAt e k).stepAt = d.mono
          else (clockAt e k).good = c.good + 1 ∧ (clockAt e k).crystal = 1 ∧ (clockAt e k).src = c.src)
       else (clockAt e k).good = 0 ∧ (clockAt e k).crystal = 1 ∧ (clockAt e k).src = c.src) ∧
      (∀ j, j ≠ k.val → clockAt e j = clockAt d j) ∧ Keeps [.clocks] noReg d e) ∧
  (∀ (dt : Nat) (s : State) (d : Device) (k : AnyDie) (count x : Nat) (c : ClockUnit), d = elapse s.dev dt → c = clockAt d k →
    2 ≤ k.val → c.src ≠ 0 → c.windows % 2 = 0 → c.stepAt + 30240 ≤ d.mono → c.mon = 2 → relocking d k = false → (pixAt d (k - 2)).token = x + 2 →
    ctlUp d x = true → (k.val, 1, x) ∉ d.crossings →
    Does (.freqWindowEnd dt k count) s fun e =>
      (clockAt e k).windows = c.windows + 1 ∧
      (if 10240 < 50 * ((count - 10240) + (10240 - count)) then
         (if c.bad = 1 then (clockAt e k).mon = 3 ∧ (clockAt e k).tripAt = some d.mono ∧ Counted d e 0x2210 4 1
          else (clockAt e k).mon = 2 ∧ (clockAt e k).bad = 1)
       else (clockAt e k).mon = 2 ∧ (clockAt e k).bad = 0) ∧
      (∀ j, j ≠ k.val → clockAt e j = clockAt d j) ∧ Keeps [.clocks] (fun x i => x = 0x2210 ∧ i = 4) d e) ∧
  (∀ (dt : Nat) (s : State) (d : Device) (k : AnyDie) (count x t : Nat) (c : ClockUnit), d = elapse s.dev dt → c = clockAt d k →
    2 ≤ k.val → c.src ≠ 0 → c.windows % 2 = 0 → c.stepAt + 30240 ≤ d.mono → relocking d k = false → c.mon = 3 → c.tripAt = some t → d.mono < t + 100000 →
    (pixAt d (k.val - 2)).token = x + 2 → ctlUp d x = true → (k.val, 1, x) ∉ d.crossings →
    Does (.freqWindowEnd dt k count) s fun e =>
      (if 10240 < 50 * ((count - 10240) + (10240 - count)) then
         clockAt e k = { c with windows := c.windows + 1, good := 0 } ∧ ringAt e k = ringAt d k
       else if c.good = 1 then
         clockAt e k = { c with windows := c.windows + 1, mon := 2, tripAt := none, good := 0, pll := 4 } ∧ Recorded d e k 88 0
       else clockAt e k = { c with windows := c.windows + 1, good := 1 } ∧ ringAt e k = ringAt d k) ∧
      (∀ j, j ≠ k.val → clockAt e j = clockAt d j) ∧ Keeps (.clocks :: eventParts) eventReg d e) ∧
  (∀ (dt : Nat) (s : State) (d : Device) (k : AnyDie) (c : ClockUnit), d = elapse s.dev dt → c = clockAt d k → c.src ≠ 0 →
    (2 ≤ k.val ∨ c.src = 2) → (k.val < 2 → c.crystal ≠ 1) → c.mon = 2 →
    Does (.missingEdge dt k) s fun e =>
      (if k.val < 2 ∧ c.ready = true then
         clockAt e k = { c with src := 3, mon := 4, tripAt := none, stepAt := d.mono, pll := 3, good := 0, bad := 0 } ∧
         Recorded d e k 86 0
       else clockAt e k = { c with mon := 3, tripAt := some d.mono, pll := 3, good := 0, bad := 0,
                                   noTrim := (c.noTrim || decide (k.val < 2)) } ∧ ringAt e k = ringAt d k) ∧
      Counted d e 0x2210 4 1 ∧ (∀ j, j ≠ k.val → clockAt e j = clockAt d j) ∧
      Keeps (.clocks :: eventParts) (fun x i => eventReg x i ∨ (x = 0x2210 ∧ i = 4)) d e) ∧
  (∀ (dt : Nat) (s : State) (d : Device) (k : AnyDie) (c : ClockUnit) (t : Nat), d = elapse s.dev dt → c = clockAt d k →
    c.tripAt = some t → t + 100000 ≤ d.mono → c.mon = 3 → dieUp d k = true →
    Does (.clockHoldoverTimeout dt k) s fun e =>
      dieUp e k = false ∧ (clockAt e k).tripAt = none ∧ (clockAt e k).mon = (if c.ready = true then 2 else 1) ∧
      (clockAt e k).src = (if c.src = 0 then 0 else if 2 ≤ k.val then 4 else if c.crystal = 3 then 3 else 1) ∧ (∀ j, j ≠ k.val → clockAt e j = clockAt d j) ∧
      (∀ j, j < 8 → j ≠ k.val → dieUp e j = dieUp d j) ∧ Keeps dieParts anyReg d e) ∧
  (∀ (dt : Nat) (s : State) (d : Device) (k : AnyDie) (c : ClockUnit) (j : Fin 4) (h : Nat), d = elapse s.dev dt → c = clockAt d k →
    2 ≤ k.val → h = 4 * (k.val - 2) + j → dieUp d k = true → heldOver d k = false →
    (headAt d h).link ≠ .idle →
    Does (.pllFault dt k (.dot j)) s fun e =>
      (headAt e h).link = stopsAs d.mono (headAt d h).link ∧ (headAt e h).running = false ∧ (headAt e h).lock = 1 ∧ (headAt e h).trained = none ∧
      (scanAt e h).sent = false ∧ (scanAt e h).next = (scanAt d h).next ∧ (scanAt e h).ready = (scanAt d h).ready ∧
      (scanAt e h).cur = (scanAt d h).cur ∧ Recorded d e k 23 (0x4800 + h) ∧ (∀ i, i ≠ h → headAt e i = headAt d i) ∧
      (∀ i, i ≠ h → scanAt e i = scanAt d i) ∧ (∀ i, i ≠ k.val → clockAt e i = clockAt d i) ∧
      Keeps (.heads :: .scans :: .clocks :: .srcs :: eventParts) eventReg d e) ∧
  (∀ (dt : Nat) (s : State) (d : Device) (k : AnyDie) (c : ClockUnit), d = elapse s.dev dt → c = clockAt d k → k.val < 2 →
    dieUp d k = true → heldOver d k = false → ((ctlAt d k).role = 3 ∨ (ctlAt d k).role = 2) →
    Does (.pllFault dt k .sup) s fun e =>
      ctlAt e k = { ctlAt d k with role := 9 } ∧ (∀ j, j ≠ k.val → ctlAt e j = ctlAt d j) ∧
      (∀ i, i ≠ k.val → clockAt e i = clockAt d i) ∧ Keeps [.ctls, .clocks] noReg d e) ∧
  (∀ (dt : Nat) (s : State) (d : Device) (k : AnyDie) (c : ClockUnit), d = elapse s.dev dt → c = clockAt d k →
    dieUp d k = true → heldOver d k = false →
    Does (.pllFault dt k .fab) s fun e =>
      dieUp e k = false ∧ (clockAt e k).pll = 2 ∧ (clockAt e k).ready = c.ready ∧ (clockAt e k).trim = 0 ∧ (∀ j, j < 8 → j ≠ k.val → dieUp e j = dieUp d j) ∧
      Keeps dieParts anyReg d e)

/-- R412, R415, R457, R463: PWRGOOD starts the oscillators and its fall returns everything but OTP, NOR and the pins' levels to
reset; RESETn does so with the oscillators kept; THERMn follows the hottest die.
Clauses that rest on the model's choices: notes/assumptions 3. -/
def Obligations.PinsResetTheDevice : Prop :=
  (∀ (dt : Nat) (s : State) (d : Device), d = elapse s.dev dt → d.pins.pwrgood = false →
    Does (.pwrgoodRise dt) s fun e =>
      e.pins = { d.pins with pwrgood := true, resetn := true } ∧
      (∀ k, k < 8 → clockAt e k = { ClockUnit.reset with src := (if k < 2 then 1 else 4), mon := 1, startAt := d.mono, stepAt := d.mono }) ∧
      (∀ k, k < 8 → 740 ≤ (railAt e k).mv ∧ (railAt e k).mv ≤ 780 ∧ (railAt e k).low = (railAt e k).mv ∧
        (railAt e k).stage = (railAt d k).stage) ∧
      Keeps [.fresh, .pins, .rails, .clocks] noReg d e) ∧
  (∀ (dt : Nat) (s : State) (d : Device), d = elapse s.dev dt → d.pins.pwrgood = true →
    Does (.pwrgoodFall dt) s fun e =>
      (∀ i x, x < 256 → reg e i x = resetVal i x) ∧ (∀ a, memByte e a = Config.addressByte a) ∧
      (∀ c, ctlAt e c = { CtlDie.reset with flash := (ctlAt d c).flash }) ∧ (∀ p, pixAt e p = PixelDie.reset) ∧
      (∀ k, clockAt e k = ClockUnit.reset) ∧ e.pins.pwrgood = false ∧ e.pins.resetn = d.pins.resetn ∧
      e.pins.secVer = d.pins.secVer ∧ e.pins.owners = d.pins.owners ∧ e.pins.fuse = d.pins.fuse ∧
      (∀ r ∈ d.audit, r.num ∉ d.awaiting → r ∈ e.audit) ∧ e.tx = d.tx ∧ e.mono = d.mono) ∧
  (∀ (dt : Nat) (s : State) (d : Device), d = elapse s.dev dt → d.pins.pwrgood = true →
    Does (.resetnLow dt) s fun e =>
      (∀ i x, x < 256 → reg e i x = resetVal i x) ∧ (∀ a, memByte e a = Config.addressByte a) ∧
      (∀ c, ctlAt e c = { CtlDie.reset with flash := (ctlAt d c).flash }) ∧ (∀ p, pixAt e p = PixelDie.reset) ∧
      (∀ k c, tfind d.clocks k = some c → (clockAt e k).ready = c.ready ∧ (clockAt e k).startAt = c.startAt ∧
        (clockAt e k).trim = 0 ∧ (clockAt e k).mon = (if c.ready = true then 2 else 1)) ∧
      e.pins.pwrgood = true ∧ e.pins.resetn = false ∧ e.pins.straps = d.pins.straps ∧ e.pins.fuse = d.pins.fuse ∧
      (∀ r ∈ d.audit, r.num ∉ d.awaiting → r ∈ e.audit) ∧ e.tx = d.tx ∧ e.mono = d.mono) ∧
  (∀ (dt : Nat) (s : State) (d : Device), d = elapse s.dev dt → d.pins.pwrgood = true → d.pins.resetn = false →
    Does (.resetnRise dt) s fun e =>
      e.pins = { d.pins with resetn := true } ∧
      (∀ k c, tfind d.clocks k = some c → clockAt e k = { c with startAt := d.mono, pll := (if c.ready = true then 2 else 0) }) ∧
      Keeps [.pins, .clocks] noReg d e) ∧
  (∀ (dt : Nat) (s : State) (d : Device) (k : AnyDie) (temp : Int), d = elapse s.dev dt → d.pins.pwrgood = true → 108 ≤ temp →
    k.val ∉ d.pins.thermn →
    Does (.thermnAssert dt k temp) s fun e =>
      e.pins = { d.pins with thermn := d.pins.thermn ++ [k.val] } ∧ Keeps [.pins] noReg d e) ∧
  (∀ (dt : Nat) (s : State) (d : Device) (temps : List Int), d = elapse s.dev dt → (∀ t ∈ temps, t ≤ 100) →
    Does (.thermnRelease dt temps) s fun e => e.pins = { d.pins with thermn := [] } ∧ Keeps [.pins] noReg d e)

/-- R417 to R426: a completed dwell timer deepens the stage, 1 s above the level leaves one, a brown-out resets the die at once and
holds it, and the hold ends 1 s after the rail's return.
Clauses that rest on the model's choices: notes/assumptions 98, 104. -/
def Obligations.SupplyStagesFollowTheRail : Prop :=
  (∀ (dt : Nat) (s : State) (d : Device) (k : AnyDie) (level : Fin 5) (mv : Nat) (r : RailUnit), d = elapse s.dev dt →
    r = railAt d k → r.seen = true → 2 * mv < entryLevel (level.val + 1) → level.val < 4 →
    Does (.supplyDwellExpiry dt k level mv) s fun e =>
      (railAt e k).mv = mv ∧ (railAt e k).low = min r.low mv ∧ (railAt e k).real = max r.real (level.val + 1) ∧
      (railAt e k).held = r.held ∧
      (if r.stage < level.val + 1 then
         (railAt e k).stage = level.val + 1 ∧ (railAt e k).stageAt = d.mono ∧ Counted d e 0x2200 4 1 ∧ Logged d e 18 0x22000000
       else (railAt e k).stage = r.stage ∧ (railAt e k).stageAt = r.stageAt ∧ e.audit = d.audit) ∧
      (∀ j, j ≠ k.val → railAt e j = railAt d j) ∧
      Keeps (.rails :: .ctls :: .cmp :: .mems :: auditParts)
        (fun x i => eventReg x i ∨ (x = 0x2200 ∧ (i = 4 ∨ i = 5)) ∨ (x = 0x2300 ∧ (i = 8 ∨ i = 9))) d e) ∧
  (∀ (dt : Nat) (s : State) (d : Device) (k : AnyDie) (mv : Nat) (r : RailUnit), d = elapse s.dev dt → r = railAt d k → r.seen = true →
    2 * mv < 1335 → r.stage < 5 → r.held = false →
    Does (.supplyDwellExpiry dt k 4 mv) s fun e =>
      (k.val < 2 → dieUp e k = false ∧ (railAt e k).held = true ∧ (railAt e k).heldAt = d.mono ∧ Counted d e 0x2200 7 1) ∧
      (2 ≤ k.val → (railAt e k).stage = 5 ∧ (railAt e k).held = false ∧ pixAt e (k - 2) = pixAt d (k - 2) ∧
        regN e 0x2200 7 = regN d 0x2200 7) ∧
      Counted d e 0x2200 4 1 ∧ (railAt e k).mv = mv ∧ (∀ j, j ≠ k.val → railAt e j = railAt d j) ∧
      Keeps (.cmp :: dieParts) anyReg d e) ∧
  (∀ (dt : Nat) (s : State) (d : Device) (k : AnyDie) (mv : Nat) (r : RailUnit), d = elapse s.dev dt → r = railAt d k → r.seen = true →
    r.forced < r.stage → r.stage < 5 → r.stageAt + 1000000000 ≤ d.mono → (r.real < r.stage ∨ leaveLevel r.stage ≤ 2 * mv) →
    Does (.supplyRecoveryExpiry dt k mv) s fun e =>
      (railAt e k).stage = r.stage - 1 ∧ (railAt e k).stageAt = d.mono ∧ (railAt e k).mv = mv ∧
      (railAt e k).real = min r.real (r.stage - 1) ∧ Logged d e 18 0x22000000 ∧ (∀ j, j ≠ k.val → railAt e j = railAt d j) ∧
      Keeps (.rails :: .ctls :: .cmp :: .mems :: .srcs :: .queues :: auditParts) anyReg d e) ∧
  (∀ (dt : Nat) (s : State) (d : Device) (k : AnyDie) (lowest : Nat), d = elapse s.dev dt → 2 * lowest < 1275 → (railAt d k).seen = true →
    Does (.supplyBrownout dt k lowest) s fun e =>
      dieUp e k = false ∧ (railAt e k).held = true ∧ (railAt e k).heldAt = d.mono ∧ (railAt e k).stage = (railAt d k).stage ∧
      (railAt e k).mv = lowest ∧ Counted d e 0x2200 6 1 ∧ (∀ j, j ≠ k.val → railAt e j = railAt d j) ∧
      (∀ j, j < 8 → j ≠ k.val → dieUp e j = dieUp d j) ∧ Keeps dieParts anyReg d e) ∧
  (∀ (dt : Nat) (s : State) (d : Device) (k : AnyDie) (mv n : Nat) (r : RailUnit), d = elapse s.dev dt → r = railAt d k →
    r.held = true → 1440 ≤ 2 * mv → r.heldAt + 1000000000 ≤ d.mono →
    n = max (if 2 * mv < entryLevel 1 ∧ 1 ≤ r.real then 1 else 0) (min r.forced 4) →
    Does (.supplyHoldRelease dt k mv) s fun e =>
      (railAt e k).held = false ∧ (railAt e k).mv = mv ∧ (railAt e k).stage = n ∧
      (if r.stage = n then (railAt e k).stageAt = r.stageAt ∧ e.audit = d.audit
       else (railAt e k).stageAt = d.mono ∧ Logged d e 18 0x22000000) ∧
      (∀ j, j ≠ k.val → railAt e j = railAt d j) ∧
      (k.val < 2 → (ctlAt e k).out = true ∧ (ctlAt e k).role = 1 ∧
        ∀ b, b < 2 → (baseAt e k b).ns = (if ctlUp d (1 - k.val) = true then (baseAt d (1 - k.val) b).ns else 0)) ∧
      (∀ j, j ≠ k.val → ctlAt e j = ctlAt d j) ∧
      Keeps (.rails :: .ctls :: auditParts) (fun x i => eventReg x i ∨ (x = 0x2200 ∧ (i = 4 ∨ i = 5))) d e)

/-- R413: a die that sees its neighbour in reset notes it and queues nothing more toward it; the crossing is clear when the
link has trained again.
Clauses that rest on the model's choices: notes/assumptions 162. -/
def Obligations.CrossingsCloseAndOpen : Prop :=
  (∀ (dt : Nat) (s : State) (d : Device) (k : AnyDie) (kind : LinkKind) (o : AnyDie), d = elapse s.dev dt → dieUp d k = true →
    dieUp d o = false → linked kind k o = true → (k.val, linkCode kind, o.val) ∉ d.crossings →
    Does (.d2dPeerReset dt k kind o) s fun e =>
      e.crossings = d.crossings ++ [(k.val, linkCode kind, o.val)] ∧ Noted d e k 90 0 ∧
      (kind = .spur → ∀ j ∈ (if (k.val - 2 + 1) % 6 = o.val - 2 then [0, 1] else [2, 3]), spurOutOf e (k - 2) j = []) ∧
      (kind = .saddle → o.val < 2 → ∀ q, q / 8 = o.val → tget (queueAt e (k.val - 2)).flight q [] = [] ∧
        tget (queueAt e (k.val - 2)).fill q 0 = 0) ∧
      (kind = .heartbeatWire ∨ (kind = .saddle ∧ 2 ≤ o.val) → e.queues = d.queues ∧ e.srcs = d.srcs) ∧
      Keeps (.crossings :: .queues :: .srcs :: eventParts) eventReg d e) ∧
  (∀ (dt : Nat) (s : State) (d : Device) (k : AnyDie) (kind : LinkKind) (o : AnyDie), d = elapse s.dev dt → dieUp d k = true →
    dieUp d o = true → (k.val, linkCode kind, o.val) ∈ d.crossings →
    Does (.d2dPeerUp dt k kind o) s fun e =>
      (∀ x, x ∈ e.crossings ↔ x ∈ d.crossings ∧ x ≠ (k.val, linkCode kind, o.val)) ∧ Noted d e k 91 0 ∧
      Keeps (.crossings :: eventParts) eventReg d e)

/-! ### The debug port, the TAP, images (spec/12, spec/13, spec/16) -/

/-- R345 to R347, R337, R341, R469: a challenge lapses after 300 s, an open port is closed after its longest time, and the TAP's
DEBUG accesses obey the rule table of the die they reach.
Clauses that rest on the model's choices: notes/assumptions 4, 9, 120, 210. -/
def Obligations.DebugPortAndTapObeyTheRules : Prop :=
  (∀ (dt : Nat) (s : State) (d : Device) (t : Nat), d = elapse s.dev dt → d.sup.dbg.since = some t → t + 300 * 10 ^ 9 ≤ d.mono →
    (d.sup.dbg.maint = none ∨ d.sup.dbg.audit = none) →
    Does (.debugChallengeExpiry dt) s fun e =>
      e.sup.dbg = { d.sup.dbg with since := none, maint := none, audit := none } ∧ regN e 0x2500 0x16 = 5 ∧
      Logged d e 9 0x25001605 ∧ Keeps auditParts (fun x i => eventReg x i ∨ (x = 0x2500 ∧ i = 0x16)) d e) ∧
  (∀ (dt : Nat) (s : State) (d : Device), d = elapse s.dev dt → d.sup.dbg.opened = true →
    d.sup.dbg.openedAt + regN d 0x2500 0x17 * 10 ^ 9 ≤ d.mono →
    Does (.debugMaxOpenExpiry dt) s fun e =>
      e.sup = { d.sup with dbg := { d.sup.dbg with closing := true } } ∧ Keeps [.sup] noReg d e) ∧
  (∀ (dt : Nat) (s : State) (d : Device), d = elapse s.dev dt → d.pins.pwrgood = true →
    Does (.debugTapAccess dt .bypass) s (fun e => e.tx = d.tx ++ [Msg.mk 6 8 0 []] ∧ Keeps [.tx] noReg d e) ∧
    Does (.debugTapAccess dt .idcode) s (fun e => e.tx = d.tx ++ [Msg.mk 6 8 0 [0x47, 0x61, 0x0C, 0xE7]] ∧ Keeps [.tx] noReg d e) ∧
    (d.pins.resetn = false → Does (.debugTapAccess dt .sample) s fun e =>
      e.tx = d.tx ++ [Msg.mk 6 8 0 (beBytes 4 (freshVal d))] ∧ Keeps [.tx, .fresh] noReg d e) ∧
    (d.pins.resetn = false → ∀ p, Does (.debugTapAccess dt (.extest p)) s fun e =>
      e.pins = { d.pins with scan := p } ∧ Keeps [.pins] noReg d e)) ∧
  (∀ (dt : Nat) (s : State) (d : Device) (a n k : Nat) (ok : Bool) (en : Option Nat), d = elapse s.dev dt → d.pins.pwrgood = true →
    d.pins.resetn = true → k = a / 2 ^ 44 → d.sup.dbg.opened = true → dieUp d k = true → 0 < n →
    ruleDecide (ruleCopyAt d k) 2 a n false = (ok, en) →
    Does (.debugTapAccess dt (.access a n none)) s fun e =>
      (ok = true → e.tx = d.tx ++ [Msg.mk 6 8 0 ((List.range n).map fun i => memByte d (a + i))] ∧ ∀ x i, x < 256 → reg e i x = reg d i x) ∧
      (ok = false → e.tx.getLast? = some (Msg.mk 6 8 1 (List.replicate n 0)) ∧ ∀ x, en = some x → Counted d e (0x2400 + x) 8 1) ∧
      Keeps (.limits :: auditParts) (fun x i => eventReg x i ∨ (i = 8 ∧ ∃ y, en = some y ∧ x = 0x2400 + y)) d e) ∧
  (∀ (dt : Nat) (s : State) (d : Device) (a n k : Nat) (b : List Byte) (ok : Bool) (en : Option Nat), d = elapse s.dev dt →
    d.pins.pwrgood = true → d.pins.resetn = true → k = a / 2 ^ 44 → d.sup.dbg.opened = true → dieUp d k = true → 0 < n →
    ruleDecide (ruleCopyAt d k) 2 a n true = (ok, en) →
    Does (.debugTapAccess dt (.access a n (some b))) s fun e =>
      (ok = true → (∀ i x, (b.take n)[i]? = some x → memByte e (a + i) = x) ∧
        (∀ x, (x < a ∨ a + (b.take n).length ≤ x) → memByte e x = memByte d x) ∧ Keeps [.memory] noReg d e) ∧
      (ok = false → (∀ x, memByte e x = memByte d x) ∧ e.tx.getLast? = some (Msg.mk 6 8 1 []) ∧ (∀ x, en = some x → Counted d e (0x2400 + x) 8 1) ∧
        Keeps (.limits :: auditParts) (fun x i => eventReg x i ∨ (i = 8 ∧ ∃ y, en = some y ∧ x = 0x2400 + y)) d e))

/-- R349, R386 to R389: a staged image reaches the idle slot of both control dies, the security version follows the proven
image, and microcode on probation stays or goes by its checks.
Clauses that rest on the model's choices: notes/assumptions 117, 119, 123. -/
def Obligations.ImagesAreStagedAndProven : Prop :=
  (∀ (dt : Nat) (s : State) (d : Device) (a : Nat), d = elapse s.dev dt → d.sup.fwState = 2 → activeCtl d = some a →
    Does (.fwStagingDone dt) s fun e =>
      e.sup = { d.sup with fwState := 3 } ∧ regN e 0x2520 9 = 1 ∧
      (∀ c, c < 2 → slotSt (norOf e c) (freeSlot d c) = 2 ∧ slotImg (norOf e c) (freeSlot d c) = d.sup.fwImage ∧
        slotSt (norOf e c) (1 - freeSlot d c) = slotSt (norOf d c) (1 - freeSlot d c) ∧
        slotImg (norOf e c) (1 - freeSlot d c) = slotImg (norOf d c) (1 - freeSlot d c) ∧ roleOf e c = roleOf d c) ∧
      Keeps [.ctls, .sup] (fun x i => x = 0x2520 ∧ i = 9) d e) ∧
  (∀ (dt : Nat) (s : State) (d : Device) (a v : Nat), d = elapse s.dev dt → activeCtl d = some a →
    v = Config.imageSecurityVersion (runningImage d a) → slotSt (norOf d a) ((ctlAt d a).booted - 1) = 4 →
    (ctlAt d a).bootAt + 60 * 10 ^ 9 ≤ d.mono → fatalLately d = false →
    Does (.fwSecurityVersionRaise dt) s fun e =>
      e.pins = { d.pins with secVer := (if fwSecurity d < v then v else d.pins.secVer) } ∧ fwSecurity e = max (fwSecurity d) v ∧
      Keeps [.pins] noReg d e) ∧
  (∀ (dt : Nat) (s : State) (d : Device) (p : Die) (u : McUnit), d = elapse s.dev dt → u = mcAt d p → u.probation = 1 →
    u.fault = false →
    Does (.probationEnd dt p) s fun e =>
      mcState (mcAt e p) u.running = 3 ∧ mcState (mcAt e p) (1 - u.running) = 5 ∧ (mcAt e p).probation = 0 ∧
      (mcAt e p).running = u.running ∧ (∀ c, c < 2 → tfind (norOf e c).micro p = some (mcRunning u)) ∧
      (∀ q, q ≠ p.val → mcAt e q = mcAt d q) ∧ Keeps [.mcs, .ctls] noReg d e) ∧
  (∀ (dt : Nat) (s : State) (d : Device) (p : Die), d = elapse s.dev dt → pixUp d p = true →
    Does (.microcodeCheckFail dt p) s fun e =>
      mcAt e p = { mcAt d p with fault := decide (0 < (mcAt d p).probation) } ∧ Recorded d e (p + 2) 95 (mcObj p) ∧
      (∀ q, q ≠ p.val → mcAt e q = mcAt d q) ∧ Keeps (.mcs :: eventParts) eventReg d e)

/-! ### The two control dies (spec/13) -/

/-- R365, R366, R462: heartbeats are counted and heard, a silent path is reported while the other lives, and HBTEST silences the
wire.
Clauses that rest on the model's choices: notes/assumptions 14, 134. -/
def Obligations.HeartbeatsAreSentHeardAndMissed : Prop :=
  (∀ (dt : Nat) (s : State) (d : Device), d = elapse s.dev dt → d.pins.hbmon.length = 2 →
    (∀ p, p < 6 → (pixAt d p).heard.length = 2) →
    Does (.heartbeatSend dt) s fun e =>
      (∀ c, c < 2 → if ctlUp d c = true ∧ (isActive d c = true ∨ roleOf d c ∈ [4, 5, 6, 7, 8]) then
          ctlAt e c = { ctlAt d c with
            beat := ((ctlAt d c).beat + 1) % 2 ^ 32, beatState := (ctlAt d c).role,
            beatSeq := if isActive d c = true then regN d 0x2310 1 % 2 ^ 63 else (ctlAt d c).beatSeq } ∧
          e.pins.hbmon.getD c false = !(d.pins.hbmon.getD c false) ∧
          (∀ p, p < 6 → (pixAt e p).heard.getD c 0 =
            (if pixUp d p = true ∧ (pixAt d p).state = 1 then d.mono else (pixAt d p).heard.getD c 0))
        else ctlAt e c = ctlAt d c ∧ e.pins.hbmon.getD c false = d.pins.hbmon.getD c false ∧
          (∀ p, p < 6 → (pixAt e p).heard.getD c 0 = (pixAt d p).heard.getD c 0)) ∧
      Keeps [.ctls, .pins, .pix] noReg d e) ∧
  (∀ (dt : Nat) (s : State) (d : Device) (c : Ctl) (p : Die), d = elapse s.dev dt → ctlUp d c = true → pixUp d p = true →
    (pixAt d p).state = 1 →
    Does (.heartbeatArrival dt c (.saddle p)) s fun e =>
      ctlAt e c = { ctlAt d c with
        heardS := d.mono, silentS := false, lost := false, minority := none, downS := false, downW := wireSilent d c,
        gotBeat := some (otherCtl c + 1, (ctlAt d (otherCtl c)).beat,
          if isActive d (otherCtl c) = true then (ctlAt d (otherCtl c)).beatSeq else (ctlAt d (otherCtl c)).beatState) } ∧
      ((ctlAt d c).downS = true → (ctlAt d c).downW = wireSilent d c → Noted d e c 65 0x2300) ∧
      ((ctlAt d c).downS = false → (ctlAt d c).downW = true → wireSilent d c = false → Noted d e c 65 0x2300) ∧
      ((ctlAt d c).downS = false → (ctlAt d c).downW = false → wireSilent d c = true → Recorded d e c 64 0x2300) ∧
      ((ctlAt d c).downS = false → (ctlAt d c).downW = wireSilent d c → ringAt e c = ringAt d c) ∧
      (∀ j, j ≠ c.val → ctlAt e j = ctlAt d j) ∧ Keeps (.ctls :: eventParts) eventReg d e) ∧
  (∀ (dt : Nat) (s : State) (d : Device) (c : Ctl), d = elapse s.dev dt → ctlUp d c = true → d.pins.hbtest = false →
    Does (.heartbeatArrival dt c .wire) s fun e =>
      ctlAt e c = { ctlAt d c with
        heardW := d.mono, silentW := false, lost := false, minority := none, downW := false, downS := (ctlAt d c).silentS } ∧
      ((ctlAt d c).downW = true → (ctlAt d c).downS = (ctlAt d c).silentS → Noted d e c 65 0x2300) ∧
      ((ctlAt d c).downW = false → (ctlAt d c).downS = true → (ctlAt d c).silentS = false → Noted d e c 65 0x2300) ∧
      ((ctlAt d c).downW = false → (ctlAt d c).downS = false → (ctlAt d c).silentS = true → Recorded d e c 64 0x2300) ∧
      ((ctlAt d c).downW = false → (ctlAt d c).downS = (ctlAt d c).silentS → ringAt e c = ringAt d c) ∧
      (∀ j, j ≠ c.val → ctlAt e j = ctlAt d j) ∧ Keeps (.ctls :: eventParts) eventReg d e) ∧
  (∀ (dt : Nat) (s : State) (d : Device) (c : Ctl) (p : Die), d = elapse s.dev dt → ctlUp d c = true →
    (ctlAt d c).silentS = false → (ctlAt d c).heardS + 3000000 ≤ d.mono →
    Does (.heartbeatPathSilent dt c (.saddle p)) s fun e =>
      ctlAt e c = { ctlAt d c with
        silentS := true, downS := ((ctlAt d c).downS || !wireSilent d c), downW := ((ctlAt d c).downW && wireSilent d c) } ∧
      (wireSilent d c = false → (ctlAt d c).downS = false → (ctlAt d c).downW = false → Recorded d e c 64 0x2300) ∧
      (wireSilent d c = true → ringAt e c = ringAt d c) ∧ (∀ j, j ≠ c.val → ctlAt e j = ctlAt d j) ∧
      Keeps (.ctls :: eventParts) eventReg d e) ∧
  (∀ (dt : Nat) (s : State) (d : Device) (c : Ctl), d = elapse s.dev dt → ctlUp d c = true → (ctlAt d c).silentW = false →
    (ctlAt d c).heardW + 3000000 ≤ d.mono →
    Does (.heartbeatPathSilent dt c .wire) s fun e =>
      ctlAt e c = { ctlAt d c with
        silentW := true, downW := ((ctlAt d c).downW || !(ctlAt d c).silentS), downS := ((ctlAt d c).downS && (ctlAt d c).silentS) } ∧
      ((ctlAt d c).silentS = false → (ctlAt d c).downW = false → (ctlAt d c).downS = false → Recorded d e c 64 0x2300) ∧
      ((ctlAt d c).silentS = true → ringAt e c = ringAt d c) ∧ (∀ j, j ≠ c.val → ctlAt e j = ctlAt d j) ∧
      Keeps (.ctls :: eventParts) eventReg d e) ∧
  (∀ (dt : Nat) (s : State) (d : Device), d = elapse s.dev dt → d.pins.hbtest = false → d.pins.pwrgood = true →
    Does (.hbtestHigh dt) s fun e =>
      e.pins = { d.pins with hbtest := true } ∧
      (∀ c, c < 2 → if ctlUp d c = true then
          ctlAt e c = { ctlAt d c with downW := ((ctlAt d c).downW || !(ctlAt d c).silentS),
                                       downS := ((ctlAt d c).downS && (ctlAt d c).silentS) } ∧
          ((ctlAt d c).silentS = false → (ctlAt d c).downW = false → (ctlAt d c).downS = false → Recorded d e c 64 0x2300)
        else ctlAt e c = ctlAt d c) ∧
      Keeps (.pins :: .ctls :: eventParts) eventReg d e) ∧
  (∀ (dt : Nat) (s : State) (d : Device), d = elapse s.dev dt → d.pins.hbtest = true →
    Does (.hbtestLow dt) s fun e =>
      e.pins = { d.pins with hbtest := false } ∧
      (∀ c, c < 2 → if ctlUp d c = true then
          ctlAt e c = { ctlAt d c with
            heardW := d.mono, silentW := false, lost := false, minority := none, downW := false, downS := (ctlAt d c).silentS } ∧
          ((ctlAt d c).downW = true → (ctlAt d c).downS = (ctlAt d c).silentS → Noted d e c 65 0x2300)
        else ctlAt e c = ctlAt d c) ∧
      Keeps (.pins :: .ctls :: eventParts) eventReg d e)

/-- R367 to R371: five milliseconds of silence on both paths begin a takeover, pixel dies grant tokens as R368 says, and a die
without four tokens gives up or steps down.
Clauses that rest on the model's choices: notes/assumptions 14, 114. -/
def Obligations.TakeoversNeedFourTokens : Prop :=
  (∀ (dt : Nat) (s : State) (d : Device) (c : Ctl) (x : CtlDie), d = elapse s.dev dt → x = ctlAt d c → ctlUp d c = true →
    bothSilent d c = true → x.heardS + 5000000 ≤ d.mono → (d.pins.hbtest = true ∨ x.heardW + 5000000 ≤ d.mono) →
    Does (.bothPathsSilent dt c) s fun e =>
      (isActive d c = true → ctlAt e c = { x with lost := true } ∧ (x.lost = false → Recorded d e c 66 0x2300)) ∧
      (isActive d c = false → mayTakeOver d c = true → x.minority = none → (railAt d c).stage < 3 →
        roleOf e c = 10 ∧ (ctlAt e c).takeover = some d.mono ∧ (ctlAt e c).retry = d.mono ∧
        (ctlAt e c).was = (if x.role = 5 ∨ x.role = 7 then 4 else x.role) ∧ Noted d e c 68 0x2300) ∧
      (isActive d c = false → (mayTakeOver d c = false ∨ 3 ≤ (railAt d c).stage) → ctlAt e c = x) ∧
      (∀ j, j ≠ c.val → ctlAt e j = ctlAt d j) ∧ Keeps (.ctls :: eventParts) eventReg d e) ∧
  (∀ (dt : Nat) (s : State) (d : Device) (p : Die) (c : Ctl), d = elapse s.dev dt → pixUp d p = true → asksTokens d c = true →
    Does (.tokenRequest dt p c) s fun e =>
      (if grants d p c = true then
         pixAt e p = { pixAt d p with token := c + 2, released := false } ∧
         (∀ j, j < 2 → (ctlAt e j).few = (if (tokensOf e j).length < 4 then some ((ctlAt d j).few.getD d.mono) else none))
       else pixAt e p = pixAt d p ∧ e.ctls = d.ctls) ∧
      (∀ q, q ≠ p.val → pixAt e q = pixAt d q) ∧ (∀ j, ctlAt e j = { ctlAt d j with few := (ctlAt e j).few }) ∧
      Keeps [.pix, .ctls] noReg d e) ∧
  (∀ (dt : Nat) (s : State) (d : Device) (c : Ctl) (x : CtlDie), d = elapse s.dev dt → x = ctlAt d c → ctlUp d c = true →
    Does (.takeoverTokenRetry dt c) s fun e =>
      (x.role = 10 → x.retry + 100000 ≤ d.mono → ctlAt e c = { x with retry := d.mono }) ∧
      (∀ t, x.role ≠ 10 → x.minority = some t → bothSilent d c = true → mayTakeOver d c = true → t + 100000000 ≤ d.mono →
        (railAt d c).stage < 3 →
        roleOf e c = 10 ∧ (ctlAt e c).takeover = some d.mono) ∧
      (x.role ≠ 10 → x.minority = none → ctlAt e c = x) ∧
      (∀ j, j ≠ c.val → ctlAt e j = ctlAt d j) ∧ Keeps [.ctls] noReg d e) ∧
  (∀ (dt : Nat) (s : State) (d : Device) (c : Ctl) (x : CtlDie) (t : Nat), d = elapse s.dev dt → x = ctlAt d c →
    x.takeover = some t → x.role = 10 → t + 20000000 ≤ d.mono → (tokensOf d c).length < 4 →
    Does (.takeoverNoMajority dt c) s fun e =>
      ctlAt e c = { x with role := x.was, warm := false, takeover := none, minority := some d.mono, few := some (x.few.getD d.mono) } ∧
      (∀ p, p < 6 → (pixAt e p).token = (if (pixAt d p).token = c + 2 then 1 else (pixAt d p).token)) ∧
      Recorded d e c 67 0x2300 ∧ (∀ j, j ≠ c.val → ctlAt e j = { ctlAt d j with few := (ctlAt e j).few }) ∧
      Keeps (.ctls :: .pix :: eventParts) eventReg d e) ∧
  (∀ (dt : Nat) (s : State) (d : Device) (c : Ctl), d = elapse s.dev dt → (∀ t, (ctlAt d c).few = some t → d.mono < t + 5000000) →
    Does (.controlDemotion dt c) s fun e => Keeps [] noReg d e) ∧
  (∀ (dt : Nat) (s : State) (d : Device) (c : Ctl) (t : Nat), d = elapse s.dev dt → ctlUp d c = true → roleOf d c = 3 →
    (ctlAt d c).few = some t → t + 5000000 ≤ d.mono →
    Does (.controlDemotion dt c) s fun e =>
      ctlAt e c = { ctlAt d c with role := 1 } ∧
      (∀ p, p < 6 → (pixAt e p).token = (if (pixAt d p).token = c + 2 then 1 else (pixAt d p).token)) ∧
      Recorded d e c 70 0x2300 ∧ (∀ j, j ≠ c.val → ctlAt e j = { ctlAt d j with few := (ctlAt e j).few }) ∧
      Keeps (.ctls :: .pix :: eventParts) eventReg d e)

/-- R377 to R379, R382: digests are compared tick by tick; a run of matches ends a drill or an election well, a difference or a
late digest ends it otherwise; drills fall due and recovering dies shadow when their time has come.
Clauses that rest on the model's choices: notes/assumptions 106, 113. -/
def Obligations.ShadowsAreCompared : Prop :=
  (∀ (dt : Nat) (s : State) (d : Device), d = elapse s.dev dt → d.cmp.kind ≠ 0 → d.cmp.kind ≠ 6 → d.cmp.digest ≠ [] →
    peerPath d = true → d.mono ≤ d.cmp.formedAt + 2000000 →
    Does (.shadowDigest dt d.cmp.digest) s fun e =>
      e.cmp = { d.cmp with matched := d.cmp.matched + 1, digest := [] } ∧ Keeps [.cmp] noReg d e) ∧
  (∀ (dt : Nat) (s : State) (d : Device) (dg : List Byte) (a : Nat), d = elapse s.dev dt → d.cmp.kind = 2 → d.cmp.digest ≠ [] →
    (dg ≠ d.cmp.digest ∨ d.cmp.formedAt + 2000000 < d.mono) → activeCtl d = some a → peerPath d = true →
    Does (.shadowDigest dt dg) s fun e =>
      e.cmp.kind = 0 ∧ e.cmp.shown = 4 ∧ regN e 0x2300 8 = 2 ∧ roleOf e (1 - a) = 8 ∧
      (ctlAt e (1 - a)).mismatch = true ∧ (ctlAt e (1 - a)).mirrored = [] ∧
      ctlAt e a = ctlAt d a ∧ Recorded d e a 75 0x2300 ∧
      Keeps (.ctls :: .cmp :: eventParts) (fun x i => eventReg x i ∨ (x = 0x2300 ∧ (i = 8 ∨ i = 9))) d e) ∧
  (∀ (dt : Nat) (s : State) (d : Device) (a : Nat), d = elapse s.dev dt → d.cmp.kind = 1 → d.cmp.digest ≠ [] →
    activeCtl d = some a → d.cmp.failed < 2 → d.cmp.formedAt + 2000000 ≤ d.mono →
    Does (.digestLate dt) s fun e =>
      e.cmp = { CompareUnit.reset with kind := 1, shown := 2, failed := d.cmp.failed + 1 } ∧
      e.sup = { d.sup with handover := false } ∧ Keeps [.cmp, .sup] noReg d e) ∧
  (∀ (dt : Nat) (s : State) (d : Device) (a : Nat), d = elapse s.dev dt → d.cmp.kind = 1 → d.cmp.digest ≠ [] →
    activeCtl d = some a → 2 ≤ d.cmp.failed → d.cmp.formedAt + 2000000 ≤ d.mono →
    Does (.digestLate dt) s fun e =>
      e.cmp.kind = 0 ∧ roleOf e a = 3 ∧ (ctlAt e (1 - a)).mismatch = true ∧
      (ctlUp d (1 - a) = true → roleOf d (1 - a) = 2 → roleOf e (1 - a) = 8) ∧
      ((∀ k, k < 12 → (trackAt d k).waiting = 0) → Recorded d e a 73 0x2300) ∧
      Keeps (.ctls :: .cmp :: .tracks :: pushParts) pushReg d e) ∧
  (∀ (dt : Nat) (s : State) (d : Device), d = elapse s.dev dt → (d.cmp.digest = [] ∨ d.mono < d.cmp.formedAt + 2000000) →
    Does (.digestLate dt) s fun e => Keeps [] noReg d e) ∧
  (∀ (dt : Nat) (s : State) (d : Device) (a : Nat), d = elapse s.dev dt → d.cmp.kind = 1 → 60 ≤ d.cmp.matched →
    d.sup.handover = false → activeCtl d = some a →
    Does (.comparisonPass dt) s fun e =>
      e.cmp.kind = 0 ∧ e.cmp.shown = 3 ∧ roleOf e a = 3 ∧ (ctlUp d (1 - a) = true → roleOf d (1 - a) = 2 → roleOf e (1 - a) = 4) ∧
      e.can.nmt = (if d.can.nmt = 0 then 3 else d.can.nmt) ∧ Keeps (.ctls :: .cmp :: .tracks :: pushParts) pushReg d e) ∧
  (∀ (dt : Nat) (s : State) (d : Device) (a : Nat), d = elapse s.dev dt → d.cmp.kind = 2 → 600 ≤ d.cmp.matched →
    d.sup.handover = false → activeCtl d = some a →
    Does (.comparisonPass dt) s fun e =>
      e.cmp.kind = 0 ∧ e.cmp.shown = 3 ∧ regN e 0x2300 8 = 1 ∧ roleOf e (1 - a) = 4 ∧
      (ctlAt e (1 - a)).mirrored = [] ∧ ctlAt e a = ctlAt d a ∧ Noted d e a 74 0x2300 ∧
      Keeps (.ctls :: .cmp :: eventParts) (fun x i => eventReg x i ∨ (x = 0x2300 ∧ (i = 8 ∨ i = 9))) d e) ∧
  (∀ (dt : Nat) (s : State) (d : Device) (a o : Nat), d = elapse s.dev dt → regN d 0x2300 7 ≠ 0 → activeCtl d = some a →
    d.sup.drillAt + regN d 0x2300 7 * 10 ^ 9 ≤ d.mono → standbyIn d [4] = some o →
    Does (.drillInterval dt) s fun e => e.sup = { d.sup with drillDue := true } ∧ Keeps [.sup] noReg d e) ∧
  (∀ (dt : Nat) (s : State) (d : Device) (c : Ctl) (a : Nat), d = elapse s.dev dt → ctlUp d c = true → roleOf d c = 6 →
    (ctlAt d c).bootAt + regN d 0x2300 0x0A * 10 ^ 9 ≤ d.mono → d.cmp.kind = 0 → activeCtl d = some a →
    Does (.takeBackHoldoffEnd dt c) s fun e =>
      (if d.sup.suspects.contains c.val = true then
         roleOf e c = 8 ∧ e.cmp = d.cmp ∧ e.sup.suspects = d.sup.suspects.filter (· != c.val) ∧ (ctlAt e c).mirrored = []
       else
         ctlAt e c = { ctlAt d c with role := 7 } ∧ e.cmp = { CompareUnit.reset with kind := 3, shown := 2 } ∧ e.sup = d.sup ∧
         e.rings = d.rings) ∧
      (∀ j, j ≠ c.val → ctlAt e j = ctlAt d j) ∧ Keeps (.ctls :: .cmp :: eventParts) eventReg d e)

/-! ### How dies come into service (spec/12, spec/13) -/

/-- R275, R348, R370, R378, R380, R382, R385: the fourth token in time makes a die active; a control die boots the slot its ROM
selects into the election or into recovery, or takes no part.
Clauses that rest on the model's choices: notes/assumptions 14, 107, 108, 124, 125, 127, 193. -/
def Obligations.ControlDiesBootAndTakeOver : Prop :=
  (∀ (dt : Nat) (s : State) (d : Device) (c : Ctl) (p : Die) (x : CtlDie) (t : Nat), d = elapse s.dev dt → x = ctlAt d c →
    x.takeover = some t → ctlUp d c = true → x.role = 10 → (pixAt d p).token = c + 2 → 4 ≤ (tokensOf d c).length →
    d.mono ≤ t + 20000000 → x.warm = true →
    Does (.tokenGrant dt c p) s fun e =>
      roleOf e c = 3 ∧ (ctlAt e c).takeover = none ∧ (ctlAt e c).warm = false ∧ (ctlAt e c).booted = x.booted ∧
      (ctlUp d (1 - c) = true → roleOf e (1 - c) = 1) ∧ (ctlUp d (1 - c) = false → ctlAt e (1 - c) = ctlAt d (1 - c)) ∧
      e.cmp = CompareUnit.reset ∧ Counted d e 0x2300 5 1 ∧
      ((∀ q, q < 6 → pixUp d q = true → (mcAt d q).state0 ≠ 0) → e.pix = d.pix) ∧ (∀ i x, x < 256 → frc e i x = frc d i x) ∧
      e.heads = d.heads ∧ e.scans = d.scans) ∧
  (∀ (dt : Nat) (s : State) (d : Device) (c : Ctl) (p : Die) (x : CtlDie) (t j : Nat), d = elapse s.dev dt → x = ctlAt d c →
    x.takeover = some t → ctlUp d c = true → x.role = 10 → (pixAt d p).token = c + 2 → 4 ≤ (tokensOf d c).length →
    d.mono ≤ t + 20000000 → x.warm = false → newestSlot x = some j →
    Does (.tokenGrant dt c p) s fun e =>
      (if (x.retained.any fun r => imageOk d r.2) = true then
         roleOf e c = 3 ∧ (ctlAt e c).takeover = none ∧ (ctlAt e c).booted = (x.retained.map (·.1)).getD 0 + 1 ∧
         (ctlUp d (1 - c) = true → roleOf e (1 - c) = 1) ∧ e.cmp = CompareUnit.reset ∧
         ((∀ q, q < 6 → pixUp d q = true → (mcAt d q).state0 ≠ 0) → e.pix = d.pix)
       else roleOf e c = 9 ∧ ∀ q, q < 6 → (pixAt e q).token ≠ c + 2) ∧
      (∀ i x, x < 256 → frc e i x = frc d i x) ∧ e.heads = d.heads ∧ e.scans = d.scans) ∧
  (∀ (dt : Nat) (s : State) (d f g : Device) (c : Ctl) (selfTest : Bool) (r : Option Nat), d = elapse s.dev dt →
    ctlReady d c = true →
    f = modCtl (bootLog (modClock
        { d with can := { d.can with errs := d.can.errs.set c (if d.can.errs.getD c 0 = 0 then 3 else d.can.errs.getD c 0) } } c fun x =>
          { x with faults := x.faults.filter (· != 4) }) c) c (fun x => { x with tb3 := { x.tb3 with ns := max (bootTb3 d c) x.tb3.ns, frac := 0, slew := 0 } }) →
    bootSelect (bootRom f c) c = (g, r) →
    Does (.controlDieBoot dt c selfTest) s fun e =>
      (ctlAt e c).tb3.ns = max (bootTb3 d c) (ctlAt d c).tb3.ns ∧
      ((r = none ∨ selfTest = false) → roleOf e c = 9) ∧
      (∀ i, r = some i → selfTest = true → ctlUp d (1 - c) = true → roleOf d (1 - c) ∉ [0, 1, 2, 9] → d.sup.fwState ≠ 4 →
        d.sup.fwState ≠ 6 →
        roleOf e c = 6 ∧ (ctlAt e c).booted = i + 1 ∧ (ctlAt e c).bootAt = d.mono ∧ roleOf e (1 - c) = roleOf d (1 - c)) ∧
      (∀ i, r = some i → selfTest = true → ctlUp d (1 - c) = true → roleOf d (1 - c) = 2 →
        roleOf e c = 2 ∧ (ctlAt e c).booted = i + 1 ∧ e.cmp = { CompareUnit.reset with kind := 1, shown := 2 } ∧
        roleOf e (1 - c) = 2) ∧
      ((r = none ∨ selfTest = false ∨ (ctlUp d (1 - c) = true ∧ 2 ≤ roleOf d (1 - c) ∧ roleOf d (1 - c) ≠ 9)) →
        Keeps (.ctls :: .clocks :: .pix :: .rules :: .mcs :: .cmp :: auditParts)
          (fun x i => eventReg x i ∨ (x = 0x2500 ∧ i = 0x0B) ∨ (x = 0x2520 ∧ i = 9) ∨ (0x2400 ≤ x ∧ x < 0x2480 ∧ i = 0x0A)) d e))

/-- R390 to R392, R302: a pixel die's reset ends in repair or in service's first step, and it enters CONFIGURING, done, when its
configuration is back.
Clauses that rest on the model's choices: notes/assumptions 129, 131. -/
def Obligations.PixelDiesComeBack : Prop :=
  (∀ (dt : Nat) (s : State) (d : Device) (p : Die) (q : PixelDie), d = elapse s.dev dt → q = pixAt d p → q.out = false →
    q.state = 3 → q.resetAt + 1000000 ≤ d.mono → (railAt d (p + 2)).held = false → d.pins.pwrgood = true → d.pins.resetn = true → 3 ≤ (clockAt d (p + 2)).pll →
    Does (.pixelDieResetRelease dt p) s fun e =>
      (q.repair = true → pixAt e p = { q with state := 4 } ∧ mcAt e p = mcAt d p) ∧
      (q.repair = false → (∀ c, c < 2 → ctlUp d c = false) → pixAt e p = { q with out := true } ∧ mcAt e p = mcAt d p) ∧
      (∀ img c, q.repair = false → c < 2 → ctlUp d c = true → roleOf d c = 2 → (mcAt d p).install = some img →
        (if Config.imageSigned img = true then
           pixAt e p = { q with out := true } ∧ (mcAt e p).image0 = img ∧ (mcAt e p).state0 = 3 ∧ (mcAt e p).running = 0
         else pixAt e p = { q with state := 7 })) ∧
      (q.repair = false → ∀ m, m < 4 → (memIfAt e (ifKey p m)).state = 2) ∧ (∀ j, j ≠ p.val → pixAt e j = pixAt d j) ∧
      Keeps (.pix :: .ifs :: .rules :: .mcs :: .ctls :: auditParts)
        (fun x i => eventReg x i ∨ (0x2400 ≤ x ∧ x < 0x2480 ∧ i = 0x0A)) d e) ∧
  (∀ (dt : Nat) (s : State) (d : Device) (p : Die) (failing : Nat) (q : PixelDie), d = elapse s.dev dt → q = pixAt d p →
    q.state = 4 →
    Does (.dieRepairTestDone dt p failing) s fun e =>
      (q.spare < failing → pixAt e p = { q with state := 7, repair := false, spare := 0 } ∧ Recorded d e (p + 2) 83 0) ∧
      (failing ≤ q.spare → (pixAt e p).spare = q.spare - failing ∧ (pixAt e p).repairs = min (q.repairs + 1) 0x7FFFFFFF ∧
        (pixAt e p).repair = false ∧ ((∀ c, c < 2 → ctlUp d c = false) → (pixAt e p).out = true ∧ (pixAt e p).state = 3)) ∧
      (∀ j, j ≠ p.val → pixAt e j = pixAt d j) ∧ Keeps (.pix :: .ifs :: .rules :: .mcs :: .ctls :: auditParts)
        (fun x i => eventReg x i ∨ (0x2400 ≤ x ∧ x < 0x2480 ∧ i = 0x0A)) d e) ∧
  (∀ (dt : Nat) (s : State) (d : Device) (p : Die) (q : PixelDie) (a : Nat), d = elapse s.dev dt → q = pixAt d p →
    activeCtl d = some a → q.out = true → q.state = 3 → q.token = a + 2 → q.tb1.loaded = true → (mcAt d p).state0 ≠ 0 →
    (∀ m, m < 4 → (memIfAt d (ifKey p m)).state ≠ 2) →
    Does (.pixelDieConfigReloaded dt p) s fun e =>
      pixAt e p = { q with state := 5 } ∧ (∀ j, j ≠ p.val → pixAt e j = pixAt d j) ∧
      (∀ i x, x < 256 → (∃ v, tfind d.record (regKey i x) = some v) → Rising d.record → entryDie d.record (regKey i x) = some p.val →
        storeGet e.force i x = storeGet d.record i x) ∧
      Keeps [.pix, .force, .layers, .heads, .tags, .wbs, .cams, .links] (fun x i => 0x5480 ≤ x ∧ i = 0x41) d e)

/-! ### CANopen FD and status telegrams (spec/11, spec/15) -/

/-- R307 to R309, R314, R437: NMT commands set the state, a reset of communication takes the settings of 0x2010 in force, the
heartbeat and an owed EMCY leave when due, and a port's error state is kept.
Clauses that rest on the model's choices: notes/assumptions 136, 137, 139. -/
def Obligations.CanNodesObeyNmt : Prop :=
  (∀ (dt : Nat) (s : State) (d : Device) (f : CanPort) (node : Nat), d = elapse s.dev dt → nmtHeard d f node = true →
    Does (.nmtStartRemoteNode dt f node) s (fun e => e.can = { d.can with nmt := 3 } ∧ Keeps [.can] noReg d e) ∧
    Does (.nmtEnterPreOperational dt f node) s (fun e => e.can = { d.can with nmt := 2 } ∧ Keeps [.can] noReg d e) ∧
    Does (.nmtStopRemoteNode dt f node) s (fun e => e.can = { d.can with nmt := 1 } ∧ Keeps [.can] noReg d e)) ∧
  (∀ (dt : Nat) (s : State) (d : Device) (f : CanPort) (node : Nat) (i : Instr), d = elapse s.dev dt →
    (canLive d f = false ∨ (activeCtl d ≠ some f.val ∧ peerPath d = false) ∨ (node ≠ 0 ∧ node ≠ d.can.nodes.getD f 0)) →
    i ∈ [Instr.nmtStartRemoteNode dt f node, .nmtEnterPreOperational dt f node, .nmtStopRemoteNode dt f node,
      .nmtResetCommunication dt f node, .nmtResetNode dt f node] → Does i s (fun e => Keeps [] noReg d e)) ∧
  (∀ (dt : Nat) (s : State) (d : Device) (f : CanPort) (node : Nat) (c : CanUnit), d = elapse s.dev dt → nmtHeard d f node = true →
    c = { d.can with nmt := 3, nodes := [regN d 0x2010 1, regN d 0x2010 2], rates := (regN d 0x2010 3, regN d 0x2010 4),
                     sentAt := [], sent := [], latched := [] } →
    Does (.nmtResetCommunication dt f node) s (fun e => e.can = c ∧ Keeps [.can] noReg d e) ∧
    Does (.nmtResetNode dt f node) s (fun e => e.can = c ∧ Keeps [.can] noReg d e)) ∧
  (∀ (dt : Nat) (s : State) (d : Device) (f : CanPort), d = elapse s.dev dt → canLive d f = true →
    d.can.beatAt.getD f 0 + regN d 0x1017 0 * 1000000 ≤ d.mono →
    Does (.canHeartbeat dt f) s fun e =>
      e.can = { d.can with beatAt := d.can.beatAt.set f d.mono } ∧
      e.tx = d.tx ++ [Msg.mk (4 + f) 5 (0x700 + d.can.nodes.getD f 0) (beBytes 1 (nmtByte d.can.nmt))] ∧
      Keeps [.can, .tx] noReg d e) ∧
  (∀ (dt : Nat) (s : State) (d : Device) (r : EventRec), d = elapse s.dev dt → d.can.waiting = some r → emcyOn d = true →
    emcyInhibited d = false →
    Does (.emcyInhibitEnd dt) s fun e =>
      e.can = { d.can with emcyAt := some d.mono, waiting := none } ∧
      e.tx = (sendCan d (regN d 0x1014 0 % 2048) (emcyBody d r)).tx ∧ Keeps [.can, .tx] noReg d e) ∧
  (∀ (dt : Nat) (s : State) (d : Device) (f : CanPort) (st : CanErr), d = elapse s.dev dt → ctlUp d f = true →
    Does (.canErrorStateChange dt f st) s fun e =>
      e.can = { d.can with errs := d.can.errs.set f (canErrCode st) } ∧
      (st = .busOff → d.can.errs.getD f 0 ≠ 1 → Counted d e 0x2010 8 1) ∧
      ((st ≠ .busOff ∨ d.can.errs.getD f 0 = 1) → regN e 0x2010 8 = regN d 0x2010 8) ∧
      Keeps [.can] (fun x i => x = 0x2010 ∧ i = 8) d e)

/-- R288, R310, R313, R335, R439: an RPDO updates the tags it maps, event timers and due telegrams send their TPDOs, and EVENT
messages carry up to 40 records.
Clauses that rest on the model's choices: notes/assumptions 4, 135, 138. -/
def Obligations.PdosTelegramsAndEventsAreSent : Prop :=
  (∀ (dt : Nat) (s : State) (d : Device) (f : CanPort) (cob n t v x : Nat) (data : List Byte), d = elapse s.dev dt →
    canLive d f = true → d.can.nmt = 3 → ((List.range 64).filter fun n => regN d (0x1400 + n) 1 == cob % 2048) = [n] →
    rpdoFields (mapEntries d (0x1600 + n)) data = some [(v, x)] → mapIdx v = 0x6000 + t → TagOpen d t →
    Does (.rpdo dt f cob data) s fun e =>
      TagTaken d e f t x ∧ Keeps [.tags] (fun y i => y = 0x6000 + t ∧ i = 0x24) d e) ∧
  (∀ (dt : Nat) (s : State) (d : Device) (m : Fin 16) (vals : List (Nat × Nat)), d = elapse s.dev dt → (activeCtl d).isSome = true →
    regN d (0x1800 + m) 2 = 0xFF → pdoValid (regN d (0x1800 + m) 1) = true → d.can.nmt = 3 → 0 < regN d (0x1A00 + m) 0 →
    tget d.can.sentAt m 0 + regN d (0x1800 + m) 5 * 1000000 ≤ d.mono → vals = tget d.can.latched m (tpdoSample d m) →
    Does (.tpdoEventTimer dt m) s fun e =>
      tget e.can.sentAt m 0 = d.mono ∧ tfind e.can.sent m = some vals ∧
      (∃ l, e.tx = (sendCan d (regN d (0x1800 + m) 1 % 2048) (vals.flatMap fun y => leBytes y.1 y.2)).tx ++ l) ∧
      Keeps pushParts pushReg d e) ∧
  (∀ (dt : Nat) (s : State) (d : Device) (go : List Telegram), d = elapse s.dev dt → (activeCtl d).isSome = true →
    go = d.sup.telegrams.filter (fun t => t.late || decide (telegramLeft d t ≤ 0)) →
    Does (.telegramDue dt) s fun e =>
      e.sup.telegrams = d.sup.telegrams.filter (fun t => !(t.late || decide (telegramLeft d t ≤ 0))) ∧
      Counted d e 0x2700 0x14 go.length ∧ Counted d e 0x2700 0x13 (go.countP (·.late)) ∧ Keeps pushParts pushReg d e) ∧
  (∀ (dt : Nat) (s : State) (d : Device) (k : SessNo) (x : Session) (b : List Byte), d = elapse s.dev dt → x = sessAt d k →
    sessOpen d k = true → (activeCtl d).isSome = true → x.events ≠ [] → x.counter + 1 < 0xFFFFFFF0 →
    b = (x.events.take 40).flatMap recBytes →
    Does (.eventMessageSend dt k) s fun e =>
      sessAt e k = { x with events := x.events.drop 40, counter := x.counter + 1 } ∧
      (∀ j, j ≠ k.val → sessAt e j = sessAt d j) ∧
      e.tx = d.tx ++ [Msg.mk x.port 2 k (dxpSealed x.keys (dxpHeader k (x.counter + 1) 0xC1 0 0 b.length 0) (x.counter + 1) b)] ∧
      Keeps [.sup, .tx] noReg d e)

/-! ### DXP and USDO (spec/11) -/

/-- R315, R316, R319 to R322: ARP and echo are answered, bad datagrams are dropped and counted, and a handshake runs from HELLO to
ACCEPT, or is rejected.
Clauses that rest on the model's choices: notes/assumptions 4, 10, 141, 215. -/
def Obligations.HandshakesOpenSessions : Prop :=
  (∀ (dt : Nat) (s : State) (d : Device) (port : EthPort) (echo : Bool) (peer : Endpoint), d = elapse s.dev dt →
    hostPort d port = true →
    Does (.arpIcmpEchoRequest dt port echo peer) s fun e =>
      e.tx = d.tx ++ [Msg.mk port 4 (endpointWord peer) [if echo then 1 else 0]] ∧ Keeps [.tx] noReg d e) ∧
  (∀ (dt : Nat) (s : State) (d : Device) (port : EthPort) (k : SessNo), d = elapse s.dev dt → dxpHeard d port = true →
    Does (.dxpDatagramDropped dt port .header) s (fun e => Keeps [] noReg d e) ∧
    (sessOpen d k = true → Does (.dxpDatagramDropped dt port (.tag k)) s fun e =>
      Counted d e 0x2020 0x0E 1 ∧ Keeps (.limits :: eventParts) (fun x i => eventReg x i ∨ (x = 0x2020 ∧ i = 0x0E)) d e) ∧
    (sessOpen d k = false → Does (.dxpDatagramDropped dt port (.noSession k)) s fun e =>
      Counted d e 0x2020 0x0E 1 ∧ Keeps (.limits :: eventParts) (fun x i => eventReg x i ∨ (x = 0x2020 ∧ i = 0x0E)) d e)) ∧
  (∀ (dt : Nat) (s : State) (d g : Device) (port : EthPort) (peer : Endpoint) (m : Hello) (k : Nat) (c : List Byte),
    d = elapse s.dev dt → dxpHeard d port = true → g = dropHandshake d peer → helloSession g m = (k, 0) → c = challengeBytes d k m →
    Does (.dxpHello dt port peer m) s fun e =>
      (sessAt e k).state = 2 ∧
      e.sup.handshakes = (d.sup.handshakes.filter fun h => h.peer.ip != peer.ip) ++
        [Handshake.mk peer port k m (padTo 32 (Config.randomBytes d.fresh)) d.fresh c d.mono] ∧
      e.tx = d.tx ++ [Msg.mk port 3 (endpointWord peer) (dxpHeader 0xFF 0 0xF2 0 0 c.length 0 ++ c)] ∧
      e.fresh = d.fresh + 1 ∧ Keeps [.sup, .tx, .fresh] noReg d e) ∧
  (∀ (dt : Nat) (s : State) (d g : Device) (port : EthPort) (peer : Endpoint) (m : Hello) (k code : Nat), d = elapse s.dev dt →
    dxpHeard d port = true → g = dropHandshake d peer → helloSession g m = (k, code) → code ≠ 0 →
    Does (.dxpHello dt port peer m) s fun e =>
      Counted d e 0x2020 0x0C 1 ∧ regN e 0x2020 0x0D = code ∧ Logged d e 7 (0x20200000 + code) ∧ handshakeOf e peer = none ∧
      Keeps auditParts (fun x i => eventReg x i ∨ (x = 0x2020 ∧ (i = 0x0C ∨ i = 0x0D))) d e) ∧
  (∀ (dt : Nat) (s : State) (d g : Device) (port : EthPort) (peer : Endpoint) (sig : List Byte) (h : Handshake) (roles code : Nat),
    d = elapse s.dev dt → dxpHeard d port = true → handshakeOf d peer = some h → handshakeLate d h = false →
    g = (if (Config.chainAnchor (regB d 0x2020 9) h.hello.chain).isSome = true ∧ (baseOf (ctlAt d (supDie d)) 0).st = 1 then
      raise d (supDie d) 52 0x2020 else d) → proveCheck g h sig = (roles, code) →
    Does (.dxpProve dt port peer sig) s fun e =>
      (code = 0 → (sessAt e h.session).state = 3 ∧ (sessAt e h.session).roles = roles ∧ (sessAt e h.session).peer = h.peer ∧
        (sessAt e h.session).port = port ∧ (sessAt e h.session).counter = 0 ∧ (sessAt e h.session).top = 0 ∧
        (sessAt e h.session).keys = sessionKeys h sig ∧ Counted d e 0x2020 0x0B 1 ∧
        Logged d e 6 ((0x2030 + h.session) * 65536 + 1)) ∧
      (code ≠ 0 → Counted d e 0x2020 0x0C 1 ∧ regN e 0x2020 0x0D = code ∧ Logged d e 7 (0x20200000 + code)) ∧
      handshakeOf e peer = none ∧
      Keeps auditParts (fun x i => eventReg x i ∨ (x = 0x2020 ∧ 0x0B ≤ i ∧ i ≤ 0x0D) ∨
        (x = 0x2030 + h.session ∧ 0x0A ≤ i ∧ i ≤ 0x0D)) d e) ∧
  (∀ (dt : Nat) (s : State) (d : Device) (peer : Endpoint) (h : Handshake), d = elapse s.dev dt → handshakeOf d peer = some h →
    (activeCtl d).isSome = true → handshakeLate d h = true →
    Does (.handshakeTimeout dt peer) s fun e =>
      handshakeOf e peer = none ∧ Counted d e 0x2020 0x0C 1 ∧ regN e 0x2020 0x0D = 55 ∧ Logged d e 7 (0x20200000 + 55) ∧
      Keeps auditParts (fun x i => eventReg x i ∨ (x = 0x2020 ∧ (i = 0x0C ∨ i = 0x0D))) d e)

/-- R297, R317, R323 to R325: a new request of a session is executed once and answered; reads answer the value, blocks part of it.
Clauses that rest on the model's choices: notes/assumptions 4, 152, 153, 208, 212. -/
def Obligations.RequestsAreExecutedAndAnswered : Prop :=
  (∀ (dt : Nat) (s : State) (d g : Device) (port : EthPort) (peer : Endpoint) (k : SessNo) (seq idx sub : Nat) (v : List Byte),
    d = elapse s.dev dt → NewRequest d port k seq → g = heardFrom d port peer k seq → readCode g (sessWho k) idx sub = 1 →
    v = valWire idx sub (readReg g idx sub) → v.length ≤ 1396 →
    Does (.dxpRead dt port peer k seq idx sub) s fun e =>
      Answered d e port k seq 1 sub idx 1 v ∧ (sessAt e k).top = seq ∧ (sessAt e k).peer = peer ∧
      e.cmp = (if d.cmp.kind = 0 then d.cmp else
        { d.cmp with decided := d.cmp.decided ++ beBytes 2 idx ++ beBytes 1 sub ++ beBytes 1 1 ++ sha256 [] }) ∧
      Keeps [.sup, .tx, .cmp, .queues, .rails, .cams] (fun x _ => x = idx ∨ x = 0x10000 + idx) d e) ∧
  (∀ (dt : Nat) (s : State) (d g : Device) (port : EthPort) (peer : Endpoint) (k : SessNo) (seq idx sub code : Nat),
    d = elapse s.dev dt → NewRequest d port k seq → g = heardFrom d port peer k seq → readCode g (sessWho k) idx sub = code →
    code ≠ 1 →
    Does (.dxpRead dt port peer k seq idx sub) s fun e =>
      Answered d e port k seq 1 sub idx code [] ∧ Counted d e (0x2030 + k) 0x0B 1 ∧
      regN e (0x2030 + k) 0x0A = idx % 65536 * 65536 + sub % 256 * 256 + code ∧
      Keeps [.sup, .tx, .cmp] (fun x i => x = 0x2030 + k ∧ (i = 0x0A ∨ i = 0x0B)) d e) ∧
  (∀ (dt : Nat) (s : State) (d g : Device) (port : EthPort) (peer : Endpoint) (k : SessNo) (seq idx : Nat) (b : List Byte),
    d = elapse s.dev dt → NewRequest d port k seq → g = heardFrom d port peer k seq → (objOf idx).isSome = true →
    (∀ sub ∈ readableSubs idx, readCode g (sessWho k) idx sub = 1) → b = (readableSubs idx).flatMap (readAllPart g idx) →
    b.length ≤ 1396 →
    Does (.dxpReadAll dt port peer k seq idx) s fun e =>
      Answered d e port k seq 3 0 idx 1 b ∧ (sessAt e k).top = seq ∧
      Keeps [.sup, .tx, .cmp, .queues, .rails, .cams] (fun x _ => x = idx ∨ x = 0x10000 + idx) d e) ∧
  (∀ (dt : Nat) (s : State) (d g : Device) (port : EthPort) (peer : Endpoint) (k : SessNo) (seq idx sub len : Nat) (b : List Byte),
    d = elapse s.dev dt → NewRequest d port k seq → g = heardFrom d port peer k seq → readCode g (sessWho k) idx sub = 1 →
    b = valWire idx sub (readReg g idx sub) → 1 ≤ len → len ≤ 1024 → len ≤ b.length →
    Does (.dxpBlockRead dt port peer k seq idx sub 0 len) s fun e =>
      Answered d e port k seq 4 sub idx 1 (b.take len) ∧
      (sessAt e k).rdCopy = (if b.length ≤ len ∧ inPlace idx sub b.length = true then none
        else some (idx, sub, if inPlace idx sub b.length then [] else b)) ∧
      Keeps [.sup, .tx, .cmp, .queues, .rails, .cams] (fun x _ => x = idx ∨ x = 0x10000 + idx) d e) ∧
  (∀ (dt : Nat) (s : State) (d : Device) (port : EthPort) (peer : Endpoint) (k : SessNo) (seq idx sub total : Nat) (data : List Byte),
    d = elapse s.dev dt → NewRequest d port k seq → data.length ≤ 1024 →
    Does (.dxpBlockWrite dt port peer k seq idx sub 0 false total data) s fun e =>
      Answered d e port k seq 5 sub idx 1 [] ∧ (sessAt e k).wr = some (idx, sub, data) ∧ Keeps [.sup, .tx, .cmp] noReg d e) ∧
  (∀ (dt : Nat) (s : State) (d : Device) (port : EthPort) (peer : Endpoint) (k : SessNo) (seq idx sub off total : Nat) (last : Bool)
    (data : List Byte), d = elapse s.dev dt → NewRequest d port k seq → 0 < off → data.length ≤ 1390 →
    (∀ i j b, (sessAt d k).wr = some (i, j, b) → i ≠ idx ∨ j ≠ sub ∨ b.length ≠ off) →
    Does (.dxpBlockWrite dt port peer k seq idx sub off last total data) s fun e =>
      Answered d e port k seq 5 sub idx 13 [] ∧ (sessAt e k).wr = none ∧
      Keeps [.sup, .tx, .cmp] (fun x i => x = 0x2030 + k ∧ (i = 0x0A ∨ i = 0x0B)) d e) ∧
  (∀ (dt : Nat) (s : State) (d : Device) (port : EthPort) (peer : Endpoint) (k : SessNo) (seq idx sub off total : Nat) (last : Bool)
    (data : List Byte), d = elapse s.dev dt → 1390 < data.length →
    Does (.dxpBlockWrite dt port peer k seq idx sub off last total data) s fun e => Keeps [] noReg d e) ∧
  (∀ (dt : Nat) (s : State) (d : Device) (port : EthPort) (peer : Endpoint) (k : SessNo) (seq : Nat), d = elapse s.dev dt →
    NewRequest d port k seq →
    Does (.dxpKeepalive dt port peer k seq) s fun e =>
      Answered d e port k seq 7 0 0 1 [] ∧ (sessAt e k).lastReq = d.mono ∧ (sessAt e k).peer = peer ∧ Keeps [.sup, .tx, .cmp] noReg d e) ∧
  (∀ (dt : Nat) (s : State) (d : Device) (port : EthPort) (peer : Endpoint) (k : SessNo) (seq t v : Nat) (st : Option Nat),
    d = elapse s.dev dt → NewRequest d port k seq → holds ((sessAt d k).roles % 32) 4 = true → t ≤ 4095 → TagOpen d t →
    Does (.dxpTagTelegram dt port peer k seq 1 18 [TagEntry.mk t st v false]) s fun e =>
      Answered d e port k seq 6 0 0 1 (beBytes 2 1) ∧ TagTaken d e (ctlOfPort port) t v ∧
      Keeps [.sup, .tx, .cmp, .tags] (fun x i => x = 0x6000 + t ∧ i = 0x24) d e)

/-- R295, R323, R327, R328, R357: a write is executed as R295 says and its answer waits for the checkpoint and the audit record it is
owed; a session closes at its own word or when it falls silent.
Clauses that rest on the model's choices: notes/assumptions 150, 156. -/
def Obligations.WritesAreHeldAndSessionsClose : Prop :=
  (∀ (dt : Nat) (s : State) (d g f : Device) (port : EthPort) (peer : Endpoint) (k : SessNo) (seq idx sub c : Nat) (v : Val),
    d = elapse s.dev dt → NewRequest d port k seq → (valBytes v).length ≤ 1400 → g = heardFrom d port peer k seq →
    selfClose g k idx sub v = false →
    writeOp g (sessWho k) idx sub v = (f, c) → Settled f k →
    Does (.dxpWrite dt port peer k seq idx sub v) s fun e =>
      (auditHead f = auditHead d → ckptHolding f = false → Answered f e port k seq 2 sub idx c []) ∧
      ((auditHead f ≠ auditHead d ∨ ckptHolding f = true) → e.tx = f.tx ∧
        ∃ a ∈ (sessAt e k).answers, a.seq = seq ∧ a.status = c ∧ a.sent = false ∧ a.ckpt = ckptHolding f ∧
          a.audit = (if auditHead f = auditHead d then none else some (auditHead f))) ∧
      (∀ j, j ≠ k.val → sessAt e j = sessAt f j) ∧ Keeps [.sup, .tx] noReg f e) ∧
  (∀ (dt : Nat) (s : State) (d : Device) (port : EthPort) (peer : Endpoint) (k : SessNo) (seq idx sub : Nat) (v : Val),
    d = elapse s.dev dt → 1400 < (valBytes v).length →
    Does (.dxpWrite dt port peer k seq idx sub v) s fun e => Keeps [] noReg d e) ∧
  (∀ (dt : Nat) (s : State) (d : Device) (port : EthPort) (peer : Endpoint) (k : SessNo) (seq : Nat), d = elapse s.dev dt →
    NewRequest d port k seq →
    Does (.dxpClose dt port peer k seq) s fun e => Closed d e k 1 ∧ (∃ l, e.tx = d.tx ++ l ∧ l ≠ []) ∧ Keeps (.cmp :: pushParts) pushReg d e) ∧
  (∀ (dt : Nat) (s : State) (d : Device) (k : SessNo), d = elapse s.dev dt → (activeCtl d).isSome = true → sessOpen d k = true →
    (sessAt d k).lastReq + regN d 0x2020 3 * 10 ^ 9 ≤ d.mono →
    Does (.sessionIdleTimeout dt k) s fun e => Closed d e k 2 ∧ Keeps pushParts pushReg d e) ∧
  (∀ (dt : Nat) (s : State) (d f : Device) (p : CanPort) (node idx sub c : Nat) (v : Val), d = elapse s.dev dt →
    served d (.can p node) = true → writeOp d (.can p node) idx sub v = (f, c) →
    Does (.usdoDownload dt p node idx sub v) s fun e =>
      e.tx = (if c = 1 then usdoAnswer f p node 0 idx sub [] else usdoAnswer f p node 2 idx sub (leBytes 4 (usdoAbort c))).tx ∧
      Keeps [.tx] noReg f e) ∧
  (∀ (dt : Nat) (s : State) (d : Device) (p : CanPort) (node idx sub : Nat), d = elapse s.dev dt → served d (.can p node) = true →
    readCode d (.can p node) idx sub = 1 →
    Does (.usdoUpload dt p node idx sub) s fun e =>
      e.tx = (usdoAnswer d p node 1 idx sub (valCan idx sub (readReg d idx sub))).tx ∧
      e.cmp = (if d.cmp.kind = 0 then d.cmp else
        { d.cmp with decided := d.cmp.decided ++ beBytes 2 idx ++ beBytes 1 sub ++ beBytes 1 1 ++ sha256 [] }) ∧
      Keeps [.tx, .cmp, .queues, .rails, .cams] (fun x _ => x = idx ∨ x = 0x10000 + idx) d e)

/-- R372 to R376, R361: a commit writes the slot that does not hold the newest checkpoint and its record makes it valid; answers wait
for it, and for the audit records they are owed, no longer than that.
Clauses that rest on the model's choices: notes/assumptions 106, 121, 132, 191, 210. -/
def Obligations.CheckpointsAndAuditRecordsRelease : Prop :=
  (∀ (dt : Nat) (s : State) (d : Device) (a o : Nat), d = elapse s.dev dt → activeCtl d = some a → standbyIn d ckptRoles = some o →
    ckptHolding d = true →
    Does (.checkpointCommit dt) s fun e =>
      (if peerPath d = true ∧ barred d a 5 false = false ∧ barred d o 5 true = false then
         ckptAt (ctlAt e o) (spareSlot (ctlAt d o)) = ckptCapture d a (regN d 0x2310 1 % 2 ^ 63 + 1) ∧
         ckptAt (ctlAt e o) (1 - spareSlot (ctlAt d o)) = ckptAt (ctlAt d o) (1 - spareSlot (ctlAt d o)) ∧
         (∀ c, c ≠ o → ctlAt e c = ctlAt d c) ∧ Keeps [.ctls] noReg d e
       else Keeps (.limits :: auditParts) (fun x j => eventReg x j ∨ (0x2400 ≤ x ∧ j = 8)) d e)) ∧
  (∀ (dt : Nat) (s : State) (d : Device) (o i : Nat), d = elapse s.dev dt → ckptWriting d = some (o, i) →
    Does (.checkpointCommitDone dt) s fun e =>
      ckptAt (ctlAt e o) i = { ckptAt (ctlAt d o) i with st := 3, record := commitRecord i (ckptAt (ctlAt d o) i) } ∧
      ckptAt (ctlAt e o) (1 - i) = ckptAt (ctlAt d o) (1 - i) ∧
      regN e 0x2310 1 = 2 ^ 63 + (ckptAt (ctlAt d o) i).seq % 2 ^ 63 ∧ regN e 0x2310 4 = 2 ^ 63 + (ckptAt (ctlAt d o) i).tb3 ∧
      regN e 0x2310 3 = 2 ^ 31 + (ckptAt (ctlAt d o) i).payload.length ∧
      (norOf e o).log = (d.audit.filter fun r => decide (r.num ≤ (ckptAt (ctlAt d o) i).auditHead)) ∧
      Counted d e 0x2310 5 1 ∧ (∀ c, c ≠ o → ctlAt e c = ctlAt d c) ∧
      Keeps (.ctls :: .fresh :: pushParts) (fun x j => pushReg x j ∨ x = 0x2310) d e) ∧
  (∀ (dt : Nat) (s : State) (d : Device) (n : Nat) (rest : List Nat), d = elapse s.dev dt → d.awaiting = n :: rest →
    (activeCtl d).isSome = true →
    Does (.auditRecordProgrammed dt) s fun e =>
      (∃ l, e.awaiting = rest ++ l) ∧ (norOf e (supDie d)).log = (d.audit.filter fun r => decide (r.num ≤ n)) ∧
      e.can.held = (d.can.held.filter fun h => decide (n < h.1)) ∧
      (∀ k m, k < 8 → sessOpen d k = true → ∀ a ∈ (sessAt e k).answers, a.sent = false → a.audit = some m → n < m) ∧
      Keeps (.ctls :: pushParts) pushReg d e)

/-! ### Requests: configuration of what is shown (spec/01, spec/05, spec/06) -/

/-- R140, R152, R158, R159, R169, R170: a commit captures what is staged and goes to the die of its unit for the next close; a
lock holds at once.
Clauses that rest on the model's choices: notes/assumptions 61, 62, 197. -/
def Obligations.CommitsCaptureWhatIsStaged : Prop :=
  (∀ (dt : Nat) (s : State) (d : Device) (who : Requester) (n : LayerNo) (p : Nat), d = elapse s.dev dt → p = dieOfLayer n →
    Allowed d who (0x4000 + n) 0x14 (.num 1) →
    Does (.layerCommit dt who n) s fun e =>
      regN e (0x4000 + n) 0x15 = 3 ∧
      (queueAt e p).ctl = (queueAt d p).ctl ++ [.layer n (commitNow d p (pickVals d.regs (0x4000 + n) 1 0x13))] ∧
      (∀ q, q ≠ p → queueAt e q = queueAt d q) ∧
      Keeps (.queues :: .mems :: writeParts) (fun x i => eventReg x i ∨ (x = 0x4000 + n ∧ i = 0x15)) d e) ∧
  (∀ (dt : Nat) (s : State) (d : Device) (who : Requester) (h : HeadNo) (p : Nat), d = elapse s.dev dt → p = dieOfHead h →
    Allowed d who (0x4800 + h) 0x19 (.num 1) →
    Does (.headCommit dt who h) s fun e =>
      regN e (0x4800 + h) 0x1A = 3 ∧
      (queueAt e p).ctl = (queueAt d p).ctl ++
        [.head h { commitNow d p (pickVals d.regs (0x4800 + h) 1 0x18) with audit := !holds (rolesOf d who) 8 }] ∧
      (∀ q, q ≠ p → queueAt e q = queueAt d q) ∧
      Keeps (.queues :: .mems :: writeParts) (fun x i => eventReg x i ∨ (x = 0x4800 + h ∧ i = 0x1A)) d e) ∧
  (∀ (dt : Nat) (s : State) (d : Device) (who : Requester) (h : HeadNo) (p : Nat), d = elapse s.dev dt → p = dieOfHead h →
    Allowed d who (0x4900 + h) 4 (.num 1) →
    Does (.guardCommit dt who h) s fun e =>
      regN e (0x4900 + h) 0x0B = 3 ∧
      (queueAt e p).ctl = (queueAt d p).ctl ++ [.guard h (commitNow d p (pickVals d.regs (0x4900 + h) 1 3))] ∧
      (∀ q, q ≠ p → queueAt e q = queueAt d q) ∧
      Keeps (.queues :: .mems :: writeParts) (fun x i => eventReg x i ∨ (x = 0x4900 + h ∧ i = 0x0B)) d e) ∧
  (∀ (dt : Nat) (s : State) (d : Device) (who : Requester) (h : HeadNo), d = elapse s.dev dt →
    Allowed d who (0x4900 + h) 9 (.num 1) →
    Does (.guardLock dt who h) s fun e =>
      regN e (0x4900 + h) 0x0A = 2 ∧ lockedEntry e 0x4900 h 1 = true ∧
      Keeps writeParts (fun x i => eventReg x i ∨ (x = 0x4900 + h ∧ i = 0x0A)) d e) ∧
  (∀ (dt : Nat) (s : State) (d : Device) (who : Requester) (t : TagNo) (p : Nat) (vals : Table Val), d = elapse s.dev dt →
    vals = pickVals d.regs (0x6000 + t) 1 0x11 → p = tagDecider d t vals → Allowed d who (0x6000 + t) 0x12 (.num 1) →
    Does (.tagCommit dt who t) s fun e =>
      (queueAt e p).ctl = (queueAt d p).ctl ++ [.tag t (commitNow d p vals)] ∧ (∀ q, q ≠ p → queueAt e q = queueAt d q) ∧
      Keeps (.queues :: .mems :: writeParts) eventReg d e) ∧
  (∀ (dt : Nat) (s : State) (d : Device) (who : Requester) (p : Die), d = elapse s.dev dt →
    Allowed d who (pobj 0x3060 p) 6 (.num 1) →
    Does (.writebackCommit dt who p) s fun e =>
      regN e (pobj 0x3060 p) 0x0D = 3 ∧
      (queueAt e p).ctl = (queueAt d p).ctl ++ [.writeback (commitNow d p (pickVals d.regs (pobj 0x3060 p) 1 5))] ∧
      (∀ q, q ≠ p.val → queueAt e q = queueAt d q) ∧
      Keeps (.queues :: .mems :: writeParts) (fun x i => eventReg x i ∨ (x = pobj 0x3060 p ∧ i = 0x0D)) d e) ∧
  (∀ (dt : Nat) (s : State) (d : Device) (who : Requester) (p : Die) (f : Frame), d = elapse s.dev dt →
    Allowed d who (pobj 0x3060 p) 7 (.num 1) → wbForce d p 4 < 512 → (srcUnit d (wbForce d p 4) p).frame = some f →
    Does (.writebackHold dt who p) s fun e =>
      wbAt e p = { wbAt d p with held := some f } ∧ regN e (pobj 0x3060 p) 0x0B = 2 ^ 31 + f.seq ∧
      (∀ q, q ≠ p.val → wbAt e q = wbAt d q) ∧
      Keeps (.wbs :: writeParts) (fun x i => eventReg x i ∨ (x = pobj 0x3060 p ∧ i = 0x0B)) d e) ∧
  (∀ (dt : Nat) (s : State) (d : Device) (who : Requester) (p : Die), d = elapse s.dev dt →
    Allowed d who (pobj 0x3060 p) 7 (.num 2) →
    Does (.writebackRelease dt who p) s fun e =>
      wbAt e p = { wbAt d p with held := none } ∧ regN e (pobj 0x3060 p) 0x0B = 0 ∧ (∀ q, q ≠ p.val → wbAt e q = wbAt d q) ∧
      Keeps (.wbs :: writeParts) (fun x i => eventReg x i ∨ (x = pobj 0x3060 p ∧ i = 0x0B)) d e) ∧
  (∀ (dt : Nat) (s : State) (d : Device) (who : Requester), d = elapse s.dev dt → Allowed d who 0x5C00 6 (.num 1) →
    Does (.policyLock dt who) s fun e =>
      regN e 0x5C00 7 = 2 ∧ (∀ i, 1 ≤ i → i ≤ 6 → lockedEntry e 0x5C00 0 i = true) ∧
      measOf (ctlAt e (supDie d)) 5 =
        sha256 (measOf (ctlAt d (supDie d)) 5 ++ padTo 32 (sha256 (policyBytes (setN d 0x5C00 7 2)))) ∧
      Keeps (.ctls :: writeParts) (fun x i => eventReg x i ∨ (x = 0x5C00 ∧ i = 7)) d e)

/-- R161, R287: a launch sends a scene's records as commits of one tick, now or at the scene's time; a cancelled scene has none
left.
Clauses that rest on the model's choices: notes/assumptions 56, 57, 58, 59, 60. -/
def Obligations.ScenesLaunchAndCancel : Prop :=
  (∀ (dt : Nat) (s : State) (d : Device) (who : Requester) (k : SceneNo) (rs : List (Nat × Table Val)), d = elapse s.dev dt →
    Allowed d who (0x4A00 + k) 4 (.num 2) → rs = sceneList d k → rs ≠ [] → (∀ r ∈ rs, recordAllowed d who r.1 r.2 = true) →
    Does (.sceneLaunchNow dt who k) s fun e =>
      sceneAt e k = { waiting := rs.map (·.1), missed := [], refused := [], session := whoSession who } ∧
      regN e (0x4A00 + k) 5 = 2 ∧ regN e (0x4A00 + k) 6 = 2 ^ 63 + openTick d % 2 ^ 48 ∧
      (∀ p, (queueAt e p).ctl = (queueAt d p).ctl ++ (rs.filter fun r => r.1 / 32 == p).map fun r =>
        .layer r.1 { commitNow d p r.2 with scene := some k.val, lut := false }) ∧
      (∀ r ∈ rs, regN e (0x4000 + r.1) 0x15 = 3) ∧
      Keeps (.queues :: .mems :: writeParts)
        (fun x i => eventReg x i ∨ (x = 0x4A00 + k ∧ 5 ≤ i ∧ i ≤ 8) ∨ (i = 0x15 ∧ ∃ r ∈ rs, x = 0x4000 + r.1)) d e) ∧
  (∀ (dt : Nat) (s : State) (d : Device) (who : Requester) (k : SceneNo) (rs : List (Nat × Table Val)) (t : Nat),
    d = elapse s.dev dt → Allowed d who (0x4A00 + k) 4 (.num 1) → rs = sceneList d k → rs ≠ [] →
    (∀ r ∈ rs, recordAllowed d who r.1 r.2 = true) → t = max (launchInstant d k) (openTick d) →
    Does (.sceneLaunchAtTime dt who k) s fun e =>
      sceneAt e k = { waiting := rs.map (·.1), missed := [], refused := [], session := whoSession who } ∧
      regN e (0x4A00 + k) 5 = 2 ∧ regN e (0x4A00 + k) 6 = 2 ^ 63 + tickFrom d t % 2 ^ 48 ∧
      (∀ p, (queueAt e p).ctl = (queueAt d p).ctl ++ (rs.filter fun r => r.1 / 32 == p).map fun r =>
        .layer r.1 { commitNow d p r.2 with aim := tickFrom d t, at_ := some (launchInstant d k), scene := some k.val, lut := false }) ∧
      (∀ r ∈ rs, regN e (0x4000 + r.1) 0x15 = 3) ∧
      Keeps (.queues :: .mems :: writeParts)
        (fun x i => eventReg x i ∨ (x = 0x4A00 + k ∧ 5 ≤ i ∧ i ≤ 8) ∨ (i = 0x15 ∧ ∃ r ∈ rs, x = 0x4000 + r.1)) d e) ∧
  (∀ (dt : Nat) (s : State) (d : Device) (who : Requester) (k : SceneNo), d = elapse s.dev dt →
    Allowed d who (0x4A00 + k) 4 (.num 3) →
    Does (.sceneCancel dt who k) s fun e =>
      (sceneAt e k).waiting = [] ∧ regN e (0x4A00 + k) 5 = 5 ∧
      (∀ (p n : Nat) (c : Commit), p < 6 → c.scene = some k.val → CtlMsg.layer n c ∉ (queueAt e p).ctl) ∧
      (∀ n ∈ (sceneAt d k).waiting, ofScene k (layerAt e n).pending = false) ∧
      Keeps (.fresh :: .layers :: .queues :: .mems :: writeParts)
        (fun x i => eventReg x i ∨ (x = 0x4A00 + k ∧ i = 5) ∨ (i = 0x15 ∧ ∃ n ∈ (sceneAt d k).waiting, x = 0x4000 + n)) d e)

/-! ### Requests: sources, inputs, touch, memory, supply, time, rules -/

/-- R84, R85, R87, R119, R120, R168, R247, R259, R269: a tag takes a written value, and camera inputs and touch links start when
enabled and are empty when disabled, sources at the next snapshot of their owner.
Clauses that rest on the model's choices: notes/assumptions 94, 142, 177, 178. -/
def Obligations.InputsStartAndStop : Prop :=
  (∀ (dt : Nat) (s : State) (d : Device) (who : Requester) (t : TagNo) (v : Nat), d = elapse s.dev dt →
    Allowed d who (0x6000 + t) 0x20 (.num v) → TagOpen d t →
    Does (.tagValueWrite dt who t v) s fun e =>
      TagTaken d e (match who with | .session k => ctlOfPort (sessAt d k).port | .can f _ => f | .bundle => supDie d) t v ∧
      Keeps (.tags :: writeParts) (fun x i => eventReg x i ∨ (x = 0x6000 + t ∧ i = 0x24)) d e) ∧
  (∀ (dt : Nat) (s : State) (d : Device) (who : Requester) (src : SourceNo), d = elapse s.dev dt →
    Allowed d who (0x5000 + src) 2 (.num 1) → srcOn d src = false →
    Does (.sourceEnableWrite dt who src true) s fun e =>
      regN e (0x5000 + src) 2 = 1 ∧ srcEnabled e src = srcEnabled d src ∧
      (srcCfg d src 1 = 2 → regN e (0x5000 + src) 4 = samplingFormat (srcCfg d src 0x18)) ∧
      ((srcCfg d src 1 = 3 ∨ srcCfg d src 1 = 5) → regN e (0x5000 + src) 7 = 3) ∧
      Keeps writeParts (fun x i => eventReg x i ∨ (x = 0x5000 + src ∧ (i = 2 ∨ i = 4 ∨ i = 7))) d e) ∧
  (∀ (dt : Nat) (s : State) (d : Device) (who : Requester) (src : SourceNo), d = elapse s.dev dt →
    Allowed d who (0x5000 + src) 2 (.num 0) → srcOn d src = true →
    Does (.sourceEnableWrite dt who src false) s fun e =>
      regN e (0x5000 + src) 2 = 0 ∧ srcEnabled e src = srcEnabled d src ∧ regN e (0x15000 + src) 2 = 1 ∧
      Keeps writeParts (fun x i => eventReg x i ∨ ((x = 0x5000 + src ∨ x = 0x15000 + src) ∧ i = 2)) d e) ∧
  (∀ (dt : Nat) (s : State) (d : Device) (p : Die) (src : SourceNo), d = elapse s.dev dt → pixUp d p = true →
    (pixAt d p).tb1.loaded = true → (pixAt d p).closes = (pixAt d p).ticks →
    aimTick d (pixAt d p) ≤ (pixAt d p).tb1.ns + regN d 0x2110 4 * 1000 → srcOwner d src = p → srcCfg d src 1 ≠ 4 →
    Does (.commitWindowClose dt p) s fun e =>
      (srcEnabled d src = false → srcOn d src = true →
        srcEnabled e src = true ∧ (srcUnit e src p).present = true ∧ (srcUnit e src p).owner = true ∧ (srcUnit e src p).state = 2 ∧
        (srcUnit e src p).frame = none ∧ (srcUnit e src p).lastSignal = d.mono) ∧
      (srcEnabled d src = true → srcOn d src = false → regN d (0x15000 + src) 2 = 1 → (srcUnit d src p).present = true →
        srcEnabled e src = false ∧ srcUnit e src p = { SrcUnit.reset with present := true, owner := true, state := 1 })) ∧
  (∀ (dt : Nat) (s : State) (d : Device) (who : Requester) (i : InputNo), d = elapse s.dev dt →
    Allowed d who (0x5480 + i) 1 (.num 1) → camOn d i = false →
    Does (.cameraInputEnable dt who i true) s fun e =>
      camOn e i = true ∧
      camAt e i = { CamUnit.reset with params := stagedVals d.force (0x5480 + i) 0x10 0x1B, pending := (camAt d i).pending,
                                       lastEvent := (camAt d i).lastEvent, discards := (camAt d i).discards } ∧
      (∀ j, j ≠ i.val → camAt e j = camAt d j) ∧
      Keeps (.cams :: writeParts) (fun x y => eventReg x y ∨ (x = 0x5480 + i ∧ y = 1)) d e) ∧
  (∀ (dt : Nat) (s : State) (d : Device) (who : Requester) (i : InputNo), d = elapse s.dev dt →
    Allowed d who (0x5480 + i) 1 (.num 0) → camOn d i = true →
    Does (.cameraInputEnable dt who i false) s fun e =>
      camOn e i = false ∧ regN e (0x5480 + i) 0x4A = 0 ∧
      camAt e i = { CamUnit.reset with params := (camAt d i).params, pending := (camAt d i).pending,
                                       lastEvent := (camAt d i).lastEvent, discards := (camAt d i).discards } ∧
      (∀ k ∈ camStreams d i, ∀ o, liveOwner d (streamSource d i k) = some o → srcEnabled d (streamSource d i k) = true →
        (srcUnit e (streamSource d i k) o).state = 4) ∧
      (∀ j, j ≠ i.val → camAt e j = camAt d j) ∧
      Keeps (.cams :: .pipes :: .srcs :: writeParts) (fun x y => eventReg x y ∨ (x = 0x5480 + i ∧ (y = 1 ∨ y = 0x4A))) d e) ∧
  (∀ (dt : Nat) (s : State) (d : Device) (who : Requester) (i : InputNo), d = elapse s.dev dt →
    Allowed d who (0x5480 + i) 0x1C (.num 1) →
    Does (.cameraInputCommit dt who i) s fun e =>
      camAt e i = { camAt d i with pending := some (stagedVals d.regs (0x5480 + i) 0x10 0x1B) } ∧ regN e (0x5480 + i) 0x41 = 2 ∧
      (∀ j, j ≠ i.val → camAt e j = camAt d j) ∧
      Keeps (.cams :: writeParts) (fun x y => eventReg x y ∨ (x = 0x5480 + i ∧ y = 0x41)) d e) ∧
  (∀ (dt : Nat) (s : State) (d : Device) (who : Requester) (k : TouchNo) (on : Bool), d = elapse s.dev dt →
    Allowed d who (0x5800 + k) 1 (.num on.toNat) → regN d (0x5800 + k) 1 ≠ on.toNat →
    Does (.touchEnableWrite dt who k on) s fun e =>
      regN e (0x5800 + k) 1 = on.toNat ∧
      (on = true → (linkAt d k).step = 0 → dieStage d (dieOfLink k) < 5 →
        (linkAt e k).step = 1 ∧ (linkAt e k).since = d.mono ∧ (linkAt e k).frameNo = (linkAt d k).frameNo ∧ trackAt e k = trackAt d k) ∧
      (on = true → (linkAt d k).step = 0 → 5 ≤ dieStage d (dieOfLink k) → (linkAt e k).step = 12) ∧
      ((if on = true then (linkAt d k).step ≠ 0 else 4 ≤ (linkAt d k).step ∧ (linkAt d k).step ≤ 10) →
        linkAt e k = (if on = true then linkAt d k else { linkAt d k with off := true }) ∧ trackAt e k = trackAt d k) ∧
      (on = false → ((linkAt d k).step < 4 ∨ 10 < (linkAt d k).step) → linkAt e k = TouchUnit.reset ∧ (trackAt e k).touches = [] ∧ (trackAt e k).reports = [] ∧
        (trackAt e k).ring = (trackAt d k).ring) ∧
      (∀ j, j ≠ k.val → linkAt e j = linkAt d j ∧ trackAt e j = trackAt d j) ∧
      Keeps (.links :: .tracks :: writeParts) (fun x i => eventReg x i ∨ (x = 0x5800 + k ∧ i = 1)) d e) ∧
  (∀ (dt : Nat) (s : State) (d : Device) (who : Requester) (k : TouchNo), d = elapse s.dev dt →
    Allowed d who (0x5800 + k) 0x15 (.num 1) → 1 ≤ (linkAt d k).step → (linkAt d k).step ≤ 10 →
    Does (.touchSelfTest dt who k) s fun e =>
      linkAt e k = { linkAt d k with selfTest := true } ∧ regN e (0x5840 + k) 0x0F = 3 ∧
      (∀ j, j ≠ k.val → linkAt e j = linkAt d j) ∧
      Keeps (.links :: writeParts) (fun x i => eventReg x i ∨ (x = 0x5840 + k ∧ i = 0x0F)) d e)

/-- R231, R237, R277, R339, R342, R343, R426, R428: what a write to memory, clock, supply, time base and rule table does at once.
Clauses that rest on the model's choices: notes/assumptions 89. -/
def Obligations.DeviceSettingsTakeEffect : Prop :=
  (∀ (dt : Nat) (s : State) (d : Device) (who : Requester) (p : Die) (m : MemIf), d = elapse s.dev dt →
    Allowed d who (ifObj p m) 0x0A (.num 1) → (memIfAt d (ifKey p m)).state = 3 →
    Does (.memIfRetire dt who p m) s fun e =>
      memIfAt e (ifKey p m) = { memIfAt d (ifKey p m) with retiring := true } ∧
      (∀ j, j ≠ ifKey p m → memIfAt e j = memIfAt d j) ∧ Keeps (.ifs :: writeParts) eventReg d e) ∧
  (∀ (dt : Nat) (s : State) (d : Device) (who : Requester) (p : Die) (v want : Nat), d = elapse s.dev dt →
    Allowed d who (memObj p) 3 (.num v) → want = max v (stageFsp (dieStage d p)) → (memAt d p).inForce ≠ 0 →
    Does (.memFspLimitWrite dt who p v) s fun e =>
      regN e (memObj p) 3 = v ∧
      ((memAt d p).pending ≠ some want →
        (memAt e p).pending = (if want = (memAt d p).switching.getD (memAt d p).inForce then none else some want) ∧
        (memAt e p).asked = d.mono ∧ (memAt e p).scheduled = false ∧ (memAt e p).armed = false) ∧
      ((memAt d p).pending = some want → memAt e p = memAt d p) ∧ (memAt e p).inForce = (memAt d p).inForce ∧
      (∀ q, q ≠ p.val → memAt e q = memAt d q) ∧
      Keeps (.mems :: writeParts) (fun x i => eventReg x i ∨ (x = memObj p ∧ i = 3)) d e) ∧
  (∀ (dt : Nat) (s : State) (d : Device) (who : Requester) (v : Nat), d = elapse s.dev dt → Allowed d who 0x2210 0x0A (.num v) →
    Does (.clockMeasureRequest dt who v) s fun e =>
      clockAt e (v / 2 ^ 24) = { clockAt d (v / 2 ^ 24) with measure := some (v, v % 256, 0) } ∧
      (∀ k, k ≠ v / 2 ^ 24 → clockAt e k = clockAt d k) ∧ Keeps (.clocks :: writeParts) eventReg d e) ∧
  (∀ (dt : Nat) (s : State) (d : Device) (who : Requester) (v : Nat), d = elapse s.dev dt → Allowed d who 0x2200 8 (.num v) →
    Does (.supplyTestStage dt who v) s fun e =>
      regN e 0x2200 8 = v ∧
      (∀ p, p < 6 → (railAt e (p + 2)).forced = getField v (4 * p) 4 ∧
        (railAt e (p + 2)).stage = (if getField v (4 * p) 4 = (railAt d (p + 2)).forced then (railAt d (p + 2)).stage
          else max (railAt d (p + 2)).stage (getField v (4 * p) 4))) ∧
      (∀ k, k < 2 → railAt e k = railAt d k) ∧
      Keeps (.rails :: .ctls :: .cmp :: .mems :: .links :: .tracks :: auditParts)
        (fun x i => eventReg x i ∨ (x = 0x2200 ∧ (i = 4 ∨ i = 5 ∨ i = 8)) ∨ (x = 0x2300 ∧ (i = 8 ∨ i = 9))) d e) ∧
  (∀ (dt : Nat) (s : State) (d : Device) (who : Requester) (b : Fin 4) (sub v : Nat), d = elapse s.dev dt →
    Allowed d who (0x2100 + b) sub (.num v) →
    Does (.timebaseConfigWrite dt who b sub v) s fun e =>
      regN e (0x2100 + b) sub = v ∧
      (sub ≤ 6 → ∀ c, c < 2 → ctlUp d c = true →
        (baseAt e c b).st = (if (baseAt d c b).st = 2 then 3 else (baseAt d c b).st) ∧ (baseAt e c b).ns = (baseAt d c b).ns ∧
        (if regN d (0x2100 + b) 1 = 2 ∧ (sub = 2 ∨ sub = 6 ∨ sub + c = 5) then
           (baseAt e c b).others = (baseAt d c b).others.filter (fun f => f.gm != (baseAt d c b).gm) ∧
           (if (baseAt e c b).others.any (qualified d.mono) = true then
              ∃ f ∈ (baseAt e c b).others, qualified d.mono f = true ∧ (baseAt e c b).gm = f.gm
            else (baseAt e c b).gm = 0)
         else (baseAt e c b).others = [] ∧ (baseAt e c b).gm = 0 ∧ (baseAt e c b).delay = none)) ∧
      (6 < sub → e.ctls = d.ctls) ∧
      Keeps (.ctls :: writeParts) (fun x i => eventReg x i ∨ (x = 0x2100 + b ∧ (i = sub ∨ i = 0x19))) d e) ∧
  (∀ (dt : Nat) (s : State) (d : Device) (who : Requester) (en : Fin 128), d = elapse s.dev dt →
    Allowed d who (0x2400 + en) 9 (.num 1) →
    Does (.ruleCommit dt who en) s fun e =>
      (if ruleCrosses d en = true then regN e (0x2400 + en) 0x0A = 3 ∧ e.rules = d.rules
       else regN e (0x2400 + en) 0x0A = (if (List.range 8).all (dieUp d) = true then 1 else 2) ∧ ∀ k, k < 8 →
         ruleCopyAt e k = (if dieUp d k = true then setRule (ruleCopyAt d k) en (stagedRule d en) else ruleCopyAt d k)) ∧
      Keeps (.rules :: .force :: .ctls :: writeParts) (fun x i => eventReg x i ∨ (0x2400 ≤ x ∧ x < 0x2480 ∧ i = 0x0A)) d e) ∧
  (∀ (dt : Nat) (s : State) (d : Device) (who : Requester) (en : Fin 128), d = elapse s.dev dt →
    Allowed d who (0x2400 + en) 6 (.num 1) →
    Does (.ruleLock dt who en) s fun e =>
      (∀ k, k < 8 → ruleCopyAt e k = (if dieUp d k = true then
        { ruleCopyAt d k with locked := max (ruleCopyAt d k).locked (en + 1) } else ruleCopyAt d k)) ∧
      Keeps (.rules :: .ctls :: writeParts) (fun x i => eventReg x i ∨ (0x2400 ≤ x ∧ x < 0x2480 ∧ i = 0x0A)) d e)

/-! ### Requests: registers, sessions, security, the control dies -/

/-- R295, R299: a write that passes its checks stores its value; one that fails changes nothing but the account of its refusal.
Clauses that rest on the model's choices: notes/assumptions 146. -/
def Obligations.WritesStoreOrAreRefused : Prop :=
  (∀ (dt : Nat) (s : State) (d : Device) (who : Requester) (idx sub base u : Nat) (v : Val), d = elapse s.dev dt →
    objOf idx = some (base, u) →
    base ∉ [0x2030, 0x2100, 0x2200, 0x2210, 0x2300, 0x2400, 0x2500, 0x2520, 0x2600, 0x2700, 0x3010, 0x3014, 0x3050, 0x3060, 0x4800,
      0x4900, 0x4A00, 0x5000, 0x5480, 0x5800, 0x5C00, 0x6000] → (base = 0x4000 → sub ≠ 0x14) → Allowed d who idx sub v →
    Does (.registerWrite dt who idx sub v) s fun e =>
      reg e idx sub = v ∧ Keeps writeParts (fun x i => eventReg x i ∨ (x = idx ∧ i = sub)) d e) ∧
  (∀ (dt : Nat) (s : State) (d : Device) (k : SessNo) (idx sub code : Nat) (v : Val), d = elapse s.dev dt →
    served d (.session k) = true → writeCheck (touchSession d (.session k)) (.session k) noSigner idx sub v = code → code ≠ 1 →
    Does (.registerWrite dt (.session k) idx sub v) s fun e =>
      regN e (0x2030 + k) 0x0A = idx % 65536 * 65536 + sub % 256 * 256 + code ∧ Counted d e (0x2030 + k) 0x0B 1 ∧
      Keeps writeParts (fun x i => eventReg x i ∨ (x = 0x2030 + k ∧ (i = 0x0A ∨ i = 0x0B)) ∨
        (code = 40 ∧ i = 0x0B ∧ ∃ p, x = 0x3040 + 0x100 * p)) d e) ∧
  (∀ (dt : Nat) (s : State) (d : Device) (f : CanPort) (node idx sub code : Nat) (v : Val), d = elapse s.dev dt →
    served d (.can f node) = true → writeCheck d (.can f node) noSigner idx sub v = code → code ≠ 1 →
    Does (.registerWrite dt (.can f node) idx sub v) s fun e =>
      regN e 0x2010 9 = idx % 65536 * 65536 + sub % 256 * 256 + code ∧
      Keeps writeParts (fun x i => eventReg x i ∨ (x = 0x2010 ∧ i = 9) ∨ (code = 40 ∧ i = 0x0B ∧ ∃ p, x = 0x3040 + 0x100 * p)) d e) ∧
  (∀ (dt : Nat) (s : State) (d : Device) (who : Requester) (idx sub : Nat) (v : Val), d = elapse s.dev dt → served d who = false →
    Does (.registerWrite dt who idx sub v) s fun e => Keeps [] noReg d e)

/-- R327, R330, R335, R433: claims, releases, closing, acknowledgements and timed telegrams.
Clauses that rest on the model's choices: notes/assumptions 149, 150. -/
def Obligations.SessionsClaimCloseAndAcknowledge : Prop :=
  (∀ (dt : Nat) (s : State) (d : Device) (who : Requester) (k : SessNo) (n : Nat), d = elapse s.dev dt →
    Allowed d who (0x2030 + k) 7 (.num n) →
    Does (.sessionClaimLayer dt who k n) s fun e =>
      layerAt e n = { layerAt d n with owner := some k.val } ∧ (∀ j, j ≠ n → layerAt e j = layerAt d j) ∧
      Keeps (.layers :: writeParts) eventReg d e) ∧
  (∀ (dt : Nat) (s : State) (d : Device) (who : Requester) (k : SessNo) (n : Nat), d = elapse s.dev dt →
    Allowed d who (0x2030 + k) 8 (.num n) →
    Does (.sessionReleaseLayer dt who k n) s fun e =>
      layerAt e n = { layerAt d n with owner := none } ∧ (∀ j, j ≠ n → layerAt e j = layerAt d j) ∧
      Keeps (.layers :: writeParts) eventReg d e) ∧
  (∀ (dt : Nat) (s : State) (d : Device) (who : Requester) (k : SessNo), d = elapse s.dev dt →
    Allowed d who (0x2030 + k) 0x0E (.num 1) → sessOpen d k = true →
    Does (.sessionCloseWrite dt who k) s fun e =>
      Closed d e k (if whoSession who = some k.val then 1 else 3) ∧ Keeps (.cmp :: pushParts) pushReg d e) ∧
  (∀ (dt : Nat) (s : State) (d : Device) (who : Requester) (k : AnyDie) (n : Nat), d = elapse s.dev dt →
    Allowed d who (0x2600 + k) 5 (.num n) →
    Does (.errorRingAck dt who k n) s fun e =>
      (∃ l, (ringAt e k).recs = ((ringAt d k).recs.filter fun r => decide (n < r.num)) ++ l) ∧
      Keeps writeParts eventReg d e) ∧
  (∀ (dt : Nat) (s : State) (d : Device) (who : Requester) (rec_ : List Byte) (t : Telegram), d = elapse s.dev dt →
    Allowed d who 0x2700 0x11 (.bytes rec_) →
    t = Telegram.mk (rec_.getD 0 0).toNat (rec_.getD 1 0).toNat (bigEndian ((rec_.drop 2).take 6)) false →
    Does (.telegramLaunch dt who rec_) s fun e =>
      (0 ≤ telegramLeft d t → e.sup.telegrams = d.sup.telegrams ++ [t]) ∧
      (telegramLeft d t < 0 → e.sup.telegrams = d.sup.telegrams ∧ Counted d e 0x2700 0x14 1 ∧ Counted d e 0x2700 0x13 1) ∧
      Keeps (.cmp :: pushParts) pushReg d e)

/-- R346, R347, R352, R354: attestation quotes the device, a debug ceremony needs both approvals of one challenge, and a bundle is
taken whole or refused whole.
Clauses that rest on the model's choices: notes/assumptions 54, 116, 120. -/
def Obligations.SecurityCommandsRun : Prop :=
  (∀ (dt : Nat) (s : State) (d : Device) (who : Requester) (nonce : List Byte), d = elapse s.dev dt →
    Allowed d who 0x2500 1 (.bytes nonce) →
    Does (.attestNonceWrite dt who nonce) s fun e =>
      regB e 0x2500 2 = attestBody d nonce ++ padTo 64 (Config.deviceSign (sha256 (attestBody d nonce))) ∧
      Keeps writeParts (fun x i => eventReg x i ∨ (x = 0x2500 ∧ i = 2)) d e) ∧
  (∀ (dt : Nat) (s : State) (d : Device) (who : Requester), d = elapse s.dev dt → Allowed d who 0x2500 0x12 (.num 1) →
    Does (.debugRequest dt who) s fun e =>
      (d.pins.fuse = true → regN e 0x2500 0x16 = 6 ∧ e.sup.dbg = d.sup.dbg) ∧
      (d.pins.fuse = false → d.sup.dbg.opened = true → e.sup.dbg = d.sup.dbg) ∧
      (d.pins.fuse = false → d.sup.dbg.opened = false →
        e.sup.dbg = { d.sup.dbg with challenge := Config.randomBytes d.fresh, since := some d.mono, maint := none, audit := none } ∧
        regB e 0x2500 0x13 = padTo 32 (Config.randomBytes d.fresh) ∧ e.fresh = d.fresh + 1) ∧
      Logged d e 9 0x25001201 ∧ Keeps (.fresh :: writeParts) (fun x i => eventReg x i ∨ (x = 0x2500 ∧ (i = 0x13 ∨ i = 0x16))) d e) ∧
  (∀ (dt : Nat) (s : State) (d : Device) (who : Requester), d = elapse s.dev dt → Allowed d who 0x2500 0x12 (.num 2) →
    Does (.debugClose dt who) s fun e =>
      (d.sup.dbg.opened = true → e.sup.dbg = { d.sup.dbg with closing := true }) ∧
      (d.sup.dbg.opened = false → e.sup.dbg = d.sup.dbg) ∧ Logged d e 9 0x25001201 ∧ Keeps writeParts eventReg d e) ∧
  (∀ (dt : Nat) (s : State) (d : Device) (k : SessNo) (sig leaf : List Byte) (code : Nat), d = elapse s.dev dt →
    Allowed d (.session k) 0x2500 0x14 (.bytes sig) → leaf = (sessAt d k).leaf →
    code = approvalCode d sig leaf d.sup.dbg.audit →
    Does (.debugApproveMaint dt (.session k) sig) s fun e =>
      (challengeOver d = false → regN e 0x2500 0x16 = code ∧
        e.sup.dbg = (if code = 2 then { d.sup.dbg with maint := some (sig, leaf) } else d.sup.dbg) ∧
        Logged d e 9 (0x25001400 + code)) ∧
      (challengeOver d = true → regN e 0x2500 0x16 = 5 ∧
        e.sup.dbg = { d.sup.dbg with since := none, maint := none, audit := none }) ∧ Keeps writeParts (fun x i => eventReg x i ∨ (x = 0x2500 ∧ i = 0x16)) d e) ∧
  (∀ (dt : Nat) (s : State) (d : Device) (k : SessNo) (sig leaf : List Byte) (code : Nat), d = elapse s.dev dt →
    Allowed d (.session k) 0x2500 0x15 (.bytes sig) → leaf = (sessAt d k).leaf →
    code = approvalCode d sig leaf d.sup.dbg.maint →
    Does (.debugApproveAudit dt (.session k) sig) s fun e =>
      (challengeOver d = false → regN e 0x2500 0x16 = code ∧
        e.sup.dbg = (if code = 2 then { d.sup.dbg with audit := some (sig, leaf) } else d.sup.dbg) ∧
        Logged d e 9 (0x25001500 + code)) ∧
      (challengeOver d = true → regN e 0x2500 0x16 = 5 ∧
        e.sup.dbg = { d.sup.dbg with since := none, maint := none, audit := none }) ∧ Keeps writeParts (fun x i => eventReg x i ∨ (x = 0x2500 ∧ i = 0x16)) d e) ∧
  (∀ (dt : Nat) (s : State) (d : Device) (who : Requester) (b : List Byte) (code : Nat), d = elapse s.dev dt →
    Allowed d who 0x2500 0x0A (.num 1) → b = regB d 0x2500 9 → bundleCode d b true = code → code ≠ 1 →
    Does (.bundleApply dt who) s fun e =>
      regN e 0x2500 0x0B = code ∧ Logged d e 5 (0x25000A00 + code) ∧
      Keeps writeParts (fun x i => eventReg x i ∨ (x = 0x2500 ∧ i = 0x0B)) d e) ∧
  (∀ (dt : Nat) (s : State) (d g f : Device) (who : Requester) (b : List Byte) (failed : Option Nat), d = elapse s.dev dt →
    Allowed d who 0x2500 0x0A (.num 1) → b = regB d 0x2500 9 →
    g = (writeOne (touchSession d who) who noSigner 0x2500 0x0A (.num 1)).1 →
    applyRecords { slot := bundleSlot b, first := firstEnrolment d b, again := false } false 0 ((bundleRecords b).getD []) g = (f, failed) →
    Does (.bundleApply dt who) s fun e =>
      (bundleCode d b true = 1 → failed = none → regN e 0x2500 0x0B = 1 ∧ regN e 0x2500 0x0C = bundleSerial b ∧ regB e 0x2500 0x0D = sha256 b) ∧
      (bundleCode d b true = 1 → ∀ i, failed = some i → regN e 0x2500 0x0B = 7 + 256 * i ∧ Logged d e 5 0x25000A07 ∧
        Keeps writeParts (fun x j => eventReg x j ∨ (x = 0x2500 ∧ j = 0x0B)) d e))

/-- R379, R384, R390, R396: commands to the control dies and to pixel dies start what they name, or say why not.
Clauses that rest on the model's choices: notes/assumptions 107, 108, 118, 122. -/
def Obligations.RedundancyCommandsRun : Prop :=
  (∀ (dt : Nat) (s : State) (d : Device) (who : Requester), d = elapse s.dev dt → Allowed d who 0x2300 0x0C (.num 1) →
    Does (.redCommandDrill dt who) s fun e =>
      (standbyIn d [4] = none → regN e 0x2300 0x0D = 2) ∧
      (∀ o, standbyIn d [4] = some o → (controlBusy d = true ∨ d.sup.handover = true ∨ onProbation d = true) → regN e 0x2300 0x0D = 3) ∧
      (∀ o, standbyIn d [4] = some o → controlBusy d = false → d.sup.handover = false → onProbation d = false →
        (anyShed d 4 = true ∨ ctlShed d = true) → regN e 0x2300 0x0D = 4) ∧
      (∀ o, standbyIn d [4] = some o → controlBusy d = false → d.sup.handover = false → onProbation d = false → anyShed d 4 = false →
        ctlShed d = false → regN e 0x2300 0x0D = 1 ∧ e.sup.drillAt = d.mono ∧
        if (ctlAt d o).retained.any (fun x => imageOk d x.2) = true then roleOf e o = 5 ∧ e.cmp.kind = 2 ∧ e.cmp.shown = 2
        else roleOf e o = 9 ∧ e.cmp = d.cmp) ∧
      Keeps (.ctls :: writeParts) (fun x i => eventReg x i ∨ (x = 0x2300 ∧ i = 0x0D)) d e) ∧
  (∀ (dt : Nat) (s : State) (d : Device) (who : Requester), d = elapse s.dev dt → Allowed d who 0x2300 0x0C (.num 2) →
    Does (.redCommandHandover dt who) s fun e =>
      (standbyIn d [4] = none → regN e 0x2300 0x0D = 2) ∧
      (∀ o, standbyIn d [4] = some o → (controlBusy d = true ∨ d.sup.handover = true) → regN e 0x2300 0x0D = 3) ∧
      (∀ o, standbyIn d [4] = some o → controlBusy d = false → d.sup.handover = false →
        regN e 0x2300 0x0D = 1 ∧ e.sup.handover = true) ∧
      Keeps writeParts (fun x i => eventReg x i ∨ (x = 0x2300 ∧ i = 0x0D)) d e) ∧
  (∀ (dt : Nat) (s : State) (d : Device) (who : Requester), d = elapse s.dev dt → Allowed d who 0x2300 0x0C (.num 3) →
    Does (.redCommandClearSuspect dt who) s fun e =>
      (standbyIn d [8] = none → regN e 0x2300 0x0D = 2) ∧
      (∀ o, standbyIn d [8] = some o → controlBusy d = false → d.sup.handover = false → onProbation d = false → anyShed d 4 = false →
        ctlShed d = false → regN e 0x2300 0x0D = 1 ∧
        if (ctlAt d o).retained.any (fun x => imageOk d x.2) = true then
          roleOf e o = 5 ∧ (ctlAt e o).mismatch = false ∧ e.cmp.kind = 2
        else roleOf e o = 9) ∧
      Keeps (.ctls :: writeParts) (fun x i => eventReg x i ∨ (x = 0x2300 ∧ i = 0x0D)) d e) ∧
  (∀ (dt : Nat) (s : State) (d : Device) (k : SessNo), d = elapse s.dev dt →
    (Allowed d (.session k) 0x2300 0x0E (.num 1) → Does (.controlRestartMaint dt (.session k)) s fun e =>
      e.sup.restartM = some (d.mono, (sessAt d k).leaf) ∧ e.sup.restartA = d.sup.restartA ∧ Keeps writeParts eventReg d e) ∧
    (Allowed d (.session k) 0x2300 0x0F (.num 1) → Does (.controlRestartAudit dt (.session k)) s fun e =>
      e.sup.restartA = some (d.mono, (sessAt d k).leaf) ∧ e.sup.restartM = d.sup.restartM ∧ Keeps writeParts eventReg d e)) ∧
  (∀ (dt : Nat) (s : State) (d : Device) (who : Requester) (p : Die), d = elapse s.dev dt →
    Allowed d who 0x2300 0x10 (.num (256 * p + 1)) →
    Does (.redPixelReset dt who p) s fun e =>
      (if pixelBusy d = true ∨ pixUp d p = false then regN e 0x2300 0x11 = 3 ∧ e.pix = d.pix
       else if (((List.range 6).filter (· != p.val)).filter fun q => (pixAt d q).state == 1).length < 4 then
         regN e 0x2300 0x11 = 5 ∧ e.pix = d.pix
       else regN e 0x2300 0x11 = 1 ∧ pixAt e p = { pixAt d p with state := 2, greyLeft := 2, repair := false }) ∧
      (∀ q, q ≠ p.val → pixAt e q = pixAt d q) ∧ Keeps (.pix :: writeParts) (fun x i => eventReg x i ∨ (x = 0x2300 ∧ i = 0x11)) d e) ∧
  (∀ (dt : Nat) (s : State) (d : Device) (who : Requester) (p : Die), d = elapse s.dev dt →
    Allowed d who 0x2300 0x10 (.num (256 * p + 2)) →
    Does (.redPixelResetWithRepair dt who p) s fun e =>
      (if pixelBusy d = true ∨ pixUp d p = false then regN e 0x2300 0x11 = 3 ∧ e.pix = d.pix
       else if (((List.range 6).filter (· != p.val)).filter fun q => (pixAt d q).state == 1).length < 4 then
         regN e 0x2300 0x11 = 5 ∧ e.pix = d.pix
       else regN e 0x2300 0x11 = 1 ∧ pixAt e p = { pixAt d p with state := 2, greyLeft := 2, repair := true }) ∧
      (∀ q, q ≠ p.val → pixAt e q = pixAt d q) ∧ Keeps (.pix :: writeParts) (fun x i => eventReg x i ∨ (x = 0x2300 ∧ i = 0x11)) d e) ∧
  (∀ (dt : Nat) (s : State) (d : Device) (who : Requester) (p : Die), d = elapse s.dev dt →
    Allowed d who 0x2300 0x10 (.num (256 * p + 3)) →
    Does (.redPixelReleaseHeld dt who p) s fun e =>
      (if (pixAt d p).state = 6 then regN e 0x2300 0x11 = 1 ∧ pixAt e p = { pixAt d p with state := 3, resets := [] }
       else regN e 0x2300 0x11 = 6 ∧ pixAt e p = pixAt d p) ∧
      (∀ q, q ≠ p.val → pixAt e q = pixAt d q) ∧ Keeps (.pix :: writeParts) (fun x i => eventReg x i ∨ (x = 0x2300 ∧ i = 0x11)) d e)

/-- R386 to R389: images are staged and activated when they are signed and not older, and microcode is armed, cancelled or kept for
the next reset. For each command a first clause gives its effect under the conditions for it, and the others what it answers where one
of them fails, with none of its effect. Whether an image is signed, and its versions, are free values of Config.
Clauses that rest on the model's choices: notes/assumptions 112, 117, 119, 216, 232. -/
def Obligations.ImageCommandsRun : Prop :=
  (∀ (dt : Nat) (s : State) (d : Device) (who : Requester) (img : List Byte), d = elapse s.dev dt →
    Allowed d who 0x2520 6 (.num 1) → img = regB d 0x2520 5 → updating d = false → Config.imageSigned img = true →
    fwSecurity d ≤ Config.imageSecurityVersion img →
    Does (.fwStageCommit dt who) s fun e =>
      regN e 0x2520 9 = 1 ∧ e.sup.fwState = 2 ∧ e.sup.fwImage = img ∧ Logged d e 17 0x25200601 ∧
      Keeps writeParts (fun x i => eventReg x i ∨ (x = 0x2520 ∧ i = 9)) d e) ∧
  (∀ (dt : Nat) (s : State) (d : Device) (who : Requester) (img : List Byte) (code : Nat), d = elapse s.dev dt →
    Allowed d who 0x2520 6 (.num 1) → img = regB d 0x2520 5 →
    code = (if updating d = true then 5 else if Config.imageSigned img = false then 2
      else if Config.imageSecurityVersion img < fwSecurity d then 3 else 1) →
    Does (.fwStageCommit dt who) s fun e =>
      regN e 0x2520 9 = code ∧ (code ≠ 1 → e.sup.fwState = d.sup.fwState ∧ e.sup.fwImage = d.sup.fwImage) ∧
      Keeps writeParts (fun x i => eventReg x i ∨ (x = 0x2520 ∧ i = 9)) d e) ∧
  (∀ (dt : Nat) (s : State) (d : Device) (who : Requester) (o i : Nat), d = elapse s.dev dt → Allowed d who 0x2520 7 (.num 1) →
    standbyIn d [4] = some o → updating d = false → d.cmp.kind ≠ 2 → pixelBusy d = false → anyShed d 4 = false →
    slotIn (norOf d o) 2 = some i →
    Does (.fwActivateStaged dt who) s fun e =>
      e.sup.fwState = 4 ∧ regN e 0x2520 9 = 1 ∧ roleOf e o = 1 ∧ slotSt (norOf e o) i = 3 ∧ (norOf e o).used = false ∧
      Logged d e 17 0x25200701 ∧ Keeps (.ctls :: writeParts) (fun x i => eventReg x i ∨ (x = 0x2520 ∧ i = 9)) d e) ∧
  (∀ (dt : Nat) (s : State) (d : Device) (who : Requester) (code : Nat), d = elapse s.dev dt → Allowed d who 0x2520 7 (.num 1) →
    code = (match standbyIn d [4] with
      | none => 4
      | some o => if updating d = true ∨ d.cmp.kind = 2 ∨ pixelBusy d = true then 5 else if anyShed d 4 = true then 7
        else if slotIn (norOf d o) 2 = none then 2 else 1) →
    Does (.fwActivateStaged dt who) s fun e =>
      regN e 0x2520 9 = code ∧ (code ≠ 1 → e.sup.fwState = d.sup.fwState ∧ e.ctls = d.ctls) ∧
      Keeps (.ctls :: writeParts) (fun x i => eventReg x i ∨ (x = 0x2520 ∧ i = 9)) d e) ∧
  (∀ (dt : Nat) (s : State) (d : Device) (who : Requester) (o i : Nat), d = elapse s.dev dt → Allowed d who 0x2520 7 (.num 2) →
    standbyIn d [4] = some o → updating d = false → d.cmp.kind ≠ 2 → pixelBusy d = false → anyShed d 4 = false →
    slotIn (norOf d o) 5 = some i → fwSecurity d ≤ Config.imageSecurityVersion (slotImg (norOf d o) i) →
    Does (.fwActivateFallback dt who) s fun e =>
      e.sup.fwState = 4 ∧ regN e 0x2520 9 = 1 ∧ roleOf e o = 1 ∧ slotSt (norOf e o) i = 3 ∧ (norOf e o).used = false ∧
      Logged d e 17 0x25200702 ∧ Keeps (.ctls :: writeParts) (fun x i => eventReg x i ∨ (x = 0x2520 ∧ i = 9)) d e) ∧
  (∀ (dt : Nat) (s : State) (d : Device) (who : Requester) (code : Nat), d = elapse s.dev dt → Allowed d who 0x2520 7 (.num 2) →
    code = (match standbyIn d [4] with
      | none => 4
      | some o => if updating d = true ∨ d.cmp.kind = 2 ∨ pixelBusy d = true then 5 else if anyShed d 4 = true then 7
        else match slotIn (norOf d o) 5 with
          | none => 2
          | some i => if Config.imageSecurityVersion (slotImg (norOf d o) i) < fwSecurity d then 3 else 1) →
    Does (.fwActivateFallback dt who) s fun e =>
      regN e 0x2520 9 = code ∧ (code ≠ 1 → e.sup.fwState = d.sup.fwState ∧ e.ctls = d.ctls) ∧
      Keeps (.ctls :: writeParts) (fun x i => eventReg x i ∨ (x = 0x2520 ∧ i = 9)) d e) ∧
  (∀ (dt : Nat) (s : State) (d : Device) (who : Requester) (p : Die) (img : List Byte) (u : McUnit), d = elapse s.dev dt →
    Allowed d who (mcObj p) 6 (.num 1) → img = regB d (mcObj p) 4 → u = mcAt d p → u.armed = none → u.probation = 0 →
    pixUp d p = true → Config.imageSigned img = true → Config.imageLayout img = Config.imageLayout (mcRunning u) → u.running < 2 →
    Does (.mcSwapArm dt who p) s fun e =>
      regN e (mcObj p) 7 = 1 ∧ mcState (mcAt e p) (1 - u.running) = 2 ∧ mcRunning (mcAt e p) = mcRunning u ∧
      (mcAt e p).running = u.running ∧
      (mcAt e p).armed = some (if regN d (mcObj p) 5 = 0 then openTick d else regN d (mcObj p) 5) ∧
      Logged d e 17 (mcObj p * 65536 + 0x601) ∧ (∀ q, q ≠ p.val → mcAt e q = mcAt d q) ∧
      Keeps (.mcs :: .ctls :: writeParts) (fun x i => eventReg x i ∨ (x = mcObj p ∧ i = 7)) d e) ∧
  (∀ (dt : Nat) (s : State) (d : Device) (who : Requester) (p : Die) (img : List Byte) (u : McUnit) (code : Nat), d = elapse s.dev dt →
    Allowed d who (mcObj p) 6 (.num 1) → img = regB d (mcObj p) 4 → u = mcAt d p →
    code = (if mcCheck d p ≠ 1 then mcCheck d p else if Config.imageLayout img ≠ Config.imageLayout (mcRunning u) then 3 else 1) →
    Does (.mcSwapArm dt who p) s fun e =>
      regN e (mcObj p) 7 = code ∧ (code ≠ 1 → mcAt e p = u ∧ e.ctls = d.ctls) ∧ (∀ q, q ≠ p.val → mcAt e q = mcAt d q) ∧
      Keeps (.mcs :: .ctls :: writeParts) (fun x i => eventReg x i ∨ (x = mcObj p ∧ i = 7)) d e) ∧
  (∀ (dt : Nat) (s : State) (d : Device) (who : Requester) (p : Die), d = elapse s.dev dt → Allowed d who (mcObj p) 6 (.num 2) →
    Does (.mcSwapCancel dt who p) s fun e =>
      mcAt e p = { mcAt d p with armed := none } ∧ regN e (mcObj p) 7 = 1 ∧ (∀ q, q ≠ p.val → mcAt e q = mcAt d q) ∧
      Keeps (.mcs :: writeParts) (fun x i => eventReg x i ∨ (x = mcObj p ∧ i = 7)) d e) ∧
  (∀ (dt : Nat) (s : State) (d : Device) (who : Requester) (p : Die) (img : List Byte), d = elapse s.dev dt →
    Allowed d who (mcObj p) 6 (.num 3) → img = regB d (mcObj p) 4 → (mcAt d p).armed = none → (mcAt d p).probation = 0 →
    pixUp d p = true → Config.imageSigned img = true →
    Does (.mcInstallNextReset dt who p) s fun e =>
      regN e (mcObj p) 7 = 1 ∧ mcAt e p = { mcAt d p with install := some img } ∧ Logged d e 17 (mcObj p * 65536 + 0x603) ∧
      (∀ q, q ≠ p.val → mcAt e q = mcAt d q) ∧
      Keeps (.mcs :: .ctls :: writeParts) (fun x i => eventReg x i ∨ (x = mcObj p ∧ i = 7)) d e) ∧
  (∀ (dt : Nat) (s : State) (d : Device) (who : Requester) (p : Die), d = elapse s.dev dt → Allowed d who (mcObj p) 6 (.num 3) →
    Does (.mcInstallNextReset dt who p) s fun e =>
      regN e (mcObj p) 7 = mcCheck d p ∧ (mcCheck d p ≠ 1 → mcAt e p = mcAt d p ∧ e.ctls = d.ctls) ∧
      (∀ q, q ≠ p.val → mcAt e q = mcAt d q) ∧
      Keeps (.mcs :: .ctls :: writeParts) (fun x i => eventReg x i ∨ (x = mcObj p ∧ i = 7)) d e)
end

