-- ==== Sys2Proof/Laws/State.lean ====
section
/-! SUPPORT. What each named update of the device leaves of every field of it, and what a unit reads as after one. Each
lemma is true by rfl or by the two laws of a table, so that no later proof unfolds a record update. -/

namespace Sys2Proof.Machine

/-! ### Tables -/

@[simp] theorem tget_tput {α : Type} (t : Table α) (k j : Nat) (v dflt : α) :
    tget (tput t k v) j dflt = if k = j then v else tget t j dflt := by
  induction t with
  | nil => simp [tput, tget]
  | cons e r ih =>
    obtain ⟨i, a⟩ := e
    simp only [tput]
    split
    · simp [tget]
    · split
      · next h => subst h; by_cases hk : k = j <;> simp [tget, hk]
      · next h =>
        by_cases hi : i = j
        · simp [tget, hi, show ¬ k = j by omega]
        · simp [tget, hi, ih]

@[simp] theorem tfind_tput {α : Type} (t : Table α) (k j : Nat) (v : α) :
    tfind (tput t k v) j = if k = j then some v else tfind t j := by
  induction t with
  | nil => simp [tput, tfind]
  | cons e r ih =>
    obtain ⟨i, a⟩ := e
    simp only [tput]
    split
    · simp [tfind]
    · split
      · next h => subst h; by_cases hk : k = j <;> simp [tfind, hk]
      · next h =>
        by_cases hi : i = j
        · simp [tfind, hi, show ¬ k = j by omega]
        · simp [tfind, hi, ih]

@[simp] theorem tfind_tdel {α : Type} (t : Table α) (k j : Nat) :
    tfind (tdel t k) j = if k = j then none else tfind t j := by
  induction t with
  | nil => simp [tdel, tfind]
  | cons e r ih =>
    obtain ⟨i, a⟩ := e
    simp only [tdel, List.filter_cons, bne_iff_ne] at ih ⊢
    by_cases hi : i = k
    · subst hi; by_cases hj : i = j <;> simp_all [tfind]
    · by_cases hj : i = j
      · simp [hj, tfind, show ¬ k = j by omega, show ¬ j = k by omega]
      · simp [hi, hj, tfind, ih]

theorem tget_eq {α : Type} (t : Table α) (k : Nat) (dflt : α) : tget t k dflt = (tfind t k).getD dflt := by
  induction t with
  | nil => rfl
  | cons e r ih =>
    obtain ⟨i, a⟩ := e
    by_cases h : i = k <;> simp [tget, tfind, h, ih]

@[simp] theorem tget_tdel {α : Type} (t : Table α) (k j : Nat) (dflt : α) :
    tget (tdel t k) j dflt = if k = j then dflt else tget t j dflt := by
  simp only [tget_eq, tfind_tdel]; split <;> rfl

@[simp] theorem tget_tset {α : Type} [DecidableEq α] (t : Table α) (k j : Nat) (v dflt : α) :
    tget (tset dflt t k v) j dflt = if k = j then v else tget t j dflt := by
  simp only [tset]; split
  · next h => subst h; simp
  · simp

@[simp] theorem tfind_tmap {α β : Type} (f : Nat → α → β) (t : Table α) (k : Nat) :
    tfind (tmap f t) k = (tfind t k).map (f k) := by
  induction t with
  | nil => rfl
  | cons e r ih =>
    obtain ⟨i, a⟩ := e
    simp only [tmap, List.map_cons, tfind] at ih ⊢
    split
    · next h => subst h; rfl
    · exact ih

/-! ### Fields after an update -/

section
variable (d : Device) (k : Nat) (v : CtlDie)
@[simp] theorem setCtl_mono : (setCtl d k v).mono = d.mono := rfl
@[simp] theorem setCtl_fresh : (setCtl d k v).fresh = d.fresh := rfl
@[simp] theorem setCtl_regs : (setCtl d k v).regs = d.regs := rfl
@[simp] theorem setCtl_force : (setCtl d k v).force = d.force := rfl
@[simp] theorem setCtl_record : (setCtl d k v).record = d.record := rfl
@[simp] theorem setCtl_pins : (setCtl d k v).pins = d.pins := rfl
@[simp] theorem setCtl_pix : (setCtl d k v).pix = d.pix := rfl
@[simp] theorem setCtl_rails : (setCtl d k v).rails = d.rails := rfl
@[simp] theorem setCtl_clocks : (setCtl d k v).clocks = d.clocks := rfl
@[simp] theorem setCtl_rules : (setCtl d k v).rules = d.rules := rfl
@[simp] theorem setCtl_rings : (setCtl d k v).rings = d.rings := rfl
@[simp] theorem setCtl_sup : (setCtl d k v).sup = d.sup := rfl
@[simp] theorem setCtl_cmp : (setCtl d k v).cmp = d.cmp := rfl
@[simp] theorem setCtl_can : (setCtl d k v).can = d.can := rfl
@[simp] theorem setCtl_audit : (setCtl d k v).audit = d.audit := rfl
@[simp] theorem setCtl_awaiting : (setCtl d k v).awaiting = d.awaiting := rfl
@[simp] theorem setCtl_srcs : (setCtl d k v).srcs = d.srcs := rfl
@[simp] theorem setCtl_st2110 : (setCtl d k v).st2110 = d.st2110 := rfl
@[simp] theorem setCtl_cams : (setCtl d k v).cams = d.cams := rfl
@[simp] theorem setCtl_pipes : (setCtl d k v).pipes = d.pipes := rfl
@[simp] theorem setCtl_layers : (setCtl d k v).layers = d.layers := rfl
@[simp] theorem setCtl_heads : (setCtl d k v).heads = d.heads := rfl
@[simp] theorem setCtl_scans : (setCtl d k v).scans = d.scans := rfl
@[simp] theorem setCtl_tags : (setCtl d k v).tags = d.tags := rfl
@[simp] theorem setCtl_wbs : (setCtl d k v).wbs = d.wbs := rfl
@[simp] theorem setCtl_ifs : (setCtl d k v).ifs = d.ifs := rfl
@[simp] theorem setCtl_mems : (setCtl d k v).mems = d.mems := rfl
@[simp] theorem setCtl_queues : (setCtl d k v).queues = d.queues := rfl
@[simp] theorem setCtl_links : (setCtl d k v).links = d.links := rfl
@[simp] theorem setCtl_tracks : (setCtl d k v).tracks = d.tracks := rfl
@[simp] theorem setCtl_mcs : (setCtl d k v).mcs = d.mcs := rfl
@[simp] theorem setCtl_unattr : (setCtl d k v).unattr = d.unattr := rfl
@[simp] theorem setCtl_crossings : (setCtl d k v).crossings = d.crossings := rfl
@[simp] theorem setCtl_limits : (setCtl d k v).limits = d.limits := rfl
@[simp] theorem setCtl_layout : (setCtl d k v).layout = d.layout := rfl
@[simp] theorem setCtl_memory : (setCtl d k v).memory = d.memory := rfl
@[simp] theorem setCtl_tx : (setCtl d k v).tx = d.tx := rfl
end

section
variable (d : Device) (k : Nat) (v : PixelDie)
@[simp] theorem setPix_mono : (setPix d k v).mono = d.mono := rfl
@[simp] theorem setPix_fresh : (setPix d k v).fresh = d.fresh := rfl
@[simp] theorem setPix_regs : (setPix d k v).regs = d.regs := rfl
@[simp] theorem setPix_force : (setPix d k v).force = d.force := rfl
@[simp] theorem setPix_record : (setPix d k v).record = d.record := rfl
@[simp] theorem setPix_pins : (setPix d k v).pins = d.pins := rfl
@[simp] theorem setPix_ctls : (setPix d k v).ctls = d.ctls := rfl
@[simp] theorem setPix_rails : (setPix d k v).rails = d.rails := rfl
@[simp] theorem setPix_clocks : (setPix d k v).clocks = d.clocks := rfl
@[simp] theorem setPix_rules : (setPix d k v).rules = d.rules := rfl
@[simp] theorem setPix_rings : (setPix d k v).rings = d.rings := rfl
@[simp] theorem setPix_sup : (setPix d k v).sup = d.sup := rfl
@[simp] theorem setPix_cmp : (setPix d k v).cmp = d.cmp := rfl
@[simp] theorem setPix_can : (setPix d k v).can = d.can := rfl
@[simp] theorem setPix_audit : (setPix d k v).audit = d.audit := rfl
@[simp] theorem setPix_awaiting : (setPix d k v).awaiting = d.awaiting := rfl
@[simp] theorem setPix_srcs : (setPix d k v).srcs = d.srcs := rfl
@[simp] theorem setPix_st2110 : (setPix d k v).st2110 = d.st2110 := rfl
@[simp] theorem setPix_cams : (setPix d k v).cams = d.cams := rfl
@[simp] theorem setPix_pipes : (setPix d k v).pipes = d.pipes := rfl
@[simp] theorem setPix_layers : (setPix d k v).layers = d.layers := rfl
@[simp] theorem setPix_heads : (setPix d k v).heads = d.heads := rfl
@[simp] theorem setPix_scans : (setPix d k v).scans = d.scans := rfl
@[simp] theorem setPix_tags : (setPix d k v).tags = d.tags := rfl
@[simp] theorem setPix_wbs : (setPix d k v).wbs = d.wbs := rfl
@[simp] theorem setPix_ifs : (setPix d k v).ifs = d.ifs := rfl
@[simp] theorem setPix_mems : (setPix d k v).mems = d.mems := rfl
@[simp] theorem setPix_queues : (setPix d k v).queues = d.queues := rfl
@[simp] theorem setPix_links : (setPix d k v).links = d.links := rfl
@[simp] theorem setPix_tracks : (setPix d k v).tracks = d.tracks := rfl
@[simp] theorem setPix_mcs : (setPix d k v).mcs = d.mcs := rfl
@[simp] theorem setPix_unattr : (setPix d k v).unattr = d.unattr := rfl
@[simp] theorem setPix_crossings : (setPix d k v).crossings = d.crossings := rfl
@[simp] theorem setPix_limits : (setPix d k v).limits = d.limits := rfl
@[simp] theorem setPix_layout : (setPix d k v).layout = d.layout := rfl
@[simp] theorem setPix_memory : (setPix d k v).memory = d.memory := rfl
@[simp] theorem setPix_tx : (setPix d k v).tx = d.tx := rfl
end

section
variable (d : Device) (k : Nat) (v : RailUnit)
@[simp] theorem setRail_mono : (setRail d k v).mono = d.mono := rfl
@[simp] theorem setRail_fresh : (setRail d k v).fresh = d.fresh := rfl
@[simp] theorem setRail_regs : (setRail d k v).regs = d.regs := rfl
@[simp] theorem setRail_force : (setRail d k v).force = d.force := rfl
@[simp] theorem setRail_record : (setRail d k v).record = d.record := rfl
@[simp] theorem setRail_pins : (setRail d k v).pins = d.pins := rfl
@[simp] theorem setRail_ctls : (setRail d k v).ctls = d.ctls := rfl
@[simp] theorem setRail_pix : (setRail d k v).pix = d.pix := rfl
@[simp] theorem setRail_clocks : (setRail d k v).clocks = d.clocks := rfl
@[simp] theorem setRail_rules : (setRail d k v).rules = d.rules := rfl
@[simp] theorem setRail_rings : (setRail d k v).rings = d.rings := rfl
@[simp] theorem setRail_sup : (setRail d k v).sup = d.sup := rfl
@[simp] theorem setRail_cmp : (setRail d k v).cmp = d.cmp := rfl
@[simp] theorem setRail_can : (setRail d k v).can = d.can := rfl
@[simp] theorem setRail_audit : (setRail d k v).audit = d.audit := rfl
@[simp] theorem setRail_awaiting : (setRail d k v).awaiting = d.awaiting := rfl
@[simp] theorem setRail_srcs : (setRail d k v).srcs = d.srcs := rfl
@[simp] theorem setRail_st2110 : (setRail d k v).st2110 = d.st2110 := rfl
@[simp] theorem setRail_cams : (setRail d k v).cams = d.cams := rfl
@[simp] theorem setRail_pipes : (setRail d k v).pipes = d.pipes := rfl
@[simp] theorem setRail_layers : (setRail d k v).layers = d.layers := rfl
@[simp] theorem setRail_heads : (setRail d k v).heads = d.heads := rfl
@[simp] theorem setRail_scans : (setRail d k v).scans = d.scans := rfl
@[simp] theorem setRail_tags : (setRail d k v).tags = d.tags := rfl
@[simp] theorem setRail_wbs : (setRail d k v).wbs = d.wbs := rfl
@[simp] theorem setRail_ifs : (setRail d k v).ifs = d.ifs := rfl
@[simp] theorem setRail_mems : (setRail d k v).mems = d.mems := rfl
@[simp] theorem setRail_queues : (setRail d k v).queues = d.queues := rfl
@[simp] theorem setRail_links : (setRail d k v).links = d.links := rfl
@[simp] theorem setRail_tracks : (setRail d k v).tracks = d.tracks := rfl
@[simp] theorem setRail_mcs : (setRail d k v).mcs = d.mcs := rfl
@[simp] theorem setRail_unattr : (setRail d k v).unattr = d.unattr := rfl
@[simp] theorem setRail_crossings : (setRail d k v).crossings = d.crossings := rfl
@[simp] theorem setRail_limits : (setRail d k v).limits = d.limits := rfl
@[simp] theorem setRail_layout : (setRail d k v).layout = d.layout := rfl
@[simp] theorem setRail_memory : (setRail d k v).memory = d.memory := rfl
@[simp] theorem setRail_tx : (setRail d k v).tx = d.tx := rfl
end

section
variable (d : Device) (k : Nat) (v : ClockUnit)
@[simp] theorem setClock_mono : (setClock d k v).mono = d.mono := rfl
@[simp] theorem setClock_fresh : (setClock d k v).fresh = d.fresh := rfl
@[simp] theorem setClock_regs : (setClock d k v).regs = d.regs := rfl
@[simp] theorem setClock_force : (setClock d k v).force = d.force := rfl
@[simp] theorem setClock_record : (setClock d k v).record = d.record := rfl
@[simp] theorem setClock_pins : (setClock d k v).pins = d.pins := rfl
@[simp] theorem setClock_ctls : (setClock d k v).ctls = d.ctls := rfl
@[simp] theorem setClock_pix : (setClock d k v).pix = d.pix := rfl
@[simp] theorem setClock_rails : (setClock d k v).rails = d.rails := rfl
@[simp] theorem setClock_rules : (setClock d k v).rules = d.rules := rfl
@[simp] theorem setClock_rings : (setClock d k v).rings = d.rings := rfl
@[simp] theorem setClock_sup : (setClock d k v).sup = d.sup := rfl
@[simp] theorem setClock_cmp : (setClock d k v).cmp = d.cmp := rfl
@[simp] theorem setClock_can : (setClock d k v).can = d.can := rfl
@[simp] theorem setClock_audit : (setClock d k v).audit = d.audit := rfl
@[simp] theorem setClock_awaiting : (setClock d k v).awaiting = d.awaiting := rfl
@[simp] theorem setClock_srcs : (setClock d k v).srcs = d.srcs := rfl
@[simp] theorem setClock_st2110 : (setClock d k v).st2110 = d.st2110 := rfl
@[simp] theorem setClock_cams : (setClock d k v).cams = d.cams := rfl
@[simp] theorem setClock_pipes : (setClock d k v).pipes = d.pipes := rfl
@[simp] theorem setClock_layers : (setClock d k v).layers = d.layers := rfl
@[simp] theorem setClock_heads : (setClock d k v).heads = d.heads := rfl
@[simp] theorem setClock_scans : (setClock d k v).scans = d.scans := rfl
@[simp] theorem setClock_tags : (setClock d k v).tags = d.tags := rfl
@[simp] theorem setClock_wbs : (setClock d k v).wbs = d.wbs := rfl
@[simp] theorem setClock_ifs : (setClock d k v).ifs = d.ifs := rfl
@[simp] theorem setClock_mems : (setClock d k v).mems = d.mems := rfl
@[simp] theorem setClock_queues : (setClock d k v).queues = d.queues := rfl
@[simp] theorem setClock_links : (setClock d k v).links = d.links := rfl
@[simp] theorem setClock_tracks : (setClock d k v).tracks = d.tracks := rfl
@[simp] theorem setClock_mcs : (setClock d k v).mcs = d.mcs := rfl
@[simp] theorem setClock_unattr : (setClock d k v).unattr = d.unattr := rfl
@[simp] theorem setClock_crossings : (setClock d k v).crossings = d.crossings := rfl
@[simp] theorem setClock_limits : (setClock d k v).limits = d.limits := rfl
@[simp] theorem setClock_layout : (setClock d k v).layout = d.layout := rfl
@[simp] theorem setClock_memory : (setClock d k v).memory = d.memory := rfl
@[simp] theorem setClock_tx : (setClock d k v).tx = d.tx := rfl
end

section
variable (d : Device) (k : Nat) (v : RuleCopy)
@[simp] theorem setRuleCopy_mono : (setRuleCopy d k v).mono = d.mono := rfl
@[simp] theorem setRuleCopy_fresh : (setRuleCopy d k v).fresh = d.fresh := rfl
@[simp] theorem setRuleCopy_regs : (setRuleCopy d k v).regs = d.regs := rfl
@[simp] theorem setRuleCopy_force : (setRuleCopy d k v).force = d.force := rfl
@[simp] theorem setRuleCopy_record : (setRuleCopy d k v).record = d.record := rfl
@[simp] theorem setRuleCopy_pins : (setRuleCopy d k v).pins = d.pins := rfl
@[simp] theorem setRuleCopy_ctls : (setRuleCopy d k v).ctls = d.ctls := rfl
@[simp] theorem setRuleCopy_pix : (setRuleCopy d k v).pix = d.pix := rfl
@[simp] theorem setRuleCopy_rails : (setRuleCopy d k v).rails = d.rails := rfl
@[simp] theorem setRuleCopy_clocks : (setRuleCopy d k v).clocks = d.clocks := rfl
@[simp] theorem setRuleCopy_rings : (setRuleCopy d k v).rings = d.rings := rfl
@[simp] theorem setRuleCopy_sup : (setRuleCopy d k v).sup = d.sup := rfl
@[simp] theorem setRuleCopy_cmp : (setRuleCopy d k v).cmp = d.cmp := rfl
@[simp] theorem setRuleCopy_can : (setRuleCopy d k v).can = d.can := rfl
@[simp] theorem setRuleCopy_audit : (setRuleCopy d k v).audit = d.audit := rfl
@[simp] theorem setRuleCopy_awaiting : (setRuleCopy d k v).awaiting = d.awaiting := rfl
@[simp] theorem setRuleCopy_srcs : (setRuleCopy d k v).srcs = d.srcs := rfl
@[simp] theorem setRuleCopy_st2110 : (setRuleCopy d k v).st2110 = d.st2110 := rfl
@[simp] theorem setRuleCopy_cams : (setRuleCopy d k v).cams = d.cams := rfl
@[simp] theorem setRuleCopy_pipes : (setRuleCopy d k v).pipes = d.pipes := rfl
@[simp] theorem setRuleCopy_layers : (setRuleCopy d k v).layers = d.layers := rfl
@[simp] theorem setRuleCopy_heads : (setRuleCopy d k v).heads = d.heads := rfl
@[simp] theorem setRuleCopy_scans : (setRuleCopy d k v).scans = d.scans := rfl
@[simp] theorem setRuleCopy_tags : (setRuleCopy d k v).tags = d.tags := rfl
@[simp] theorem setRuleCopy_wbs : (setRuleCopy d k v).wbs = d.wbs := rfl
@[simp] theorem setRuleCopy_ifs : (setRuleCopy d k v).ifs = d.ifs := rfl
@[simp] theorem setRuleCopy_mems : (setRuleCopy d k v).mems = d.mems := rfl
@[simp] theorem setRuleCopy_queues : (setRuleCopy d k v).queues = d.queues := rfl
@[simp] theorem setRuleCopy_links : (setRuleCopy d k v).links = d.links := rfl
@[simp] theorem setRuleCopy_tracks : (setRuleCopy d k v).tracks = d.tracks := rfl
@[simp] theorem setRuleCopy_mcs : (setRuleCopy d k v).mcs = d.mcs := rfl
@[simp] theorem setRuleCopy_unattr : (setRuleCopy d k v).unattr = d.unattr := rfl
@[simp] theorem setRuleCopy_crossings : (setRuleCopy d k v).crossings = d.crossings := rfl
@[simp] theorem setRuleCopy_limits : (setRuleCopy d k v).limits = d.limits := rfl
@[simp] theorem setRuleCopy_layout : (setRuleCopy d k v).layout = d.layout := rfl
@[simp] theorem setRuleCopy_memory : (setRuleCopy d k v).memory = d.memory := rfl
@[simp] theorem setRuleCopy_tx : (setRuleCopy d k v).tx = d.tx := rfl
end

section
variable (d : Device) (k : Nat) (v : Ring)
@[simp] theorem setRing_mono : (setRing d k v).mono = d.mono := rfl
@[simp] theorem setRing_fresh : (setRing d k v).fresh = d.fresh := rfl
@[simp] theorem setRing_regs : (setRing d k v).regs = d.regs := rfl
@[simp] theorem setRing_force : (setRing d k v).force = d.force := rfl
@[simp] theorem setRing_record : (setRing d k v).record = d.record := rfl
@[simp] theorem setRing_pins : (setRing d k v).pins = d.pins := rfl
@[simp] theorem setRing_ctls : (setRing d k v).ctls = d.ctls := rfl
@[simp] theorem setRing_pix : (setRing d k v).pix = d.pix := rfl
@[simp] theorem setRing_rails : (setRing d k v).rails = d.rails := rfl
@[simp] theorem setRing_clocks : (setRing d k v).clocks = d.clocks := rfl
@[simp] theorem setRing_rules : (setRing d k v).rules = d.rules := rfl
@[simp] theorem setRing_sup : (setRing d k v).sup = d.sup := rfl
@[simp] theorem setRing_cmp : (setRing d k v).cmp = d.cmp := rfl
@[simp] theorem setRing_can : (setRing d k v).can = d.can := rfl
@[simp] theorem setRing_audit : (setRing d k v).audit = d.audit := rfl
@[simp] theorem setRing_awaiting : (setRing d k v).awaiting = d.awaiting := rfl
@[simp] theorem setRing_srcs : (setRing d k v).srcs = d.srcs := rfl
@[simp] theorem setRing_st2110 : (setRing d k v).st2110 = d.st2110 := rfl
@[simp] theorem setRing_cams : (setRing d k v).cams = d.cams := rfl
@[simp] theorem setRing_pipes : (setRing d k v).pipes = d.pipes := rfl
@[simp] theorem setRing_layers : (setRing d k v).layers = d.layers := rfl
@[simp] theorem setRing_heads : (setRing d k v).heads = d.heads := rfl
@[simp] theorem setRing_scans : (setRing d k v).scans = d.scans := rfl
@[simp] theorem setRing_tags : (setRing d k v).tags = d.tags := rfl
@[simp] theorem setRing_wbs : (setRing d k v).wbs = d.wbs := rfl
@[simp] theorem setRing_ifs : (setRing d k v).ifs = d.ifs := rfl
@[simp] theorem setRing_mems : (setRing d k v).mems = d.mems := rfl
@[simp] theorem setRing_queues : (setRing d k v).queues = d.queues := rfl
@[simp] theorem setRing_links : (setRing d k v).links = d.links := rfl
@[simp] theorem setRing_tracks : (setRing d k v).tracks = d.tracks := rfl
@[simp] theorem setRing_mcs : (setRing d k v).mcs = d.mcs := rfl
@[simp] theorem setRing_unattr : (setRing d k v).unattr = d.unattr := rfl
@[simp] theorem setRing_crossings : (setRing d k v).crossings = d.crossings := rfl
@[simp] theorem setRing_limits : (setRing d k v).limits = d.limits := rfl
@[simp] theorem setRing_layout : (setRing d k v).layout = d.layout := rfl
@[simp] theorem setRing_memory : (setRing d k v).memory = d.memory := rfl
@[simp] theorem setRing_tx : (setRing d k v).tx = d.tx := rfl
end

section
variable (d : Device) (k : Nat) (v : SrcUnit)
@[simp] theorem setSrc_mono : (setSrc d k v).mono = d.mono := rfl
@[simp] theorem setSrc_fresh : (setSrc d k v).fresh = d.fresh := rfl
@[simp] theorem setSrc_regs : (setSrc d k v).regs = d.regs := rfl
@[simp] theorem setSrc_force : (setSrc d k v).force = d.force := rfl
@[simp] theorem setSrc_record : (setSrc d k v).record = d.record := rfl
@[simp] theorem setSrc_pins : (setSrc d k v).pins = d.pins := rfl
@[simp] theorem setSrc_ctls : (setSrc d k v).ctls = d.ctls := rfl
@[simp] theorem setSrc_pix : (setSrc d k v).pix = d.pix := rfl
@[simp] theorem setSrc_rails : (setSrc d k v).rails = d.rails := rfl
@[simp] theorem setSrc_clocks : (setSrc d k v).clocks = d.clocks := rfl
@[simp] theorem setSrc_rules : (setSrc d k v).rules = d.rules := rfl
@[simp] theorem setSrc_rings : (setSrc d k v).rings = d.rings := rfl
@[simp] theorem setSrc_sup : (setSrc d k v).sup = d.sup := rfl
@[simp] theorem setSrc_cmp : (setSrc d k v).cmp = d.cmp := rfl
@[simp] theorem setSrc_can : (setSrc d k v).can = d.can := rfl
@[simp] theorem setSrc_audit : (setSrc d k v).audit = d.audit := rfl
@[simp] theorem setSrc_awaiting : (setSrc d k v).awaiting = d.awaiting := rfl
@[simp] theorem setSrc_st2110 : (setSrc d k v).st2110 = d.st2110 := rfl
@[simp] theorem setSrc_cams : (setSrc d k v).cams = d.cams := rfl
@[simp] theorem setSrc_pipes : (setSrc d k v).pipes = d.pipes := rfl
@[simp] theorem setSrc_layers : (setSrc d k v).layers = d.layers := rfl
@[simp] theorem setSrc_heads : (setSrc d k v).heads = d.heads := rfl
@[simp] theorem setSrc_scans : (setSrc d k v).scans = d.scans := rfl
@[simp] theorem setSrc_tags : (setSrc d k v).tags = d.tags := rfl
@[simp] theorem setSrc_wbs : (setSrc d k v).wbs = d.wbs := rfl
@[simp] theorem setSrc_ifs : (setSrc d k v).ifs = d.ifs := rfl
@[simp] theorem setSrc_mems : (setSrc d k v).mems = d.mems := rfl
@[simp] theorem setSrc_queues : (setSrc d k v).queues = d.queues := rfl
@[simp] theorem setSrc_links : (setSrc d k v).links = d.links := rfl
@[simp] theorem setSrc_tracks : (setSrc d k v).tracks = d.tracks := rfl
@[simp] theorem setSrc_mcs : (setSrc d k v).mcs = d.mcs := rfl
@[simp] theorem setSrc_unattr : (setSrc d k v).unattr = d.unattr := rfl
@[simp] theorem setSrc_crossings : (setSrc d k v).crossings = d.crossings := rfl
@[simp] theorem setSrc_limits : (setSrc d k v).limits = d.limits := rfl
@[simp] theorem setSrc_layout : (setSrc d k v).layout = d.layout := rfl
@[simp] theorem setSrc_memory : (setSrc d k v).memory = d.memory := rfl
@[simp] theorem setSrc_tx : (setSrc d k v).tx = d.tx := rfl
end

section
variable (d : Device) (k : Nat) (v : St2110Unit)
@[simp] theorem setSt2110_mono : (setSt2110 d k v).mono = d.mono := rfl
@[simp] theorem setSt2110_fresh : (setSt2110 d k v).fresh = d.fresh := rfl
@[simp] theorem setSt2110_regs : (setSt2110 d k v).regs = d.regs := rfl
@[simp] theorem setSt2110_force : (setSt2110 d k v).force = d.force := rfl
@[simp] theorem setSt2110_record : (setSt2110 d k v).record = d.record := rfl
@[simp] theorem setSt2110_pins : (setSt2110 d k v).pins = d.pins := rfl
@[simp] theorem setSt2110_ctls : (setSt2110 d k v).ctls = d.ctls := rfl
@[simp] theorem setSt2110_pix : (setSt2110 d k v).pix = d.pix := rfl
@[simp] theorem setSt2110_rails : (setSt2110 d k v).rails = d.rails := rfl
@[simp] theorem setSt2110_clocks : (setSt2110 d k v).clocks = d.clocks := rfl
@[simp] theorem setSt2110_rules : (setSt2110 d k v).rules = d.rules := rfl
@[simp] theorem setSt2110_rings : (setSt2110 d k v).rings = d.rings := rfl
@[simp] theorem setSt2110_sup : (setSt2110 d k v).sup = d.sup := rfl
@[simp] theorem setSt2110_cmp : (setSt2110 d k v).cmp = d.cmp := rfl
@[simp] theorem setSt2110_can : (setSt2110 d k v).can = d.can := rfl
@[simp] theorem setSt2110_audit : (setSt2110 d k v).audit = d.audit := rfl
@[simp] theorem setSt2110_awaiting : (setSt2110 d k v).awaiting = d.awaiting := rfl
@[simp] theorem setSt2110_srcs : (setSt2110 d k v).srcs = d.srcs := rfl
@[simp] theorem setSt2110_cams : (setSt2110 d k v).cams = d.cams := rfl
@[simp] theorem setSt2110_pipes : (setSt2110 d k v).pipes = d.pipes := rfl
@[simp] theorem setSt2110_layers : (setSt2110 d k v).layers = d.layers := rfl
@[simp] theorem setSt2110_heads : (setSt2110 d k v).heads = d.heads := rfl
@[simp] theorem setSt2110_scans : (setSt2110 d k v).scans = d.scans := rfl
@[simp] theorem setSt2110_tags : (setSt2110 d k v).tags = d.tags := rfl
@[simp] theorem setSt2110_wbs : (setSt2110 d k v).wbs = d.wbs := rfl
@[simp] theorem setSt2110_ifs : (setSt2110 d k v).ifs = d.ifs := rfl
@[simp] theorem setSt2110_mems : (setSt2110 d k v).mems = d.mems := rfl
@[simp] theorem setSt2110_queues : (setSt2110 d k v).queues = d.queues := rfl
@[simp] theorem setSt2110_links : (setSt2110 d k v).links = d.links := rfl
@[simp] theorem setSt2110_tracks : (setSt2110 d k v).tracks = d.tracks := rfl
@[simp] theorem setSt2110_mcs : (setSt2110 d k v).mcs = d.mcs := rfl
@[simp] theorem setSt2110_unattr : (setSt2110 d k v).unattr = d.unattr := rfl
@[simp] theorem setSt2110_crossings : (setSt2110 d k v).crossings = d.crossings := rfl
@[simp] theorem setSt2110_limits : (setSt2110 d k v).limits = d.limits := rfl
@[simp] theorem setSt2110_layout : (setSt2110 d k v).layout = d.layout := rfl
@[simp] theorem setSt2110_memory : (setSt2110 d k v).memory = d.memory := rfl
@[simp] theorem setSt2110_tx : (setSt2110 d k v).tx = d.tx := rfl
end

section
variable (d : Device) (k : Nat) (v : CamUnit)
@[simp] theorem setCam_mono : (setCam d k v).mono = d.mono := rfl
@[simp] theorem setCam_fresh : (setCam d k v).fresh = d.fresh := rfl
@[simp] theorem setCam_regs : (setCam d k v).regs = d.regs := rfl
@[simp] theorem setCam_force : (setCam d k v).force = d.force := rfl
@[simp] theorem setCam_record : (setCam d k v).record = d.record := rfl
@[simp] theorem setCam_pins : (setCam d k v).pins = d.pins := rfl
@[simp] theorem setCam_ctls : (setCam d k v).ctls = d.ctls := rfl
@[simp] theorem setCam_pix : (setCam d k v).pix = d.pix := rfl
@[simp] theorem setCam_rails : (setCam d k v).rails = d.rails := rfl
@[simp] theorem setCam_clocks : (setCam d k v).clocks = d.clocks := rfl
@[simp] theorem setCam_rules : (setCam d k v).rules = d.rules := rfl
@[simp] theorem setCam_rings : (setCam d k v).rings = d.rings := rfl
@[simp] theorem setCam_sup : (setCam d k v).sup = d.sup := rfl
@[simp] theorem setCam_cmp : (setCam d k v).cmp = d.cmp := rfl
@[simp] theorem setCam_can : (setCam d k v).can = d.can := rfl
@[simp] theorem setCam_audit : (setCam d k v).audit = d.audit := rfl
@[simp] theorem setCam_awaiting : (setCam d k v).awaiting = d.awaiting := rfl
@[simp] theorem setCam_srcs : (setCam d k v).srcs = d.srcs := rfl
@[simp] theorem setCam_st2110 : (setCam d k v).st2110 = d.st2110 := rfl
@[simp] theorem setCam_pipes : (setCam d k v).pipes = d.pipes := rfl
@[simp] theorem setCam_layers : (setCam d k v).layers = d.layers := rfl
@[simp] theorem setCam_heads : (setCam d k v).heads = d.heads := rfl
@[simp] theorem setCam_scans : (setCam d k v).scans = d.scans := rfl
@[simp] theorem setCam_tags : (setCam d k v).tags = d.tags := rfl
@[simp] theorem setCam_wbs : (setCam d k v).wbs = d.wbs := rfl
@[simp] theorem setCam_ifs : (setCam d k v).ifs = d.ifs := rfl
@[simp] theorem setCam_mems : (setCam d k v).mems = d.mems := rfl
@[simp] theorem setCam_queues : (setCam d k v).queues = d.queues := rfl
@[simp] theorem setCam_links : (setCam d k v).links = d.links := rfl
@[simp] theorem setCam_tracks : (setCam d k v).tracks = d.tracks := rfl
@[simp] theorem setCam_mcs : (setCam d k v).mcs = d.mcs := rfl
@[simp] theorem setCam_unattr : (setCam d k v).unattr = d.unattr := rfl
@[simp] theorem setCam_crossings : (setCam d k v).crossings = d.crossings := rfl
@[simp] theorem setCam_limits : (setCam d k v).limits = d.limits := rfl
@[simp] theorem setCam_layout : (setCam d k v).layout = d.layout := rfl
@[simp] theorem setCam_memory : (setCam d k v).memory = d.memory := rfl
@[simp] theorem setCam_tx : (setCam d k v).tx = d.tx := rfl
end

section
variable (d : Device) (k : Nat) (v : PipeUnit)
@[simp] theorem setPipe_mono : (setPipe d k v).mono = d.mono := rfl
@[simp] theorem setPipe_fresh : (setPipe d k v).fresh = d.fresh := rfl
@[simp] theorem setPipe_regs : (setPipe d k v).regs = d.regs := rfl
@[simp] theorem setPipe_force : (setPipe d k v).force = d.force := rfl
@[simp] theorem setPipe_record : (setPipe d k v).record = d.record := rfl
@[simp] theorem setPipe_pins : (setPipe d k v).pins = d.pins := rfl
@[simp] theorem setPipe_ctls : (setPipe d k v).ctls = d.ctls := rfl
@[simp] theorem setPipe_pix : (setPipe d k v).pix = d.pix := rfl
@[simp] theorem setPipe_rails : (setPipe d k v).rails = d.rails := rfl
@[simp] theorem setPipe_clocks : (setPipe d k v).clocks = d.clocks := rfl
@[simp] theorem setPipe_rules : (setPipe d k v).rules = d.rules := rfl
@[simp] theorem setPipe_rings : (setPipe d k v).rings = d.rings := rfl
@[simp] theorem setPipe_sup : (setPipe d k v).sup = d.sup := rfl
@[simp] theorem setPipe_cmp : (setPipe d k v).cmp = d.cmp := rfl
@[simp] theorem setPipe_can : (setPipe d k v).can = d.can := rfl
@[simp] theorem setPipe_audit : (setPipe d k v).audit = d.audit := rfl
@[simp] theorem setPipe_awaiting : (setPipe d k v).awaiting = d.awaiting := rfl
@[simp] theorem setPipe_srcs : (setPipe d k v).srcs = d.srcs := rfl
@[simp] theorem setPipe_st2110 : (setPipe d k v).st2110 = d.st2110 := rfl
@[simp] theorem setPipe_cams : (setPipe d k v).cams = d.cams := rfl
@[simp] theorem setPipe_layers : (setPipe d k v).layers = d.layers := rfl
@[simp] theorem setPipe_heads : (setPipe d k v).heads = d.heads := rfl
@[simp] theorem setPipe_scans : (setPipe d k v).scans = d.scans := rfl
@[simp] theorem setPipe_tags : (setPipe d k v).tags = d.tags := rfl
@[simp] theorem setPipe_wbs : (setPipe d k v).wbs = d.wbs := rfl
@[simp] theorem setPipe_ifs : (setPipe d k v).ifs = d.ifs := rfl
@[simp] theorem setPipe_mems : (setPipe d k v).mems = d.mems := rfl
@[simp] theorem setPipe_queues : (setPipe d k v).queues = d.queues := rfl
@[simp] theorem setPipe_links : (setPipe d k v).links = d.links := rfl
@[simp] theorem setPipe_tracks : (setPipe d k v).tracks = d.tracks := rfl
@[simp] theorem setPipe_mcs : (setPipe d k v).mcs = d.mcs := rfl
@[simp] theorem setPipe_unattr : (setPipe d k v).unattr = d.unattr := rfl
@[simp] theorem setPipe_crossings : (setPipe d k v).crossings = d.crossings := rfl
@[simp] theorem setPipe_limits : (setPipe d k v).limits = d.limits := rfl
@[simp] theorem setPipe_layout : (setPipe d k v).layout = d.layout := rfl
@[simp] theorem setPipe_memory : (setPipe d k v).memory = d.memory := rfl
@[simp] theorem setPipe_tx : (setPipe d k v).tx = d.tx := rfl
end

section
variable (d : Device) (k : Nat) (v : LayerUnit)
@[simp] theorem setLayer_mono : (setLayer d k v).mono = d.mono := rfl
@[simp] theorem setLayer_fresh : (setLayer d k v).fresh = d.fresh := rfl
@[simp] theorem setLayer_regs : (setLayer d k v).regs = d.regs := rfl
@[simp] theorem setLayer_force : (setLayer d k v).force = d.force := rfl
@[simp] theorem setLayer_record : (setLayer d k v).record = d.record := rfl
@[simp] theorem setLayer_pins : (setLayer d k v).pins = d.pins := rfl
@[simp] theorem setLayer_ctls : (setLayer d k v).ctls = d.ctls := rfl
@[simp] theorem setLayer_pix : (setLayer d k v).pix = d.pix := rfl
@[simp] theorem setLayer_rails : (setLayer d k v).rails = d.rails := rfl
@[simp] theorem setLayer_clocks : (setLayer d k v).clocks = d.clocks := rfl
@[simp] theorem setLayer_rules : (setLayer d k v).rules = d.rules := rfl
@[simp] theorem setLayer_rings : (setLayer d k v).rings = d.rings := rfl
@[simp] theorem setLayer_sup : (setLayer d k v).sup = d.sup := rfl
@[simp] theorem setLayer_cmp : (setLayer d k v).cmp = d.cmp := rfl
@[simp] theorem setLayer_can : (setLayer d k v).can = d.can := rfl
@[simp] theorem setLayer_audit : (setLayer d k v).audit = d.audit := rfl
@[simp] theorem setLayer_awaiting : (setLayer d k v).awaiting = d.awaiting := rfl
@[simp] theorem setLayer_srcs : (setLayer d k v).srcs = d.srcs := rfl
@[simp] theorem setLayer_st2110 : (setLayer d k v).st2110 = d.st2110 := rfl
@[simp] theorem setLayer_cams : (setLayer d k v).cams = d.cams := rfl
@[simp] theorem setLayer_pipes : (setLayer d k v).pipes = d.pipes := rfl
@[simp] theorem setLayer_heads : (setLayer d k v).heads = d.heads := rfl
@[simp] theorem setLayer_scans : (setLayer d k v).scans = d.scans := rfl
@[simp] theorem setLayer_tags : (setLayer d k v).tags = d.tags := rfl
@[simp] theorem setLayer_wbs : (setLayer d k v).wbs = d.wbs := rfl
@[simp] theorem setLayer_ifs : (setLayer d k v).ifs = d.ifs := rfl
@[simp] theorem setLayer_mems : (setLayer d k v).mems = d.mems := rfl
@[simp] theorem setLayer_queues : (setLayer d k v).queues = d.queues := rfl
@[simp] theorem setLayer_links : (setLayer d k v).links = d.links := rfl
@[simp] theorem setLayer_tracks : (setLayer d k v).tracks = d.tracks := rfl
@[simp] theorem setLayer_mcs : (setLayer d k v).mcs = d.mcs := rfl
@[simp] theorem setLayer_unattr : (setLayer d k v).unattr = d.unattr := rfl
@[simp] theorem setLayer_crossings : (setLayer d k v).crossings = d.crossings := rfl
@[simp] theorem setLayer_limits : (setLayer d k v).limits = d.limits := rfl
@[simp] theorem setLayer_layout : (setLayer d k v).layout = d.layout := rfl
@[simp] theorem setLayer_memory : (setLayer d k v).memory = d.memory := rfl
@[simp] theorem setLayer_tx : (setLayer d k v).tx = d.tx := rfl
end

section
variable (d : Device) (k : Nat) (v : HeadUnit)
@[simp] theorem setHead_mono : (setHead d k v).mono = d.mono := rfl
@[simp] theorem setHead_fresh : (setHead d k v).fresh = d.fresh := rfl
@[simp] theorem setHead_regs : (setHead d k v).regs = d.regs := rfl
@[simp] theorem setHead_force : (setHead d k v).force = d.force := rfl
@[simp] theorem setHead_record : (setHead d k v).record = d.record := rfl
@[simp] theorem setHead_pins : (setHead d k v).pins = d.pins := rfl
@[simp] theorem setHead_ctls : (setHead d k v).ctls = d.ctls := rfl
@[simp] theorem setHead_pix : (setHead d k v).pix = d.pix := rfl
@[simp] theorem setHead_rails : (setHead d k v).rails = d.rails := rfl
@[simp] theorem setHead_clocks : (setHead d k v).clocks = d.clocks := rfl
@[simp] theorem setHead_rules : (setHead d k v).rules = d.rules := rfl
@[simp] theorem setHead_rings : (setHead d k v).rings = d.rings := rfl
@[simp] theorem setHead_sup : (setHead d k v).sup = d.sup := rfl
@[simp] theorem setHead_cmp : (setHead d k v).cmp = d.cmp := rfl
@[simp] theorem setHead_can : (setHead d k v).can = d.can := rfl
@[simp] theorem setHead_audit : (setHead d k v).audit = d.audit := rfl
@[simp] theorem setHead_awaiting : (setHead d k v).awaiting = d.awaiting := rfl
@[simp] theorem setHead_srcs : (setHead d k v).srcs = d.srcs := rfl
@[simp] theorem setHead_st2110 : (setHead d k v).st2110 = d.st2110 := rfl
@[simp] theorem setHead_cams : (setHead d k v).cams = d.cams := rfl
@[simp] theorem setHead_pipes : (setHead d k v).pipes = d.pipes := rfl
@[simp] theorem setHead_layers : (setHead d k v).layers = d.layers := rfl
@[simp] theorem setHead_scans : (setHead d k v).scans = d.scans := rfl
@[simp] theorem setHead_tags : (setHead d k v).tags = d.tags := rfl
@[simp] theorem setHead_wbs : (setHead d k v).wbs = d.wbs := rfl
@[simp] theorem setHead_ifs : (setHead d k v).ifs = d.ifs := rfl
@[simp] theorem setHead_mems : (setHead d k v).mems = d.mems := rfl
@[simp] theorem setHead_queues : (setHead d k v).queues = d.queues := rfl
@[simp] theorem setHead_links : (setHead d k v).links = d.links := rfl
@[simp] theorem setHead_tracks : (setHead d k v).tracks = d.tracks := rfl
@[simp] theorem setHead_mcs : (setHead d k v).mcs = d.mcs := rfl
@[simp] theorem setHead_unattr : (setHead d k v).unattr = d.unattr := rfl
@[simp] theorem setHead_crossings : (setHead d k v).crossings = d.crossings := rfl
@[simp] theorem setHead_limits : (setHead d k v).limits = d.limits := rfl
@[simp] theorem setHead_layout : (setHead d k v).layout = d.layout := rfl
@[simp] theorem setHead_memory : (setHead d k v).memory = d.memory := rfl
@[simp] theorem setHead_tx : (setHead d k v).tx = d.tx := rfl
end

section
variable (d : Device) (k : Nat) (v : HeadScan)
@[simp] theorem setScan_mono : (setScan d k v).mono = d.mono := rfl
@[simp] theorem setScan_fresh : (setScan d k v).fresh = d.fresh := rfl
@[simp] theorem setScan_regs : (setScan d k v).regs = d.regs := rfl
@[simp] theorem setScan_force : (setScan d k v).force = d.force := rfl
@[simp] theorem setScan_record : (setScan d k v).record = d.record := rfl
@[simp] theorem setScan_pins : (setScan d k v).pins = d.pins := rfl
@[simp] theorem setScan_ctls : (setScan d k v).ctls = d.ctls := rfl
@[simp] theorem setScan_pix : (setScan d k v).pix = d.pix := rfl
@[simp] theorem setScan_rails : (setScan d k v).rails = d.rails := rfl
@[simp] theorem setScan_clocks : (setScan d k v).clocks = d.clocks := rfl
@[simp] theorem setScan_rules : (setScan d k v).rules = d.rules := rfl
@[simp] theorem setScan_rings : (setScan d k v).rings = d.rings := rfl
@[simp] theorem setScan_sup : (setScan d k v).sup = d.sup := rfl
@[simp] theorem setScan_cmp : (setScan d k v).cmp = d.cmp := rfl
@[simp] theorem setScan_can : (setScan d k v).can = d.can := rfl
@[simp] theorem setScan_audit : (setScan d k v).audit = d.audit := rfl
@[simp] theorem setScan_awaiting : (setScan d k v).awaiting = d.awaiting := rfl
@[simp] theorem setScan_srcs : (setScan d k v).srcs = d.srcs := rfl
@[simp] theorem setScan_st2110 : (setScan d k v).st2110 = d.st2110 := rfl
@[simp] theorem setScan_cams : (setScan d k v).cams = d.cams := rfl
@[simp] theorem setScan_pipes : (setScan d k v).pipes = d.pipes := rfl
@[simp] theorem setScan_layers : (setScan d k v).layers = d.layers := rfl
@[simp] theorem setScan_heads : (setScan d k v).heads = d.heads := rfl
@[simp] theorem setScan_tags : (setScan d k v).tags = d.tags := rfl
@[simp] theorem setScan_wbs : (setScan d k v).wbs = d.wbs := rfl
@[simp] theorem setScan_ifs : (setScan d k v).ifs = d.ifs := rfl
@[simp] theorem setScan_mems : (setScan d k v).mems = d.mems := rfl
@[simp] theorem setScan_queues : (setScan d k v).queues = d.queues := rfl
@[simp] theorem setScan_links : (setScan d k v).links = d.links := rfl
@[simp] theorem setScan_tracks : (setScan d k v).tracks = d.tracks := rfl
@[simp] theorem setScan_mcs : (setScan d k v).mcs = d.mcs := rfl
@[simp] theorem setScan_unattr : (setScan d k v).unattr = d.unattr := rfl
@[simp] theorem setScan_crossings : (setScan d k v).crossings = d.crossings := rfl
@[simp] theorem setScan_limits : (setScan d k v).limits = d.limits := rfl
@[simp] theorem setScan_layout : (setScan d k v).layout = d.layout := rfl
@[simp] theorem setScan_memory : (setScan d k v).memory = d.memory := rfl
@[simp] theorem setScan_tx : (setScan d k v).tx = d.tx := rfl
end

section
variable (d : Device) (k : Nat) (v : TagUnit)
@[simp] theorem setTag_mono : (setTag d k v).mono = d.mono := rfl
@[simp] theorem setTag_fresh : (setTag d k v).fresh = d.fresh := rfl
@[simp] theorem setTag_regs : (setTag d k v).regs = d.regs := rfl
@[simp] theorem setTag_force : (setTag d k v).force = d.force := rfl
@[simp] theorem setTag_record : (setTag d k v).record = d.record := rfl
@[simp] theorem setTag_pins : (setTag d k v).pins = d.pins := rfl
@[simp] theorem setTag_ctls : (setTag d k v).ctls = d.ctls := rfl
@[simp] theorem setTag_pix : (setTag d k v).pix = d.pix := rfl
@[simp] theorem setTag_rails : (setTag d k v).rails = d.rails := rfl
@[simp] theorem setTag_clocks : (setTag d k v).clocks = d.clocks := rfl
@[simp] theorem setTag_rules : (setTag d k v).rules = d.rules := rfl
@[simp] theorem setTag_rings : (setTag d k v).rings = d.rings := rfl
@[simp] theorem setTag_sup : (setTag d k v).sup = d.sup := rfl
@[simp] theorem setTag_cmp : (setTag d k v).cmp = d.cmp := rfl
@[simp] theorem setTag_can : (setTag d k v).can = d.can := rfl
@[simp] theorem setTag_audit : (setTag d k v).audit = d.audit := rfl
@[simp] theorem setTag_awaiting : (setTag d k v).awaiting = d.awaiting := rfl
@[simp] theorem setTag_srcs : (setTag d k v).srcs = d.srcs := rfl
@[simp] theorem setTag_st2110 : (setTag d k v).st2110 = d.st2110 := rfl
@[simp] theorem setTag_cams : (setTag d k v).cams = d.cams := rfl
@[simp] theorem setTag_pipes : (setTag d k v).pipes = d.pipes := rfl
@[simp] theorem setTag_layers : (setTag d k v).layers = d.layers := rfl
@[simp] theorem setTag_heads : (setTag d k v).heads = d.heads := rfl
@[simp] theorem setTag_scans : (setTag d k v).scans = d.scans := rfl
@[simp] theorem setTag_wbs : (setTag d k v).wbs = d.wbs := rfl
@[simp] theorem setTag_ifs : (setTag d k v).ifs = d.ifs := rfl
@[simp] theorem setTag_mems : (setTag d k v).mems = d.mems := rfl
@[simp] theorem setTag_queues : (setTag d k v).queues = d.queues := rfl
@[simp] theorem setTag_links : (setTag d k v).links = d.links := rfl
@[simp] theorem setTag_tracks : (setTag d k v).tracks = d.tracks := rfl
@[simp] theorem setTag_mcs : (setTag d k v).mcs = d.mcs := rfl
@[simp] theorem setTag_unattr : (setTag d k v).unattr = d.unattr := rfl
@[simp] theorem setTag_crossings : (setTag d k v).crossings = d.crossings := rfl
@[simp] theorem setTag_limits : (setTag d k v).limits = d.limits := rfl
@[simp] theorem setTag_layout : (setTag d k v).layout = d.layout := rfl
@[simp] theorem setTag_memory : (setTag d k v).memory = d.memory := rfl
@[simp] theorem setTag_tx : (setTag d k v).tx = d.tx := rfl
end

section
variable (d : Device) (k : Nat) (v : WbUnit)
@[simp] theorem setWb_mono : (setWb d k v).mono = d.mono := rfl
@[simp] theorem setWb_fresh : (setWb d k v).fresh = d.fresh := rfl
@[simp] theorem setWb_regs : (setWb d k v).regs = d.regs := rfl
@[simp] theorem setWb_force : (setWb d k v).force = d.force := rfl
@[simp] theorem setWb_record : (setWb d k v).record = d.record := rfl
@[simp] theorem setWb_pins : (setWb d k v).pins = d.pins := rfl
@[simp] theorem setWb_ctls : (setWb d k v).ctls = d.ctls := rfl
@[simp] theorem setWb_pix : (setWb d k v).pix = d.pix := rfl
@[simp] theorem setWb_rails : (setWb d k v).rails = d.rails := rfl
@[simp] theorem setWb_clocks : (setWb d k v).clocks = d.clocks := rfl
@[simp] theorem setWb_rules : (setWb d k v).rules = d.rules := rfl
@[simp] theorem setWb_rings : (setWb d k v).rings = d.rings := rfl
@[simp] theorem setWb_sup : (setWb d k v).sup = d.sup := rfl
@[simp] theorem setWb_cmp : (setWb d k v).cmp = d.cmp := rfl
@[simp] theorem setWb_can : (setWb d k v).can = d.can := rfl
@[simp] theorem setWb_audit : (setWb d k v).audit = d.audit := rfl
@[simp] theorem setWb_awaiting : (setWb d k v).awaiting = d.awaiting := rfl
@[simp] theorem setWb_srcs : (setWb d k v).srcs = d.srcs := rfl
@[simp] theorem setWb_st2110 : (setWb d k v).st2110 = d.st2110 := rfl
@[simp] theorem setWb_cams : (setWb d k v).cams = d.cams := rfl
@[simp] theorem setWb_pipes : (setWb d k v).pipes = d.pipes := rfl
@[simp] theorem setWb_layers : (setWb d k v).layers = d.layers := rfl
@[simp] theorem setWb_heads : (setWb d k v).heads = d.heads := rfl
@[simp] theorem setWb_scans : (setWb d k v).scans = d.scans := rfl
@[simp] theorem setWb_tags : (setWb d k v).tags = d.tags := rfl
@[simp] theorem setWb_ifs : (setWb d k v).ifs = d.ifs := rfl
@[simp] theorem setWb_mems : (setWb d k v).mems = d.mems := rfl
@[simp] theorem setWb_queues : (setWb d k v).queues = d.queues := rfl
@[simp] theorem setWb_links : (setWb d k v).links = d.links := rfl
@[simp] theorem setWb_tracks : (setWb d k v).tracks = d.tracks := rfl
@[simp] theorem setWb_mcs : (setWb d k v).mcs = d.mcs := rfl
@[simp] theorem setWb_unattr : (setWb d k v).unattr = d.unattr := rfl
@[simp] theorem setWb_crossings : (setWb d k v).crossings = d.crossings := rfl
@[simp] theorem setWb_limits : (setWb d k v).limits = d.limits := rfl
@[simp] theorem setWb_layout : (setWb d k v).layout = d.layout := rfl
@[simp] theorem setWb_memory : (setWb d k v).memory = d.memory := rfl
@[simp] theorem setWb_tx : (setWb d k v).tx = d.tx := rfl
end

section
variable (d : Device) (k : Nat) (v : MemIfUnit)
@[simp] theorem setMemIf_mono : (setMemIf d k v).mono = d.mono := rfl
@[simp] theorem setMemIf_fresh : (setMemIf d k v).fresh = d.fresh := rfl
@[simp] theorem setMemIf_regs : (setMemIf d k v).regs = d.regs := rfl
@[simp] theorem setMemIf_force : (setMemIf d k v).force = d.force := rfl
@[simp] theorem setMemIf_record : (setMemIf d k v).record = d.record := rfl
@[simp] theorem setMemIf_pins : (setMemIf d k v).pins = d.pins := rfl
@[simp] theorem setMemIf_ctls : (setMemIf d k v).ctls = d.ctls := rfl
@[simp] theorem setMemIf_pix : (setMemIf d k v).pix = d.pix := rfl
@[simp] theorem setMemIf_rails : (setMemIf d k v).rails = d.rails := rfl
@[simp] theorem setMemIf_clocks : (setMemIf d k v).clocks = d.clocks := rfl
@[simp] theorem setMemIf_rules : (setMemIf d k v).rules = d.rules := rfl
@[simp] theorem setMemIf_rings : (setMemIf d k v).rings = d.rings := rfl
@[simp] theorem setMemIf_sup : (setMemIf d k v).sup = d.sup := rfl
@[simp] theorem setMemIf_cmp : (setMemIf d k v).cmp = d.cmp := rfl
@[simp] theorem setMemIf_can : (setMemIf d k v).can = d.can := rfl
@[simp] theorem setMemIf_audit : (setMemIf d k v).audit = d.audit := rfl
@[simp] theorem setMemIf_awaiting : (setMemIf d k v).awaiting = d.awaiting := rfl
@[simp] theorem setMemIf_srcs : (setMemIf d k v).srcs = d.srcs := rfl
@[simp] theorem setMemIf_st2110 : (setMemIf d k v).st2110 = d.st2110 := rfl
@[simp] theorem setMemIf_cams : (setMemIf d k v).cams = d.cams := rfl
@[simp] theorem setMemIf_pipes : (setMemIf d k v).pipes = d.pipes := rfl
@[simp] theorem setMemIf_layers : (setMemIf d k v).layers = d.layers := rfl
@[simp] theorem setMemIf_heads : (setMemIf d k v).heads = d.heads := rfl
@[simp] theorem setMemIf_scans : (setMemIf d k v).scans = d.scans := rfl
@[simp] theorem setMemIf_tags : (setMemIf d k v).tags = d.tags := rfl
@[simp] theorem setMemIf_wbs : (setMemIf d k v).wbs = d.wbs := rfl
@[simp] theorem setMemIf_mems : (setMemIf d k v).mems = d.mems := rfl
@[simp] theorem setMemIf_queues : (setMemIf d k v).queues = d.queues := rfl
@[simp] theorem setMemIf_links : (setMemIf d k v).links = d.links := rfl
@[simp] theorem setMemIf_tracks : (setMemIf d k v).tracks = d.tracks := rfl
@[simp] theorem setMemIf_mcs : (setMemIf d k v).mcs = d.mcs := rfl
@[simp] theorem setMemIf_unattr : (setMemIf d k v).unattr = d.unattr := rfl
@[simp] theorem setMemIf_crossings : (setMemIf d k v).crossings = d.crossings := rfl
@[simp] theorem setMemIf_limits : (setMemIf d k v).limits = d.limits := rfl
@[simp] theorem setMemIf_layout : (setMemIf d k v).layout = d.layout := rfl
@[simp] theorem setMemIf_memory : (setMemIf d k v).memory = d.memory := rfl
@[simp] theorem setMemIf_tx : (setMemIf d k v).tx = d.tx := rfl
end

section
variable (d : Device) (k : Nat) (v : MemUnit)
@[simp] theorem setMem_mono : (setMem d k v).mono = d.mono := rfl
@[simp] theorem setMem_fresh : (setMem d k v).fresh = d.fresh := rfl
@[simp] theorem setMem_regs : (setMem d k v).regs = d.regs := rfl
@[simp] theorem setMem_force : (setMem d k v).force = d.force := rfl
@[simp] theorem setMem_record : (setMem d k v).record = d.record := rfl
@[simp] theorem setMem_pins : (setMem d k v).pins = d.pins := rfl
@[simp] theorem setMem_ctls : (setMem d k v).ctls = d.ctls := rfl
@[simp] theorem setMem_pix : (setMem d k v).pix = d.pix := rfl
@[simp] theorem setMem_rails : (setMem d k v).rails = d.rails := rfl
@[simp] theorem setMem_clocks : (setMem d k v).clocks = d.clocks := rfl
@[simp] theorem setMem_rules : (setMem d k v).rules = d.rules := rfl
@[simp] theorem setMem_rings : (setMem d k v).rings = d.rings := rfl
@[simp] theorem setMem_sup : (setMem d k v).sup = d.sup := rfl
@[simp] theorem setMem_cmp : (setMem d k v).cmp = d.cmp := rfl
@[simp] theorem setMem_can : (setMem d k v).can = d.can := rfl
@[simp] theorem setMem_audit : (setMem d k v).audit = d.audit := rfl
@[simp] theorem setMem_awaiting : (setMem d k v).awaiting = d.awaiting := rfl
@[simp] theorem setMem_srcs : (setMem d k v).srcs = d.srcs := rfl
@[simp] theorem setMem_st2110 : (setMem d k v).st2110 = d.st2110 := rfl
@[simp] theorem setMem_cams : (setMem d k v).cams = d.cams := rfl
@[simp] theorem setMem_pipes : (setMem d k v).pipes = d.pipes := rfl
@[simp] theorem setMem_layers : (setMem d k v).layers = d.layers := rfl
@[simp] theorem setMem_heads : (setMem d k v).heads = d.heads := rfl
@[simp] theorem setMem_scans : (setMem d k v).scans = d.scans := rfl
@[simp] theorem setMem_tags : (setMem d k v).tags = d.tags := rfl
@[simp] theorem setMem_wbs : (setMem d k v).wbs = d.wbs := rfl
@[simp] theorem setMem_ifs : (setMem d k v).ifs = d.ifs := rfl
@[simp] theorem setMem_queues : (setMem d k v).queues = d.queues := rfl
@[simp] theorem setMem_links : (setMem d k v).links = d.links := rfl
@[simp] theorem setMem_tracks : (setMem d k v).tracks = d.tracks := rfl
@[simp] theorem setMem_mcs : (setMem d k v).mcs = d.mcs := rfl
@[simp] theorem setMem_unattr : (setMem d k v).unattr = d.unattr := rfl
@[simp] theorem setMem_crossings : (setMem d k v).crossings = d.crossings := rfl
@[simp] theorem setMem_limits : (setMem d k v).limits = d.limits := rfl
@[simp] theorem setMem_layout : (setMem d k v).layout = d.layout := rfl
@[simp] theorem setMem_memory : (setMem d k v).memory = d.memory := rfl
@[simp] theorem setMem_tx : (setMem d k v).tx = d.tx := rfl
end

section
variable (d : Device) (k : Nat) (v : QueueUnit)
@[simp] theorem setQueue_mono : (setQueue d k v).mono = d.mono := rfl
@[simp] theorem setQueue_fresh : (setQueue d k v).fresh = d.fresh := rfl
@[simp] theorem setQueue_regs : (setQueue d k v).regs = d.regs := rfl
@[simp] theorem setQueue_force : (setQueue d k v).force = d.force := rfl
@[simp] theorem setQueue_record : (setQueue d k v).record = d.record := rfl
@[simp] theorem setQueue_pins : (setQueue d k v).pins = d.pins := rfl
@[simp] theorem setQueue_ctls : (setQueue d k v).ctls = d.ctls := rfl
@[simp] theorem setQueue_pix : (setQueue d k v).pix = d.pix := rfl
@[simp] theorem setQueue_rails : (setQueue d k v).rails = d.rails := rfl
@[simp] theorem setQueue_clocks : (setQueue d k v).clocks = d.clocks := rfl
@[simp] theorem setQueue_rules : (setQueue d k v).rules = d.rules := rfl
@[simp] theorem setQueue_rings : (setQueue d k v).rings = d.rings := rfl
@[simp] theorem setQueue_sup : (setQueue d k v).sup = d.sup := rfl
@[simp] theorem setQueue_cmp : (setQueue d k v).cmp = d.cmp := rfl
@[simp] theorem setQueue_can : (setQueue d k v).can = d.can := rfl
@[simp] theorem setQueue_audit : (setQueue d k v).audit = d.audit := rfl
@[simp] theorem setQueue_awaiting : (setQueue d k v).awaiting = d.awaiting := rfl
@[simp] theorem setQueue_srcs : (setQueue d k v).srcs = d.srcs := rfl
@[simp] theorem setQueue_st2110 : (setQueue d k v).st2110 = d.st2110 := rfl
@[simp] theorem setQueue_cams : (setQueue d k v).cams = d.cams := rfl
@[simp] theorem setQueue_pipes : (setQueue d k v).pipes = d.pipes := rfl
@[simp] theorem setQueue_layers : (setQueue d k v).layers = d.layers := rfl
@[simp] theorem setQueue_heads : (setQueue d k v).heads = d.heads := rfl
@[simp] theorem setQueue_scans : (setQueue d k v).scans = d.scans := rfl
@[simp] theorem setQueue_tags : (setQueue d k v).tags = d.tags := rfl
@[simp] theorem setQueue_wbs : (setQueue d k v).wbs = d.wbs := rfl
@[simp] theorem setQueue_ifs : (setQueue d k v).ifs = d.ifs := rfl
@[simp] theorem setQueue_mems : (setQueue d k v).mems = d.mems := rfl
@[simp] theorem setQueue_links : (setQueue d k v).links = d.links := rfl
@[simp] theorem setQueue_tracks : (setQueue d k v).tracks = d.tracks := rfl
@[simp] theorem setQueue_mcs : (setQueue d k v).mcs = d.mcs := rfl
@[simp] theorem setQueue_unattr : (setQueue d k v).unattr = d.unattr := rfl
@[simp] theorem setQueue_crossings : (setQueue d k v).crossings = d.crossings := rfl
@[simp] theorem setQueue_limits : (setQueue d k v).limits = d.limits := rfl
@[simp] theorem setQueue_layout : (setQueue d k v).layout = d.layout := rfl
@[simp] theorem setQueue_memory : (setQueue d k v).memory = d.memory := rfl
@[simp] theorem setQueue_tx : (setQueue d k v).tx = d.tx := rfl
end

section
variable (d : Device) (k : Nat) (v : TouchUnit)
@[simp] theorem setLink_mono : (setLink d k v).mono = d.mono := rfl
@[simp] theorem setLink_fresh : (setLink d k v).fresh = d.fresh := rfl
@[simp] theorem setLink_regs : (setLink d k v).regs = d.regs := rfl
@[simp] theorem setLink_force : (setLink d k v).force = d.force := rfl
@[simp] theorem setLink_record : (setLink d k v).record = d.record := rfl
@[simp] theorem setLink_pins : (setLink d k v).pins = d.pins := rfl
@[simp] theorem setLink_ctls : (setLink d k v).ctls = d.ctls := rfl
@[simp] theorem setLink_pix : (setLink d k v).pix = d.pix := rfl
@[simp] theorem setLink_rails : (setLink d k v).rails = d.rails := rfl
@[simp] theorem setLink_clocks : (setLink d k v).clocks = d.clocks := rfl
@[simp] theorem setLink_rules : (setLink d k v).rules = d.rules := rfl
@[simp] theorem setLink_rings : (setLink d k v).rings = d.rings := rfl
@[simp] theorem setLink_sup : (setLink d k v).sup = d.sup := rfl
@[simp] theorem setLink_cmp : (setLink d k v).cmp = d.cmp := rfl
@[simp] theorem setLink_can : (setLink d k v).can = d.can := rfl
@[simp] theorem setLink_audit : (setLink d k v).audit = d.audit := rfl
@[simp] theorem setLink_awaiting : (setLink d k v).awaiting = d.awaiting := rfl
@[simp] theorem setLink_srcs : (setLink d k v).srcs = d.srcs := rfl
@[simp] theorem setLink_st2110 : (setLink d k v).st2110 = d.st2110 := rfl
@[simp] theorem setLink_cams : (setLink d k v).cams = d.cams := rfl
@[simp] theorem setLink_pipes : (setLink d k v).pipes = d.pipes := rfl
@[simp] theorem setLink_layers : (setLink d k v).layers = d.layers := rfl
@[simp] theorem setLink_heads : (setLink d k v).heads = d.heads := rfl
@[simp] theorem setLink_scans : (setLink d k v).scans = d.scans := rfl
@[simp] theorem setLink_tags : (setLink d k v).tags = d.tags := rfl
@[simp] theorem setLink_wbs : (setLink d k v).wbs = d.wbs := rfl
@[simp] theorem setLink_ifs : (setLink d k v).ifs = d.ifs := rfl
@[simp] theorem setLink_mems : (setLink d k v).mems = d.mems := rfl
@[simp] theorem setLink_queues : (setLink d k v).queues = d.queues := rfl
@[simp] theorem setLink_tracks : (setLink d k v).tracks = d.tracks := rfl
@[simp] theorem setLink_mcs : (setLink d k v).mcs = d.mcs := rfl
@[simp] theorem setLink_unattr : (setLink d k v).unattr = d.unattr := rfl
@[simp] theorem setLink_crossings : (setLink d k v).crossings = d.crossings := rfl
@[simp] theorem setLink_limits : (setLink d k v).limits = d.limits := rfl
@[simp] theorem setLink_layout : (setLink d k v).layout = d.layout := rfl
@[simp] theorem setLink_memory : (setLink d k v).memory = d.memory := rfl
@[simp] theorem setLink_tx : (setLink d k v).tx = d.tx := rfl
end

section
variable (d : Device) (k : Nat) (v : TrackUnit)
@[simp] theorem setTrack_mono : (setTrack d k v).mono = d.mono := rfl
@[simp] theorem setTrack_fresh : (setTrack d k v).fresh = d.fresh := rfl
@[simp] theorem setTrack_regs : (setTrack d k v).regs = d.regs := rfl
@[simp] theorem setTrack_force : (setTrack d k v).force = d.force := rfl
@[simp] theorem setTrack_record : (setTrack d k v).record = d.record := rfl
@[simp] theorem setTrack_pins : (setTrack d k v).pins = d.pins := rfl
@[simp] theorem setTrack_ctls : (setTrack d k v).ctls = d.ctls := rfl
@[simp] theorem setTrack_pix : (setTrack d k v).pix = d.pix := rfl
@[simp] theorem setTrack_rails : (setTrack d k v).rails = d.rails := rfl
@[simp] theorem setTrack_clocks : (setTrack d k v).clocks = d.clocks := rfl
@[simp] theorem setTrack_rules : (setTrack d k v).rules = d.rules := rfl
@[simp] theorem setTrack_rings : (setTrack d k v).rings = d.rings := rfl
@[simp] theorem setTrack_sup : (setTrack d k v).sup = d.sup := rfl
@[simp] theorem setTrack_cmp : (setTrack d k v).cmp = d.cmp := rfl
@[simp] theorem setTrack_can : (setTrack d k v).can = d.can := rfl
@[simp] theorem setTrack_audit : (setTrack d k v).audit = d.audit := rfl
@[simp] theorem setTrack_awaiting : (setTrack d k v).awaiting = d.awaiting := rfl
@[simp] theorem setTrack_srcs : (setTrack d k v).srcs = d.srcs := rfl
@[simp] theorem setTrack_st2110 : (setTrack d k v).st2110 = d.st2110 := rfl
@[simp] theorem setTrack_cams : (setTrack d k v).cams = d.cams := rfl
@[simp] theorem setTrack_pipes : (setTrack d k v).pipes = d.pipes := rfl
@[simp] theorem setTrack_layers : (setTrack d k v).layers = d.layers := rfl
@[simp] theorem setTrack_heads : (setTrack d k v).heads = d.heads := rfl
@[simp] theorem setTrack_scans : (setTrack d k v).scans = d.scans := rfl
@[simp] theorem setTrack_tags : (setTrack d k v).tags = d.tags := rfl
@[simp] theorem setTrack_wbs : (setTrack d k v).wbs = d.wbs := rfl
@[simp] theorem setTrack_ifs : (setTrack d k v).ifs = d.ifs := rfl
@[simp] theorem setTrack_mems : (setTrack d k v).mems = d.mems := rfl
@[simp] theorem setTrack_queues : (setTrack d k v).queues = d.queues := rfl
@[simp] theorem setTrack_links : (setTrack d k v).links = d.links := rfl
@[simp] theorem setTrack_mcs : (setTrack d k v).mcs = d.mcs := rfl
@[simp] theorem setTrack_unattr : (setTrack d k v).unattr = d.unattr := rfl
@[simp] theorem setTrack_crossings : (setTrack d k v).crossings = d.crossings := rfl
@[simp] theorem setTrack_limits : (setTrack d k v).limits = d.limits := rfl
@[simp] theorem setTrack_layout : (setTrack d k v).layout = d.layout := rfl
@[simp] theorem setTrack_memory : (setTrack d k v).memory = d.memory := rfl
@[simp] theorem setTrack_tx : (setTrack d k v).tx = d.tx := rfl
end

section
variable (d : Device) (k : Nat) (v : McUnit)
@[simp] theorem setMc_mono : (setMc d k v).mono = d.mono := rfl
@[simp] theorem setMc_fresh : (setMc d k v).fresh = d.fresh := rfl
@[simp] theorem setMc_regs : (setMc d k v).regs = d.regs := rfl
@[simp] theorem setMc_force : (setMc d k v).force = d.force := rfl
@[simp] theorem setMc_record : (setMc d k v).record = d.record := rfl
@[simp] theorem setMc_pins : (setMc d k v).pins = d.pins := rfl
@[simp] theorem setMc_ctls : (setMc d k v).ctls = d.ctls := rfl
@[simp] theorem setMc_pix : (setMc d k v).pix = d.pix := rfl
@[simp] theorem setMc_rails : (setMc d k v).rails = d.rails := rfl
@[simp] theorem setMc_clocks : (setMc d k v).clocks = d.clocks := rfl
@[simp] theorem setMc_rules : (setMc d k v).rules = d.rules := rfl
@[simp] theorem setMc_rings : (setMc d k v).rings = d.rings := rfl
@[simp] theorem setMc_sup : (setMc d k v).sup = d.sup := rfl
@[simp] theorem setMc_cmp : (setMc d k v).cmp = d.cmp := rfl
@[simp] theorem setMc_can : (setMc d k v).can = d.can := rfl
@[simp] theorem setMc_audit : (setMc d k v).audit = d.audit := rfl
@[simp] theorem setMc_awaiting : (setMc d k v).awaiting = d.awaiting := rfl
@[simp] theorem setMc_srcs : (setMc d k v).srcs = d.srcs := rfl
@[simp] theorem setMc_st2110 : (setMc d k v).st2110 = d.st2110 := rfl
@[simp] theorem setMc_cams : (setMc d k v).cams = d.cams := rfl
@[simp] theorem setMc_pipes : (setMc d k v).pipes = d.pipes := rfl
@[simp] theorem setMc_layers : (setMc d k v).layers = d.layers := rfl
@[simp] theorem setMc_heads : (setMc d k v).heads = d.heads := rfl
@[simp] theorem setMc_scans : (setMc d k v).scans = d.scans := rfl
@[simp] theorem setMc_tags : (setMc d k v).tags = d.tags := rfl
@[simp] theorem setMc_wbs : (setMc d k v).wbs = d.wbs := rfl
@[simp] theorem setMc_ifs : (setMc d k v).ifs = d.ifs := rfl
@[simp] theorem setMc_mems : (setMc d k v).mems = d.mems := rfl
@[simp] theorem setMc_queues : (setMc d k v).queues = d.queues := rfl
@[simp] theorem setMc_links : (setMc d k v).links = d.links := rfl
@[simp] theorem setMc_tracks : (setMc d k v).tracks = d.tracks := rfl
@[simp] theorem setMc_unattr : (setMc d k v).unattr = d.unattr := rfl
@[simp] theorem setMc_crossings : (setMc d k v).crossings = d.crossings := rfl
@[simp] theorem setMc_limits : (setMc d k v).limits = d.limits := rfl
@[simp] theorem setMc_layout : (setMc d k v).layout = d.layout := rfl
@[simp] theorem setMc_memory : (setMc d k v).memory = d.memory := rfl
@[simp] theorem setMc_tx : (setMc d k v).tx = d.tx := rfl
end

section
variable (d : Device) (i j : Nat) (v : Val)
@[simp] theorem setReg_mono : (setReg d i j v).mono = d.mono := rfl
@[simp] theorem setReg_fresh : (setReg d i j v).fresh = d.fresh := rfl
@[simp] theorem setReg_force : (setReg d i j v).force = d.force := rfl
@[simp] theorem setReg_record : (setReg d i j v).record = d.record := rfl
@[simp] theorem setReg_pins : (setReg d i j v).pins = d.pins := rfl
@[simp] theorem setReg_ctls : (setReg d i j v).ctls = d.ctls := rfl
@[simp] theorem setReg_pix : (setReg d i j v).pix = d.pix := rfl
@[simp] theorem setReg_rails : (setReg d i j v).rails = d.rails := rfl
@[simp] theorem setReg_clocks : (setReg d i j v).clocks = d.clocks := rfl
@[simp] theorem setReg_rules : (setReg d i j v).rules = d.rules := rfl
@[simp] theorem setReg_rings : (setReg d i j v).rings = d.rings := rfl
@[simp] theorem setReg_sup : (setReg d i j v).sup = d.sup := rfl
@[simp] theorem setReg_cmp : (setReg d i j v).cmp = d.cmp := rfl
@[simp] theorem setReg_can : (setReg d i j v).can = d.can := rfl
@[simp] theorem setReg_audit : (setReg d i j v).audit = d.audit := rfl
@[simp] theorem setReg_awaiting : (setReg d i j v).awaiting = d.awaiting := rfl
@[simp] theorem setReg_srcs : (setReg d i j v).srcs = d.srcs := rfl
@[simp] theorem setReg_st2110 : (setReg d i j v).st2110 = d.st2110 := rfl
@[simp] theorem setReg_cams : (setReg d i j v).cams = d.cams := rfl
@[simp] theorem setReg_pipes : (setReg d i j v).pipes = d.pipes := rfl
@[simp] theorem setReg_layers : (setReg d i j v).layers = d.layers := rfl
@[simp] theorem setReg_heads : (setReg d i j v).heads = d.heads := rfl
@[simp] theorem setReg_scans : (setReg d i j v).scans = d.scans := rfl
@[simp] theorem setReg_tags : (setReg d i j v).tags = d.tags := rfl
@[simp] theorem setReg_wbs : (setReg d i j v).wbs = d.wbs := rfl
@[simp] theorem setReg_ifs : (setReg d i j v).ifs = d.ifs := rfl
@[simp] theorem setReg_mems : (setReg d i j v).mems = d.mems := rfl
@[simp] theorem setReg_queues : (setReg d i j v).queues = d.queues := rfl
@[simp] theorem setReg_links : (setReg d i j v).links = d.links := rfl
@[simp] theorem setReg_tracks : (setReg d i j v).tracks = d.tracks := rfl
@[simp] theorem setReg_mcs : (setReg d i j v).mcs = d.mcs := rfl
@[simp] theorem setReg_unattr : (setReg d i j v).unattr = d.unattr := rfl
@[simp] theorem setReg_crossings : (setReg d i j v).crossings = d.crossings := rfl
@[simp] theorem setReg_limits : (setReg d i j v).limits = d.limits := rfl
@[simp] theorem setReg_layout : (setReg d i j v).layout = d.layout := rfl
@[simp] theorem setReg_memory : (setReg d i j v).memory = d.memory := rfl
@[simp] theorem setReg_tx : (setReg d i j v).tx = d.tx := rfl
end

section
variable (d : Device) (i j : Nat) (v : Val)
@[simp] theorem setForce_mono : (setForce d i j v).mono = d.mono := rfl
@[simp] theorem setForce_fresh : (setForce d i j v).fresh = d.fresh := rfl
@[simp] theorem setForce_regs : (setForce d i j v).regs = d.regs := rfl
@[simp] theorem setForce_record : (setForce d i j v).record = d.record := rfl
@[simp] theorem setForce_pins : (setForce d i j v).pins = d.pins := rfl
@[simp] theorem setForce_ctls : (setForce d i j v).ctls = d.ctls := rfl
@[simp] theorem setForce_pix : (setForce d i j v).pix = d.pix := rfl
@[simp] theorem setForce_rails : (setForce d i j v).rails = d.rails := rfl
@[simp] theorem setForce_clocks : (setForce d i j v).clocks = d.clocks := rfl
@[simp] theorem setForce_rules : (setForce d i j v).rules = d.rules := rfl
@[simp] theorem setForce_rings : (setForce d i j v).rings = d.rings := rfl
@[simp] theorem setForce_sup : (setForce d i j v).sup = d.sup := rfl
@[simp] theorem setForce_cmp : (setForce d i j v).cmp = d.cmp := rfl
@[simp] theorem setForce_can : (setForce d i j v).can = d.can := rfl
@[simp] theorem setForce_audit : (setForce d i j v).audit = d.audit := rfl
@[simp] theorem setForce_awaiting : (setForce d i j v).awaiting = d.awaiting := rfl
@[simp] theorem setForce_srcs : (setForce d i j v).srcs = d.srcs := rfl
@[simp] theorem setForce_st2110 : (setForce d i j v).st2110 = d.st2110 := rfl
@[simp] theorem setForce_cams : (setForce d i j v).cams = d.cams := rfl
@[simp] theorem setForce_pipes : (setForce d i j v).pipes = d.pipes := rfl
@[simp] theorem setForce_layers : (setForce d i j v).layers = d.layers := rfl
@[simp] theorem setForce_heads : (setForce d i j v).heads = d.heads := rfl
@[simp] theorem setForce_scans : (setForce d i j v).scans = d.scans := rfl
@[simp] theorem setForce_tags : (setForce d i j v).tags = d.tags := rfl
@[simp] theorem setForce_wbs : (setForce d i j v).wbs = d.wbs := rfl
@[simp] theorem setForce_ifs : (setForce d i j v).ifs = d.ifs := rfl
@[simp] theorem setForce_mems : (setForce d i j v).mems = d.mems := rfl
@[simp] theorem setForce_queues : (setForce d i j v).queues = d.queues := rfl
@[simp] theorem setForce_links : (setForce d i j v).links = d.links := rfl
@[simp] theorem setForce_tracks : (setForce d i j v).tracks = d.tracks := rfl
@[simp] theorem setForce_mcs : (setForce d i j v).mcs = d.mcs := rfl
@[simp] theorem setForce_unattr : (setForce d i j v).unattr = d.unattr := rfl
@[simp] theorem setForce_crossings : (setForce d i j v).crossings = d.crossings := rfl
@[simp] theorem setForce_limits : (setForce d i j v).limits = d.limits := rfl
@[simp] theorem setForce_layout : (setForce d i j v).layout = d.layout := rfl
@[simp] theorem setForce_memory : (setForce d i j v).memory = d.memory := rfl
@[simp] theorem setForce_tx : (setForce d i j v).tx = d.tx := rfl
end

section
variable (d : Device) (i j : Nat) (v : Val)
@[simp] theorem setRecord_mono : (setRecord d i j v).mono = d.mono := rfl
@[simp] theorem setRecord_fresh : (setRecord d i j v).fresh = d.fresh := rfl
@[simp] theorem setRecord_regs : (setRecord d i j v).regs = d.regs := rfl
@[simp] theorem setRecord_force : (setRecord d i j v).force = d.force := rfl
@[simp] theorem setRecord_pins : (setRecord d i j v).pins = d.pins := rfl
@[simp] theorem setRecord_ctls : (setRecord d i j v).ctls = d.ctls := rfl
@[simp] theorem setRecord_pix : (setRecord d i j v).pix = d.pix := rfl
@[simp] theorem setRecord_rails : (setRecord d i j v).rails = d.rails := rfl
@[simp] theorem setRecord_clocks : (setRecord d i j v).clocks = d.clocks := rfl
@[simp] theorem setRecord_rules : (setRecord d i j v).rules = d.rules := rfl
@[simp] theorem setRecord_rings : (setRecord d i j v).rings = d.rings := rfl
@[simp] theorem setRecord_sup : (setRecord d i j v).sup = d.sup := rfl
@[simp] theorem setRecord_cmp : (setRecord d i j v).cmp = d.cmp := rfl
@[simp] theorem setRecord_can : (setRecord d i j v).can = d.can := rfl
@[simp] theorem setRecord_audit : (setRecord d i j v).audit = d.audit := rfl
@[simp] theorem setRecord_awaiting : (setRecord d i j v).awaiting = d.awaiting := rfl
@[simp] theorem setRecord_srcs : (setRecord d i j v).srcs = d.srcs := rfl
@[simp] theorem setRecord_st2110 : (setRecord d i j v).st2110 = d.st2110 := rfl
@[simp] theorem setRecord_cams : (setRecord d i j v).cams = d.cams := rfl
@[simp] theorem setRecord_pipes : (setRecord d i j v).pipes = d.pipes := rfl
@[simp] theorem setRecord_layers : (setRecord d i j v).layers = d.layers := rfl
@[simp] theorem setRecord_heads : (setRecord d i j v).heads = d.heads := rfl
@[simp] theorem setRecord_scans : (setRecord d i j v).scans = d.scans := rfl
@[simp] theorem setRecord_tags : (setRecord d i j v).tags = d.tags := rfl
@[simp] theorem setRecord_wbs : (setRecord d i j v).wbs = d.wbs := rfl
@[simp] theorem setRecord_ifs : (setRecord d i j v).ifs = d.ifs := rfl
@[simp] theorem setRecord_mems : (setRecord d i j v).mems = d.mems := rfl
@[simp] theorem setRecord_queues : (setRecord d i j v).queues = d.queues := rfl
@[simp] theorem setRecord_links : (setRecord d i j v).links = d.links := rfl
@[simp] theorem setRecord_tracks : (setRecord d i j v).tracks = d.tracks := rfl
@[simp] theorem setRecord_mcs : (setRecord d i j v).mcs = d.mcs := rfl
@[simp] theorem setRecord_unattr : (setRecord d i j v).unattr = d.unattr := rfl
@[simp] theorem setRecord_crossings : (setRecord d i j v).crossings = d.crossings := rfl
@[simp] theorem setRecord_limits : (setRecord d i j v).limits = d.limits := rfl
@[simp] theorem setRecord_layout : (setRecord d i j v).layout = d.layout := rfl
@[simp] theorem setRecord_memory : (setRecord d i j v).memory = d.memory := rfl
@[simp] theorem setRecord_tx : (setRecord d i j v).tx = d.tx := rfl
end

section
variable (d : Device) (i j v : Nat)
@[simp] theorem setN_mono : (setN d i j v).mono = d.mono := rfl
@[simp] theorem setN_fresh : (setN d i j v).fresh = d.fresh := rfl
@[simp] theorem setN_force : (setN d i j v).force = d.force := rfl
@[simp] theorem setN_record : (setN d i j v).record = d.record := rfl
@[simp] theorem setN_pins : (setN d i j v).pins = d.pins := rfl
@[simp] theorem setN_ctls : (setN d i j v).ctls = d.ctls := rfl
@[simp] theorem setN_pix : (setN d i j v).pix = d.pix := rfl
@[simp] theorem setN_rails : (setN d i j v).rails = d.rails := rfl
@[simp] theorem setN_clocks : (setN d i j v).clocks = d.clocks := rfl
@[simp] theorem setN_rules : (setN d i j v).rules = d.rules := rfl
@[simp] theorem setN_rings : (setN d i j v).rings = d.rings := rfl
@[simp] theorem setN_sup : (setN d i j v).sup = d.sup := rfl
@[simp] theorem setN_cmp : (setN d i j v).cmp = d.cmp := rfl
@[simp] theorem setN_can : (setN d i j v).can = d.can := rfl
@[simp] theorem setN_audit : (setN d i j v).audit = d.audit := rfl
@[simp] theorem setN_awaiting : (setN d i j v).awaiting = d.awaiting := rfl
@[simp] theorem setN_srcs : (setN d i j v).srcs = d.srcs := rfl
@[simp] theorem setN_st2110 : (setN d i j v).st2110 = d.st2110 := rfl
@[simp] theorem setN_cams : (setN d i j v).cams = d.cams := rfl
@[simp] theorem setN_pipes : (setN d i j v).pipes = d.pipes := rfl
@[simp] theorem setN_layers : (setN d i j v).layers = d.layers := rfl
@[simp] theorem setN_heads : (setN d i j v).heads = d.heads := rfl
@[simp] theorem setN_scans : (setN d i j v).scans = d.scans := rfl
@[simp] theorem setN_tags : (setN d i j v).tags = d.tags := rfl
@[simp] theorem setN_wbs : (setN d i j v).wbs = d.wbs := rfl
@[simp] theorem setN_ifs : (setN d i j v).ifs = d.ifs := rfl
@[simp] theorem setN_mems : (setN d i j v).mems = d.mems := rfl
@[simp] theorem setN_queues : (setN d i j v).queues = d.queues := rfl
@[simp] theorem setN_links : (setN d i j v).links = d.links := rfl
@[simp] theorem setN_tracks : (setN d i j v).tracks = d.tracks := rfl
@[simp] theorem setN_mcs : (setN d i j v).mcs = d.mcs := rfl
@[simp] theorem setN_unattr : (setN d i j v).unattr = d.unattr := rfl
@[simp] theorem setN_crossings : (setN d i j v).crossings = d.crossings := rfl
@[simp] theorem setN_limits : (setN d i j v).limits = d.limits := rfl
@[simp] theorem setN_layout : (setN d i j v).layout = d.layout := rfl
@[simp] theorem setN_memory : (setN d i j v).memory = d.memory := rfl
@[simp] theorem setN_tx : (setN d i j v).tx = d.tx := rfl
end

section
variable (d : Device) (i j : Nat) (b : List Byte)
@[simp] theorem setB_mono : (setB d i j b).mono = d.mono := rfl
@[simp] theorem setB_fresh : (setB d i j b).fresh = d.fresh := rfl
@[simp] theorem setB_force : (setB d i j b).force = d.force := rfl
@[simp] theorem setB_record : (setB d i j b).record = d.record := rfl
@[simp] theorem setB_pins : (setB d i j b).pins = d.pins := rfl
@[simp] theorem setB_ctls : (setB d i j b).ctls = d.ctls := rfl
@[simp] theorem setB_pix : (setB d i j b).pix = d.pix := rfl
@[simp] theorem setB_rails : (setB d i j b).rails = d.rails := rfl
@[simp] theorem setB_clocks : (setB d i j b).clocks = d.clocks := rfl
@[simp] theorem setB_rules : (setB d i j b).rules = d.rules := rfl
@[simp] theorem setB_rings : (setB d i j b).rings = d.rings := rfl
@[simp] theorem setB_sup : (setB d i j b).sup = d.sup := rfl
@[simp] theorem setB_cmp : (setB d i j b).cmp = d.cmp := rfl
@[simp] theorem setB_can : (setB d i j b).can = d.can := rfl
@[simp] theorem setB_audit : (setB d i j b).audit = d.audit := rfl
@[simp] theorem setB_awaiting : (setB d i j b).awaiting = d.awaiting := rfl
@[simp] theorem setB_srcs : (setB d i j b).srcs = d.srcs := rfl
@[simp] theorem setB_st2110 : (setB d i j b).st2110 = d.st2110 := rfl
@[simp] theorem setB_cams : (setB d i j b).cams = d.cams := rfl
@[simp] theorem setB_pipes : (setB d i j b).pipes = d.pipes := rfl
@[simp] theorem setB_layers : (setB d i j b).layers = d.layers := rfl
@[simp] theorem setB_heads : (setB d i j b).heads = d.heads := rfl
@[simp] theorem setB_scans : (setB d i j b).scans = d.scans := rfl
@[simp] theorem setB_tags : (setB d i j b).tags = d.tags := rfl
@[simp] theorem setB_wbs : (setB d i j b).wbs = d.wbs := rfl
@[simp] theorem setB_ifs : (setB d i j b).ifs = d.ifs := rfl
@[simp] theorem setB_mems : (setB d i j b).mems = d.mems := rfl
@[simp] theorem setB_queues : (setB d i j b).queues = d.queues := rfl
@[simp] theorem setB_links : (setB d i j b).links = d.links := rfl
@[simp] theorem setB_tracks : (setB d i j b).tracks = d.tracks := rfl
@[simp] theorem setB_mcs : (setB d i j b).mcs = d.mcs := rfl
@[simp] theorem setB_unattr : (setB d i j b).unattr = d.unattr := rfl
@[simp] theorem setB_crossings : (setB d i j b).crossings = d.crossings := rfl
@[simp] theorem setB_limits : (setB d i j b).limits = d.limits := rfl
@[simp] theorem setB_layout : (setB d i j b).layout = d.layout := rfl
@[simp] theorem setB_memory : (setB d i j b).memory = d.memory := rfl
@[simp] theorem setB_tx : (setB d i j b).tx = d.tx := rfl
end

section
variable (d : Device) (p k q : Nat) (b : List Byte)
@[simp] theorem send_mono : (send d p k q b).mono = d.mono := by simp only [send]; split <;> rfl
@[simp] theorem send_fresh : (send d p k q b).fresh = d.fresh := by simp only [send]; split <;> rfl
@[simp] theorem send_regs : (send d p k q b).regs = d.regs := by simp only [send]; split <;> rfl
@[simp] theorem send_force : (send d p k q b).force = d.force := by simp only [send]; split <;> rfl
@[simp] theorem send_record : (send d p k q b).record = d.record := by simp only [send]; split <;> rfl
@[simp] theorem send_pins : (send d p k q b).pins = d.pins := by simp only [send]; split <;> rfl
@[simp] theorem send_ctls : (send d p k q b).ctls = d.ctls := by simp only [send]; split <;> rfl
@[simp] theorem send_pix : (send d p k q b).pix = d.pix := by simp only [send]; split <;> rfl
@[simp] theorem send_rails : (send d p k q b).rails = d.rails := by simp only [send]; split <;> rfl
@[simp] theorem send_clocks : (send d p k q b).clocks = d.clocks := by simp only [send]; split <;> rfl
@[simp] theorem send_rules : (send d p k q b).rules = d.rules := by simp only [send]; split <;> rfl
@[simp] theorem send_rings : (send d p k q b).rings = d.rings := by simp only [send]; split <;> rfl
@[simp] theorem send_sup : (send d p k q b).sup = d.sup := by simp only [send]; split <;> rfl
@[simp] theorem send_cmp : (send d p k q b).cmp = d.cmp := by simp only [send]; split <;> rfl
@[simp] theorem send_can : (send d p k q b).can = d.can := by simp only [send]; split <;> rfl
@[simp] theorem send_audit : (send d p k q b).audit = d.audit := by simp only [send]; split <;> rfl
@[simp] theorem send_awaiting : (send d p k q b).awaiting = d.awaiting := by simp only [send]; split <;> rfl
@[simp] theorem send_srcs : (send d p k q b).srcs = d.srcs := by simp only [send]; split <;> rfl
@[simp] theorem send_st2110 : (send d p k q b).st2110 = d.st2110 := by simp only [send]; split <;> rfl
@[simp] theorem send_cams : (send d p k q b).cams = d.cams := by simp only [send]; split <;> rfl
@[simp] theorem send_pipes : (send d p k q b).pipes = d.pipes := by simp only [send]; split <;> rfl
@[simp] theorem send_layers : (send d p k q b).layers = d.layers := by simp only [send]; split <;> rfl
@[simp] theorem send_heads : (send d p k q b).heads = d.heads := by simp only [send]; split <;> rfl
@[simp] theorem send_scans : (send d p k q b).scans = d.scans := by simp only [send]; split <;> rfl
@[simp] theorem send_tags : (send d p k q b).tags = d.tags := by simp only [send]; split <;> rfl
@[simp] theorem send_wbs : (send d p k q b).wbs = d.wbs := by simp only [send]; split <;> rfl
@[simp] theorem send_ifs : (send d p k q b).ifs = d.ifs := by simp only [send]; split <;> rfl
@[simp] theorem send_mems : (send d p k q b).mems = d.mems := by simp only [send]; split <;> rfl
@[simp] theorem send_queues : (send d p k q b).queues = d.queues := by simp only [send]; split <;> rfl
@[simp] theorem send_links : (send d p k q b).links = d.links := by simp only [send]; split <;> rfl
@[simp] theorem send_tracks : (send d p k q b).tracks = d.tracks := by simp only [send]; split <;> rfl
@[simp] theorem send_mcs : (send d p k q b).mcs = d.mcs := by simp only [send]; split <;> rfl
@[simp] theorem send_unattr : (send d p k q b).unattr = d.unattr := by simp only [send]; split <;> rfl
@[simp] theorem send_crossings : (send d p k q b).crossings = d.crossings := by simp only [send]; split <;> rfl
@[simp] theorem send_limits : (send d p k q b).limits = d.limits := by simp only [send]; split <;> rfl
@[simp] theorem send_layout : (send d p k q b).layout = d.layout := by simp only [send]; split <;> rfl
@[simp] theorem send_memory : (send d p k q b).memory = d.memory := by simp only [send]; split <;> rfl
end

section
variable (d : Device)
@[simp] theorem spend_mono : (spend d).mono = d.mono := rfl
@[simp] theorem spend_regs : (spend d).regs = d.regs := rfl
@[simp] theorem spend_force : (spend d).force = d.force := rfl
@[simp] theorem spend_record : (spend d).record = d.record := rfl
@[simp] theorem spend_pins : (spend d).pins = d.pins := rfl
@[simp] theorem spend_ctls : (spend d).ctls = d.ctls := rfl
@[simp] theorem spend_pix : (spend d).pix = d.pix := rfl
@[simp] theorem spend_rails : (spend d).rails = d.rails := rfl
@[simp] theorem spend_clocks : (spend d).clocks = d.clocks := rfl
@[simp] theorem spend_rules : (spend d).rules = d.rules := rfl
@[simp] theorem spend_rings : (spend d).rings = d.rings := rfl
@[simp] theorem spend_sup : (spend d).sup = d.sup := rfl
@[simp] theorem spend_cmp : (spend d).cmp = d.cmp := rfl
@[simp] theorem spend_can : (spend d).can = d.can := rfl
@[simp] theorem spend_audit : (spend d).audit = d.audit := rfl
@[simp] theorem spend_awaiting : (spend d).awaiting = d.awaiting := rfl
@[simp] theorem spend_srcs : (spend d).srcs = d.srcs := rfl
@[simp] theorem spend_st2110 : (spend d).st2110 = d.st2110 := rfl
@[simp] theorem spend_cams : (spend d).cams = d.cams := rfl
@[simp] theorem spend_pipes : (spend d).pipes = d.pipes := rfl
@[simp] theorem spend_layers : (spend d).layers = d.layers := rfl
@[simp] theorem spend_heads : (spend d).heads = d.heads := rfl
@[simp] theorem spend_scans : (spend d).scans = d.scans := rfl
@[simp] theorem spend_tags : (spend d).tags = d.tags := rfl
@[simp] theorem spend_wbs : (spend d).wbs = d.wbs := rfl
@[simp] theorem spend_ifs : (spend d).ifs = d.ifs := rfl
@[simp] theorem spend_mems : (spend d).mems = d.mems := rfl
@[simp] theorem spend_queues : (spend d).queues = d.queues := rfl
@[simp] theorem spend_links : (spend d).links = d.links := rfl
@[simp] theorem spend_tracks : (spend d).tracks = d.tracks := rfl
@[simp] theorem spend_mcs : (spend d).mcs = d.mcs := rfl
@[simp] theorem spend_unattr : (spend d).unattr = d.unattr := rfl
@[simp] theorem spend_crossings : (spend d).crossings = d.crossings := rfl
@[simp] theorem spend_limits : (spend d).limits = d.limits := rfl
@[simp] theorem spend_layout : (spend d).layout = d.layout := rfl
@[simp] theorem spend_memory : (spend d).memory = d.memory := rfl
@[simp] theorem spend_tx : (spend d).tx = d.tx := rfl
end

/-! ### Units after an update -/

@[simp] theorem ctlAt_setCtl (d : Device) (k j : Nat) (v : CtlDie) : ctlAt (setCtl d k v) j = if k = j then v else ctlAt d j := by
  simp [ctlAt, setCtl]
@[simp] theorem modCtl_eq (d : Device) (k : Nat) (f : CtlDie → CtlDie) : modCtl d k f = setCtl d k (f (ctlAt d k)) := rfl
theorem ctlAt_congr (d e : Device) (h : e.ctls = d.ctls) (k : Nat) : ctlAt e k = ctlAt d k := by simp [ctlAt, h]
@[simp] theorem pixAt_setPix (d : Device) (k j : Nat) (v : PixelDie) : pixAt (setPix d k v) j = if k = j then v else pixAt d j := by
  simp [pixAt, setPix]
@[simp] theorem modPix_eq (d : Device) (k : Nat) (f : PixelDie → PixelDie) : modPix d k f = setPix d k (f (pixAt d k)) := rfl
theorem pixAt_congr (d e : Device) (h : e.pix = d.pix) (k : Nat) : pixAt e k = pixAt d k := by simp [pixAt, h]
@[simp] theorem railAt_setRail (d : Device) (k j : Nat) (v : RailUnit) : railAt (setRail d k v) j = if k = j then v else railAt d j := by
  simp [railAt, setRail]
@[simp] theorem modRail_eq (d : Device) (k : Nat) (f : RailUnit → RailUnit) : modRail d k f = setRail d k (f (railAt d k)) := rfl
theorem railAt_congr (d e : Device) (h : e.rails = d.rails) (k : Nat) : railAt e k = railAt d k := by simp [railAt, h]
@[simp] theorem clockAt_setClock (d : Device) (k j : Nat) (v : ClockUnit) : clockAt (setClock d k v) j = if k = j then v else clockAt d j := by
  simp [clockAt, setClock]
@[simp] theorem modClock_eq (d : Device) (k : Nat) (f : ClockUnit → ClockUnit) : modClock d k f = setClock d k (f (clockAt d k)) := rfl
theorem clockAt_congr (d e : Device) (h : e.clocks = d.clocks) (k : Nat) : clockAt e k = clockAt d k := by simp [clockAt, h]
@[simp] theorem ruleCopyAt_setRuleCopy (d : Device) (k j : Nat) (v : RuleCopy) : ruleCopyAt (setRuleCopy d k v) j = if k = j then v else ruleCopyAt d j := by
  simp [ruleCopyAt, setRuleCopy]
@[simp] theorem modRuleCopy_eq (d : Device) (k : Nat) (f : RuleCopy → RuleCopy) : modRuleCopy d k f = setRuleCopy d k (f (ruleCopyAt d k)) := rfl
theorem ruleCopyAt_congr (d e : Device) (h : e.rules = d.rules) (k : Nat) : ruleCopyAt e k = ruleCopyAt d k := by simp [ruleCopyAt, h]
@[simp] theorem ringAt_setRing (d : Device) (k j : Nat) (v : Ring) : ringAt (setRing d k v) j = if k = j then v else ringAt d j := by
  simp [ringAt, setRing]
@[simp] theorem modRing_eq (d : Device) (k : Nat) (f : Ring → Ring) : modRing d k f = setRing d k (f (ringAt d k)) := rfl
theorem ringAt_congr (d e : Device) (h : e.rings = d.rings) (k : Nat) : ringAt e k = ringAt d k := by simp [ringAt, h]
@[simp] theorem srcAt_setSrc (d : Device) (k j : Nat) (v : SrcUnit) : srcAt (setSrc d k v) j = if k = j then v else srcAt d j := by
  simp [srcAt, setSrc]
@[simp] theorem modSrc_eq (d : Device) (k : Nat) (f : SrcUnit → SrcUnit) : modSrc d k f = setSrc d k (f (srcAt d k)) := rfl
theorem srcAt_congr (d e : Device) (h : e.srcs = d.srcs) (k : Nat) : srcAt e k = srcAt d k := by simp [srcAt, h]
@[simp] theorem st2110At_setSt2110 (d : Device) (k j : Nat) (v : St2110Unit) : st2110At (setSt2110 d k v) j = if k = j then v else st2110At d j := by
  simp [st2110At, setSt2110]
@[simp] theorem modSt2110_eq (d : Device) (k : Nat) (f : St2110Unit → St2110Unit) : modSt2110 d k f = setSt2110 d k (f (st2110At d k)) := rfl
theorem st2110At_congr (d e : Device) (h : e.st2110 = d.st2110) (k : Nat) : st2110At e k = st2110At d k := by simp [st2110At, h]
@[simp] theorem camAt_setCam (d : Device) (k j : Nat) (v : CamUnit) : camAt (setCam d k v) j = if k = j then v else camAt d j := by
  simp [camAt, setCam]
@[simp] theorem modCam_eq (d : Device) (k : Nat) (f : CamUnit → CamUnit) : modCam d k f = setCam d k (f (camAt d k)) := rfl
theorem camAt_congr (d e : Device) (h : e.cams = d.cams) (k : Nat) : camAt e k = camAt d k := by simp [camAt, h]
@[simp] theorem pipeAt_setPipe (d : Device) (k j : Nat) (v : PipeUnit) : pipeAt (setPipe d k v) j = if k = j then v else pipeAt d j := by
  simp [pipeAt, setPipe]
@[simp] theorem modPipe_eq (d : Device) (k : Nat) (f : PipeUnit → PipeUnit) : modPipe d k f = setPipe d k (f (pipeAt d k)) := rfl
theorem pipeAt_congr (d e : Device) (h : e.pipes = d.pipes) (k : Nat) : pipeAt e k = pipeAt d k := by simp [pipeAt, h]
@[simp] theorem layerAt_setLayer (d : Device) (k j : Nat) (v : LayerUnit) : layerAt (setLayer d k v) j = if k = j then v else layerAt d j := by
  simp [layerAt, setLayer]
@[simp] theorem modLayer_eq (d : Device) (k : Nat) (f : LayerUnit → LayerUnit) : modLayer d k f = setLayer d k (f (layerAt d k)) := rfl
theorem layerAt_congr (d e : Device) (h : e.layers = d.layers) (k : Nat) : layerAt e k = layerAt d k := by simp [layerAt, h]
@[simp] theorem headAt_setHead (d : Device) (k j : Nat) (v : HeadUnit) : headAt (setHead d k v) j = if k = j then v else headAt d j := by
  simp [headAt, setHead]
@[simp] theorem modHead_eq (d : Device) (k : Nat) (f : HeadUnit → HeadUnit) : modHead d k f = setHead d k (f (headAt d k)) := rfl
theorem headAt_congr (d e : Device) (h : e.heads = d.heads) (k : Nat) : headAt e k = headAt d k := by simp [headAt, h]
@[simp] theorem scanAt_setScan (d : Device) (k j : Nat) (v : HeadScan) : scanAt (setScan d k v) j = if k = j then v else scanAt d j := by
  simp [scanAt, setScan]
@[simp] theorem modScan_eq (d : Device) (k : Nat) (f : HeadScan → HeadScan) : modScan d k f = setScan d k (f (scanAt d k)) := rfl
theorem scanAt_congr (d e : Device) (h : e.scans = d.scans) (k : Nat) : scanAt e k = scanAt d k := by simp [scanAt, h]
@[simp] theorem tagAt_setTag (d : Device) (k j : Nat) (v : TagUnit) : tagAt (setTag d k v) j = if k = j then v else tagAt d j := by
  simp [tagAt, setTag]
@[simp] theorem modTag_eq (d : Device) (k : Nat) (f : TagUnit → TagUnit) : modTag d k f = setTag d k (f (tagAt d k)) := rfl
theorem tagAt_congr (d e : Device) (h : e.tags = d.tags) (k : Nat) : tagAt e k = tagAt d k := by simp [tagAt, h]
@[simp] theorem wbAt_setWb (d : Device) (k j : Nat) (v : WbUnit) : wbAt (setWb d k v) j = if k = j then v else wbAt d j := by
  simp [wbAt, setWb]
@[simp] theorem modWb_eq (d : Device) (k : Nat) (f : WbUnit → WbUnit) : modWb d k f = setWb d k (f (wbAt d k)) := rfl
theorem wbAt_congr (d e : Device) (h : e.wbs = d.wbs) (k : Nat) : wbAt e k = wbAt d k := by simp [wbAt, h]
@[simp] theorem memIfAt_setMemIf (d : Device) (k j : Nat) (v : MemIfUnit) : memIfAt (setMemIf d k v) j = if k = j then v else memIfAt d j := by
  simp [memIfAt, setMemIf]
@[simp] theorem modMemIf_eq (d : Device) (k : Nat) (f : MemIfUnit → MemIfUnit) : modMemIf d k f = setMemIf d k (f (memIfAt d k)) := rfl
theorem memIfAt_congr (d e : Device) (h : e.ifs = d.ifs) (k : Nat) : memIfAt e k = memIfAt d k := by simp [memIfAt, h]
@[simp] theorem memAt_setMem (d : Device) (k j : Nat) (v : MemUnit) : memAt (setMem d k v) j = if k = j then v else memAt d j := by
  simp [memAt, setMem]
@[simp] theorem modMem_eq (d : Device) (k : Nat) (f : MemUnit → MemUnit) : modMem d k f = setMem d k (f (memAt d k)) := rfl
theorem memAt_congr (d e : Device) (h : e.mems = d.mems) (k : Nat) : memAt e k = memAt d k := by simp [memAt, h]
@[simp] theorem queueAt_setQueue (d : Device) (k j : Nat) (v : QueueUnit) : queueAt (setQueue d k v) j = if k = j then v else queueAt d j := by
  simp [queueAt, setQueue]
@[simp] theorem modQueue_eq (d : Device) (k : Nat) (f : QueueUnit → QueueUnit) : modQueue d k f = setQueue d k (f (queueAt d k)) := rfl
theorem queueAt_congr (d e : Device) (h : e.queues = d.queues) (k : Nat) : queueAt e k = queueAt d k := by simp [queueAt, h]
@[simp] theorem linkAt_setLink (d : Device) (k j : Nat) (v : TouchUnit) : linkAt (setLink d k v) j = if k = j then v else linkAt d j := by
  simp [linkAt, setLink]
@[simp] theorem modLink_eq (d : Device) (k : Nat) (f : TouchUnit → TouchUnit) : modLink d k f = setLink d k (f (linkAt d k)) := rfl
theorem linkAt_congr (d e : Device) (h : e.links = d.links) (k : Nat) : linkAt e k = linkAt d k := by simp [linkAt, h]
@[simp] theorem trackAt_setTrack (d : Device) (k j : Nat) (v : TrackUnit) : trackAt (setTrack d k v) j = if k = j then v else trackAt d j := by
  simp [trackAt, setTrack]
@[simp] theorem modTrack_eq (d : Device) (k : Nat) (f : TrackUnit → TrackUnit) : modTrack d k f = setTrack d k (f (trackAt d k)) := rfl
theorem trackAt_congr (d e : Device) (h : e.tracks = d.tracks) (k : Nat) : trackAt e k = trackAt d k := by simp [trackAt, h]
@[simp] theorem mcAt_setMc (d : Device) (k j : Nat) (v : McUnit) : mcAt (setMc d k v) j = if k = j then v else mcAt d j := by
  simp [mcAt, setMc]
@[simp] theorem modMc_eq (d : Device) (k : Nat) (f : McUnit → McUnit) : modMc d k f = setMc d k (f (mcAt d k)) := rfl
theorem mcAt_congr (d e : Device) (h : e.mcs = d.mcs) (k : Nat) : mcAt e k = mcAt d k := by simp [mcAt, h]

/-! ### Registers after an update -/

theorem regKey_inj (i s j r : Nat) (hs : s < 256) (hr : r < 256) : regKey i s = regKey j r ↔ i = j ∧ s = r := by
  simp only [regKey]; omega

theorem storeGet_eq (t : Table Val) (i s : Nat) : storeGet t i s = (tfind t (regKey i s)).getD (resetVal i s) := by
  simp only [storeGet]; cases tfind t (regKey i s) <;> rfl

@[simp] theorem storeGet_storePut (t : Table Val) (i s j r : Nat) (v : Val) (hs : s < 256) (hr : r < 256) :
    storeGet (storePut t i s v) j r = if i = j ∧ s = r then v else storeGet t j r := by
  have hk := regKey_inj i s j r hs hr
  simp only [storeGet_eq, storePut, tset]
  by_cases e : i = j ∧ s = r
  · rw [if_pos e]; obtain ⟨rfl, rfl⟩ := e
    split
    · next h => simp [h]
    · simp
  · rw [if_neg e]
    have e' : regKey i s ≠ regKey j r := fun x => e (hk.mp x)
    split <;> simp [e']

theorem reg_setReg (d : Device) (i s j r : Nat) (v : Val) (hs : s < 256) (hr : r < 256) :
    reg (setReg d i s v) j r = if i = j ∧ s = r then v else reg d j r := storeGet_storePut _ _ _ _ _ _ hs hr

theorem regN_setN (d : Device) (i s j r n : Nat) (hs : s < 256) (hr : r < 256) :
    regN (setN d i s n) j r = if i = j ∧ s = r then n else regN d j r := by
  simp only [regN, setN, reg_setReg _ _ _ _ _ _ hs hr]; split <;> rfl

theorem reg_setN (d : Device) (i s j r n : Nat) (hs : s < 256) (hr : r < 256) :
    reg (setN d i s n) j r = if i = j ∧ s = r then .num n else reg d j r := reg_setReg _ _ _ _ _ _ hs hr

theorem reg_congr (d e : Device) (h : e.regs = d.regs) (i s : Nat) : reg e i s = reg d i s := by simp [reg, h]
theorem regN_congr (d e : Device) (h : e.regs = d.regs) (i s : Nat) : regN e i s = regN d i s := by simp [regN, reg, h]
theorem frc_congr (d e : Device) (h : e.force = d.force) (i s : Nat) : frc e i s = frc d i s := by simp [frc, h]

/-- A counter after its rise (R58). -/
theorem regN_bump (d : Device) (i s j r : Nat) (hs : s < 256) (hr : r < 256) :
    regN (bump d i s) j r = if i = j ∧ s = r then min (regN d i s + 1) 0x7FFFFFFF else regN d j r := by
  simp [bump, bumpBy, regN_setN _ _ _ _ _ _ hs hr]

end Sys2Proof.Machine
end

