-- ==== Sys2Proof/Laws/Ops.lean ====
section
/-! SUPPORT. What the shared operations do, said once: tables keep their keys rising, a store put in its canonical form
reads as before, the passing of time moves only the monotonic count and the copies of the time bases, and what every
command's shape `act` answers. -/

namespace Sys2Proof.Machine

open Sys2Proof.Safety

/-! ### Keys of tables -/

theorem mem_tput {α : Type} (t : Table α) (k : Nat) (v : α) (e : Nat × α) (h : e ∈ tput t k v) : e = (k, v) ∨ e ∈ t := by
  induction t with
  | nil => simpa [tput] using h
  | cons a r ih =>
    simp only [tput] at h
    split at h
    · simpa using h
    · split at h
      · rcases List.mem_cons.mp h with h | h
        · exact .inl h
        · exact .inr (List.mem_cons_of_mem _ h)
      · rcases List.mem_cons.mp h with h | h
        · exact .inr (by simp [h])
        · rcases ih h with h | h
          · exact .inl h
          · exact .inr (List.mem_cons_of_mem _ h)

theorem rising_cons {α : Type} (a : Nat × α) (r : Table α) : Rising (a :: r) ↔ (∀ e ∈ r, a.1 < e.1) ∧ Rising r := by
  simp [Rising, List.pairwise_cons]

theorem rising_tput {α : Type} (t : Table α) (k : Nat) (v : α) (h : Rising t) : Rising (tput t k v) := by
  induction t with
  | nil => simp [tput, Rising]
  | cons a r ih =>
    obtain ⟨h1, h2⟩ := (rising_cons a r).mp h
    simp only [tput]
    split
    · next hk =>
      refine (rising_cons _ _).mpr ⟨?_, h⟩
      intro e he
      rcases List.mem_cons.mp he with rfl | he
      · exact hk
      · exact Nat.lt_trans hk (h1 e he)
    · split
      · next hk => subst hk; exact (rising_cons _ _).mpr ⟨h1, h2⟩
      · next hk =>
        refine (rising_cons _ _).mpr ⟨?_, ih h2⟩
        intro e he
        rcases mem_tput r k v e he with rfl | he
        · show a.1 < k; omega
        · exact h1 e he

theorem rising_tdel {α : Type} (t : Table α) (k : Nat) (h : Rising t) : Rising (tdel t k) := by
  simp only [Rising, tdel] at *
  exact List.Pairwise.sublist (List.Sublist.map _ List.filter_sublist) h

theorem rising_tset {α : Type} [DecidableEq α] (dflt : α) (t : Table α) (k : Nat) (v : α) (h : Rising t) :
    Rising (tset dflt t k v) := by
  simp only [tset]; split
  · exact rising_tdel t k h
  · exact rising_tput t k v h

/-- An entry of a table after a write under a default is the one written, and then no default, or one that was there. -/
theorem mem_tset {α : Type} [DecidableEq α] (dflt : α) (t : Table α) (k : Nat) (v : α) (e : Nat × α)
    (h : e ∈ tset dflt t k v) : (e = (k, v) ∧ v ≠ dflt) ∨ e ∈ t := by
  simp only [tset] at h; split at h
  · exact .inr (List.mem_filter.mp h).1
  · next hv =>
    rcases mem_tput t k v e h with h | h
    · exact .inl ⟨h, hv⟩
    · exact .inr h

/-! ### A table rebuilt under its defaults -/

theorem rising_rebuild {α : Type} [DecidableEq α] (dflt : Nat → α) (t : Table α) :
    Rising (t.foldr (fun e r => tset (dflt e.1) r e.1 e.2) []) := by
  induction t with
  | nil => simp [Rising]
  | cons e r ih => exact rising_tset _ _ _ _ ih

theorem mem_rebuild {α : Type} [DecidableEq α] (dflt : Nat → α) (t : Table α) (e : Nat × α)
    (h : e ∈ t.foldr (fun e r => tset (dflt e.1) r e.1 e.2) []) : e.2 ≠ dflt e.1 := by
  induction t with
  | nil => simp at h
  | cons a r ih =>
    rcases mem_tset _ _ _ _ _ h with ⟨rfl, hv⟩ | h
    · exact hv
    · exact ih h

theorem tfind_rebuild {α : Type} [DecidableEq α] (dflt : Nat → α) (t : Table α) (k : Nat) :
    (tfind (t.foldr (fun e r => tset (dflt e.1) r e.1 e.2) []) k).getD (dflt k) = (tfind t k).getD (dflt k) := by
  induction t with
  | nil => rfl
  | cons a r ih =>
    obtain ⟨j, v⟩ := a
    rw [List.foldr_cons, tset]
    by_cases h : j = k
    · subst h; split
      · next hv => have hv : v = dflt j := hv
                   simp [tfind, hv]
      · simp [tfind]
    · have e : tfind ((j, v) :: r) k = tfind r k := by simp [tfind, h]
      rw [e, ← ih]; split
      · rw [tfind_tdel, if_neg h]
      · rw [tfind_tput, if_neg h]

theorem canonical_settleStore (t : Table Val) : Canonical (settleStore t) := ⟨rising_rebuild _ t, mem_rebuild _ t⟩

theorem memWf_settleMem (t : Table Byte) : MemWf (settleMem t) :=
  ⟨rising_rebuild Config.addressByte t, mem_rebuild Config.addressByte t⟩

theorem keyReset_regKey (i s : Nat) (hs : s < 256) : keyReset (regKey i s) = resetVal i s := by
  have h1 : keyIdx (regKey i s) = i := by simp only [keyIdx, regKey]; omega
  have h2 : keySub (regKey i s) = s := by simp only [keySub, regKey]; omega
  simp only [keyReset, h1, h2]

/-- A store in its canonical form reads as before. -/
@[simp] theorem storeGet_settleStore (t : Table Val) (i s : Nat) (hs : s < 256) :
    storeGet (settleStore t) i s = storeGet t i s := by
  have h := tfind_rebuild keyReset t (regKey i s)
  rw [keyReset_regKey i s hs] at h
  simp only [storeGet_eq]; exact h

theorem reg_settle (d : Device) (i s : Nat) (hs : s < 256) : reg (settle d) i s = reg d i s :=
  storeGet_settleStore _ _ _ hs
theorem regN_settle (d : Device) (i s : Nat) (hs : s < 256) : regN (settle d) i s = regN d i s := by
  simp only [regN, reg_settle d i s hs]
theorem regB_settle (d : Device) (i s : Nat) (hs : s < 256) : regB (settle d) i s = regB d i s := by
  simp only [regB, reg_settle d i s hs]
theorem regT_settle (d : Device) (i s : Nat) (hs : s < 256) : regT (settle d) i s = regT d i s := by
  simp only [regT, regN_settle d i s hs]
theorem frc_settle (d : Device) (i s : Nat) (hs : s < 256) : frc (settle d) i s = frc d i s :=
  storeGet_settleStore _ _ _ hs
theorem frcN_settle (d : Device) (i s : Nat) (hs : s < 256) : frcN (settle d) i s = frcN d i s := by
  simp only [frcN, frc_settle d i s hs]

/-- A byte of the address space reads as before once memory is in its canonical form. -/
@[simp] theorem memByte_settle (d : Device) (a : Nat) : memByte (settle d) a = memByte d a := by
  have e := tfind_rebuild Config.addressByte d.memory a
  simp only [memByte, tget_eq]; exact e

/-- A write of bytes: those addresses read the bytes written, every other address reads as before. -/
theorem memByte_memWrite (b : List Byte) (d : Device) (a x : Nat) :
    memByte (memWrite d a b) x = if h : a ≤ x ∧ x < a + b.length then b[x - a]'(by omega) else memByte d x := by
  induction b generalizing d a with
  | nil => rw [dif_neg (by simp only [List.length_nil]; omega)]; rfl
  | cons v r ih =>
    simp only [memWrite, ih]
    by_cases h1 : a + 1 ≤ x ∧ x < a + 1 + r.length
    · rw [dif_pos h1, dif_pos (by simp only [List.length_cons]; omega)]
      simp only [show x - a = (x - (a + 1)) + 1 by omega, List.getElem_cons_succ]
    · rw [dif_neg h1]
      by_cases h2 : a = x
      · subst h2; rw [dif_pos ⟨Nat.le_refl _, by simp only [List.length_cons]; omega⟩]; simp [memByte]
      · rw [dif_neg (by simp only [List.length_cons]; omega)]
        simp only [memByte, tget_eq, tset]; split <;> simp [h2]

theorem memWf_memWrite (b : List Byte) (d : Device) (a : Nat) (h : MemWf d.memory) : MemWf (memWrite d a b).memory := by
  induction b generalizing d a with
  | nil => exact h
  | cons v r ih =>
    refine ih _ _ ⟨rising_tset _ _ _ _ h.1, fun e he => ?_⟩
    rcases mem_tset _ _ _ _ _ he with ⟨rfl, hv⟩ | he
    · exact hv
    · exact h.2 e he

/-! ### The other fields of a settled device -/

@[simp] theorem settle_mono (d : Device) : (settle d).mono = d.mono := rfl
@[simp] theorem settle_fresh (d : Device) : (settle d).fresh = d.fresh := rfl
@[simp] theorem settle_pins (d : Device) : (settle d).pins = d.pins := rfl
@[simp] theorem settle_ctls (d : Device) : (settle d).ctls = d.ctls := rfl
@[simp] theorem settle_pix (d : Device) : (settle d).pix = d.pix := rfl
@[simp] theorem settle_rails (d : Device) : (settle d).rails = d.rails := rfl
@[simp] theorem settle_clocks (d : Device) : (settle d).clocks = d.clocks := rfl
@[simp] theorem settle_rules (d : Device) : (settle d).rules = d.rules := rfl
@[simp] theorem settle_rings (d : Device) : (settle d).rings = d.rings := rfl
@[simp] theorem settle_sup (d : Device) : (settle d).sup = d.sup := rfl
@[simp] theorem settle_cmp (d : Device) : (settle d).cmp = d.cmp := rfl
@[simp] theorem settle_can (d : Device) : (settle d).can = d.can := rfl
@[simp] theorem settle_audit (d : Device) : (settle d).audit = d.audit := rfl
@[simp] theorem settle_awaiting (d : Device) : (settle d).awaiting = d.awaiting := rfl
@[simp] theorem settle_srcs (d : Device) : (settle d).srcs = d.srcs := rfl
@[simp] theorem settle_st2110 (d : Device) : (settle d).st2110 = d.st2110 := rfl
@[simp] theorem settle_cams (d : Device) : (settle d).cams = d.cams := rfl
@[simp] theorem settle_pipes (d : Device) : (settle d).pipes = d.pipes := rfl
@[simp] theorem settle_layers (d : Device) : (settle d).layers = d.layers := rfl
@[simp] theorem settle_heads (d : Device) : (settle d).heads = d.heads := rfl
@[simp] theorem settle_scans (d : Device) : (settle d).scans = d.scans := rfl
@[simp] theorem settle_tags (d : Device) : (settle d).tags = d.tags := rfl
@[simp] theorem settle_wbs (d : Device) : (settle d).wbs = d.wbs := rfl
@[simp] theorem settle_ifs (d : Device) : (settle d).ifs = d.ifs := rfl
@[simp] theorem settle_mems (d : Device) : (settle d).mems = d.mems := rfl
@[simp] theorem settle_queues (d : Device) : (settle d).queues = d.queues := rfl
@[simp] theorem settle_links (d : Device) : (settle d).links = d.links := rfl
@[simp] theorem settle_tracks (d : Device) : (settle d).tracks = d.tracks := rfl
@[simp] theorem settle_mcs (d : Device) : (settle d).mcs = d.mcs := rfl
@[simp] theorem settle_unattr (d : Device) : (settle d).unattr = d.unattr := rfl
@[simp] theorem settle_crossings (d : Device) : (settle d).crossings = d.crossings := rfl
@[simp] theorem settle_limits (d : Device) : (settle d).limits = d.limits := rfl
@[simp] theorem settle_tx (d : Device) : (settle d).tx = d.tx := rfl

/-! ### The passing of time -/

@[simp] theorem elapse_zero (d : Device) : elapse d 0 = d := rfl

theorem elapse_mono (d : Device) (dt : Nat) : (elapse d dt).mono = d.mono + dt := by
  by_cases h : dt = 0 <;> simp [elapse, h]

@[simp] theorem elapse_fresh (d : Device) (dt : Nat) : (elapse d dt).fresh = d.fresh := by
  by_cases h : dt = 0 <;> simp [elapse, h]
@[simp] theorem elapse_regs (d : Device) (dt : Nat) : (elapse d dt).regs = d.regs := by
  by_cases h : dt = 0 <;> simp [elapse, h]
@[simp] theorem elapse_force (d : Device) (dt : Nat) : (elapse d dt).force = d.force := by
  by_cases h : dt = 0 <;> simp [elapse, h]
@[simp] theorem elapse_record (d : Device) (dt : Nat) : (elapse d dt).record = d.record := by
  by_cases h : dt = 0 <;> simp [elapse, h]
@[simp] theorem elapse_pins (d : Device) (dt : Nat) : (elapse d dt).pins = d.pins := by
  by_cases h : dt = 0 <;> simp [elapse, h]
@[simp] theorem elapse_rails (d : Device) (dt : Nat) : (elapse d dt).rails = d.rails := by
  by_cases h : dt = 0 <;> simp [elapse, h]
@[simp] theorem elapse_clocks (d : Device) (dt : Nat) : (elapse d dt).clocks = d.clocks := by
  by_cases h : dt = 0 <;> simp [elapse, h]
@[simp] theorem elapse_rules (d : Device) (dt : Nat) : (elapse d dt).rules = d.rules := by
  by_cases h : dt = 0 <;> simp [elapse, h]
@[simp] theorem elapse_rings (d : Device) (dt : Nat) : (elapse d dt).rings = d.rings := by
  by_cases h : dt = 0 <;> simp [elapse, h]
@[simp] theorem elapse_sup (d : Device) (dt : Nat) : (elapse d dt).sup = d.sup := by
  by_cases h : dt = 0 <;> simp [elapse, h]
@[simp] theorem elapse_cmp (d : Device) (dt : Nat) : (elapse d dt).cmp = d.cmp := by
  by_cases h : dt = 0 <;> simp [elapse, h]
@[simp] theorem elapse_can (d : Device) (dt : Nat) : (elapse d dt).can = d.can := by
  by_cases h : dt = 0 <;> simp [elapse, h]
@[simp] theorem elapse_audit (d : Device) (dt : Nat) : (elapse d dt).audit = d.audit := by
  by_cases h : dt = 0 <;> simp [elapse, h]
@[simp] theorem elapse_awaiting (d : Device) (dt : Nat) : (elapse d dt).awaiting = d.awaiting := by
  by_cases h : dt = 0 <;> simp [elapse, h]
@[simp] theorem elapse_srcs (d : Device) (dt : Nat) : (elapse d dt).srcs = d.srcs := by
  by_cases h : dt = 0 <;> simp [elapse, h]
@[simp] theorem elapse_st2110 (d : Device) (dt : Nat) : (elapse d dt).st2110 = d.st2110 := by
  by_cases h : dt = 0 <;> simp [elapse, h]
@[simp] theorem elapse_cams (d : Device) (dt : Nat) : (elapse d dt).cams = d.cams := by
  by_cases h : dt = 0 <;> simp [elapse, h]
@[simp] theorem elapse_pipes (d : Device) (dt : Nat) : (elapse d dt).pipes = d.pipes := by
  by_cases h : dt = 0 <;> simp [elapse, h]
@[simp] theorem elapse_layers (d : Device) (dt : Nat) : (elapse d dt).layers = d.layers := by
  by_cases h : dt = 0 <;> simp [elapse, h]
@[simp] theorem elapse_heads (d : Device) (dt : Nat) : (elapse d dt).heads = d.heads := by
  by_cases h : dt = 0 <;> simp [elapse, h]
@[simp] theorem elapse_scans (d : Device) (dt : Nat) : (elapse d dt).scans = d.scans := by
  by_cases h : dt = 0 <;> simp [elapse, h]
@[simp] theorem elapse_tags (d : Device) (dt : Nat) : (elapse d dt).tags = d.tags := by
  by_cases h : dt = 0 <;> simp [elapse, h]
@[simp] theorem elapse_wbs (d : Device) (dt : Nat) : (elapse d dt).wbs = d.wbs := by
  by_cases h : dt = 0 <;> simp [elapse, h]
@[simp] theorem elapse_ifs (d : Device) (dt : Nat) : (elapse d dt).ifs = d.ifs := by
  by_cases h : dt = 0 <;> simp [elapse, h]
@[simp] theorem elapse_mems (d : Device) (dt : Nat) : (elapse d dt).mems = d.mems := by
  by_cases h : dt = 0 <;> simp [elapse, h]
@[simp] theorem elapse_queues (d : Device) (dt : Nat) : (elapse d dt).queues = d.queues := by
  by_cases h : dt = 0 <;> simp [elapse, h]
@[simp] theorem elapse_links (d : Device) (dt : Nat) : (elapse d dt).links = d.links := by
  by_cases h : dt = 0 <;> simp [elapse, h]
@[simp] theorem elapse_tracks (d : Device) (dt : Nat) : (elapse d dt).tracks = d.tracks := by
  by_cases h : dt = 0 <;> simp [elapse, h]
@[simp] theorem elapse_mcs (d : Device) (dt : Nat) : (elapse d dt).mcs = d.mcs := by
  by_cases h : dt = 0 <;> simp [elapse, h]
@[simp] theorem elapse_unattr (d : Device) (dt : Nat) : (elapse d dt).unattr = d.unattr := by
  by_cases h : dt = 0 <;> simp [elapse, h]
@[simp] theorem elapse_crossings (d : Device) (dt : Nat) : (elapse d dt).crossings = d.crossings := by
  by_cases h : dt = 0 <;> simp [elapse, h]
@[simp] theorem elapse_limits (d : Device) (dt : Nat) : (elapse d dt).limits = d.limits := by
  by_cases h : dt = 0 <;> simp [elapse, h]
@[simp] theorem elapse_memory (d : Device) (dt : Nat) : (elapse d dt).memory = d.memory := by
  by_cases h : dt = 0 <;> simp [elapse, h]
@[simp] theorem elapse_tx (d : Device) (dt : Nat) : (elapse d dt).tx = d.tx := by
  by_cases h : dt = 0 <;> simp [elapse, h]

theorem reg_elapse (d : Device) (dt i s : Nat) : reg (elapse d dt) i s = reg d i s := by simp [reg]
theorem regN_elapse (d : Device) (dt i s : Nat) : regN (elapse d dt) i s = regN d i s := by simp [regN, reg]
theorem regB_elapse (d : Device) (dt i s : Nat) : regB (elapse d dt) i s = regB d i s := by simp [regB, reg]
theorem regT_elapse (d : Device) (dt i s : Nat) : regT (elapse d dt) i s = regT d i s := by simp [regT, regN, reg]
theorem frc_elapse (d : Device) (dt i s : Nat) : frc (elapse d dt) i s = frc d i s := by simp [frc]

/-! ### The shape of a command -/

/-- A command of this shape answers a next state whose queue is the queue it was given. -/
theorem act_next (dt : Nat) (s t : State) (f : Device → Device) :
    act dt s f = .next t ↔ t = { s with dev := settle (f (elapse s.dev dt)) } := by
  constructor
  · intro h; cases h; rfl
  · intro h; subst h; rfl

theorem act_completes (dt : Nat) (s : State) (f : Device → Device) (P : State → Prop) :
    Completes (act dt s f) P ↔ P { s with dev := settle (f (elapse s.dev dt)) } := by
  constructor
  · rintro ⟨t, h, hp⟩; cases h; exact hp
  · intro h; exact ⟨_, rfl, h⟩

/-- A command of this shape does what its change of the device does. -/
theorem does_act (i : Instr) (dt : Nat) (s : State) (f : Device → Device) (P : Device → Prop) (h : exec i s = act dt s f) :
    Does i s P ↔ P (settle (f (elapse s.dev dt))) := by
  constructor
  · rintro ⟨t, e, _, hp⟩; rw [h] at e; cases e; exact hp
  · intro hp; exact ⟨_, h, rfl, hp⟩

/-- What a command leaves canonical: its stores and memory, whatever it did. -/
theorem act_stores (dt : Nat) (s t : State) (f : Device → Device) (h : act dt s f = .next t) : StoresCanonical t := by
  rw [act_next] at h; subst h
  exact ⟨canonical_settleStore _, canonical_settleStore _, canonical_settleStore _, memWf_settleMem _⟩

end Sys2Proof.Machine
end

