-- ==== Sys2Proof/Laws/Frame.lean ====
section
/-! SUPPORT. Frames (`Keeps` of Sys2Proof/Safety.lean): they compose, every named update of the device has one, and so have
the operations nearly every command shares: counting, sending, recording an event, an audit record. -/

namespace Sys2Proof.Safety

open Sys2Proof.Machine

theorem Same.refl (p : Part) (d : Device) : Same p d d := by cases p <;> simp [Same]

theorem Same.trans (p : Part) {a b c : Device} (h : Same p a b) (g : Same p b c) : Same p a c := by
  cases p <;> simp only [Same] at * <;> first
    | exact g.trans h
    | exact fun i s hs => (g i s hs).trans (h i s hs)
    | exact fun x => (g x).trans (h x)

theorem Keeps.refl (ps : List Part) (rs : Nat → Nat → Prop) (d : Device) : Keeps ps rs d d :=
  ⟨fun p _ => Same.refl p d, fun _ _ _ _ => rfl⟩

theorem Keeps.trans {ps : List Part} {rs : Nat → Nat → Prop} {a b c : Device} (h : Keeps ps rs a b) (g : Keeps ps rs b c) :
    Keeps ps rs a c :=
  ⟨fun p hp => (h.parts p hp).trans p (g.parts p hp), fun i s hs hr => (g.regs i s hs hr).trans (h.regs i s hs hr)⟩

theorem Keeps.mono {ps qs : List Part} {rs ts : Nat → Nat → Prop} {a b : Device} (h : Keeps ps rs a b)
    (hp : ∀ p ∈ ps, p ∈ qs) (hr : ∀ i s, rs i s → ts i s) : Keeps qs ts a b :=
  ⟨fun p hn => h.parts p fun hm => hn (hp p hm), fun i s hs hn => h.regs i s hs fun hm => hn (hr i s hm)⟩

end Sys2Proof.Safety

namespace Sys2Proof.Machine

open Sys2Proof.Safety

/-- A device settled reads as before: it keeps everything. -/
theorem keeps_settle (ps : List Part) (rs : Nat → Nat → Prop) (d : Device) : Keeps ps rs d (settle d) := by
  refine ⟨fun p _ => ?_, fun i s hs _ => reg_settle d i s hs⟩
  cases p <;> simp only [Same] <;> first
    | rfl
    | exact fun i s hs => frc_settle d i s hs
    | exact fun i s hs => storeGet_settleStore _ i s hs
    | exact fun x => memByte_settle d x

theorem keeps_settled {ps : List Part} {rs : Nat → Nat → Prop} {a b : Device} (h : Keeps ps rs a b) : Keeps ps rs a (settle b) :=
  h.trans (keeps_settle ps rs b)

theorem keeps_setReg {ps : List Part} {rs : Nat → Nat → Prop} (d : Device) (i s : Nat) (v : Val) (hs : s < 256) (h : rs i s) :
    Keeps ps rs d (setReg d i s v) := by
  refine ⟨fun p _ => by cases p <;> simp [Same, setReg, frc, memByte], fun j r hr hn => ?_⟩
  rw [reg_setReg d i s j r v hs hr, if_neg]
  rintro ⟨rfl, rfl⟩; exact hn h

theorem keeps_setN {ps : List Part} {rs : Nat → Nat → Prop} (d : Device) (i s n : Nat) (hs : s < 256) (h : rs i s) :
    Keeps ps rs d (setN d i s n) := keeps_setReg d i s _ hs h

theorem keeps_setB {ps : List Part} {rs : Nat → Nat → Prop} (d : Device) (i s : Nat) (b : List Byte) (hs : s < 256) (h : rs i s) :
    Keeps ps rs d (setB d i s b) := keeps_setReg d i s _ hs h

theorem keeps_bumpBy {ps : List Part} {rs : Nat → Nat → Prop} (d : Device) (i s n : Nat) (hs : s < 256) (h : rs i s) :
    Keeps ps rs d (bumpBy d i s n) := by
  simp only [bumpBy]; split
  · exact Keeps.refl _ _ _
  · exact keeps_setN d i s _ hs h

theorem keeps_bump {ps : List Part} {rs : Nat → Nat → Prop} (d : Device) (i s : Nat) (hs : s < 256) (h : rs i s) :
    Keeps ps rs d (bump d i s) := keeps_bumpBy d i s 1 hs h

theorem keeps_setCtl {ps : List Part} {rs : Nat → Nat → Prop} (d : Device) (k : Nat) (v : CtlDie) (h : Part.ctls ∈ ps) :
    Keeps ps rs d (setCtl d k v) :=
  ⟨fun p hp => by cases p <;> first | exact absurd h hp | exact rfl | exact fun _ _ _ => rfl | exact fun _ => rfl, fun _ _ _ _ => rfl⟩

theorem keeps_setPix {ps : List Part} {rs : Nat → Nat → Prop} (d : Device) (k : Nat) (v : PixelDie) (h : Part.pix ∈ ps) :
    Keeps ps rs d (setPix d k v) :=
  ⟨fun p hp => by cases p <;> first | exact absurd h hp | exact rfl | exact fun _ _ _ => rfl | exact fun _ => rfl, fun _ _ _ _ => rfl⟩

theorem keeps_setRail {ps : List Part} {rs : Nat → Nat → Prop} (d : Device) (k : Nat) (v : RailUnit) (h : Part.rails ∈ ps) :
    Keeps ps rs d (setRail d k v) :=
  ⟨fun p hp => by cases p <;> first | exact absurd h hp | exact rfl | exact fun _ _ _ => rfl | exact fun _ => rfl, fun _ _ _ _ => rfl⟩

theorem keeps_setClock {ps : List Part} {rs : Nat → Nat → Prop} (d : Device) (k : Nat) (v : ClockUnit) (h : Part.clocks ∈ ps) :
    Keeps ps rs d (setClock d k v) :=
  ⟨fun p hp => by cases p <;> first | exact absurd h hp | exact rfl | exact fun _ _ _ => rfl | exact fun _ => rfl, fun _ _ _ _ => rfl⟩

theorem keeps_setRuleCopy {ps : List Part} {rs : Nat → Nat → Prop} (d : Device) (k : Nat) (v : RuleCopy) (h : Part.rules ∈ ps) :
    Keeps ps rs d (setRuleCopy d k v) :=
  ⟨fun p hp => by cases p <;> first | exact absurd h hp | exact rfl | exact fun _ _ _ => rfl | exact fun _ => rfl, fun _ _ _ _ => rfl⟩

theorem keeps_setRing {ps : List Part} {rs : Nat → Nat → Prop} (d : Device) (k : Nat) (v : Ring) (h : Part.rings ∈ ps) :
    Keeps ps rs d (setRing d k v) :=
  ⟨fun p hp => by cases p <;> first | exact absurd h hp | exact rfl | exact fun _ _ _ => rfl | exact fun _ => rfl, fun _ _ _ _ => rfl⟩

theorem keeps_setSrc {ps : List Part} {rs : Nat → Nat → Prop} (d : Device) (k : Nat) (v : SrcUnit) (h : Part.srcs ∈ ps) :
    Keeps ps rs d (setSrc d k v) :=
  ⟨fun p hp => by cases p <;> first | exact absurd h hp | exact rfl | exact fun _ _ _ => rfl | exact fun _ => rfl, fun _ _ _ _ => rfl⟩

theorem keeps_setSt2110 {ps : List Part} {rs : Nat → Nat → Prop} (d : Device) (k : Nat) (v : St2110Unit) (h : Part.st2110 ∈ ps) :
    Keeps ps rs d (setSt2110 d k v) :=
  ⟨fun p hp => by cases p <;> first | exact absurd h hp | exact rfl | exact fun _ _ _ => rfl | exact fun _ => rfl, fun _ _ _ _ => rfl⟩

theorem keeps_setCam {ps : List Part} {rs : Nat → Nat → Prop} (d : Device) (k : Nat) (v : CamUnit) (h : Part.cams ∈ ps) :
    Keeps ps rs d (setCam d k v) :=
  ⟨fun p hp => by cases p <;> first | exact absurd h hp | exact rfl | exact fun _ _ _ => rfl | exact fun _ => rfl, fun _ _ _ _ => rfl⟩

theorem keeps_setPipe {ps : List Part} {rs : Nat → Nat → Prop} (d : Device) (k : Nat) (v : PipeUnit) (h : Part.pipes ∈ ps) :
    Keeps ps rs d (setPipe d k v) :=
  ⟨fun p hp => by cases p <;> first | exact absurd h hp | exact rfl | exact fun _ _ _ => rfl | exact fun _ => rfl, fun _ _ _ _ => rfl⟩

theorem keeps_setLayer {ps : List Part} {rs : Nat → Nat → Prop} (d : Device) (k : Nat) (v : LayerUnit) (h : Part.layers ∈ ps) :
    Keeps ps rs d (setLayer d k v) :=
  ⟨fun p hp => by cases p <;> first | exact absurd h hp | exact rfl | exact fun _ _ _ => rfl | exact fun _ => rfl, fun _ _ _ _ => rfl⟩

theorem keeps_setHead {ps : List Part} {rs : Nat → Nat → Prop} (d : Device) (k : Nat) (v : HeadUnit) (h : Part.heads ∈ ps) :
    Keeps ps rs d (setHead d k v) :=
  ⟨fun p hp => by cases p <;> first | exact absurd h hp | exact rfl | exact fun _ _ _ => rfl | exact fun _ => rfl, fun _ _ _ _ => rfl⟩

theorem keeps_setScan {ps : List Part} {rs : Nat → Nat → Prop} (d : Device) (k : Nat) (v : HeadScan) (h : Part.scans ∈ ps) :
    Keeps ps rs d (setScan d k v) :=
  ⟨fun p hp => by cases p <;> first | exact absurd h hp | exact rfl | exact fun _ _ _ => rfl | exact fun _ => rfl, fun _ _ _ _ => rfl⟩

theorem keeps_setTag {ps : List Part} {rs : Nat → Nat → Prop} (d : Device) (k : Nat) (v : TagUnit) (h : Part.tags ∈ ps) :
    Keeps ps rs d (setTag d k v) :=
  ⟨fun p hp => by cases p <;> first | exact absurd h hp | exact rfl | exact fun _ _ _ => rfl | exact fun _ => rfl, fun _ _ _ _ => rfl⟩

theorem keeps_setWb {ps : List Part} {rs : Nat → Nat → Prop} (d : Device) (k : Nat) (v : WbUnit) (h : Part.wbs ∈ ps) :
    Keeps ps rs d (setWb d k v) :=
  ⟨fun p hp => by cases p <;> first | exact absurd h hp | exact rfl | exact fun _ _ _ => rfl | exact fun _ => rfl, fun _ _ _ _ => rfl⟩

theorem keeps_setMemIf {ps : List Part} {rs : Nat → Nat → Prop} (d : Device) (k : Nat) (v : MemIfUnit) (h : Part.ifs ∈ ps) :
    Keeps ps rs d (setMemIf d k v) :=
  ⟨fun p hp => by cases p <;> first | exact absurd h hp | exact rfl | exact fun _ _ _ => rfl | exact fun _ => rfl, fun _ _ _ _ => rfl⟩

theorem keeps_setMem {ps : List Part} {rs : Nat → Nat → Prop} (d : Device) (k : Nat) (v : MemUnit) (h : Part.mems ∈ ps) :
    Keeps ps rs d (setMem d k v) :=
  ⟨fun p hp => by cases p <;> first | exact absurd h hp | exact rfl | exact fun _ _ _ => rfl | exact fun _ => rfl, fun _ _ _ _ => rfl⟩

theorem keeps_setQueue {ps : List Part} {rs : Nat → Nat → Prop} (d : Device) (k : Nat) (v : QueueUnit) (h : Part.queues ∈ ps) :
    Keeps ps rs d (setQueue d k v) :=
  ⟨fun p hp => by cases p <;> first | exact absurd h hp | exact rfl | exact fun _ _ _ => rfl | exact fun _ => rfl, fun _ _ _ _ => rfl⟩

theorem keeps_setLink {ps : List Part} {rs : Nat → Nat → Prop} (d : Device) (k : Nat) (v : TouchUnit) (h : Part.links ∈ ps) :
    Keeps ps rs d (setLink d k v) :=
  ⟨fun p hp => by cases p <;> first | exact absurd h hp | exact rfl | exact fun _ _ _ => rfl | exact fun _ => rfl, fun _ _ _ _ => rfl⟩

theorem keeps_setTrack {ps : List Part} {rs : Nat → Nat → Prop} (d : Device) (k : Nat) (v : TrackUnit) (h : Part.tracks ∈ ps) :
    Keeps ps rs d (setTrack d k v) :=
  ⟨fun p hp => by cases p <;> first | exact absurd h hp | exact rfl | exact fun _ _ _ => rfl | exact fun _ => rfl, fun _ _ _ _ => rfl⟩

theorem keeps_setMc {ps : List Part} {rs : Nat → Nat → Prop} (d : Device) (k : Nat) (v : McUnit) (h : Part.mcs ∈ ps) :
    Keeps ps rs d (setMc d k v) :=
  ⟨fun p hp => by cases p <;> first | exact absurd h hp | exact rfl | exact fun _ _ _ => rfl | exact fun _ => rfl, fun _ _ _ _ => rfl⟩

theorem keeps_tx {ps : List Part} {rs : Nat → Nat → Prop} (d : Device) (v : List Msg) (h : Part.tx ∈ ps) :
    Keeps ps rs d { d with tx := v } :=
  ⟨fun p hp => by cases p <;> first | exact absurd h hp | exact rfl | exact fun _ _ _ => rfl | exact fun _ => rfl, fun _ _ _ _ => rfl⟩

theorem keeps_can {ps : List Part} {rs : Nat → Nat → Prop} (d : Device) (v : CanUnit) (h : Part.can ∈ ps) :
    Keeps ps rs d { d with can := v } :=
  ⟨fun p hp => by cases p <;> first | exact absurd h hp | exact rfl | exact fun _ _ _ => rfl | exact fun _ => rfl, fun _ _ _ _ => rfl⟩

theorem keeps_sup {ps : List Part} {rs : Nat → Nat → Prop} (d : Device) (v : Sup) (h : Part.sup ∈ ps) :
    Keeps ps rs d { d with sup := v } :=
  ⟨fun p hp => by cases p <;> first | exact absurd h hp | exact rfl | exact fun _ _ _ => rfl | exact fun _ => rfl, fun _ _ _ _ => rfl⟩

theorem keeps_audit {ps : List Part} {rs : Nat → Nat → Prop} (d : Device) (v : List AuditRec) (h : Part.audit ∈ ps) :
    Keeps ps rs d { d with audit := v } :=
  ⟨fun p hp => by cases p <;> first | exact absurd h hp | exact rfl | exact fun _ _ _ => rfl | exact fun _ => rfl, fun _ _ _ _ => rfl⟩

theorem keeps_awaiting {ps : List Part} {rs : Nat → Nat → Prop} (d : Device) (v : List Nat) (h : Part.awaiting ∈ ps) :
    Keeps ps rs d { d with awaiting := v } :=
  ⟨fun p hp => by cases p <;> first | exact absurd h hp | exact rfl | exact fun _ _ _ => rfl | exact fun _ => rfl, fun _ _ _ _ => rfl⟩

theorem keeps_fresh {ps : List Part} {rs : Nat → Nat → Prop} (d : Device) (v : Nat) (h : Part.fresh ∈ ps) :
    Keeps ps rs d { d with fresh := v } :=
  ⟨fun p hp => by cases p <;> first | exact absurd h hp | exact rfl | exact fun _ _ _ => rfl | exact fun _ => rfl, fun _ _ _ _ => rfl⟩

theorem keeps_limits {ps : List Part} {rs : Nat → Nat → Prop} (d : Device) (v : Table (Nat × Nat)) (h : Part.limits ∈ ps) :
    Keeps ps rs d { d with limits := v } :=
  ⟨fun p hp => by cases p <;> first | exact absurd h hp | exact rfl | exact fun _ _ _ => rfl | exact fun _ => rfl, fun _ _ _ _ => rfl⟩

theorem keeps_cmp {ps : List Part} {rs : Nat → Nat → Prop} (d : Device) (v : CompareUnit) (h : Part.cmp ∈ ps) :
    Keeps ps rs d { d with cmp := v } :=
  ⟨fun p hp => by cases p <;> first | exact absurd h hp | exact rfl | exact fun _ _ _ => rfl | exact fun _ => rfl, fun _ _ _ _ => rfl⟩

theorem keeps_pins {ps : List Part} {rs : Nat → Nat → Prop} (d : Device) (v : Pins) (h : Part.pins ∈ ps) :
    Keeps ps rs d { d with pins := v } :=
  ⟨fun p hp => by cases p <;> first | exact absurd h hp | exact rfl | exact fun _ _ _ => rfl | exact fun _ => rfl, fun _ _ _ _ => rfl⟩

theorem keeps_forEach {α : Type} {ps : List Part} {rs : Nat → Nat → Prop} (l : List α) (f : Device → α → Device)
    (h : ∀ d x, x ∈ l → Keeps ps rs d (f d x)) (d : Device) : Keeps ps rs d (forEach d l f) := by
  induction l generalizing d with
  | nil => exact Keeps.refl _ _ _
  | cons x r ih => exact (h d x (by simp)).trans (ih (fun d y hy => h d y (by simp [hy])) (f d x))

theorem keeps_send {ps : List Part} {rs : Nat → Nat → Prop} (d : Device) (port kind to_ : Nat) (b : List Byte)
    (h : Part.tx ∈ ps) : Keeps ps rs d (send d port kind to_ b) := by
  simp only [send]; split
  · exact Keeps.refl _ _ _
  · exact keeps_tx d _ h

theorem keeps_sendCan {ps : List Part} {rs : Nat → Nat → Prop} (d : Device) (cob : Nat) (b : List Byte) (h : Part.tx ∈ ps) :
    Keeps ps rs d (sendCan d cob b) := by
  have one : ∀ d f, Keeps ps rs d (sendCanOn d f cob b) := fun d f => by
    simp only [sendCanOn]; split
    · exact keeps_send _ _ _ _ _ h
    · exact Keeps.refl _ _ _
  refine keeps_forEach _ _ (fun d f _ => ?_) d
  split
  · exact one d f
  · exact Keeps.refl _ _ _

theorem keeps_queueEvent {ps : List Part} {rs : Nat → Nat → Prop} (d : Device) (k : Nat) (r : EventRec)
    (h : Part.sup ∈ ps) (hr : rs (0x2030 + k) 0x0D) : Keeps ps rs d (queueEvent d k r) := by
  simp only [queueEvent]; split
  · exact (keeps_sup d _ h).trans (keeps_bump _ _ _ (by decide) hr)
  · exact keeps_sup d _ h

theorem keeps_deliverEvent {ps : List Part} {rs : Nat → Nat → Prop} (d : Device) (r : EventRec) (src : Option Nat)
    (h : Part.sup ∈ ps) (hr : ∀ k, k < 8 → rs (0x2030 + k) 0x0D) : Keeps ps rs d (deliverEvent d r src) := by
  refine keeps_forEach (List.range 8) _ (fun d k hk => ?_) d
  split
  · exact keeps_queueEvent d k r h (hr k (by simpa using hk))
  · exact Keeps.refl _ _ _

theorem keeps_emcyRecord {ps : List Part} {rs : Nat → Nat → Prop} (d : Device) (r : EventRec)
    (h : Part.tx ∈ ps) (hc : Part.can ∈ ps) : Keeps ps rs d (emcyRecord d r) := by
  simp only [emcyRecord]; repeat' split
  · exact Keeps.refl _ _ _
  · exact Keeps.refl _ _ _
  · exact (keeps_sendCan d _ _ h).trans (keeps_can _ _ hc)
  · exact keeps_can d _ hc

theorem keeps_emcyCheck {ps : List Part} {rs : Nat → Nat → Prop} (d : Device)
    (h : Part.tx ∈ ps) (hc : Part.can ∈ ps) : Keeps ps rs d (emcyCheck d) := by
  simp only [emcyCheck]; split
  · exact (keeps_can d _ hc).trans (keeps_sendCan _ _ _ h)
  · exact keeps_can d _ hc

theorem keeps_raiseFull_of {ps : List Part} {rs : Nat → Nat → Prop} (d : Device) (k code sev unit count : Nat) (detail : List Nat)
    (src : Option Nat) (hp : ∀ p ∈ eventParts, p ∈ ps) (hd : ∀ j, j < 8 → rs (0x2030 + j) 0x0D)
    (h9 : rs (0x2600 + k) 9) (hl : rs (0x2600 + k) 4) : Keeps ps rs d (raiseFull d k code sev unit count detail src) := by
  have h1 : Part.rings ∈ ps := hp _ (by decide)
  have h2 : Part.can ∈ ps := hp _ (by decide)
  have h3 : Part.sup ∈ ps := hp _ (by decide)
  have h4 : Part.tx ∈ ps := hp _ (by decide)
  simp only [raiseFull]
  refine Keeps.trans ?_ (keeps_emcyCheck _ h4 h2)
  refine Keeps.trans ?_ (keeps_emcyRecord _ _ h4 h2)
  refine Keeps.trans ?_ (keeps_deliverEvent _ _ _ h3 hd)
  split
  · exact ((keeps_setRing d k _ h1).trans (keeps_bump _ _ _ (by decide) h9)).trans (keeps_bump _ _ _ (by decide) hl)
  · exact (keeps_setRing d k _ h1).trans (keeps_bump _ _ _ (by decide) h9)

/-- Recording an event changes rings, what CAN and the sessions hold of it, what is sent, and the event counters. -/
theorem keeps_raiseFull {ps : List Part} {rs : Nat → Nat → Prop} (d : Device) (k code sev unit count : Nat) (detail : List Nat)
    (src : Option Nat) (hk : k < 8) (hp : ∀ p ∈ eventParts, p ∈ ps) (hr : ∀ i s, eventReg i s → rs i s) :
    Keeps ps rs d (raiseFull d k code sev unit count detail src) :=
  keeps_raiseFull_of d k code sev unit count detail src hp (fun j hj => hr _ _ (.inr ⟨by omega, by omega, rfl⟩))
    (hr _ _ (.inl ⟨by omega, by omega, .inl rfl⟩)) (hr _ _ (.inl ⟨by omega, by omega, .inr rfl⟩))

theorem keeps_raiseD {ps : List Part} {rs : Nat → Nat → Prop} (d : Device) (k code unit : Nat) (detail : List Nat)
    (hk : k < 8) (hp : ∀ p ∈ eventParts, p ∈ ps) (hr : ∀ i s, eventReg i s → rs i s) :
    Keeps ps rs d (raiseD d k code unit detail) := keeps_raiseFull d k code _ unit 1 detail none hk hp hr

theorem keeps_raise {ps : List Part} {rs : Nat → Nat → Prop} (d : Device) (k code unit : Nat)
    (hk : k < 8) (hp : ∀ p ∈ eventParts, p ∈ ps) (hr : ∀ i s, eventReg i s → rs i s) :
    Keeps ps rs d (raise d k code unit) := keeps_raiseD d k code unit [] hk hp hr

/-! ### What a recorded event leaves in its ring -/

theorem queueEvent_rings (d : Device) (k : Nat) (r : EventRec) : (queueEvent d k r).rings = d.rings :=
  (keeps_queueEvent (ps := [.sup]) (rs := anyReg) d k r (by decide) trivial).parts .rings (by decide)
theorem deliverEvent_rings (d : Device) (r : EventRec) (src : Option Nat) : (deliverEvent d r src).rings = d.rings :=
  (keeps_deliverEvent (ps := [.sup]) (rs := anyReg) d r src (by decide) fun _ _ => trivial).parts .rings (by decide)
theorem emcyRecord_rings (d : Device) (r : EventRec) : (emcyRecord d r).rings = d.rings :=
  (keeps_emcyRecord (ps := [.tx, .can]) (rs := anyReg) d r (by decide) (by decide)).parts .rings (by decide)
theorem emcyCheck_rings (d : Device) : (emcyCheck d).rings = d.rings :=
  (keeps_emcyCheck (ps := [.tx, .can]) (rs := anyReg) d (by decide) (by decide)).parts .rings (by decide)

/-- An event of severity DEGRADE or above gives its die's ring exactly one record, of the next number. -/
theorem recorded_raiseFull (d : Device) (k code sev unit count : Nat) (detail : List Nat) (src : Option Nat) (hs : 2 ≤ sev) :
    Recorded d (raiseFull d k code sev unit count detail src) k code unit := by
  have hb : ∀ (x : Device) i s, (bump x i s).rings = x.rings := fun x i s => by simp only [bump, bumpBy]; split <;> rfl
  have hi : ∀ (p : Prop) [Decidable p] (x : Device), (if p then bump x (0x2600 + k) 4 else x).rings = x.rings := fun p _ x => by
    split <;> simp [hb]
  have he : (decide (2 ≤ sev) || regT d (0x2600 + k) 8) = true := by simp [hs]
  simp only [Recorded, ringAt, raiseFull, emcyCheck_rings, emcyRecord_rings, deliverEvent_rings, he, if_true]
  rw [hi, hb]
  simp only [setRing, tget_tput, if_true, true_and]
  intro hl
  have hh : ∀ g r, (ringHandle g r).recs = g.recs := fun g r => by simp only [ringHandle]; split <;> rfl
  rw [hh]; simp only [ringEnter, if_pos hl]
  exact ⟨_, rfl, rfl, rfl, rfl, rfl⟩

/-! ### The fields a recorded event leaves alone -/

@[simp] theorem raiseFull_mono (d : Device) (k code sev unit count : Nat) (detail : List Nat) (src : Option Nat) :
    (raiseFull d k code sev unit count detail src).mono = d.mono :=
  (keeps_raiseFull_of (ps := eventParts) (rs := anyReg) d k code sev unit count detail src (fun _ h => h) (fun _ _ => trivial) trivial
    trivial).parts .mono (by decide)
@[simp] theorem raiseD_mono (d : Device) (k code unit : Nat) (detail : List Nat) : (raiseD d k code unit detail).mono = d.mono :=
  raiseFull_mono d k code _ unit 1 detail none
@[simp] theorem raise_mono (d : Device) (k code unit : Nat) : (raise d k code unit).mono = d.mono := raiseD_mono d k code unit []
@[simp] theorem raiseFull_fresh (d : Device) (k code sev unit count : Nat) (detail : List Nat) (src : Option Nat) :
    (raiseFull d k code sev unit count detail src).fresh = d.fresh :=
  (keeps_raiseFull_of (ps := eventParts) (rs := anyReg) d k code sev unit count detail src (fun _ h => h) (fun _ _ => trivial) trivial
    trivial).parts .fresh (by decide)
@[simp] theorem raiseD_fresh (d : Device) (k code unit : Nat) (detail : List Nat) : (raiseD d k code unit detail).fresh = d.fresh :=
  raiseFull_fresh d k code _ unit 1 detail none
@[simp] theorem raise_fresh (d : Device) (k code unit : Nat) : (raise d k code unit).fresh = d.fresh := raiseD_fresh d k code unit []
@[simp] theorem raiseFull_pins (d : Device) (k code sev unit count : Nat) (detail : List Nat) (src : Option Nat) :
    (raiseFull d k code sev unit count detail src).pins = d.pins :=
  (keeps_raiseFull_of (ps := eventParts) (rs := anyReg) d k code sev unit count detail src (fun _ h => h) (fun _ _ => trivial) trivial
    trivial).parts .pins (by decide)
@[simp] theorem raiseD_pins (d : Device) (k code unit : Nat) (detail : List Nat) : (raiseD d k code unit detail).pins = d.pins :=
  raiseFull_pins d k code _ unit 1 detail none
@[simp] theorem raise_pins (d : Device) (k code unit : Nat) : (raise d k code unit).pins = d.pins := raiseD_pins d k code unit []
@[simp] theorem raiseFull_ctls (d : Device) (k code sev unit count : Nat) (detail : List Nat) (src : Option Nat) :
    (raiseFull d k code sev unit count detail src).ctls = d.ctls :=
  (keeps_raiseFull_of (ps := eventParts) (rs := anyReg) d k code sev unit count detail src (fun _ h => h) (fun _ _ => trivial) trivial
    trivial).parts .ctls (by decide)
@[simp] theorem raiseD_ctls (d : Device) (k code unit : Nat) (detail : List Nat) : (raiseD d k code unit detail).ctls = d.ctls :=
  raiseFull_ctls d k code _ unit 1 detail none
@[simp] theorem raise_ctls (d : Device) (k code unit : Nat) : (raise d k code unit).ctls = d.ctls := raiseD_ctls d k code unit []
@[simp] theorem raiseFull_pix (d : Device) (k code sev unit count : Nat) (detail : List Nat) (src : Option Nat) :
    (raiseFull d k code sev unit count detail src).pix = d.pix :=
  (keeps_raiseFull_of (ps := eventParts) (rs := anyReg) d k code sev unit count detail src (fun _ h => h) (fun _ _ => trivial) trivial
    trivial).parts .pix (by decide)
@[simp] theorem raiseD_pix (d : Device) (k code unit : Nat) (detail : List Nat) : (raiseD d k code unit detail).pix = d.pix :=
  raiseFull_pix d k code _ unit 1 detail none
@[simp] theorem raise_pix (d : Device) (k code unit : Nat) : (raise d k code unit).pix = d.pix := raiseD_pix d k code unit []
@[simp] theorem raiseFull_rails (d : Device) (k code sev unit count : Nat) (detail : List Nat) (src : Option Nat) :
    (raiseFull d k code sev unit count detail src).rails = d.rails :=
  (keeps_raiseFull_of (ps := eventParts) (rs := anyReg) d k code sev unit count detail src (fun _ h => h) (fun _ _ => trivial) trivial
    trivial).parts .rails (by decide)
@[simp] theorem raiseD_rails (d : Device) (k code unit : Nat) (detail : List Nat) : (raiseD d k code unit detail).rails = d.rails :=
  raiseFull_rails d k code _ unit 1 detail none
@[simp] theorem raise_rails (d : Device) (k code unit : Nat) : (raise d k code unit).rails = d.rails := raiseD_rails d k code unit []
@[simp] theorem raiseFull_clocks (d : Device) (k code sev unit count : Nat) (detail : List Nat) (src : Option Nat) :
    (raiseFull d k code sev unit count detail src).clocks = d.clocks :=
  (keeps_raiseFull_of (ps := eventParts) (rs := anyReg) d k code sev unit count detail src (fun _ h => h) (fun _ _ => trivial) trivial
    trivial).parts .clocks (by decide)
@[simp] theorem raiseD_clocks (d : Device) (k code unit : Nat) (detail : List Nat) : (raiseD d k code unit detail).clocks = d.clocks :=
  raiseFull_clocks d k code _ unit 1 detail none
@[simp] theorem raise_clocks (d : Device) (k code unit : Nat) : (raise d k code unit).clocks = d.clocks := raiseD_clocks d k code unit []
@[simp] theorem raiseFull_rules (d : Device) (k code sev unit count : Nat) (detail : List Nat) (src : Option Nat) :
    (raiseFull d k code sev unit count detail src).rules = d.rules :=
  (keeps_raiseFull_of (ps := eventParts) (rs := anyReg) d k code sev unit count detail src (fun _ h => h) (fun _ _ => trivial) trivial
    trivial).parts .rules (by decide)
@[simp] theorem raiseD_rules (d : Device) (k code unit : Nat) (detail : List Nat) : (raiseD d k code unit detail).rules = d.rules :=
  raiseFull_rules d k code _ unit 1 detail none
@[simp] theorem raise_rules (d : Device) (k code unit : Nat) : (raise d k code unit).rules = d.rules := raiseD_rules d k code unit []
@[simp] theorem raiseFull_cmp (d : Device) (k code sev unit count : Nat) (detail : List Nat) (src : Option Nat) :
    (raiseFull d k code sev unit count detail src).cmp = d.cmp :=
  (keeps_raiseFull_of (ps := eventParts) (rs := anyReg) d k code sev unit count detail src (fun _ h => h) (fun _ _ => trivial) trivial
    trivial).parts .cmp (by decide)
@[simp] theorem raiseD_cmp (d : Device) (k code unit : Nat) (detail : List Nat) : (raiseD d k code unit detail).cmp = d.cmp :=
  raiseFull_cmp d k code _ unit 1 detail none
@[simp] theorem raise_cmp (d : Device) (k code unit : Nat) : (raise d k code unit).cmp = d.cmp := raiseD_cmp d k code unit []
@[simp] theorem raiseFull_audit (d : Device) (k code sev unit count : Nat) (detail : List Nat) (src : Option Nat) :
    (raiseFull d k code sev unit count detail src).audit = d.audit :=
  (keeps_raiseFull_of (ps := eventParts) (rs := anyReg) d k code sev unit count detail src (fun _ h => h) (fun _ _ => trivial) trivial
    trivial).parts .audit (by decide)
@[simp] theorem raiseD_audit (d : Device) (k code unit : Nat) (detail : List Nat) : (raiseD d k code unit detail).audit = d.audit :=
  raiseFull_audit d k code _ unit 1 detail none
@[simp] theorem raise_audit (d : Device) (k code unit : Nat) : (raise d k code unit).audit = d.audit := raiseD_audit d k code unit []
@[simp] theorem raiseFull_awaiting (d : Device) (k code sev unit count : Nat) (detail : List Nat) (src : Option Nat) :
    (raiseFull d k code sev unit count detail src).awaiting = d.awaiting :=
  (keeps_raiseFull_of (ps := eventParts) (rs := anyReg) d k code sev unit count detail src (fun _ h => h) (fun _ _ => trivial) trivial
    trivial).parts .awaiting (by decide)
@[simp] theorem raiseD_awaiting (d : Device) (k code unit : Nat) (detail : List Nat) : (raiseD d k code unit detail).awaiting = d.awaiting :=
  raiseFull_awaiting d k code _ unit 1 detail none
@[simp] theorem raise_awaiting (d : Device) (k code unit : Nat) : (raise d k code unit).awaiting = d.awaiting := raiseD_awaiting d k code unit []
@[simp] theorem raiseFull_srcs (d : Device) (k code sev unit count : Nat) (detail : List Nat) (src : Option Nat) :
    (raiseFull d k code sev unit count detail src).srcs = d.srcs :=
  (keeps_raiseFull_of (ps := eventParts) (rs := anyReg) d k code sev unit count detail src (fun _ h => h) (fun _ _ => trivial) trivial
    trivial).parts .srcs (by decide)
@[simp] theorem raiseD_srcs (d : Device) (k code unit : Nat) (detail : List Nat) : (raiseD d k code unit detail).srcs = d.srcs :=
  raiseFull_srcs d k code _ unit 1 detail none
@[simp] theorem raise_srcs (d : Device) (k code unit : Nat) : (raise d k code unit).srcs = d.srcs := raiseD_srcs d k code unit []
@[simp] theorem raiseFull_st2110 (d : Device) (k code sev unit count : Nat) (detail : List Nat) (src : Option Nat) :
    (raiseFull d k code sev unit count detail src).st2110 = d.st2110 :=
  (keeps_raiseFull_of (ps := eventParts) (rs := anyReg) d k code sev unit count detail src (fun _ h => h) (fun _ _ => trivial) trivial
    trivial).parts .st2110 (by decide)
@[simp] theorem raiseD_st2110 (d : Device) (k code unit : Nat) (detail : List Nat) : (raiseD d k code unit detail).st2110 = d.st2110 :=
  raiseFull_st2110 d k code _ unit 1 detail none
@[simp] theorem raise_st2110 (d : Device) (k code unit : Nat) : (raise d k code unit).st2110 = d.st2110 := raiseD_st2110 d k code unit []
@[simp] theorem raiseFull_cams (d : Device) (k code sev unit count : Nat) (detail : List Nat) (src : Option Nat) :
    (raiseFull d k code sev unit count detail src).cams = d.cams :=
  (keeps_raiseFull_of (ps := eventParts) (rs := anyReg) d k code sev unit count detail src (fun _ h => h) (fun _ _ => trivial) trivial
    trivial).parts .cams (by decide)
@[simp] theorem raiseD_cams (d : Device) (k code unit : Nat) (detail : List Nat) : (raiseD d k code unit detail).cams = d.cams :=
  raiseFull_cams d k code _ unit 1 detail none
@[simp] theorem raise_cams (d : Device) (k code unit : Nat) : (raise d k code unit).cams = d.cams := raiseD_cams d k code unit []
@[simp] theorem raiseFull_pipes (d : Device) (k code sev unit count : Nat) (detail : List Nat) (src : Option Nat) :
    (raiseFull d k code sev unit count detail src).pipes = d.pipes :=
  (keeps_raiseFull_of (ps := eventParts) (rs := anyReg) d k code sev unit count detail src (fun _ h => h) (fun _ _ => trivial) trivial
    trivial).parts .pipes (by decide)
@[simp] theorem raiseD_pipes (d : Device) (k code unit : Nat) (detail : List Nat) : (raiseD d k code unit detail).pipes = d.pipes :=
  raiseFull_pipes d k code _ unit 1 detail none
@[simp] theorem raise_pipes (d : Device) (k code unit : Nat) : (raise d k code unit).pipes = d.pipes := raiseD_pipes d k code unit []
@[simp] theorem raiseFull_layers (d : Device) (k code sev unit count : Nat) (detail : List Nat) (src : Option Nat) :
    (raiseFull d k code sev unit count detail src).layers = d.layers :=
  (keeps_raiseFull_of (ps := eventParts) (rs := anyReg) d k code sev unit count detail src (fun _ h => h) (fun _ _ => trivial) trivial
    trivial).parts .layers (by decide)
@[simp] theorem raiseD_layers (d : Device) (k code unit : Nat) (detail : List Nat) : (raiseD d k code unit detail).layers = d.layers :=
  raiseFull_layers d k code _ unit 1 detail none
@[simp] theorem raise_layers (d : Device) (k code unit : Nat) : (raise d k code unit).layers = d.layers := raiseD_layers d k code unit []
@[simp] theorem raiseFull_heads (d : Device) (k code sev unit count : Nat) (detail : List Nat) (src : Option Nat) :
    (raiseFull d k code sev unit count detail src).heads = d.heads :=
  (keeps_raiseFull_of (ps := eventParts) (rs := anyReg) d k code sev unit count detail src (fun _ h => h) (fun _ _ => trivial) trivial
    trivial).parts .heads (by decide)
@[simp] theorem raiseD_heads (d : Device) (k code unit : Nat) (detail : List Nat) : (raiseD d k code unit detail).heads = d.heads :=
  raiseFull_heads d k code _ unit 1 detail none
@[simp] theorem raise_heads (d : Device) (k code unit : Nat) : (raise d k code unit).heads = d.heads := raiseD_heads d k code unit []
@[simp] theorem raiseFull_scans (d : Device) (k code sev unit count : Nat) (detail : List Nat) (src : Option Nat) :
    (raiseFull d k code sev unit count detail src).scans = d.scans :=
  (keeps_raiseFull_of (ps := eventParts) (rs := anyReg) d k code sev unit count detail src (fun _ h => h) (fun _ _ => trivial) trivial
    trivial).parts .scans (by decide)
@[simp] theorem raiseD_scans (d : Device) (k code unit : Nat) (detail : List Nat) : (raiseD d k code unit detail).scans = d.scans :=
  raiseFull_scans d k code _ unit 1 detail none
@[simp] theorem raise_scans (d : Device) (k code unit : Nat) : (raise d k code unit).scans = d.scans := raiseD_scans d k code unit []
@[simp] theorem raiseFull_tags (d : Device) (k code sev unit count : Nat) (detail : List Nat) (src : Option Nat) :
    (raiseFull d k code sev unit count detail src).tags = d.tags :=
  (keeps_raiseFull_of (ps := eventParts) (rs := anyReg) d k code sev unit count detail src (fun _ h => h) (fun _ _ => trivial) trivial
    trivial).parts .tags (by decide)
@[simp] theorem raiseD_tags (d : Device) (k code unit : Nat) (detail : List Nat) : (raiseD d k code unit detail).tags = d.tags :=
  raiseFull_tags d k code _ unit 1 detail none
@[simp] theorem raise_tags (d : Device) (k code unit : Nat) : (raise d k code unit).tags = d.tags := raiseD_tags d k code unit []
@[simp] theorem raiseFull_wbs (d : Device) (k code sev unit count : Nat) (detail : List Nat) (src : Option Nat) :
    (raiseFull d k code sev unit count detail src).wbs = d.wbs :=
  (keeps_raiseFull_of (ps := eventParts) (rs := anyReg) d k code sev unit count detail src (fun _ h => h) (fun _ _ => trivial) trivial
    trivial).parts .wbs (by decide)
@[simp] theorem raiseD_wbs (d : Device) (k code unit : Nat) (detail : List Nat) : (raiseD d k code unit detail).wbs = d.wbs :=
  raiseFull_wbs d k code _ unit 1 detail none
@[simp] theorem raise_wbs (d : Device) (k code unit : Nat) : (raise d k code unit).wbs = d.wbs := raiseD_wbs d k code unit []
@[simp] theorem raiseFull_ifs (d : Device) (k code sev unit count : Nat) (detail : List Nat) (src : Option Nat) :
    (raiseFull d k code sev unit count detail src).ifs = d.ifs :=
  (keeps_raiseFull_of (ps := eventParts) (rs := anyReg) d k code sev unit count detail src (fun _ h => h) (fun _ _ => trivial) trivial
    trivial).parts .ifs (by decide)
@[simp] theorem raiseD_ifs (d : Device) (k code unit : Nat) (detail : List Nat) : (raiseD d k code unit detail).ifs = d.ifs :=
  raiseFull_ifs d k code _ unit 1 detail none
@[simp] theorem raise_ifs (d : Device) (k code unit : Nat) : (raise d k code unit).ifs = d.ifs := raiseD_ifs d k code unit []
@[simp] theorem raiseFull_mems (d : Device) (k code sev unit count : Nat) (detail : List Nat) (src : Option Nat) :
    (raiseFull d k code sev unit count detail src).mems = d.mems :=
  (keeps_raiseFull_of (ps := eventParts) (rs := anyReg) d k code sev unit count detail src (fun _ h => h) (fun _ _ => trivial) trivial
    trivial).parts .mems (by decide)
@[simp] theorem raiseD_mems (d : Device) (k code unit : Nat) (detail : List Nat) : (raiseD d k code unit detail).mems = d.mems :=
  raiseFull_mems d k code _ unit 1 detail none
@[simp] theorem raise_mems (d : Device) (k code unit : Nat) : (raise d k code unit).mems = d.mems := raiseD_mems d k code unit []
@[simp] theorem raiseFull_queues (d : Device) (k code sev unit count : Nat) (detail : List Nat) (src : Option Nat) :
    (raiseFull d k code sev unit count detail src).queues = d.queues :=
  (keeps_raiseFull_of (ps := eventParts) (rs := anyReg) d k code sev unit count detail src (fun _ h => h) (fun _ _ => trivial) trivial
    trivial).parts .queues (by decide)
@[simp] theorem raiseD_queues (d : Device) (k code unit : Nat) (detail : List Nat) : (raiseD d k code unit detail).queues = d.queues :=
  raiseFull_queues d k code _ unit 1 detail none
@[simp] theorem raise_queues (d : Device) (k code unit : Nat) : (raise d k code unit).queues = d.queues := raiseD_queues d k code unit []
@[simp] theorem raiseFull_links (d : Device) (k code sev unit count : Nat) (detail : List Nat) (src : Option Nat) :
    (raiseFull d k code sev unit count detail src).links = d.links :=
  (keeps_raiseFull_of (ps := eventParts) (rs := anyReg) d k code sev unit count detail src (fun _ h => h) (fun _ _ => trivial) trivial
    trivial).parts .links (by decide)
@[simp] theorem raiseD_links (d : Device) (k code unit : Nat) (detail : List Nat) : (raiseD d k code unit detail).links = d.links :=
  raiseFull_links d k code _ unit 1 detail none
@[simp] theorem raise_links (d : Device) (k code unit : Nat) : (raise d k code unit).links = d.links := raiseD_links d k code unit []
@[simp] theorem raiseFull_tracks (d : Device) (k code sev unit count : Nat) (detail : List Nat) (src : Option Nat) :
    (raiseFull d k code sev unit count detail src).tracks = d.tracks :=
  (keeps_raiseFull_of (ps := eventParts) (rs := anyReg) d k code sev unit count detail src (fun _ h => h) (fun _ _ => trivial) trivial
    trivial).parts .tracks (by decide)
@[simp] theorem raiseD_tracks (d : Device) (k code unit : Nat) (detail : List Nat) : (raiseD d k code unit detail).tracks = d.tracks :=
  raiseFull_tracks d k code _ unit 1 detail none
@[simp] theorem raise_tracks (d : Device) (k code unit : Nat) : (raise d k code unit).tracks = d.tracks := raiseD_tracks d k code unit []
@[simp] theorem raiseFull_mcs (d : Device) (k code sev unit count : Nat) (detail : List Nat) (src : Option Nat) :
    (raiseFull d k code sev unit count detail src).mcs = d.mcs :=
  (keeps_raiseFull_of (ps := eventParts) (rs := anyReg) d k code sev unit count detail src (fun _ h => h) (fun _ _ => trivial) trivial
    trivial).parts .mcs (by decide)
@[simp] theorem raiseD_mcs (d : Device) (k code unit : Nat) (detail : List Nat) : (raiseD d k code unit detail).mcs = d.mcs :=
  raiseFull_mcs d k code _ unit 1 detail none
@[simp] theorem raise_mcs (d : Device) (k code unit : Nat) : (raise d k code unit).mcs = d.mcs := raiseD_mcs d k code unit []
@[simp] theorem raiseFull_unattr (d : Device) (k code sev unit count : Nat) (detail : List Nat) (src : Option Nat) :
    (raiseFull d k code sev unit count detail src).unattr = d.unattr :=
  (keeps_raiseFull_of (ps := eventParts) (rs := anyReg) d k code sev unit count detail src (fun _ h => h) (fun _ _ => trivial) trivial
    trivial).parts .unattr (by decide)
@[simp] theorem raiseD_unattr (d : Device) (k code unit : Nat) (detail : List Nat) : (raiseD d k code unit detail).unattr = d.unattr :=
  raiseFull_unattr d k code _ unit 1 detail none
@[simp] theorem raise_unattr (d : Device) (k code unit : Nat) : (raise d k code unit).unattr = d.unattr := raiseD_unattr d k code unit []
@[simp] theorem raiseFull_crossings (d : Device) (k code sev unit count : Nat) (detail : List Nat) (src : Option Nat) :
    (raiseFull d k code sev unit count detail src).crossings = d.crossings :=
  (keeps_raiseFull_of (ps := eventParts) (rs := anyReg) d k code sev unit count detail src (fun _ h => h) (fun _ _ => trivial) trivial
    trivial).parts .crossings (by decide)
@[simp] theorem raiseD_crossings (d : Device) (k code unit : Nat) (detail : List Nat) : (raiseD d k code unit detail).crossings = d.crossings :=
  raiseFull_crossings d k code _ unit 1 detail none
@[simp] theorem raise_crossings (d : Device) (k code unit : Nat) : (raise d k code unit).crossings = d.crossings := raiseD_crossings d k code unit []
@[simp] theorem raiseFull_limits (d : Device) (k code sev unit count : Nat) (detail : List Nat) (src : Option Nat) :
    (raiseFull d k code sev unit count detail src).limits = d.limits :=
  (keeps_raiseFull_of (ps := eventParts) (rs := anyReg) d k code sev unit count detail src (fun _ h => h) (fun _ _ => trivial) trivial
    trivial).parts .limits (by decide)
@[simp] theorem raiseD_limits (d : Device) (k code unit : Nat) (detail : List Nat) : (raiseD d k code unit detail).limits = d.limits :=
  raiseFull_limits d k code _ unit 1 detail none
@[simp] theorem raise_limits (d : Device) (k code unit : Nat) : (raise d k code unit).limits = d.limits := raiseD_limits d k code unit []
@[simp] theorem raiseFull_layout (d : Device) (k code sev unit count : Nat) (detail : List Nat) (src : Option Nat) :
    (raiseFull d k code sev unit count detail src).layout = d.layout :=
  (keeps_raiseFull_of (ps := eventParts) (rs := anyReg) d k code sev unit count detail src (fun _ h => h) (fun _ _ => trivial) trivial
    trivial).parts .layout (by decide)
@[simp] theorem raiseD_layout (d : Device) (k code unit : Nat) (detail : List Nat) : (raiseD d k code unit detail).layout = d.layout :=
  raiseFull_layout d k code _ unit 1 detail none
@[simp] theorem raise_layout (d : Device) (k code unit : Nat) : (raise d k code unit).layout = d.layout := raiseD_layout d k code unit []

/-- Registers no event counts in. -/
theorem reg_raiseFull (d : Device) (k code sev unit count : Nat) (detail : List Nat) (src : Option Nat) (i s : Nat) (hk : k < 8)
    (hs : s < 256) (h : ¬ eventReg i s) : reg (raiseFull d k code sev unit count detail src) i s = reg d i s :=
  (keeps_raiseFull (ps := eventParts) (rs := eventReg) d k code sev unit count detail src hk (fun _ h => h) fun _ _ h => h).regs i s hs h

theorem regN_raiseFull (d : Device) (k code sev unit count : Nat) (detail : List Nat) (src : Option Nat) (i s : Nat) (hk : k < 8)
    (hs : s < 256) (h : ¬ eventReg i s) : regN (raiseFull d k code sev unit count detail src) i s = regN d i s := by
  simp only [regN, reg_raiseFull d k code sev unit count detail src i s hk hs h]

end Sys2Proof.Machine
end

