-- ==== Sys2Proof/WellFormed.lean ====
section
/-! DEFINITION. Which terms of `Instr` are commands the block can see: every field within the width the spec gives it.
A command outside these bounds is no event of the hardware; the meanings are total on them all the same. -/

namespace Sys2Proof

def u8 (n : Nat) : Bool := decide (n < 2 ^ 8)
def u16 (n : Nat) : Bool := decide (n < 2 ^ 16)
def u32 (n : Nat) : Bool := decide (n < 2 ^ 32)
def u64 (n : Nat) : Bool := decide (n < 2 ^ 64)

/-- CANopen node IDs run from 1 to 127 (R307). -/
def Requester.wf : Requester → Bool
  | .session _ => true
  | .can _ node => decide (1 ≤ node ∧ node ≤ 127)
  | .bundle => true

def Endpoint.wf (e : Endpoint) : Bool := u32 e.ip && u16 e.udp

/-- The largest subindex is 8 bytes as a number; a block transfer carries up to 1 MiB (R324). -/
def Val.wf : Val → Bool
  | .num n => u64 n
  | .bytes b => decide (b.length ≤ 2 ^ 20)

/-- R94. -/
def TppHeader.wf (h : TppHeader) : Bool :=
  u16 h.magic && u8 h.version && u8 h.op && u8 h.session && u8 h.count && u16 h.source && u16 h.seq && u16 h.flags &&
  u32 h.dseq && u16 h.len

/-- A tile payload is 16 x 16 pixels of at most 4 bytes (R60, R95). -/
def TppTile.wf (t : TppTile) : Bool := u16 t.index && decide (t.payload.length ≤ 1024)

def FrameClose.wf (f : FrameClose) : Bool := decide (f.capture < 2 ^ 48) && u32 f.signature && u32 f.count

def RowData.wf (r : RowData) : Bool := u16 r.row && u16 r.first && r.samples.all u16

/-- As many row data segments as a UDP packet can hold: more than three are R104's to drop. -/
def RtpPacket.wf (p : RtpPacket) : Bool :=
  decide (p.payloadType < 128) && u16 p.seq && u16 p.extSeqHi && u32 p.timestamp && decide (p.rows.length ≤ 1024) &&
  p.rows.all RowData.wf

def SinkCaps.wf (c : SinkCaps) : Bool := u8 c.dpcdRev && u8 c.rate && u8 c.lanes && c.ports.all u8

def Hello.wf (m : Hello) : Bool :=
  u8 m.session && u8 m.roles && decide (m.nonce.length = 32) && decide (m.key.length = 65)

def PtpSyncMsg.wf (m : PtpSyncMsg) : Bool := u16 m.seq && u64 m.grandmaster && u8 m.domain && u64 m.origin
def PtpAnnounceMsg.wf (m : PtpAnnounceMsg) : Bool := u64 m.grandmaster && u8 m.domain

def TagEntry.wf (e : TagEntry) : Bool := u16 e.tag && u32 e.value && (match e.stamp with
  | some t => decide (t < 2 ^ 48)
  | none => true)

/-- Device addresses are 48 bits, an access is 1 to 256 bytes (R337, R341). -/
def TapOp.wf : TapOp → Bool
  | .bypass => true
  | .idcode => true
  | .sample => true
  | .extest _ => true
  | .access addr len data => decide (addr < 2 ^ 48 ∧ 1 ≤ len ∧ len ≤ 256) && (match data with
    | some b => decide (b.length = len)
    | none => true)

/-- The shape of a command. DEDUCED: notes/assumptions/166.md. -/
def Instr.wf : Instr → Bool
  | .commitWindowClose dt _ => u64 dt
  | .tickLatch dt _ => u64 dt
  | .headFrameLaunch dt _ => u64 dt
  | .rasterLine dt _ _ line parity _ => u64 dt && u16 line && parity.all (fun e => u32 e.2)
  | .tileFetchDone dt _ _ tile hdrFlips payFlips => u64 dt && u32 tile && hdrFlips.bits.all (fun b => decide (b < 128)) && payFlips.bits.all (fun b => decide (b < 8192))
  | .headPipeResetDone dt _ => u64 dt
  | .dotPllLock dt _ => u64 dt
  | .linkTrainingResult dt _ _ => u64 dt
  | .linkTrainingRetry dt _ caps => u64 dt && caps.wf
  | .hpdLowTimeout dt _ => u64 dt
  | .hpdHigh dt _ caps => u64 dt && caps.wf
  | .irqHpd dt _ _ => u64 dt
  | .tppTileUpdate dt _ peer hd tiles => u64 dt && peer.wf && hd.wf && tiles.all TppTile.wf
  | .tppReseal dt _ peer hd tiles => u64 dt && peer.wf && hd.wf && tiles.all (fun e => u16 e.1)
  | .tppEndOfFrame dt _ peer hd fc => u64 dt && peer.wf && hd.wf && fc.wf
  | .tppKeepalive dt _ peer hd time st => u64 dt && peer.wf && hd.wf && decide (time < 2 ^ 48) && u8 st
  | .unattributedDatagram dt _ => u64 dt
  | .ingressUnitStored dt _ _ => u64 dt
  | .rtpPacket dt _ group udp pkt => u64 dt && u32 group && u16 udp && pkt.wf
  | .st2110MergeWaitEnd dt _ => u64 dt
  | .st2110FrameRecord dt _ => u64 dt
  | .st2110PathSilence dt _ _ => u64 dt
  | .signalLossTimeout dt _ _ => u64 dt
  | .intPatternFrame dt _ => u64 dt
  | .spurTileArrival dt _ _ => u64 dt
  | .spurPublishRecord dt _ _ => u64 dt
  | .spurStatusRecord dt _ _ => u64 dt
  | .csiFrameStart dt _ _ _ => u64 dt
  | .csiLongPacket dt _ _ dtype _ _ _ => u64 dt && decide (dtype < 64)
  | .csiFrameEnd dt _ _ _ => u64 dt
  | .csiHeaderEccUncorrectable dt _ => u64 dt
  | .csiPacketIgnored dt _ => u64 dt
  | .csiFrameGap dt _ => u64 dt
  | .pipelineLineDone dt _ => u64 dt
  | .commitMessage dt _ => u64 dt
  | .layerCommit dt who _ => u64 dt && who.wf
  | .headCommit dt who _ => u64 dt && who.wf
  | .guardCommit dt who _ => u64 dt && who.wf
  | .guardLock dt who _ => u64 dt && who.wf
  | .tagCommit dt who _ => u64 dt && who.wf
  | .writebackCommit dt who _ => u64 dt && who.wf
  | .writebackHold dt who _ => u64 dt && who.wf
  | .writebackRelease dt who _ => u64 dt && who.wf
  | .sceneLaunchAtTime dt who _ => u64 dt && who.wf
  | .sceneLaunchNow dt who _ => u64 dt && who.wf
  | .sceneCancel dt who _ => u64 dt && who.wf
  | .policyLock dt who => u64 dt && who.wf
  | .tagValueWrite dt who _ v => u64 dt && who.wf && u64 v
  | .sourceEnableWrite dt who _ _ => u64 dt && who.wf
  | .cameraInputEnable dt who _ _ => u64 dt && who.wf
  | .cameraInputCommit dt who _ => u64 dt && who.wf
  | .touchEnableWrite dt who _ _ => u64 dt && who.wf
  | .touchSelfTest dt who _ => u64 dt && who.wf
  | .memIfRetire dt who _ _ => u64 dt && who.wf
  | .memFspLimitWrite dt who _ v => u64 dt && who.wf && u64 v
  | .clockMeasureRequest dt who v => u64 dt && who.wf && u64 v
  | .supplyTestStage dt who v => u64 dt && who.wf && u64 v
  | .timebaseConfigWrite dt who _ sub v => u64 dt && who.wf && u8 sub && u64 v
  | .ruleCommit dt who _ => u64 dt && who.wf
  | .ruleLock dt who _ => u64 dt && who.wf
  | .registerWrite dt who idx sub v => u64 dt && who.wf && u16 idx && u8 sub && v.wf
  | .sessionClaimLayer dt who _ n => u64 dt && who.wf && u8 n
  | .sessionReleaseLayer dt who _ n => u64 dt && who.wf && u8 n
  | .sessionCloseWrite dt who _ => u64 dt && who.wf
  | .errorRingAck dt who _ num => u64 dt && who.wf && u32 num
  | .attestNonceWrite dt who nonce => u64 dt && who.wf && decide (nonce.length = 32)
  | .bundleApply dt who => u64 dt && who.wf
  | .debugRequest dt who => u64 dt && who.wf
  | .debugClose dt who => u64 dt && who.wf
  | .debugApproveMaint dt who sig => u64 dt && who.wf && decide (sig.length = 64)
  | .debugApproveAudit dt who sig => u64 dt && who.wf && decide (sig.length = 64)
  | .debugChallengeExpiry dt => u64 dt
  | .debugMaxOpenExpiry dt => u64 dt
  | .dxpHello dt _ peer m => u64 dt && peer.wf && m.wf
  | .dxpProve dt _ peer sig => u64 dt && peer.wf && decide (sig.length = 64)
  | .handshakeTimeout dt peer => u64 dt && peer.wf
  | .dxpRead dt _ peer _ seq idx sub => u64 dt && peer.wf && u32 seq && u16 idx && u8 sub
  | .dxpWrite dt _ peer _ seq idx sub v => u64 dt && peer.wf && u32 seq && u16 idx && u8 sub && v.wf
  | .dxpReadAll dt _ peer _ seq idx => u64 dt && peer.wf && u32 seq && u16 idx
  | .dxpBlockRead dt _ peer _ seq idx sub off len => u64 dt && peer.wf && u32 seq && u16 idx && u8 sub && u32 off && u32 len
  | .dxpBlockWrite dt _ peer _ seq idx sub off _ total _ => u64 dt && peer.wf && u32 seq && u16 idx && u8 sub && u32 off && u32 total
  | .dxpTagTelegram dt _ peer _ seq count len entries => u64 dt && peer.wf && u32 seq && u16 count && u32 len && entries.all TagEntry.wf
  | .dxpKeepalive dt _ peer _ seq => u64 dt && peer.wf && u32 seq
  | .dxpClose dt _ peer _ seq => u64 dt && peer.wf && u32 seq
  | .sessionIdleTimeout dt _ => u64 dt
  | .eventMessageSend dt _ => u64 dt
  | .rpdo dt _ cobId data => u64 dt && decide (cobId < 2048) && decide (data.length ≤ 64)
  | .usdoDownload dt _ node idx sub v => u64 dt && decide (1 ≤ node ∧ node ≤ 127) && u16 idx && u8 sub && v.wf
  | .usdoUpload dt _ node idx sub => u64 dt && decide (1 ≤ node ∧ node ≤ 127) && u16 idx && u8 sub
  | .nmtStartRemoteNode dt _ node => u64 dt && decide (node ≤ 127)
  | .nmtEnterPreOperational dt _ node => u64 dt && decide (node ≤ 127)
  | .nmtStopRemoteNode dt _ node => u64 dt && decide (node ≤ 127)
  | .nmtResetCommunication dt _ node => u64 dt && decide (node ≤ 127)
  | .nmtResetNode dt _ node => u64 dt && decide (node ≤ 127)
  | .canHeartbeat dt _ => u64 dt
  | .tpdoEventTimer dt _ => u64 dt
  | .emcyInhibitEnd dt => u64 dt
  | .telegramLaunch dt who rec => u64 dt && who.wf && decide (rec.length = 12)
  | .telegramDue dt => u64 dt
  | .touchUpstreamIdle dt _ => u64 dt
  | .touchBringupRetry dt _ => u64 dt
  | .touchIdent dt _ ver rows cols part => u64 dt && u8 ver && u8 rows && u16 cols && u32 part
  | .touchAck dt _ addr => u64 dt && u16 addr
  | .touchReg dt _ addr v => u64 dt && u16 addr && u16 v
  | .touchStatus dt _ code => u64 dt && u8 code
  | .touchFrameSlot dt _ => u64 dt
  | .touchSample dt _ frame chip samples => u64 dt && u16 frame && u16 chip && samples.all (fun x => decide (-32768 ≤ x ∧ x ≤ 32767))
  | .touchReportRelease dt _ => u64 dt
  | .touchLinkTimeout dt _ => u64 dt
  | .touchHoldLimit dt _ _ => u64 dt
  | .memTrainingDone dt _ res => u64 dt && decide (res.length = 4)
  | .refreshAccrual dt _ _ _ => u64 dt
  | .mr4Poll dt _ _ _ _ => u64 dt
  | .periodicTrainingStep dt _ _ _ => u64 dt
  | .trainingStepEnd dt _ _ _ => u64 dt
  | .fspSwitchStart dt _ => u64 dt
  | .fspSwitchDone dt _ => u64 dt
  | .fspSwitchNoWindow dt _ => u64 dt
  | .migrationComplete dt _ _ => u64 dt
  | .retireDeadline dt _ _ => u64 dt
  | .memIfTimeout dt _ _ => u64 dt
  | .memRequestEnqueue dt _ _ _ _ addr => u64 dt && decide (addr < 2 ^ 34)
  | .requestLate dt _ _ => u64 dt
  | .drainEnd dt _ _ => u64 dt
  | .queueDequeue dt _ _ desc => u64 dt && decide (desc.length = 32)
  | .descriptorResend dt _ _ desc => u64 dt && decide (desc.length = 32)
  | .timeFeedSend dt => u64 dt
  | .timeFeedMessage dt _ _ => u64 dt
  | .timeFeedTimeout dt _ => u64 dt
  | .saddleDelayMeasure dt _ _ _ => u64 dt
  | .peerTimeAlign dt => u64 dt
  | .tb3Persist dt => u64 dt
  | .oscTrim dt _ _ => u64 dt
  | .ptpSync dt _ _ m => u64 dt && m.wf
  | .ptpFollowUp dt _ _ seq origin => u64 dt && u16 seq && u64 origin
  | .ptpDelayResp dt _ _ seq receive _ => u64 dt && u16 seq && u64 receive
  | .ptpAnnounce dt _ _ a => u64 dt && a.wf
  | .ptpAnnounceTimeout dt _ _ => u64 dt
  | .ptpSyncTimeout dt _ _ => u64 dt
  | .heartbeatSend dt => u64 dt
  | .heartbeatArrival dt _ _ => u64 dt
  | .heartbeatPathSilent dt _ _ => u64 dt
  | .bothPathsSilent dt _ => u64 dt
  | .tokenRequest dt _ _ => u64 dt
  | .tokenGrant dt _ _ => u64 dt
  | .takeoverTokenRetry dt _ => u64 dt
  | .takeoverNoMajority dt _ => u64 dt
  | .controlDemotion dt _ => u64 dt
  | .checkpointCommit dt => u64 dt
  | .shadowDigest dt digest => u64 dt && decide (digest.length = 32)
  | .digestLate dt => u64 dt
  | .comparisonPass dt => u64 dt
  | .drillInterval dt => u64 dt
  | .redCommandDrill dt who => u64 dt && who.wf
  | .redCommandHandover dt who => u64 dt && who.wf
  | .redCommandClearSuspect dt who => u64 dt && who.wf
  | .takeBackHoldoffEnd dt _ => u64 dt
  | .controlRestartMaint dt who => u64 dt && who.wf
  | .controlRestartAudit dt who => u64 dt && who.wf
  | .fwStageCommit dt who => u64 dt && who.wf
  | .fwStagingDone dt => u64 dt
  | .fwActivateStaged dt who => u64 dt && who.wf
  | .fwActivateFallback dt who => u64 dt && who.wf
  | .fwSecurityVersionRaise dt => u64 dt
  | .mcSwapArm dt who _ => u64 dt && who.wf
  | .mcSwapCancel dt who _ => u64 dt && who.wf
  | .mcInstallNextReset dt who _ => u64 dt && who.wf
  | .probationEnd dt _ => u64 dt
  | .redPixelReset dt who _ => u64 dt && who.wf
  | .redPixelResetWithRepair dt who _ => u64 dt && who.wf
  | .redPixelReleaseHeld dt who _ => u64 dt && who.wf
  | .pixelDieResetRelease dt _ => u64 dt
  | .dieRepairTestDone dt _ _ => u64 dt
  | .pixelDieConfigReloaded dt _ => u64 dt
  | .controlDieBoot dt _ _ => u64 dt
  | .pwrgoodRise dt => u64 dt
  | .pwrgoodFall dt => u64 dt
  | .resetnLow dt => u64 dt
  | .resetnRise dt => u64 dt
  | .oscillatorReady dt _ _ => u64 dt
  | .crystalStartDelayEnd dt _ => u64 dt
  | .crystalQualifyTimeout dt _ => u64 dt
  | .freqWindowEnd dt _ count => u64 dt && u32 count
  | .missingEdge dt _ => u64 dt
  | .clockHoldoverTimeout dt _ => u64 dt
  | .pllFault dt _ _ => u64 dt
  | .supplyDwellExpiry dt _ _ mv => u64 dt && u16 mv
  | .supplyRecoveryExpiry dt _ mv => u64 dt && u16 mv
  | .supplyBrownout dt _ lowest => u64 dt && u16 lowest
  | .supplyHoldRelease dt _ mv => u64 dt && u16 mv
  | .d2dPeerReset dt _ _ _ => u64 dt
  | .d2dPeerUp dt _ _ _ => u64 dt
  | .thermnAssert dt _ _ => u64 dt
  | .thermnRelease dt temps => u64 dt && decide (temps.length = 8)
  | .hbtestHigh dt => u64 dt
  | .hbtestLow dt => u64 dt
  | .portLinkStateChange dt _ _ => u64 dt
  | .canErrorStateChange dt _ _ => u64 dt
  | .ptpDelayReqSend dt _ _ => u64 dt
  | .dxpDatagramDropped dt _ _ => u64 dt
  | .arpIcmpEchoRequest dt _ _ from_ => u64 dt && from_.wf
  | .touchPacketDiscarded dt _ _ => u64 dt
  | .microcodeCheckFail dt _ => u64 dt
  | .pllLockAcquired dt _ => u64 dt
  | .checkpointCommitDone dt => u64 dt
  | .auditRecordProgrammed dt => u64 dt
  | .debugTapAccess dt op => u64 dt && op.wf

/-- The predicate statements are made about. -/
abbrev WellFormed (i : Instr) : Prop := i.wf = true

end Sys2Proof
end

