-- ==== Sys2Proof/Tests/Slice0.lean ====
section
/-! SUPPORT. Tests. For each statement about commands one theorem shows, for each of its clauses, a device and operands that meet the
clause's hypotheses together; then come values that the spec gives, and for each check of WellFormed a term it refuses. -/

set_option Elab.async false

namespace Sys2Proof.Tests
open Sys2Proof.Machine Sys2Proof.Safety

/-- A copy of a base at `t` ns, loaded and following, fed at 99.99 s. -/
def copyAt (t st : Nat) : TimeCopy :=
  { TimeCopy.reset with
    ns := t, st := st, loaded := true, follow := true, unc := 10000, feedAt := 99990000000, sentAt := 99990000000 }

/-- A pixel die UP and holding CA's token. -/
def dieP : PixelDie :=
  { PixelDie.reset with
    out := true, state := 1, token := 2, tb0 := copyAt 1700000100000000000 2, tb1 := copyAt 100000000000 2,
    tb2 := copyAt 100000000000 2, tb3 := copyAt 400000000000 2, heard := [99999000000, 99999000000] }

/-- A running base of a control die. -/
def baseTb (t st : Nat) : TimeBase := { TimeBase.fresh st with ns := t, syncAt := 99900000000, annAt := 99900000000 }

/-- A control die out of reset in a role, its bases running, booted from slot A. -/
def dieC (role : Nat) : CtlDie :=
  { CtlDie.reset with
    out := true, role := role, tb0 := baseTb 1700000100000000000 2, tb1 := baseTb 100000000000 2,
    tb2 := baseTb 100000000000 4, tb3 := baseTb 400000000000 4, booted := 1, bootAt := 1000000000, heardS := 99999000000,
    heardW := 99999000000, beat := 7,
    flash := { Flash.reset with slotA := 4, slotB := 3, imageA := [1, 2], imageB := [3, 4], used := true, bundle := [9], tb3 := 1 } }

/-- A die's clocks locked, its monitor armed. -/
def clockOn : ClockUnit := { ClockUnit.reset with
    src := 1, mon := 2, ready := true, startAt := 1000, stepAt := 1000, pll := 4 }

/-- A rail at 760 mV. -/
def railOn : RailUnit := { RailUnit.reset with seen := true, mv := 760, low := 755, stageAt := 1000000000 }

/-- An open session of all five roles. -/
def sessOn : Session :=
  { Session.reset with
    state := 3, roles := 31, peer := ⟨0x0A000001, 5000⟩, leaf := [1], openedAt := 90000000000, lastReq := 99000000000,
    top := 4, counter := 9, keys := [7], endpoint := some ⟨0x0A000001, 6000⟩ }

/-- A rank whose debt was settled at 90 s. -/
def rankOn : RankUnit := { RankUnit.reset with rate := 1, last := 90000000000, inUse := 1 }

/-- A memory interface in service. -/
def ifOn : MemIfUnit := { MemIfUnit.reset with state := 3, density := 16, ranks := 1, rank0 := rankOn, rank1 := rankOn }

/-- A rule table whose entry k lets every master into all of die k. -/
def rulesOn : RuleCopy := { RuleCopy.reset with rules := (List.range 8).map fun k => (k, { masters := 63, base := k * 2 ^ 44, pages := 2 ^ 32 - 1, access := 3 }) }

/-- The device 100 s after reset: both control dies up, CA active, CB its standby, six pixel dies UP under CA's tokens, session 0
open by port 0, both CAN ports error active and OPERATIONAL. -/
def dev0 : Device :=
  { Device.reset with
    mono := 100000000000
    pins := { Pins.reset with pwrgood := true, straps := some 2 }
    ctls := [(0, dieC 3), (1, dieC 4)]
    pix := (List.range 6).map fun p => (p, dieP)
    clocks := (List.range 8).map fun k => (k, clockOn)
    rails := (List.range 8).map fun k => (k, railOn)
    sup := { Sup.reset with sessions := [(0, sessOn)] }
    can := { CanUnit.reset with nmt := 3, errs := [3, 3] }
    rules := (List.range 8).map fun k => (k, rulesOn)
    mems := (List.range 6).map fun p => (p, { MemUnit.reset with inForce := 1 })
    ifs := (List.range 24).map fun k => (k, ifOn)
    regs := storePut (storePut [] 0x2020 5 (.num 0x0A000010)) 0x2020 6 (.num 0x0A000011) }

/-- The base device with registers written. -/
def withRegs (l : List (Nat × Nat × Nat)) (d : Device) : Device := l.foldl (fun d e => setN d e.1 e.2.1 e.2.2) d

/-- The base device with TB0 an ordinary clock of domain 0 on CA. -/
def ptp (f : TimeBase → TimeBase) : Device :=
  modCtl (withRegs [(0x2100, 1, 2), (0x2100, 3, 0), (0x2100, 6, 3)] dev0) 0 fun c => { c with tb0 := f { c.tb0 with st := 2, gm := 5 } }

/-- The base device with source 0 enabled: TPP unless `kind` says otherwise, 16 x 16 pixels of one byte, owned by die 0 with a
replica on die 1, written by session 0. -/
def withSource (kind : Nat) (f : SrcUnit → SrcUnit) : Device :=
  let d := withRegs [(0x5000, 1, kind), (0x5000, 2, 1), (0x5000, 3, 0), (0x5000, 4, 4), (0x5000, 5, 16), (0x5000, 6, 16), (0x5000, 0x0E, 2), (0x5000, 0x0F, 0)] dev0
  { d with force := [(1, kind), (2, 1), (3, 0), (4, 4), (5, 16), (6, 16), (0x0E, 2), (0x0F, 0)].foldl (fun t e => storePut t 0x5000 e.1 (.num e.2)) d.force,
           srcs := [(0, f { SrcUnit.reset with present := true, owner := true, state := 2, lastSignal := 99990000000 }),
             (1, f { SrcUnit.reset with present := true, state := 2, lastSignal := 99990000000 })] }

/-- The host endpoint of session 0 for TPP. -/
def tppPeer : Endpoint := ⟨0x0A000001, 6000⟩

/-- A tile payload of 256 zero bytes, its header in frame 7, and the checks of R96 that it passes. -/
def full : List Byte := List.replicate 64 0 ++ (List.replicate 64 0 ++ (List.replicate 64 0 ++ List.replicate 64 0))
def fullHdr : BitVec 128 := 141889896253189697085590179890882326928

theorem crc_run_append (a : Nat) (x y : List Byte) : crc32cRun a (x ++ y) = crc32cRun (crc32cRun a x) y :=
  List.foldl_append

theorem full_crc : crc32c full = 3094524304 := by
  have a : crc32cRun 0xFFFFFFFF (List.replicate 64 0) = 4231468184 := by decide +kernel
  have b : crc32cRun 4231468184 (List.replicate 64 0) = 4158167844 := by decide +kernel
  have c : crc32cRun 4158167844 (List.replicate 64 0) = 2345306063 := by decide +kernel
  have e : crc32cRun 2345306063 (List.replicate 64 0) = 1200442991 := by decide +kernel
  rw [crc32c, full, crc_run_append, a, crc_run_append, b, crc_run_append, c, e]
  rfl

theorem full_tile : tileDrop 0 4 ⟨0, fullHdr, full⟩ = 0 := by
  unfold tileDrop
  simp only [full_crc]
  decide +kernel

/-- A short tile payload, where no rule looks at its length, and its header in frame 7. -/
def blank : List Byte := [1, 2, 3, 4]
def blankHdr : BitVec 128 := mkHeader true true true true 0 7 1000 (crc32c blank)

/-- Frame 7 of source 0 of one blank tile. -/
def blankFrame (n : Nat) : Frame :=
  { source := 0, seq := n, capture := 1000, signature := frameSignature [(0, ⟨1, blankHdr, blank, 0, 1⟩)], declUnc := 5,
    origin := true, expired := false, published := 99000000000, width := 16, height := 16, format := 4, base := 0, recNum := 1, recIf := 0,
    tiles := [(0, ⟨1, blankHdr, blank, 0, 1⟩)] }

/-- An open frame of sequence number 7 holding the blank tile. -/
def openBlank : OpenFrame :=
  { seq := 7, reseal := false, got := [(0, ⟨1, blankHdr, blank, 0, 1⟩)], covered := [], differ := [], spoiled := false }

/-- The base device with camera port 0 enabled and input 0 on it: channel 2, RAW10, 16 x 16 pixels, pipeline 0. -/
def withCamera (f : CamUnit → CamUnit) : Device :=
  setCam (withRegs [(0x5400, 1, 1), (0x5480, 1, 1), (0x5480, 2, 0), (0x5480, 3, 2), (0x5480, 4, 0x2B), (0x5480, 5, 1), (0x5480, 6, 0),
    (0x5480, 7, 16), (0x5480, 8, 16)] dev0) 0 (f CamUnit.reset)

/-- A job of a camera input with one stored line. -/
def camJob (n : Nat) : CamJob := ⟨n, 99000000000, [], [List.replicate 16 5], [], false, 1, false⟩

/-- The base device with head 1 of die 0 enabled in force. -/
def withHead (f : HeadUnit → HeadUnit) (g : HeadScan → HeadScan) : Device :=
  let d := setScan (setHead dev0 1 (f { HeadUnit.reset with running := true })) 1 (g HeadScan.reset)
  { d with force := storePut (storePut d.force 0x4801 1 (.num 1)) 0x4801 7 (.num (16 * 65536 + 16)) }

/-- A sink of DPCD revision 1.4, HBR3 on four lanes. -/
def sink : SinkCaps := ⟨0x14, 4, 4, true, true, [], true⟩

/-- A destination of 16 x 16 pixels at the top left. -/
def pane : Table Val := [(0x0A, .num (16 * 65536 + 16))]

/-- A frame on screen that shows layer 3 of die 0 with one tile of the blank frame to fetch. -/
def screen (w : List Nat) : Scan :=
  { grey := .none, hcfg := [(5, .num 1), (7, .num (16 * 65536 + 16))], gcfg := [],
    layers := [⟨3, pane, some (blankFrame 7), 4, 0, 10, 10, 1000, w, [], [], []⟩], tags := [], forced := false, shed := false }

/-- A memory request on interface 1 from port 4. -/
def waitReq (n : Nat) : MemReq := ⟨n, 4, 2, 1, 64, 99000000000, false, false⟩

/-- A descriptor with the CRC of R210 at its end. -/
def goodDesc : List Byte := List.replicate 28 3 ++ beBytes 4 (crc32c (List.replicate 28 3))

/-- The base device with touch link 3 enabled: 16 rows, 2 columns, head 4. -/
def withTouch (f : TouchUnit → TouchUnit) (g : TrackUnit → TrackUnit) : Device :=
  setTrack (setLink (withRegs [(0x5803, 1, 1), (0x5803, 2, 16), (0x5803, 3, 2)] dev0) 3 (f { TouchUnit.reset with
    since := 99000000000, stepAt := 99990000000, rate := 240, frameNo := 9, slotAt := 99000000000, lastUp := 99990000000,
    cfg := [(1, .num 1), (2, .num 16), (3, .num 2), (4, .num 240), (9, .num 600), (0x0C, .num 4)] })) 3 (g TrackUnit.reset)

/-- A touch of identifier 2. -/
def finger : Touch :=
  { id := 2, row := 64, col := 64, x := 10, y := 10, sample := 99000000000, born := 98000000000, lastX := 10, lastY := 10,
    lastReport := 99000000000, missing := 0, goneAt := 0, persistent := false, degraded := false, peak := 300, node := 3, nodes := [3] }

/-- The base device with the clocks of die `k` changed. -/
def withClock (k : Nat) (f : ClockUnit → ClockUnit) : Device := setClock dev0 k (f clockOn)

/-- The base device with the rail of die `k` changed. -/
def withRail (k : Nat) (f : RailUnit → RailUnit) : Device := setRail dev0 k (f railOn)

/-- Device reset with one die's state kept aside. -/
def heldDie (k : Nat) : Device := setPix (withRail (k + 2) fun r => { r with held := true, heldAt := 90000000000 }) k { PixelDie.reset with state := 3 }

/-- A valid checkpoint slot. -/
def sealed (i n : Nat) : CkptSlot :=
  let x := { CkptSlot.reset with st := 3, seq := n }
  { x with record := commitRecord i x }

/-- The base device with die 0's rule table: entry 3 lets DEBUG read and write the first page. -/
def withRules (l : Nat) : Device :=
  let d := setRuleCopy dev0 0 { RuleCopy.reset with rules := [(3, ⟨4, 0, 1, l⟩)] }
  { d with sup := { d.sup with dbg := { DebugUnit.reset with opened := true, openedAt := 1000 } } }

/-- CA fallen silent: both paths of CB have been quiet for 5 ms. -/
def silence (f : CtlDie → CtlDie) : Device :=
  setCtl dev0 1 (f { dieC 4 with heardS := 99990000000, heardW := 99990000000, silentS := true, silentW := true })

/-- CB taking over, with the tokens of `l`. -/
def taking (l : List Nat) (f : CtlDie → CtlDie) : Device :=
  l.foldl (fun d p => modPix d p fun q => { q with token := 3 })
    (silence fun c => f { c with role := 10, was := 4, takeover := some 99995000000, retry := 99999000000 })

/-- The base device with a shadowing run of a kind. -/
def compare (kind a b m f : Nat) : Device :=
  let d := setCtl (setCtl dev0 0 (dieC a)) 1 (dieC b)
  { d with cmp := { CompareUnit.reset with kind := kind, shown := 2, matched := m, failed := f, digest := [1, 2], formedAt := 99999999000 } }

/-- A pixel die coming out of reset. -/
def coming (p : Nat) (f : PixelDie → PixelDie) : Device := setPix dev0 p (f { PixelDie.reset with state := 3 })

/-- An event record of die 0 that waits to be sent. -/
def someEvent : EventRec := ⟨64, 3, 1, 0, 5, 400000000000, 0, 0x2300, 1, [0, 0]⟩

/-- The base device with session 0 changed. -/
def withSession (f : Session → Session) : Device := modSess dev0 0 f

/-- Tag 7, decided by die 0, taking values of TB0. -/
def withTag : Device := { setTag dev0 7 { TagUnit.reset with applied := true } with force := [(256 * 0x6007 + 1, .num 1), (256 * 0x6007 + 0x0F, .num 2), (256 * 0x6007 + 0x11, .num 4096)] }

/-- A host and its HELLO for any free session. -/
def host : Endpoint := ⟨0x0A000002, 7000⟩
def helloMsg (k : Nat) : Hello := ⟨k, 1, List.replicate 32 1, List.replicate 65 2, [3]⟩
def shake : Handshake := ⟨host, 0, 3, helloMsg 3, [1], 5, [2], 99999000000⟩

/-- Session 1 beside session 0, for a write of one that concerns the other. -/
def twoSessions : Device := modSess dev0 1 fun _ => { sessOn with peer := host, roles := 31 }

/-- CB holds a valid checkpoint, so that answers wait for the next. -/
def checkpointed (st : Nat) : Device := modCtl dev0 1 fun c => { c with slot0 := sealed 0 4, slot1 := { CkptSlot.reset with st := st } }

/-- The requester of session 0. -/
def me : Requester := .session 0

/-- A scene record of layer 3, all zero but the number. -/
def sceneRec : List Byte := beBytes 2 3 ++ List.replicate 38 0

/-- The base device with the debug ceremony changed. -/
def debugging (f : DebugUnit → DebugUnit) : Device := { dev0 with sup := { dev0.sup with dbg := f dev0.sup.dbg } }

/-- Input 0 configured, its tone curves not those of reset, and not enabled. -/
def camIdle : Device :=
  setReg (withRegs [(0x5400, 1, 1), (0x5480, 2, 0), (0x5480, 3, 2), (0x5480, 4, 0x2B), (0x5480, 5, 1), (0x5480, 6, 0), (0x5480, 7, 16),
    (0x5480, 8, 16), (0x5480, 9, 60000)] dev0) 0x5480 0x1B (.bytes (List.replicate 6144 1))

/-- A stored image for a firmware or microcode object. -/
def withImage (idx sub : Nat) (d : Device) : Device := setReg d idx sub (.bytes [8, 8])

theorem test_time_feed_reaches_the_copies :
    (∃ (dt : Nat) (s : State) (d : Device) (c : Nat), d = elapse s.dev dt ∧ activeCtl d = some c) ∧
    (∃ (dt : Nat) (s : State) (d : Device) (p : Die) (c : Ctl) (m : FeedMsg) (rest : List (Nat × FeedMsg)), d = elapse s.dev dt
    ∧ pixUp d p = true ∧ (pixAt d p).feed = (c.val, m) :: rest ∧ (pixAt d p).token = c + 2) ∧
    (∃ (dt : Nat) (s : State) (d : Device) (p : Die), d = elapse s.dev dt ∧ pixUp d p = true ∧ (pixAt d p).tb0.loaded = true ∧
    (pixAt d p).holdover = false ∧ (pixAt d p).tb0.feedAt + 500000 ≤ d.mono) ∧
    (∃ (dt : Nat) (s : State) (d : Device) (c : Ctl) (p : Die), d = elapse s.dev dt ∧ ctlUp d c = true ∧ pixUp d p = true ∧
    (pixAt d p).delays.length = 2) :=
  ⟨⟨0, ⟨[], dev0⟩, _, 0, rfl, by decide +kernel⟩,
   ⟨0, ⟨[], modPix dev0 2 fun q => { q with feed := [(0, ⟨[5, 6, 7, 8], [2, 2, 2, 2], [1, 2, 3, 4], [0, 0, 0, 0], 99, 98⟩)] }⟩,
   _, 2, 0, ⟨[5, 6, 7, 8], [2, 2, 2, 2], [1, 2, 3, 4], [0, 0, 0, 0], 99, 98⟩, [], rfl, by decide +kernel⟩,
   ⟨500000000, ⟨[], dev0⟩, _, 3, rfl, by decide +kernel⟩,
   ⟨0, ⟨[], dev0⟩, _, 1, 3, rfl, by decide +kernel⟩⟩

theorem test_peer_time_and_trim_follow_their_reference :
    (∃ (dt : Nat) (s : State) (d : Device) (c : Nat), d = elapse s.dev dt ∧ activeCtl d = some c ∧ ctlUp d (1 - c) = true ∧ (∃
    p, p < 6 ∧ pixUp d p = true ∧ (pixAt d p).state = 1)) ∧
    (∃ (dt : Nat) (s : State) (d : Device) (c : Nat), d = elapse s.dev dt ∧ activeCtl d = some c) ∧
    (∃ (dt : Nat) (s : State) (d : Device) (k : AnyDie) (err : Int) (ref : Nat) (m : Int), d = elapse s.dev dt ∧ dieUp d k =
    true ∧ trimReference d k err = (ref, m) ∧ ref ≠ 5 ∧ 500000 < m.natAbs ∧ (clockAt d k).noTrim = false ∧ -128 < (clockAt d
    k).trim ∧ (clockAt d k).trim < 128 ∧ (regB d 0x2210 6).length = 8) ∧
    (∃ (dt : Nat) (s : State) (d : Device) (k : AnyDie) (err : Int) (ref : Nat) (m : Int), d = elapse s.dev dt ∧ dieUp d k =
    true ∧ trimReference d k err = (ref, m) ∧ ref ≠ 5 ∧ 500000 < m.natAbs ∧ (clockAt d k).noTrim = false ∧ -128 < (clockAt d
    k).trim ∧ (clockAt d k).trim < 128 ∧ (regB d 0x2210 6).length = 8) :=
  ⟨⟨0, ⟨[], dev0⟩, _, 0, rfl, by decide +kernel⟩,
   ⟨0, ⟨[], dev0⟩, _, 0, rfl, by decide +kernel⟩,
   ⟨0, ⟨[], dev0⟩, _, 3, 600, 4, 600000, rfl, by decide +kernel⟩,
   ⟨0, ⟨[], dev0⟩, _, 5, -700, 4, -700000, rfl, by decide +kernel⟩⟩

theorem test_ptp_messages_measure_the_offset :
    (∃ (dt : Nat) (s : State) (d : Device) (c : Ctl) (b : Fin 2) (m : PtpSyncMsg) (t : TimeBase) (dl : Nat) (o : Int), d =
    elapse s.dev dt ∧ t = baseAt d c b ∧ ptpOn d c b m.domain = true ∧ t.gm = m.grandmaster ∧ t.gm ≠ 0 ∧ -7 ≤ m.logInterval ∧
    m.logInterval ≤ 1 ∧ m.twoStep = false ∧ t.delay = some dl ∧ t.st = 2 ∧ t.check = false ∧ o = Int.ofNat t.ns - Int.ofNat
    m.origin - Int.ofNat dl) ∧
    (∃ (dt : Nat) (s : State) (d : Device) (c : Ctl) (b : Fin 2) (m : PtpSyncMsg) (t : TimeBase), d = elapse s.dev dt ∧ t =
    baseAt d c b ∧ ptpOn d c b m.domain = true ∧ t.gm = m.grandmaster ∧ t.gm ≠ 0 ∧ -7 ≤ m.logInterval ∧ m.logInterval ≤ 1 ∧
    m.twoStep = true) ∧
    (∃ (dt : Nat) (s : State) (d : Device) (c : Ctl) (b : Fin 2) (seq arr : Nat) (t : TimeBase), d = elapse s.dev dt ∧ t =
    baseAt d c b ∧ t.twoStep = some (seq, arr) ∧ ptpPort d c b = true ∧ regN d (0x2100 + b) 1 = 2 ∧ t.delay = none) ∧
    (∃ (dt : Nat) (s : State) (d : Device) (c : Ctl) (b : Fin 2) (t : TimeBase) (seq : Nat), d = elapse s.dev dt ∧ t = baseAt d
    c b ∧ ptpPort d c b = true ∧ regN d (0x2100 + b) 1 = 2 ∧ t.gm ≠ 0 ∧ (∀ a, t.asked = some a → a.1 + logNs (if t.delay.isSome
    then t.reqLog else -4) ≤ d.mono) ∧ seq = t.asked.elim 1 (fun a => (a.2 + 1) % 65536)) ∧
    (∃ (dt : Nat) (s : State) (d : Device) (c : Ctl) (b : Fin 2) (seq t3 : Nat) (ms : Int) (t : TimeBase), d = elapse s.dev dt ∧
    t = baseAt d c b ∧ t.reqAt = some (seq, t3) ∧ t.ms = some ms ∧ ptpPort d c b = true ∧ t.delay.isSome = true) :=
  ⟨⟨0, ⟨[], ptp fun t => { t with delay := some 100 }⟩, _, 0, 0, ⟨3, 5, 0, false, 1700000099000000000, 0⟩, _, 100, _, rfl, rfl,
   by decide +kernel, by decide +kernel, by decide +kernel, (by decide +kernel), by decide +kernel, by decide +kernel,
   by decide +kernel, (by decide +kernel), by decide +kernel, rfl⟩,
   ⟨0, ⟨[], ptp id⟩, _, 0, 0, ⟨3, 5, 0, true, 0, 0⟩, _, rfl, rfl, by decide +kernel⟩,
   ⟨0, ⟨[], ptp fun t => { t with twoStep := some (3, 77) }⟩, _, 0, 0, 3, 77, _, rfl, rfl, by decide +kernel⟩,
   ⟨0, ⟨[], ptp id⟩, _, 0, 0, _, _, rfl, rfl, by decide +kernel, by decide +kernel, by decide +kernel, (by decide +kernel), rfl⟩,
   ⟨0, ⟨[], ptp fun t => { t with reqAt := some (1, 88), ms := some 40, delay := some 30 }⟩, _, 0, 0, 1, 88, 40, _, rfl, rfl,
   by decide +kernel⟩⟩

theorem test_ptp_masters_come_and_go :
    (∃ (dt : Nat) (s : State) (d : Device) (c : Ctl) (b : Fin 2) (a : PtpAnnounceMsg) (t : TimeBase), d = elapse s.dev dt ∧ t =
    baseAt d c b ∧ ptpOn d c b a.domain = true ∧ -3 ≤ a.logInterval ∧ a.logInterval ≤ 4 ∧ a.grandmaster ≠ 0 ∧ t.gm = 0 ∧
    t.others = []) ∧
    (∃ (dt : Nat) (s : State) (d : Device) (c : Ctl) (b : Fin 2) (a : PtpAnnounceMsg) (t : TimeBase) (o : Foreign), d = elapse
    s.dev dt ∧ t = baseAt d c b ∧ ptpOn d c b a.domain = true ∧ -3 ≤ a.logInterval ∧ a.logInterval ≤ 4 ∧ a.grandmaster ≠ 0 ∧
    t.gm = 0 ∧ t.others = [o] ∧ o.gm = a.grandmaster ∧ d.mono ≤ o.at_ + 4 * logNs o.log) ∧
    (∃ (dt : Nat) (s : State) (d : Device) (c : Ctl) (b : Fin 2) (t : TimeBase), d = elapse s.dev dt ∧ t = baseAt d c b ∧ ctlUp
    d c = true ∧ t.gm ≠ 0 ∧ t.st = 2 ∧ (∀ f ∈ t.others, f.gm = t.gm) ∧ t.annAt + regN d (0x2100 + b) 6 * logNs t.annLog ≤
    d.mono) ∧
    (∃ (dt : Nat) (s : State) (d : Device) (c : Ctl) (b : Fin 2) (t : TimeBase), d = elapse s.dev dt ∧ t = baseAt d c b ∧ ctlUp
    d c = true ∧ t.gm ≠ 0 ∧ t.st = 2 ∧ t.syncAt + 4 * logNs t.syncLog ≤ d.mono) :=
  ⟨⟨0, ⟨[], ptp fun t => { t with gm := 0, st := 1 }⟩, _, 0, 0, ⟨5, 0, [1, 2], 1⟩, _, rfl, rfl, by decide +kernel⟩,
   ⟨0, ⟨[], ptp fun t => { t with gm := 0, st := 1, others := [⟨5, [1, 2], 99000000000, 1, false⟩] }⟩, _, 0, 0, ⟨5, 0, [1, 2],
   1⟩, _, ⟨5, [1, 2], 99000000000, 1, false⟩, rfl, rfl, by decide +kernel⟩,
   ⟨5000000000, ⟨[], ptp id⟩, _, 0, 0, _, rfl, rfl, by decide +kernel⟩,
   ⟨5000000000, ⟨[], ptp id⟩, _, 0, 0, _, rfl, rfl, by decide +kernel⟩⟩

theorem test_tpp_update_fills_its_open_frame :
    (∃ (dt : Nat) (st : State) (d : Device) (port : EthPort) (peer : Endpoint) (h : TppHeader) (tiles : List TppTile) (s o c :
    Nat), d = elapse st.dev dt ∧ s = tppSource h ∧ o = srcOwner d s ∧ c = ctlOfPort port ∧ hostPort d port = true ∧ tppForm d h
    1 1 = 0 ∧ tppAllowed d h peer = 0 ∧ tppIndices d s (tiles.map (·.index)) = 0 ∧ (∀ t ∈ tiles, hdrSeq t.hdr = h.seq ∧ hdrLast
    t.hdr = isLast (srcW d s) (srcH d s) t.index) ∧ tppFrameMismatch d s 1 h.seq = false ∧ tppFull d s c = 0 ∧ barred d (o + 2)
    4 true = false) ∧
    (∃ (dt : Nat) (st : State) (d g : Device) (port : EthPort) (peer : Endpoint) (h : TppHeader) (t : TppTile) (s o c : Nat), d
    = elapse st.dev dt ∧ g = tppOpen (tppAccept d s o c [t.index]) s o h.seq false ∧ s = tppSource h ∧ o = srcOwner d s ∧ c =
    ctlOfPort port ∧ hostPort d port = true ∧ tppForm d h 1 1 = 0 ∧ tppAllowed d h peer = 0 ∧ tppIndices d s [t.index] = 0 ∧
    hdrSeq t.hdr = h.seq ∧ hdrLast t.hdr = isLast (srcW d s) (srcH d s) t.index ∧ tppFrameMismatch d s 1 h.seq = false ∧ tppFull
    d s c = 0 ∧ barred d (o + 2) 4 true = false ∧ (srcUnit d s o).opn = none ∧ tileDrop s (srcCfg d s 4) t = 0 ∧ ifsPlacing d o
    ≠ [] ∧ bytesInUse g o + 256 * 2 ^ 20 + 16 + t.payload.length ≤ dieCapacity d o * 2 ^ 20) :=
  ⟨⟨0, ⟨[], withSource 1 id⟩, _, 0, tppPeer, ⟨0xCE71, 1, 1, 0, 1, 0, 7, 0, 0, 304, false⟩, [⟨0, blankHdr, blank⟩], _, _, _, rfl,
   rfl, rfl, rfl, by decide +kernel⟩,
   ⟨0, ⟨[], withSource 1 id⟩, _, _, 0, tppPeer, ⟨0xCE71, 1, 1, 0, 1, 0, 7, 0, 0, 304, false⟩, ⟨0, fullHdr, full⟩, _, _, _, rfl,
   rfl, rfl, rfl, rfl, by decide +kernel, by decide +kernel, by decide +kernel, (by decide +kernel), by decide +kernel,
   by decide +kernel, by decide +kernel, (by decide +kernel), by decide +kernel, by decide +kernel, full_tile,
   by decide +kernel⟩⟩

theorem test_tpp_end_of_frame_publishes_or_rejects :
    (∃ (dt : Nat) (st : State) (d : Device) (port : EthPort) (peer : Endpoint) (h : TppHeader) (fc : FrameClose) (x : OpenFrame)
    (s o c : Nat), d = elapse st.dev dt ∧ s = tppSource h ∧ o = srcOwner d s ∧ c = ctlOfPort port ∧ hostPort d port = true ∧
    tppForm d h 3 1 = 0 ∧ tppAllowed d h peer = 0 ∧ tppFull d s c = 0 ∧ barred d (o + 2) 4 true = false ∧ (srcUnit d s o).opn =
    some x ∧ x.seq = h.seq ∧ x.reseal = false ∧ fc.count ≠ 0 ∧ x.got.length = fc.count ∧ x.spoiled = false ∧ (overlay
    (frameTiles (srcUnit d s o).frame) x.got).length = srcGrid d s ∧ frameSignature (overlay (frameTiles (srcUnit d s o).frame)
    x.got) = fc.signature) ∧
    (∃ (dt : Nat) (st : State) (d : Device) (port : EthPort) (peer : Endpoint) (h : TppHeader) (fc : FrameClose) (x : OpenFrame)
    (s o c : Nat), d = elapse st.dev dt ∧ s = tppSource h ∧ o = srcOwner d s ∧ c = ctlOfPort port ∧ hostPort d port = true ∧
    tppForm d h 3 1 = 0 ∧ tppAllowed d h peer = 0 ∧ tppFull d s c = 0 ∧ barred d (o + 2) 4 true = false ∧ (srcUnit d s o).opn =
    some x ∧ x.seq = h.seq ∧ x.reseal = false ∧ fc.count ≠ 0 ∧ x.got.length ≠ fc.count) :=
  ⟨⟨0, ⟨[], withSource 1 fun u => { u with opn := some openBlank }⟩, _, 0, tppPeer, ⟨0xCE71, 1, 3, 0, 0, 0, 7, 0, 0, 32, false⟩,
   ⟨1000, (blankFrame 7).signature, 1⟩, openBlank, _, _, _, rfl, rfl, rfl, rfl, by decide +kernel⟩,
   ⟨0, ⟨[], withSource 1 fun u => { u with opn := some openBlank }⟩, _, 0, tppPeer, ⟨0xCE71, 1, 3, 0, 0, 0, 7, 0, 0, 32, false⟩,
   ⟨1000, 5, 2⟩, openBlank, _, _, _, rfl, rfl, rfl, rfl, by decide +kernel⟩⟩

theorem test_tpp_reseal_keepalive_and_unattributed :
    (∃ (dt : Nat) (st : State) (d : Device) (port : EthPort) (peer : Endpoint) (h : TppHeader) (tiles : List (Nat × BitVec 128))
    (s o c : Nat), d = elapse st.dev dt ∧ s = tppSource h ∧ o = srcOwner d s ∧ c = ctlOfPort port ∧ hostPort d port = true ∧
    tppForm d h 2 1 = 0 ∧ tppAllowed d h peer = 0 ∧ tppIndices d s (tiles.map (·.1)) = 0 ∧ tppFrameMismatch d s 2 h.seq = false
    ∧ tppFull d s c = 0 ∧ barred d (o + 2) 4 true = false) ∧
    (∃ (dt : Nat) (st : State) (d : Device) (port : EthPort) (peer : Endpoint) (h : TppHeader) (state : Nat) (s o c : Nat), d =
    elapse st.dev dt ∧ s = tppSource h ∧ o = srcOwner d s ∧ c = ctlOfPort port ∧ hostPort d port = true ∧ tppForm d h 4 state =
    0 ∧ tppAllowed d h peer = 0 ∧ tppFull d s c = 0) ∧
    (∃ (dt : Nat) (st : State) (d : Device) (port : EthPort) (peer : Endpoint) (h : TppHeader) (state : Nat) (s o c : Nat), d =
    elapse st.dev dt ∧ s = tppSource h ∧ o = srcOwner d s ∧ c = ctlOfPort port ∧ hostPort d port = true ∧ tppForm d h 4 state =
    0 ∧ tppAllowed d h peer = 0 ∧ tppFull d s c = 0) ∧
    (∃ (dt : Nat) (st : State) (d : Device) (port : EthPort), d = elapse st.dev dt ∧ hostPort d port = true) :=
  ⟨⟨0, ⟨[], withSource 1 fun u => { u with frame := some (blankFrame 6) }⟩, _, 0, tppPeer, ⟨0xCE71, 1, 2, 0, 1, 0, 7, 0, 0, 48,
   false⟩, [(0, blankHdr)], _, _, _, rfl, rfl, rfl, rfl, by decide +kernel⟩,
   ⟨0, ⟨[], withSource 1 id⟩, _, 0, tppPeer, ⟨0xCE71, 1, 4, 0, 0, 0, 0, 0, 0, 24, false⟩, 2, _, _, _, rfl, rfl, rfl, rfl,
   by decide +kernel⟩,
   ⟨0, ⟨[], withSource 1 fun u => { u with state := 5 }⟩, _, 0, tppPeer, ⟨0xCE71, 1, 4, 0, 0, 0, 0, 0, 0, 24, false⟩, 1, _, _,
   _, rfl, rfl, rfl, rfl, by decide +kernel⟩,
   ⟨0, ⟨[], dev0⟩, _, 0, rfl, by decide +kernel⟩⟩

theorem test_st2110_packets_become_frames :
    (∃ (dt : Nat) (st : State) (d : Device) (port : EthPort) (group udp : Nat) (k : RtpPacket) (s path ext : Nat), d = elapse
    st.dev dt ∧ hostPort d port = true ∧ barred d (srcOwner d s + 2) 4 true = false ∧ rtpRoute d port group udp = some (s, path)
    ∧ k.payloadType = srcCfg d s 0x17 ∧ rtpBadForm d s k = false ∧ k.timestamp ∉ (st2110At d s).lateTs ∧ srcCfg d s 0x11 < 4 ∧
    ((st2110At d s).timestamp = none ∨ (st2110At d s).timestamp = some k.timestamp) ∧ ext = k.extSeqHi * 65536 + k.seq) ∧
    (∃ (dt : Nat) (st : State) (d : Device) (s : SourceNo) (u : St2110Unit) (t arr ts : Nat), d = elapse st.dev dt ∧ u =
    st2110At d s ∧ u.marker = some (t, arr) ∧ u.timestamp = some ts ∧ (rtpComplete d s = true ∨ t + srcCfg d s 0x19 * 1000000 ≤
    d.mono)) ∧
    (∃ (dt : Nat) (st : State) (d : Device) (s : SourceNo) (r : FrameRec) (rest : List FrameRec) (o : Nat) (held : Table Slot),
    d = elapse st.dev dt ∧ (st2110At d s).records = r :: rest ∧ liveOwner d s = some o ∧ held = ((srcUnit d s o).held.filter fun
    e => hdrSeq e.2.hdr == r.seq) ∧ srcEnabled d s = true) ∧
    (∃ (dt : Nat) (st : State) (d : Device) (s : SourceNo) (path : Fin 2), d = elapse st.dev dt ∧ srcEnabled d s = true ∧ srcCfg
    d s 1 = 2 ∧ st2110Protected d s = true ∧ srcCfg d s 0x11 < 4 ∧ ctlUp d (st2110Ctl d s) = true ∧ (st2110At d s).lastPath.getD
    path 0 + srcLossNs d s ≤ d.mono ∧ d.mono < (st2110At d s).lastPath.getD (1 - path.val) 0 + srcLossNs d s ∧ (st2110At d
    s).downPath.getD path false = false) :=
  ⟨⟨0, ⟨[], withRegs [(0x5000, 0x11, 0), (0x5000, 0x12, 9), (0x5000, 0x13, 8), (0x5000, 0x17, 96)] (withSource 2 id)⟩, _, 0, 9,
   8, ⟨96, 5, 0, 77, false, false, [⟨0, 0, [1, 2]⟩]⟩, 0, 0, _, rfl, by decide +kernel, by decide +kernel, by decide +kernel,
   (by decide +kernel), by decide +kernel, by decide +kernel, by decide +kernel, (by decide +kernel), rfl⟩,
   ⟨0, ⟨[], setSt2110 (withSource 2 id) 0 { St2110Unit.reset with marker := some (1000, 50), timestamp := some 77 }⟩, _, 0, _,
   1000, 50, 77, rfl, rfl, by decide +kernel⟩,
   ⟨0, ⟨[], setSt2110 (withSource 2 fun u => { u with held := openBlank.got }) 0
   { St2110Unit.reset with records := [⟨0, 7, 1000, (blankFrame 7).signature⟩] }⟩, _, 0, ⟨0, 7, 1000, (blankFrame 7).signature⟩,
   [], 0, _, rfl, by decide +kernel, by decide +kernel, rfl, by decide +kernel⟩,
   ⟨0, ⟨[], setSt2110 (withRegs [(0x5000, 0x11, 0), (0x5000, 0x14, 1)] (withSource 2 id)) 0
   { St2110Unit.reset with lastPath := [1000, 99999999999] }⟩, _, 0, 0, rfl, by decide +kernel⟩⟩

theorem test_signal_loss_credits_and_test_patterns :
    (∃ (dt : Nat) (st : State) (d : Device) (s : SourceNo) (p : Die), d = elapse st.dev dt ∧ pixUp d p = true ∧ (srcUnit d s
    p).present = true ∧ ((srcUnit d s p).state = 2 ∨ (srcUnit d s p).state = 3) ∧ (srcUnit d s p).lastSignal + srcLossNs d s <
    d.mono ∧ ((srcUnit d s p).owner = false ∨ srcCfg d s 1 ≠ 5)) ∧
    (∃ (dt : Nat) (st : State) (d : Device) (s : SourceNo) (p : Die), d = elapse st.dev dt ∧ pixUp d p = true ∧ (srcUnit d s
    p).present = true ∧ ((srcUnit d s p).state = 2 ∨ (srcUnit d s p).state = 3) ∧ (srcUnit d s p).lastSignal + srcLossNs d s <
    d.mono ∧ ((srcUnit d s p).owner = false ∨ srcCfg d s 1 ≠ 5)) ∧
    (∃ (dt : Nat) (st : State) (d : Device) (p : Die) (q : Fin 16), d = elapse st.dev dt ∧ iqUsed d p q ≠ 0) ∧
    (∃ (dt : Nat) (st : State) (d g : Device) (p : Die) (s n : Nat) (tiles : List (Nat × BitVec 128 × List Byte)), d = elapse
    st.dev dt ∧ g = modPix d p (fun q => { q with intTick := q.ticks }) ∧ pixUp d p = true ∧ (pixAt d p).intTick < (pixAt d
    p).ticks ∧ namedSources d = [s] ∧ srcOwner d s = p ∧ srcCfg d s 1 = 5 ∧ srcEnabled d s = true ∧ n = tget (pixAt d
    p).intCount s 0 ∧ tiles = ((List.range (srcGrid d s)).map fun i => (i, sealTile s ((n + 1) % 65536) (tickInTb2 (pixAt d p))
    (srcW d s) (srcH d s) i true (tilePayload (srcCfg d s 4) (srcW d s) (srcH d s) i (intPixel (srcFrc d s 0x1A) (srcW d s) n)),
    tilePayload (srcCfg d s 4) (srcW d s) (srcH d s) i (intPixel (srcFrc d s 0x1A) (srcW d s) n))) ∧ (allocTiles g p
    tiles).2.isSome = true) :=
  ⟨⟨10000000000, ⟨[], withSource 1 id⟩, _, 0, 0, rfl, by decide +kernel⟩,
   ⟨10000000000, ⟨[], withSource 1 id⟩, _, 0, 1, rfl, by decide +kernel⟩,
   ⟨0, ⟨[], setQueue dev0 0 { QueueUnit.reset with credits := [(3, 2)] }⟩, _, 0, 3, rfl, by decide +kernel⟩,
   ⟨0, ⟨[], modPix (withSource 5 id) 0 fun q => { q with ticks := 4 }⟩, _, _, 0, 0, _, _, rfl, rfl, by decide +kernel,
   by decide +kernel, by decide +kernel, (by decide +kernel), by decide +kernel, by decide +kernel, rfl, rfl, by decide +kernel⟩⟩

theorem test_spur_carries_tiles_frames_and_status :
    (∃ (dt : Nat) (st : State) (d : Device) (p : Die) (k : Fin 4) (s i : Nat) (sl : Slot) (rest : List SpurItem), d = elapse
    st.dev dt ∧ spurOutOf d (spurFrom p k) k = .tile s p i sl :: rest ∧ pixUp d p = true ∧ pixUp d (spurFrom p k) = true ∧
    (k.val % 2 = 0 ∨ spurOutOf d (spurFrom p k) (k.val - 1) = []) ∧ shedExport d s p = false ∧ shedExport d s (spurFrom p k) =
    false ∧ replicaOn d s p = true ∧ ifsPlacing d p ≠ [] ∧ bytesInUse d p + 256 * 2 ^ 20 + 16 + sl.payload.length ≤ dieCapacity
    d p * 2 ^ 20) ∧
    (∃ (dt : Nat) (st : State) (d : Device) (p : Die) (k : Fin 4) (s q i : Nat) (sl : Slot) (rest : List SpurItem), d = elapse
    st.dev dt ∧ spurOutOf d (spurFrom p k) k = .tile s q i sl :: rest ∧ pixUp d p = true ∧ pixUp d (spurFrom p k) = true ∧
    (k.val % 2 = 0 ∨ spurOutOf d (spurFrom p k) (k.val - 1) = []) ∧ shedExport d s p = false ∧ shedExport d s (spurFrom p k) =
    false ∧ p.val ≠ q ∧ ((spurOutOf d p k).filter isTile).length < 128 ∧ hopUp d p (if k.val < 2 then (p.val + 1) % 6 else
    (p.val + 5) % 6) = true) ∧
    (∃ (dt : Nat) (st : State) (d : Device) (p : Die) (k : Fin 4) (s : Nat) (f : Frame) (rest : List SpurItem), d = elapse
    st.dev dt ∧ spurOutOf d (spurFrom p k) k = .publish s p f :: rest ∧ pixUp d p = true ∧ pixUp d (spurFrom p k) = true ∧
    (k.val % 2 = 0 ∨ spurOutOf d (spurFrom p k) (k.val - 1) = []) ∧ shedExport d s p = false ∧ shedExport d s (spurFrom p k) =
    false ∧ replicaOn d s p = true ∧ (srcUnit d s p).held.length = gridTiles f.width f.height ∧ frameSignature (srcUnit d s
    p).held = f.signature) ∧
    (∃ (dt : Nat) (st : State) (d : Device) (p : Die) (k : Fin 4) (s n : Nat) (differ : List Nat) (rest : List SpurItem), d =
    elapse st.dev dt ∧ spurOutOf d (spurFrom p k) k = .status s p n differ :: rest ∧ pixUp d p = true ∧ pixUp d (spurFrom p k) =
    true ∧ (k.val % 2 = 0 ∨ spurOutOf d (spurFrom p k) (k.val - 1) = []) ∧ replicaOn d s p = true) :=
  ⟨⟨0, ⟨[], setQueue (withSource 1 id) 0 { QueueUnit.reset with spurOut := [(0, [.tile 0 1 0 ⟨1, blankHdr, blank, 0, 1⟩])] }⟩,
   _, 1, 0, 0, 0, ⟨1, blankHdr, blank, 0, 1⟩, [], rfl, by decide +kernel⟩,
   ⟨0, ⟨[], setQueue (withSource 1 id) 0 { QueueUnit.reset with spurOut := [(0, [.tile 0 3 0 ⟨1, blankHdr, blank, 0, 1⟩])] }⟩,
   _, 1, 0, 0, 3, 0, ⟨1, blankHdr, blank, 0, 1⟩, [], rfl, by decide +kernel⟩,
   ⟨0, ⟨[], setQueue (withSource 1 fun u => { u with held := openBlank.got }) 0
   { QueueUnit.reset with spurOut := [(0, [.publish 0 1 (blankFrame 7)])] }⟩, _, 1, 0, 0, blankFrame 7, [], rfl,
   by decide +kernel⟩,
   ⟨0, ⟨[], setQueue (withSource 1 id) 0 { QueueUnit.reset with spurOut := [(0, [.status 0 1 5 [2]])] }⟩, _, 1, 0, 0, 5, [2],
   [], rfl, by decide +kernel⟩⟩

theorem test_csi_frames_open_fill_and_complete :
    (∃ (dt : Nat) (st : State) (d : Device) (c : CamPort) (vc : Fin 16) (i : Nat) (u : CamUnit) (p : Table Val), d = elapse
    st.dev dt ∧ u = camAt d i ∧ p = u.pending.getD u.params ∧ portLive d c = true ∧ camAtVc d c vc = some i ∧ u.opened = false ∧
    dieStage d (dieOfPort c) < 2) ∧
    (∃ (dt : Nat) (st : State) (d : Device) (c : CamPort) (vc : Fin 16) (dtype : Nat) (samples : List Nat) (i w : Nat) (u :
    CamUnit), d = elapse st.dev dt ∧ u = camAt d i ∧ portLive d c = true ∧ camAtVc d c vc = some i ∧ camCfg d i 4 = dtype ∧
    u.opened = true ∧ w = camCfg d i 7 * camSamples (camCfg d i 4) ∧ w ≤ samples.length ∧ u.received < camCfg d i 8 ∧ camHeld u
    < 64) ∧
    (∃ (dt : Nat) (st : State) (d : Device) (c : CamPort) (vc : Fin 16) (i : Nat) (u : CamUnit), d = elapse st.dev dt ∧ u =
    camAt d i ∧ portLive d c = true ∧ camAtVc d c vc = some i ∧ u.opened = true ∧ camCfg d i 8 ≤ u.received) :=
  ⟨⟨0, ⟨[], withCamera id⟩, _, 0, 2, 0, _, _, rfl, rfl, rfl, by decide +kernel⟩,
   ⟨0, ⟨[], withCamera fun u => { u with opened := true, starts := 1, received := 3, jobs := [camJob 1] }⟩, _, 0, 2, 0x2B,
   List.replicate 16 9, 0, _, _, rfl, rfl, by decide +kernel, by decide +kernel, by decide +kernel, (by decide +kernel), rfl,
   by decide +kernel⟩,
   ⟨0, ⟨[], withCamera fun u => { u with opened := true, starts := 1, received := 16, jobs := [camJob 1] }⟩, _, 0, 2, 0, _, rfl,
   rfl, by decide +kernel⟩⟩

theorem test_csi_errors_discard_and_are_counted :
    (∃ (dt : Nat) (st : State) (d : Device) (c : CamPort), d = elapse st.dev dt ∧ portLive d c = true) ∧
    (∃ (dt : Nat) (st : State) (d : Device) (k : StrayPacket), d = elapse st.dev dt ∧ portLive d k.port = true) ∧
    (∃ (dt : Nat) (st : State) (d : Device) (k : StrayPacket), d = elapse st.dev dt ∧ portLive d k.port = true) ∧
    (∃ (dt : Nat) (st : State) (d : Device) (i : InputNo), d = elapse st.dev dt ∧ (camAt d i).opened = true ∧ (camAt d
    i).lastPkt + 50000000 ≤ d.mono ∧ camPort d i < 12 ∧ portLive d (camPort d i) = true) ∧
    (∃ (dt : Nat) (st : State) (d : Device) (c : CamPort), d = elapse st.dev dt ∧ portLive d c = true) :=
  ⟨⟨0, ⟨[], withCamera fun u => { u with opened := true, starts := 1, received := 3, jobs := [camJob 1] }⟩, _, 0, rfl,
   by decide +kernel⟩,
   ⟨0, ⟨[], withCamera id⟩, _, ⟨0, true, false⟩, rfl, by decide +kernel⟩,
   ⟨0, ⟨[], withCamera id⟩, _, ⟨0, false, true⟩, rfl, by decide +kernel⟩,
   ⟨0, ⟨[], withCamera fun u => { u with opened := true, starts := 1, received := 3, jobs := [camJob 1] }⟩, _, 0, rfl,
   by decide +kernel⟩,
   ⟨0, ⟨[], withCamera id⟩, _, 0, rfl, by decide +kernel⟩⟩

theorem test_pipeline_finishes_a_line_and_takes_the_next :
    (∃ (dt : Nat) (st : State) (d : Device) (j : PipeNo) (i start : Nat) (l : List Nat) (x : CamJob), d = elapse st.dev dt ∧
    pixUp d (dieOfPipe j) = true ∧ (pipeAt d j).service = some (i, start, l) ∧ (camAt d i).jobs = [x] ∧ x.start = start ∧
    x.ended = false) ∧
    (∃ (dt : Nat) (st : State) (d : Device) (j : PipeNo) (i : Nat) (x : CamJob) (l : List Nat) (ls : List (List Nat)), d =
    elapse st.dev dt ∧ pixUp d (dieOfPipe j) = true ∧ (pipeAt d j).service = none ∧ pipeNext d j = some i ∧ (camAt d i).jobs =
    [x] ∧ x.lines = l :: ls) :=
  ⟨⟨0, ⟨[], setPipe (withCamera fun u => { u with opened := true, starts := 1, received := 3, jobs := [camJob 1] }) 0
   { service := some (0, 1, [7]) }⟩, _, 0, 0, 1, [7], camJob 1, rfl, by decide +kernel⟩,
   ⟨0, ⟨[], withCamera fun u => { u with opened := true, starts := 1, received := 3, jobs := [camJob 1] }⟩, _, 0, 0, camJob 1,
   List.replicate 16 5, [], rfl, by decide +kernel⟩⟩

theorem test_link_training_begins_and_ends :
    (∃ (dt : Nat) (s : State) (d : Device) (h : HeadNo) (v : Table Val), d = elapse s.dev dt ∧ v = headForce d h ∧ pixUp d
    (dieOfHead h) = true ∧ headOn d h = true ∧ (headAt d h).running = false ∧ (headAt d h).link = .waitHpd) ∧
    (∃ (dt : Nat) (s : State) (d : Device) (h : HeadNo) (v : Table Val), d = elapse s.dev dt ∧ v = headForce d h ∧ pixUp d
    (dieOfHead h) = true ∧ headOn d h = true ∧ (headAt d h).running = false ∧ (headAt d h).link = .waitHpd) ∧
    (∃ (dt : Nat) (s : State) (d : Device) (h : HeadNo) (t : Nat × Nat) (rest : List (Nat × Nat)), d = elapse s.dev dt ∧ (headAt
    d h).link = .training ∧ (headAt d h).tries = t :: rest) ∧
    (∃ (dt : Nat) (s : State) (d : Device) (h : HeadNo) (t : Nat × Nat) (rest : List (Nat × Nat)), d = elapse s.dev dt ∧ (headAt
    d h).link = .training ∧ (headAt d h).tries = t :: rest) ∧
    (∃ (dt : Nat) (s : State) (d : Device) (h : HeadNo) (t : Nat × Nat) (rest : List (Nat × Nat)), d = elapse s.dev dt ∧ (headAt
    d h).link = .training ∧ (headAt d h).tries = t :: rest) ∧
    (∃ (dt : Nat) (s : State) (d : Device) (h : HeadNo) (caps : SinkCaps) (v : Table Val), d = elapse s.dev dt ∧ v = headForce d
    h ∧ (headAt d h).link = .failed ∧ (headAt d h).hpd = 2 ∧ (headAt d h).retryAt ≤ d.mono ∧ sinkSuits v (some caps) = true ∧
    trainOrder d v ≠ []) ∧
    (∃ (dt : Nat) (s : State) (d : Device) (h : HeadNo) (v : Table Val) (t : Nat), d = elapse s.dev dt ∧ v = headForce d h ∧
    (headAt d h).link = .frozen t ∧ sinkSuits v (headAt d h).caps = true ∧ trainOrder d v ≠ []) ∧
    (∃ (dt : Nat) (s : State) (d : Device) (h : HeadNo) (v : Table Val) (t : Nat), d = elapse s.dev dt ∧ v = headForce d h ∧
    (headAt d h).link = .frozen t ∧ sinkSuits v (headAt d h).caps = true ∧ trainOrder d v ≠ []) :=
  ⟨⟨0, ⟨[], withHead (fun u => { u with running := false, link := .waitHpd, hpd := 2, caps := some sink }) id⟩, _, 1, _, rfl,
   rfl, by decide +kernel⟩,
   ⟨0, ⟨[], withHead (fun u => { u with running := false, link := .waitHpd }) id⟩, _, 1, _, rfl, rfl, by decide +kernel⟩,
   ⟨0, ⟨[], withHead (fun u => { u with link := .training, hpd := 2, caps := some sink, tries := [(4, 4), (3, 4)] }) id⟩, _, 1,
   (4, 4), [(3, 4)], rfl, by decide +kernel⟩,
   ⟨0, ⟨[], withHead (fun u => { u with link := .training, hpd := 2, caps := some sink, tries := [(4, 4), (3, 4)] }) id⟩, _, 1,
   (4, 4), [(3, 4)], rfl, by decide +kernel⟩,
   ⟨0, ⟨[], withHead (fun u => { u with link := .training, hpd := 2, caps := some sink, tries := [(4, 4)] }) id⟩, _, 1, (4, 4),
   [], rfl, by decide +kernel⟩,
   ⟨0, ⟨[], withHead (fun u => { u with link := .failed, hpd := 2, retryAt := 99000000000 }) id⟩, _, 1, sink, _, rfl, rfl,
   by decide +kernel⟩,
   ⟨0, ⟨[], withHead (fun u => { u with link := .frozen 99000000000, hpd := 2, caps := some sink }) id⟩, _, 1, _, 99000000000,
   rfl, rfl, by decide +kernel⟩,
   ⟨0, ⟨[], withHead (fun u => { u with link := .frozen 99000000000, hpd := 1, caps := some sink }) id⟩, _, 1, _, 99000000000,
   rfl, rfl, by decide +kernel⟩⟩

theorem test_hot_plug_events_move_the_link :
    (∃ (dt : Nat) (s : State) (d : Device) (h : HeadNo), d = elapse s.dev dt ∧ pixUp d (dieOfHead h) = true ∧ (headAt d h).hpd =
    2 ∧ (headAt d h).link = .up) ∧
    (∃ (dt : Nat) (s : State) (d : Device) (h : HeadNo) (caps : SinkCaps) (v : Table Val), d = elapse s.dev dt ∧ v = headForce d
    h ∧ pixUp d (dieOfHead h) = true ∧ sinkSuits v (some caps) = true ∧ trainOrder d v ≠ []) ∧
    (∃ (dt : Nat) (s : State) (d : Device) (h : HeadNo) (caps : SinkCaps) (v : Table Val), d = elapse s.dev dt ∧ v = headForce d
    h ∧ pixUp d (dieOfHead h) = true ∧ sinkSuits v (some caps) = true ∧ trainOrder d v ≠ []) ∧
    (∃ (dt : Nat) (s : State) (d : Device) (h : HeadNo) (v : Table Val), d = elapse s.dev dt ∧ v = headForce d h ∧ pixUp d
    (dieOfHead h) = true ∧ (headAt d h).link = .up ∧ (headAt d h).payloads.length = 4) ∧
    (∃ (dt : Nat) (s : State) (d : Device) (h : HeadNo) (v : Table Val), d = elapse s.dev dt ∧ v = headForce d h ∧ pixUp d
    (dieOfHead h) = true ∧ (headAt d h).link = .up ∧ (headAt d h).payloads.length = 4) ∧
    (∃ (dt : Nat) (s : State) (d : Device) (h : HeadNo) (v : Table Val), d = elapse s.dev dt ∧ v = headForce d h ∧ pixUp d
    (dieOfHead h) = true ∧ (headAt d h).link = .up ∧ (headAt d h).payloads.length = 4) :=
  ⟨⟨0, ⟨[], withHead (fun u =>
   { u with link := .up, hpd := 2, caps := some sink, trained := some (4, 4), everUp := true, payloads := [true, false, false, false] })
   id⟩, _, 1, rfl, by decide +kernel⟩,
   ⟨0, ⟨[], withHead (fun u => { u with link := .waitHpd }) id⟩, _, 1, sink, _, rfl, rfl, by decide +kernel⟩,
   ⟨0, ⟨[], withHead (fun u =>
   { u with link := .up, hpd := 2, caps := some sink, trained := some (4, 4), everUp := true, payloads := [true, false, false, false] })
   id⟩, _, 1, sink, _, rfl, rfl, by decide +kernel⟩,
   ⟨0, ⟨[], withHead (fun u =>
   { u with link := .up, hpd := 2, caps := some sink, trained := some (4, 4), everUp := true, payloads := [true, false, false, false] })
   fun g => { g with sent := true }⟩, _, 1, _, rfl, rfl, by decide +kernel⟩,
   ⟨0, ⟨[],
   { withHead (fun u => { u with link := .up, hpd := 2, caps := some sink, trained := some (4, 4), everUp := true, payloads := [true, false, false, false] }) id with force := [(256 * 0x4801 + 1, .num 1), (256 * 0x4801 + 4, .num 2), (256 * 0x4801 + 5, .num 2)] }⟩,
   _, 1, _, rfl, rfl, by decide +kernel⟩,
   ⟨0, ⟨[],
   { withHead (fun u => { u with link := .up, hpd := 2, caps := some sink, trained := some (4, 4), everUp := true, payloads := [true, false, false, false] }) id with force := [(256 * 0x4801 + 1, .num 1), (256 * 0x4801 + 4, .num 2), (256 * 0x4801 + 5, .num 2)] }⟩,
   _, 1, _, rfl, rfl, by decide +kernel⟩⟩

theorem test_head_frames_launch_and_scan :
    (∃ (dt : Nat) (s : State) (d c : Device) (h : HeadNo) (S : Scan), d = elapse s.dev dt ∧ (scanAt d h).ready = some S ∧ pixUp
    d (dieOfHead h) = true ∧ (headAt d h).running = true ∧ (headAt d h).curTick ≠ (pixAt d (dieOfHead h)).ticks ∧ launchDue d h
    S = true ∧ c = scanEnds d h ∧ pixUp c (dieOfHead h) = true ∧ (headAt c h).running = true) ∧
    (∃ (dt : Nat) (s : State) (d c : Device) (h : HeadNo) (S : Scan), d = elapse s.dev dt ∧ (scanAt d h).ready = some S ∧ pixUp
    d (dieOfHead h) = true ∧ (headAt d h).running = true ∧ (headAt d h).curTick ≠ (pixAt d (dieOfHead h)).ticks ∧ launchDue d h
    S = true ∧ c = scanEnds d h ∧ pixUp c (dieOfHead h) = true ∧ (headAt c h).running = true) ∧
    (∃ (dt : Nat) (s : State) (d : Device) (h : HeadNo) (k : StreamNo) (line : Nat) (S : Scan), d = elapse s.dev dt ∧ (scanAt d
    h).cur = some S ∧ pixUp d (dieOfHead h) = true ∧ (headAt d h).running = true ∧ k.val < hv S.hcfg 5 ∧ (scanAt d
    h).lines.length = 4 ∧ (scanAt d h).lines.getD k 0 = line ∧ line < vActive S.hcfg ∧ lineDue d h line S = true) ∧
    (∃ (dt : Nat) (s : State) (d : Device) (h : HeadNo) (k : StreamNo) (S : Scan), d = elapse s.dev dt ∧ (scanAt d h).cur = some
    S ∧ pixUp d (dieOfHead h) = true ∧ (headAt d h).running = true ∧ k.val < hv S.hcfg 5 ∧ (scanAt d h).lines.length = 4 ∧
    (scanAt d h).lines.getD k 0 = vActive S.hcfg ∧ lineDue d h (vActive S.hcfg) S = true) :=
  ⟨⟨0, ⟨[], modPix (withHead (fun u =>
   { u with link := .up, hpd := 2, caps := some sink, trained := some (4, 4), everUp := true, payloads := [true, false, false, false] })
   fun g => { g with ready := some (screen [0]) }) 0 fun q => { q with ticks := 5 }⟩, _, _, 1, screen [0], rfl,
   by decide +kernel, by decide +kernel, by decide +kernel, (by decide +kernel), by decide +kernel, rfl, by decide +kernel⟩,
   ⟨0, ⟨[], modPix (withHead (fun u =>
   { u with link := .up, hpd := 2, caps := some sink, trained := some (4, 4), everUp := true, payloads := [true, false, false, false] })
   fun g => { g with ready := some (screen [0]), cur := some (screen [0]), lines := [vActive (screen [0]).hcfg, 0, 0, 0] }) 0
   fun q => { q with ticks := 5 }⟩, _, _, 1, screen [0], rfl, by decide +kernel, by decide +kernel, by decide +kernel,
   (by decide +kernel), by decide +kernel, rfl, by decide +kernel⟩,
   ⟨0, ⟨[], modPix (withHead (fun u =>
   { u with link := .up, hpd := 2, caps := some sink, trained := some (4, 4), everUp := true, payloads := [true, false, false, false] })
   fun g => { g with cur := some (screen [0]), lines := [3, 0, 0, 0], sent := true }) 0 fun q => { q with ticks := 5 }⟩, _, 1,
   0, 3, screen [0], rfl, by decide +kernel⟩,
   ⟨0, ⟨[], modPix (withHead (fun u =>
   { u with link := .up, hpd := 2, caps := some sink, trained := some (4, 4), everUp := true, payloads := [true, false, false, false] })
   fun g => { g with cur := some (screen [0]), lines := [vActive (screen [0]).hcfg, 0, 0, 0], sent := true }) 0 fun q =>
   { q with ticks := 5 }⟩, _, 1, 0, screen [0], rfl, by decide +kernel⟩⟩

theorem test_fetched_tiles_are_verified :
    (∃ (dt : Nat) (s : State) (d : Device) (n : LayerNo) (tile : Nat) (hf pf : List Nat) (h : Nat) (w : Fin 3) (S : Scan) (L :
    ScanLayer) (f : Frame) (sl : Slot) (kind : Nat), d = elapse s.dev dt ∧ pixUp d (dieOfLayer n) = true ∧ dieOfHead h =
    dieOfLayer n ∧ scanPick (scanAt d h) w = some S ∧ nextFetch d (dieOfLayer n) h w = some (n.val, tile) ∧ (∀ (j : Nat) (v :
    Fin 3), dieOfHead j = dieOfLayer n → (v = 0 ↔ w = 0) → (j ≠ h ∨ v ≠ w) → nextFetch d (dieOfLayer n) j v ≠ some (n.val,
    tile)) ∧ S.layers.find? (fun L => L.n == n.val) = some L ∧ L.frame = some f ∧ tfind f.tiles tile = some sl ∧ kind =
    verifyTile f.source f.width f.height tile (flipBits (readSlot d (dieOfLayer n) sl).1 hf) (flipBytes (readSlot d (dieOfLayer
    n) sl).2 pf)) ∧
    (∃ (dt : Nat) (s : State) (d : Device) (n : LayerNo) (tile : Nat) (hf pf : List Nat) (h : Nat) (w : Fin 3) (S : Scan) (L :
    ScanLayer) (f : Frame) (sl : Slot) (kind : Nat), d = elapse s.dev dt ∧ pixUp d (dieOfLayer n) = true ∧ dieOfHead h =
    dieOfLayer n ∧ scanPick (scanAt d h) w = some S ∧ nextFetch d (dieOfLayer n) h w = some (n.val, tile) ∧ (∀ (j : Nat) (v :
    Fin 3), dieOfHead j = dieOfLayer n → (v = 0 ↔ w = 0) → (j ≠ h ∨ v ≠ w) → nextFetch d (dieOfLayer n) j v ≠ some (n.val,
    tile)) ∧ S.layers.find? (fun L => L.n == n.val) = some L ∧ L.frame = some f ∧ tfind f.tiles tile = some sl ∧ kind =
    verifyTile f.source f.width f.height tile (flipBits (readSlot d (dieOfLayer n) sl).1 hf) (flipBytes (readSlot d (dieOfLayer
    n) sl).2 pf)) :=
  ⟨⟨0, ⟨[], withHead (fun u =>
   { u with link := .up, hpd := 2, caps := some sink, trained := some (4, 4), everUp := true, payloads := [true, false, false, false] })
   fun g => { g with cur := some (screen [0]) }⟩, _, 3, 0, [], [], 1, 0, screen [0], ⟨3, pane, some (blankFrame 7), 4, 0, 10,
   10, 1000, [0], [], [], []⟩, blankFrame 7, ⟨1, blankHdr, blank, 0, 1⟩, _, rfl, by decide +kernel, by decide +kernel,
   by decide +kernel, (by decide +kernel),
   (fun j v hj hv hn => (by decide +kernel : ∀ j, j < 4 → ∀ v, v < 3 → (j ≠ 1 ∨ v ≠ 0) → nextFetch (elapse (withHead (fun u => { u with link := .up, hpd := 2, caps := some sink, trained := some (4, 4), everUp := true, payloads := [true, false, false, false] }) fun g => { g with cur := some (screen [0]) }) 0) 0 j v ≠ some (3, 0)) j (by have h0 : j / 4 = 0 := hj; omega) v.val v.isLt (hn.imp id fun h e => h (Fin.ext e))),
   by decide +kernel, by decide +kernel, by decide +kernel, rfl⟩,
   ⟨0, ⟨[], withHead (fun u =>
   { u with link := .up, hpd := 2, caps := some sink, trained := some (4, 4), everUp := true, payloads := [true, false, false, false] })
   fun g => { g with cur := some (screen [0]) }⟩, _, 3, 0, [2], [5], 1, 0, screen [0], ⟨3, pane, some (blankFrame 7), 4, 0, 10,
   10, 1000, [0], [], [], []⟩, blankFrame 7, ⟨1, blankHdr, blank, 0, 1⟩, _, rfl, by decide +kernel, by decide +kernel,
   by decide +kernel, (by decide +kernel),
   (fun j v hj hv hn => (by decide +kernel : ∀ j, j < 4 → ∀ v, v < 3 → (j ≠ 1 ∨ v ≠ 0) → nextFetch (elapse (withHead (fun u => { u with link := .up, hpd := 2, caps := some sink, trained := some (4, 4), everUp := true, payloads := [true, false, false, false] }) fun g => { g with cur := some (screen [0]) }) 0) 0 j v ≠ some (3, 0)) j (by have h0 : j / 4 = 0 := hj; omega) v.val v.isLt (hn.imp id fun h e => h (Fin.ext e))),
   by decide +kernel, by decide +kernel, by decide +kernel, rfl⟩⟩

theorem test_close_and_tick_latch_verdicts :
    (∃ (dt : Nat) (s : State) (d : Device) (p : Die), d = elapse s.dev dt ∧ pixUp d p = true ∧ (pixAt d p).tb1.loaded = true ∧
    (pixAt d p).closes = (pixAt d p).ticks ∧ aimTick d (pixAt d p) ≤ (pixAt d p).tb1.ns + regN d 0x2110 4 * 1000) ∧
    (∃ (dt : Nat) (s : State) (d : Device) (p : Die), d = elapse s.dev dt ∧ pixUp d p = true ∧ (pixAt d p).tb1.loaded = true ∧
    (pixAt d p).closes = (pixAt d p).ticks ∧ aimTick d (pixAt d p) ≤ (pixAt d p).tb1.ns + regN d 0x2110 4 * 1000 ∧ firstTicking
    d ≠ some p.val) ∧
    (∃ (dt : Nat) (s : State) (d : Device) (p : Die), d = elapse s.dev dt ∧ pixUp d p = true ∧ (pixAt d p).closes = (pixAt d
    p).ticks + 1 ∧ (pixAt d p).aimAt ≤ (pixAt d p).tb1.ns ∧ (pixAt d p).endTick = 0 ∧ firstTicking d ≠ some p.val) ∧
    (∃ (dt : Nat) (s : State) (d : Device) (p : Die) (c : Nat) (m : CtlMsg) (rest : List CtlMsg), d = elapse s.dev dt ∧
    activeCtl d = some c ∧ (queueAt d p).ctl = m :: rest ∧ pixUp d p = true ∧ (pixAt d p).token = c + 2 ∧ barred d (p + 2) 3
    true = false) ∧
    (∃ (dt : Nat) (s : State) (d : Device) (p : Die) (c : Nat) (m : CtlMsg) (rest : List CtlMsg), d = elapse s.dev dt ∧
    activeCtl d = some c ∧ (queueAt d p).ctl = m :: rest ∧ pixUp d p = true ∧ (pixAt d p).token = c + 2 ∧ barred d (p + 2) 3
    true = false) ∧
    (∃ (dt : Nat) (s : State) (d : Device) (p : Die) (c : Nat) (m : CtlMsg) (rest : List CtlMsg), d = elapse s.dev dt ∧
    activeCtl d = some c ∧ (queueAt d p).ctl = m :: rest ∧ pixUp d p = true ∧ (pixAt d p).token = c + 2 ∧ barred d (p + 2) 3
    true = false) ∧
    (∃ (dt : Nat) (s : State) (d : Device) (p : Die) (c : Nat) (m : CtlMsg) (rest : List CtlMsg), d = elapse s.dev dt ∧
    activeCtl d = some c ∧ (queueAt d p).ctl = m :: rest ∧ pixUp d p = true ∧ (pixAt d p).token = c + 2 ∧ barred d (p + 2) 3
    true = false) :=
  ⟨⟨0, ⟨[], setLayer (withHead (fun u =>
   { u with link := .up, hpd := 2, caps := some sink, trained := some (4, 4), everUp := true, payloads := [true, false, false, false] })
   id) 3 { LayerUnit.reset with committed := true }⟩, _, 0, rfl, by decide +kernel⟩,
   ⟨0, ⟨[], setLayer (withHead (fun u =>
   { u with link := .up, hpd := 2, caps := some sink, trained := some (4, 4), everUp := true, payloads := [true, false, false, false] })
   id) 35 { LayerUnit.reset with committed := true }⟩, _, 1, rfl, by decide +kernel⟩,
   ⟨0, ⟨[], modPix (setLayer (withHead (fun u =>
   { u with link := .up, hpd := 2, caps := some sink, trained := some (4, 4), everUp := true, payloads := [true, false, false, false] })
   id) 35 { LayerUnit.reset with committed := true }) 1 fun q => { q with closes := 5, ticks := 4, aimAt := 777 }⟩, _, 1, rfl,
   by decide +kernel⟩,
   ⟨0, ⟨[], setQueue (modPix dev0 2 fun q => { q with closes := q.ticks + 1 }) 2
   { QueueUnit.reset with ctl := [.layer 64 ⟨[], 5, none, false, none, false, false⟩] }⟩, _, 2, 0, .layer 64 ⟨[], 5, none,
   false, none, false, false⟩, [], rfl, by decide +kernel⟩,
   ⟨0, ⟨[], setQueue (modPix dev0 2 fun q => { q with closes := q.ticks + 1 }) 2
   { QueueUnit.reset with ctl := [.tag 7 ⟨[], 5, none, false, none, false, false⟩] }⟩, _, 2, 0, .tag 7 ⟨[], 5, none, false,
   none, false, false⟩, [], rfl, by decide +kernel⟩,
   ⟨0, ⟨[], setQueue (modPix dev0 2 fun q => { q with closes := q.ticks + 1 }) 2
   { QueueUnit.reset with ctl := [.writeback ⟨[], 5, none, false, none, false, false⟩] }⟩, _, 2, 0, .writeback ⟨[], 5, none,
   false, none, false, false⟩, [], rfl, by decide +kernel⟩,
   ⟨0, ⟨[], setQueue dev0 2 { QueueUnit.reset with ctl := [.tag 7 ⟨[], 5, none, false, none, false, false⟩] }⟩, _, 2, 0, .tag 7
   ⟨[], 5, none, false, none, false, false⟩, [], rfl, by decide +kernel⟩⟩

theorem test_refresh_debt_accrues_and_crosses :
    (∃ (dt : Nat) (s : State) (d : Device) (p : Die) (m : MemIf) (r : Fin 2) (u : MemIfUnit) (k : RankUnit), d = elapse s.dev dt
    ∧ u = memIfAt d (ifKey p m) ∧ k = rankOf u r ∧ pixUp d p = true ∧ (u.state = 3 ∨ u.state = 4) ∧ r.val < u.ranks ∧ k.last +
    trefi k.rate ≤ d.mono) ∧
    (∃ (dt : Nat) (s : State) (d : Device) (p : Die) (m : MemIf) (r : Fin 2) (u : MemIfUnit) (k : RankUnit), d = elapse s.dev dt
    ∧ u = memIfAt d (ifKey p m) ∧ k = rankOf u r ∧ pixUp d p = true ∧ (u.state = 3 ∨ u.state = 4) ∧ r.val < u.ranks ∧ k.last +
    trefi k.rate ≤ d.mono) ∧
    (∃ (dt : Nat) (s : State) (d : Device) (p : Die) (m : MemIf) (r : Fin 2) (u : MemIfUnit) (k : RankUnit) (f : Nat), d =
    elapse s.dev dt ∧ u = memIfAt d (ifKey p m) ∧ k = rankOf u r ∧ pixUp d p = true ∧ (u.state = 3 ∨ u.state = 4) ∧ r.val <
    u.ranks ∧ (memAt d p).switching = none ∧ f = d.mono - k.last) ∧
    (∃ (dt : Nat) (s : State) (d : Device) (p : Die) (m : MemIf) (r : Fin 2) (u : MemIfUnit) (k : RankUnit) (f : Nat), d =
    elapse s.dev dt ∧ u = memIfAt d (ifKey p m) ∧ k = rankOf u r ∧ pixUp d p = true ∧ (u.state = 3 ∨ u.state = 4) ∧ r.val <
    u.ranks ∧ (memAt d p).switching = none ∧ f = d.mono - k.last) ∧
    (∃ (dt : Nat) (s : State) (d : Device) (p : Die) (m : MemIf) (r : Fin 2) (u : MemIfUnit) (k : RankUnit) (f : Nat), d =
    elapse s.dev dt ∧ u = memIfAt d (ifKey p m) ∧ k = rankOf u r ∧ pixUp d p = true ∧ (u.state = 3 ∨ u.state = 4) ∧ r.val <
    u.ranks ∧ (memAt d p).switching = none ∧ f = d.mono - k.last) ∧
    (∃ (dt : Nat) (s : State) (d : Device) (p : Die) (m : MemIf) (r : Fin 2) (u : MemIfUnit) (k : RankUnit) (f : Nat), d =
    elapse s.dev dt ∧ u = memIfAt d (ifKey p m) ∧ k = rankOf u r ∧ pixUp d p = true ∧ (u.state = 3 ∨ u.state = 4) ∧ r.val <
    u.ranks ∧ (memAt d p).switching = none ∧ f = d.mono - k.last) ∧
    (∃ (dt : Nat) (s : State) (d : Device) (p : Die) (m : MemIf) (r : Fin 2) (u : MemIfUnit) (k : RankUnit), d = elapse s.dev dt
    ∧ u = memIfAt d (ifKey p m) ∧ k = rankOf u r ∧ pixUp d p = true ∧ (u.state = 3 ∨ u.state = 4) ∧ r.val < u.ranks ∧ (memAt d
    p).switching.isSome = true) :=
  ⟨⟨0, ⟨[], dev0⟩, _, 1, 2, 0, _, _, rfl, rfl, rfl, by decide +kernel⟩,
   ⟨0, ⟨[], modMem dev0 1 fun u => { u with waiting := [⟨3, 4, 2, 2, 64, 90000000000, false, false⟩] }⟩, _, 1, 2, 0, _, _, rfl,
   rfl, rfl, by decide +kernel⟩,
   ⟨0, ⟨[], dev0⟩, _, 1, 2, 0, _, _, _, rfl, rfl, rfl, by decide +kernel, by decide +kernel, by decide +kernel,
   (by decide +kernel), rfl⟩,
   ⟨0, ⟨[], dev0⟩, _, 1, 2, 0, _, _, _, rfl, rfl, rfl, by decide +kernel, by decide +kernel, by decide +kernel,
   (by decide +kernel), rfl⟩,
   ⟨0, ⟨[], setMemIf dev0 (ifKey 1 2) { ifOn with rank0 := { rankOn with last := 99999999000, debt := 3 } }⟩, _, 1, 2, 0, _, _,
   _, rfl, rfl, rfl, by decide +kernel, by decide +kernel, by decide +kernel, (by decide +kernel), rfl⟩,
   ⟨0, ⟨[], setMemIf dev0 (ifKey 1 2) { ifOn with rank0 := { rankOn with rate := 2, debt := 5 } }⟩, _, 1, 2, 0, _, _, _, rfl,
   rfl, rfl, by decide +kernel, by decide +kernel, by decide +kernel, (by decide +kernel), rfl⟩,
   ⟨0, ⟨[], modMem dev0 1 fun u => { u with switching := some 2 }⟩, _, 1, 2, 0, _, _, rfl, rfl, rfl, by decide +kernel⟩⟩

theorem test_interfaces_train_and_retrain :
    (∃ (dt : Nat) (s : State) (d : Device) (p : Die) (res : List TrainResult) (a b : Nat), d = elapse s.dev dt ∧ pixUp d p =
    true ∧ (memAt d p).inForce = 0 ∧ res.length = 4 ∧ firstOrg res = some (a, b) ∧ 3 ≤ res.countP (fun r => r == .trained a b)) ∧
    (∃ (dt : Nat) (s : State) (d : Device) (p : Die) (res : List TrainResult) (a b : Nat), d = elapse s.dev dt ∧ pixUp d p =
    true ∧ (memAt d p).inForce = 0 ∧ res.length = 4 ∧ firstOrg res = some (a, b) ∧ 3 ≤ res.countP (fun r => r == .trained a b)) ∧
    (∃ (dt : Nat) (s : State) (d : Device) (p : Die) (m : MemIf) (f : Fin 3), d = elapse s.dev dt ∧ pixUp d p = true ∧ ((memIfAt
    d (ifKey p m)).state = 3 ∨ (memIfAt d (ifKey p m)).state = 4) ∧ (∀ j, j < 4 → (memIfAt d (ifKey p j)).step = none) ∧ (memAt
    d p).pending = none ∧ (memAt d p).switching = none ∧ stepDue d p m (f.val + 1) = true) ∧
    (∃ (dt : Nat) (s : State) (d : Device) (p : Die) (m : MemIf) (f : Fin 3), d = elapse s.dev dt ∧ pixUp d p = true ∧ ((memIfAt
    d (ifKey p m)).state = 3 ∨ (memIfAt d (ifKey p m)).state = 4) ∧ (∀ j, j < 4 → (memIfAt d (ifKey p j)).step = none) ∧ (memAt
    d p).pending = none ∧ (memAt d p).switching = none ∧ stepDue d p m (f.val + 1) = true) ∧
    (∃ (dt : Nat) (s : State) (d : Device) (p : Die) (m : MemIf) (f : Nat) (u : MemIfUnit), d = elapse s.dev dt ∧ u = memIfAt d
    (ifKey p m) ∧ u.step = some f ∧ (memAt d p).armed = false) ∧
    (∃ (dt : Nat) (s : State) (d : Device) (p : Die) (m : MemIf) (f : Nat) (u : MemIfUnit), d = elapse s.dev dt ∧ u = memIfAt d
    (ifKey p m) ∧ u.step = some f ∧ (memAt d p).armed = false) ∧
    (∃ (dt : Nat) (s : State) (d : Device) (p : Die) (m : MemIf) (f : Nat) (u : MemIfUnit), d = elapse s.dev dt ∧ u = memIfAt d
    (ifKey p m) ∧ u.step = some f ∧ (memAt d p).armed = false) ∧
    (∃ (dt : Nat) (s : State) (d : Device) (p : Die) (m : MemIf) (f : Nat) (u : MemIfUnit), d = elapse s.dev dt ∧ u = memIfAt d
    (ifKey p m) ∧ u.step = some f ∧ (memAt d p).armed = false) ∧
    (∃ (dt : Nat) (s : State) (d : Device) (p : Die) (m : MemIf) (f : Nat) (u : MemIfUnit), d = elapse s.dev dt ∧ u = memIfAt d
    (ifKey p m) ∧ u.step = some f ∧ (memAt d p).armed = false) ∧
    (∃ (dt : Nat) (s : State) (d : Device) (p : Die) (m : MemIf) (f g : Nat), d = elapse s.dev dt ∧ (memIfAt d (ifKey p m)).step
    = some f ∧ (memAt d p).armed = true ∧ (memAt d p).pending = some g ∧ (memAt d p).switching = none ∧ (memAt d p).burstEnd ≤
    d.mono + 150000) ∧
    (∃ (dt : Nat) (s : State) (d : Device) (p : Die) (m : MemIf) (f g : Nat), d = elapse s.dev dt ∧ (memIfAt d (ifKey p m)).step
    = some f ∧ (memAt d p).armed = true ∧ (memAt d p).pending = some g ∧ (memAt d p).switching = none ∧ (memAt d p).burstEnd ≤
    d.mono + 150000) :=
  ⟨⟨0, ⟨[], setMem dev0 1 MemUnit.reset⟩, _, 1, [.trained 16 1, .trained 16 1, .failed, .trained 16 1], 16, 1, rfl,
   by decide +kernel⟩,
   ⟨0, ⟨[], setMem dev0 1 MemUnit.reset⟩, _, 1, [.trained 16 1, .trained 16 1, .notPresent, .trained 16 1], 16, 1, rfl,
   by decide +kernel⟩,
   ⟨0, ⟨[], dev0⟩, _, 1, 2, 0, rfl, by decide +kernel⟩,
   ⟨0, ⟨[], setMemIf dev0 (ifKey 1 2) { ifOn with ownStep := some 99999000000 }⟩, _, 1, 2, 1, rfl, by decide +kernel⟩,
   ⟨0, ⟨[], setMemIf dev0 (ifKey 1 2) { ifOn with step := some 1 }⟩, _, 1, 2, 1, _, rfl, rfl, by decide +kernel⟩,
   ⟨0, ⟨[], setMemIf dev0 (ifKey 1 2) { ifOn with step := some 1 }⟩, _, 1, 2, 1, _, rfl, rfl, by decide +kernel⟩,
   ⟨0, ⟨[], setMemIf dev0 (ifKey 1 2) { ifOn with step := some 1, failRun := 2 }⟩, _, 1, 2, 1, _, rfl, rfl, by decide +kernel⟩,
   ⟨0, ⟨[], setMemIf (withRegs [(memObj 1, 0x0B, 1)] dev0) (ifKey 1 2) { ifOn with step := some 1, failRun := 2 }⟩, _, 1, 2, 1,
   _, rfl, rfl, by decide +kernel⟩,
   ⟨0, ⟨[], setMemIf dev0 (ifKey 1 2) { ifOn with step := some 2 }⟩, _, 1, 2, 2, _, rfl, rfl, by decide +kernel⟩,
   ⟨0, ⟨[], modMem (setMemIf dev0 (ifKey 1 2) { ifOn with step := some 1 }) 1 fun u =>
   { u with armed := true, pending := some 2 }⟩, _, 1, 2, 1, 2, rfl, by decide +kernel⟩,
   ⟨0, ⟨[], modMem (setMemIf dev0 (ifKey 1 2) { ifOn with step := some 2 }) 1 fun u =>
   { u with armed := true, pending := some 2 }⟩, _, 1, 2, 2, 2, rfl, by decide +kernel⟩⟩

theorem test_set_point_switches_run :
    (∃ (dt : Nat) (s : State) (d : Device) (p : Die) (f : Nat), d = elapse s.dev dt ∧ pixUp d p = true ∧ (memAt d p).pending =
    some f ∧ (memAt d p).switching = none ∧ (∀ j, j < 4 → (memIfAt d (ifKey p j)).step = none) ∧ (memAt d p).burstEnd ≤ d.mono +
    150000 ∧ ((memAt d p).armed = true ∨ (if (memAt d p).scheduled = true then (memAt d p).startAt ≤ (pixAt d p).tb1.ns else
    qualifies d p = true))) ∧
    (∃ (dt : Nat) (s : State) (d : Device) (p : Die) (f : Nat), d = elapse s.dev dt ∧ pixUp d p = true ∧ (memAt d p).pending =
    some f ∧ (memAt d p).switching = none ∧ (∀ j, j < 4 → (memIfAt d (ifKey p j)).step = none) ∧ (memAt d p).burstEnd ≤ d.mono +
    150000 ∧ ((memAt d p).armed = true ∨ (if (memAt d p).scheduled = true then (memAt d p).startAt ≤ (pixAt d p).tb1.ns else
    qualifies d p = true))) ∧
    (∃ (dt : Nat) (s : State) (d : Device) (p : Die) (f : Nat), d = elapse s.dev dt ∧ pixUp d p = true ∧ (memAt d p).pending =
    some f ∧ (memAt d p).switching = none ∧ ((∃ j, j < 4 ∧ (memIfAt d (ifKey p j)).step ≠ none) ∨ d.mono + 150000 < (memAt d
    p).burstEnd) ∧ (if (memAt d p).scheduled = true then (memAt d p).startAt ≤ (pixAt d p).tb1.ns else qualifies d p = true)) ∧
    (∃ (dt : Nat) (s : State) (d : Device) (p : Die) (f : Nat), d = elapse s.dev dt ∧ pixUp d p = true ∧ (memAt d p).switching =
    some f) ∧
    (∃ (dt : Nat) (s : State) (d : Device) (p : Die) (f : Nat), d = elapse s.dev dt ∧ pixUp d p = true ∧ (memAt d p).switching =
    some f) ∧
    (∃ (dt : Nat) (s : State) (d : Device) (p : Die), d = elapse s.dev dt ∧ pixUp d p = true ∧ (memAt d p).pending.isSome = true
    ∧ (memAt d p).scheduled = false ∧ (memAt d p).armed = false ∧ (memAt d p).switching = none ∧ (memAt d p).asked + tickPeriod
    d ≤ d.mono) :=
  ⟨⟨0, ⟨[], modMem dev0 1 fun u => { u with pending := some 2, scheduled := true, asked := 99000000000 }⟩, _, 1, 2, rfl,
   by decide +kernel⟩,
   ⟨0, ⟨[], modMem dev0 1 fun u => { u with pending := some 2, armed := true, asked := 99000000000 }⟩, _, 1, 2, rfl,
   by decide +kernel⟩,
   ⟨0, ⟨[], modMem dev0 1 fun u => { u with pending := some 2, burstEnd := 100000200000, asked := 99000000000 }⟩, _, 1, 2, rfl,
   by decide +kernel⟩,
   ⟨0, ⟨[], modMem dev0 1 fun u => { u with switching := some 2, switchEnd := 99000000000 }⟩, _, 1, 2, rfl, by decide +kernel⟩,
   ⟨0, ⟨[], setMemIf (modMem dev0 1 fun u => { u with switching := some 2, switchEnd := 99000000000 }) (ifKey 1 2)
   { ifOn with rank0 := { rankOn with crossing := some 2, debt := 6 } }⟩, _, 1, 2, rfl, by decide +kernel⟩,
   ⟨0, ⟨[], modMem dev0 1 fun u => { u with pending := some 2, asked := 99000000000 }⟩, _, 1, rfl, by decide +kernel⟩⟩

theorem test_interfaces_retire_or_fail :
    (∃ (dt : Nat) (s : State) (d : Device) (p : Die) (m : MemIf), d = elapse s.dev dt ∧ pixUp d p = true ∧ (memIfAt d (ifKey p
    m)).state = 4 ∧ slotsOn d p m = []) ∧
    (∃ (dt : Nat) (s : State) (d : Device) (p : Die) (m : MemIf) (t : Nat), d = elapse s.dev dt ∧ pixUp d p = true ∧ (memIfAt d
    (ifKey p m)).since = some t ∧ (memIfAt d (ifKey p m)).state = 4 ∧ t + 10000000000 ≤ d.mono ∧ slotsOn d p m ≠ [] ∧
    lastInterfaces d p m = false) ∧
    (∃ (dt : Nat) (s : State) (d : Device) (p : Die) (m : MemIf), d = elapse s.dev dt ∧ pixUp d p = true ∧ ((memIfAt d (ifKey p
    m)).state = 3 ∨ (memIfAt d (ifKey p m)).state = 4) ∧ lastInterfaces d p m = false) :=
  ⟨⟨0, ⟨[], setMemIf dev0 (ifKey 1 2) { ifOn with state := 4, since := some 99000000000 }⟩, _, 1, 2, rfl, by decide +kernel⟩,
   ⟨0, ⟨[], setSrc (setMemIf dev0 (ifKey 1 2) { ifOn with state := 4, since := some 80000000000 }) 1
   { SrcUnit.reset with present := true, frame := some { blankFrame 7 with tiles := [(0, ⟨1, blankHdr, blank, 2, 1⟩)] } }⟩, _,
   1, 2, 80000000000, rfl, by decide +kernel⟩,
   ⟨0, ⟨[], setSrc dev0 1 { SrcUnit.reset with present := true, frame := some (blankFrame 7) }⟩, _, 1, 2, rfl,
   by decide +kernel⟩⟩

theorem test_memory_requests_take_and_return_credits :
    (∃ (dt : Nat) (s : State) (d : Device) (p : Die) (port : Fin 11) (mq : Fin 8) (m : MemIf) (addr : Nat) (u : MemUnit) (r :
    MemReq), d = elapse s.dev dt ∧ u = memAt d p ∧ pixUp d p = true ∧ portQueue port mq = true ∧ u.inForce ≠ 0 ∧ ((memIfAt d
    (ifKey p m)).state = 3 ∨ (memIfAt d (ifKey p m)).state = 4) ∧ r = MemReq.mk u.nextReq port mq m addr d.mono false false) ∧
    (∃ (dt : Nat) (s : State) (d : Device) (p : Die) (id : Nat) (u : MemUnit) (r : MemReq), d = elapse s.dev dt ∧ u = memAt d p
    ∧ pixUp d p = true ∧ (u.active ++ u.waiting).find? (fun x => x.id == id) = some r ∧ r.late = false ∧ r.since + reqTarget u r
    ≤ d.mono) ∧
    (∃ (dt : Nat) (s : State) (d : Device) (p : Die) (id : Nat) (u : MemUnit) (r : MemReq) (t : Nat) (left : List MemReq), d =
    elapse s.dev dt ∧ u = memAt d p ∧ pixUp d p = true ∧ u.waiting = [] ∧ u.draining = some t ∧ u.active.find? (fun x => x.id ==
    id) = some r ∧ (memIfAt d (ifKey p r.mem)).serving = some id ∧ left = u.active.filter (fun x => x.id != id)) ∧
    (∃ (dt : Nat) (s : State) (d : Device) (p : Die) (id : Nat), d = elapse s.dev dt ∧ pixUp d p = true ∧ (memAt d p).waiting =
    [] ∧ (∀ r ∈ (memAt d p).active, r.id = id → (memIfAt d (ifKey p r.mem)).serving ≠ some id ∧ ((memIfAt d (ifKey p
    r.mem)).serving.isSome = true ∨ d.mono < (memIfAt d (ifKey p r.mem)).burstTill))) ∧
    (∃ (dt : Nat) (s : State) (d : Device) (p : Die) (id : Nat), d = elapse s.dev dt ∧ pixUp d p = true ∧ (memAt d p).waiting =
    [] ∧ (∀ r ∈ (memAt d p).active, r.id = id → (memIfAt d (ifKey p r.mem)).serving ≠ some id ∧ ((memIfAt d (ifKey p
    r.mem)).serving.isSome = true ∨ d.mono < (memIfAt d (ifKey p r.mem)).burstTill))) :=
  ⟨⟨0, ⟨[], dev0⟩, _, 1, 4, 2, 1, 64, _, _, rfl, rfl, by decide +kernel, by decide +kernel, by decide +kernel,
   (by decide +kernel), rfl⟩,
   ⟨0, ⟨[], modMem dev0 1 fun u => { u with active := [waitReq 3] }⟩, _, 1, 3, _, waitReq 3, rfl, rfl, by decide +kernel⟩,
   ⟨0, ⟨[], setMemIf (modMem dev0 1 fun u => { u with active := [waitReq 3, waitReq 4], draining := some 99000000000 }) (ifKey 1
   1) { ifOn with serving := some 3 }⟩, _, 1, 3, _, waitReq 3, 99000000000, [waitReq 4], rfl, rfl, by decide +kernel⟩,
   ⟨0, ⟨[], setMemIf (modMem dev0 1 fun u => { u with active := [waitReq 3, waitReq 4] }) (ifKey 1 1)
   { ifOn with serving := some 4 }⟩, _, 1, 3, rfl, by decide +kernel⟩,
   ⟨0, ⟨[], setMemIf (modMem dev0 1 fun u => { u with active := [waitReq 3] }) (ifKey 1 1) { ifOn with burstTill := 10^14 }⟩, _,
   1, 3, rfl, by decide +kernel⟩⟩

theorem test_descriptors_are_checked_and_resent_once :
    (∃ (dt : Nat) (s : State) (d : Device) (k : AnyDie) (q : Fin 64) (desc : List Byte) (u : QueueUnit), d = elapse s.dev dt ∧
    dieUp d k = true ∧ q.val < queueCount k ∧ queueEmpty d k q = false ∧ u = queueAt d (queueKey k) ∧ descGood desc = true) ∧
    (∃ (dt : Nat) (s : State) (d : Device) (k : AnyDie) (q : Fin 64) (desc : List Byte) (u : QueueUnit), d = elapse s.dev dt ∧
    dieUp d k = true ∧ q.val < queueCount k ∧ queueEmpty d k q = false ∧ u = queueAt d (queueKey k) ∧ descGood desc = true) ∧
    (∃ (dt : Nat) (s : State) (d : Device) (k : AnyDie) (q : Fin 64), d = elapse s.dev dt ∧ (dieUp d k = false ∨ queueCount k ≤
    q.val ∨ queueEmpty d k q = true)) ∧
    (∃ (dt : Nat) (s : State) (d : Device) (k : AnyDie) (q : Fin 64), d = elapse s.dev dt ∧ (dieUp d k = false ∨ queueCount k ≤
    q.val ∨ queueEmpty d k q = true)) ∧
    (∃ (dt : Nat) (s : State) (d : Device) (k : AnyDie) (q : Fin 64), d = elapse s.dev dt ∧ (dieUp d k = false ∨ queueCount k ≤
    q.val ∨ queueEmpty d k q = true)) ∧
    (∃ (dt : Nat) (s : State) (d : Device) (k : AnyDie) (q : Fin 64) (desc : List Byte), d = elapse s.dev dt ∧ dieUp d k = true
    ∧ q.val < queueCount k ∧ queueEmpty d k q = false ∧ descGood desc = false ∧ (if k.val < 2 then q.val ≠ 0 ∧ q.val ≠ 2 ∧
    (q.val < 6 ∨ 12 ≤ q.val) else 49 ≤ q.val)) ∧
    (∃ (dt : Nat) (s : State) (d : Device) (k : AnyDie) (q : Fin 64) (desc : List Byte), d = elapse s.dev dt ∧ dieUp d k = true
    ∧ q.val < queueCount k ∧ queueEmpty d k q = false ∧ descGood desc = false ∧ (if k.val < 2 then q.val ≠ 0 ∧ q.val ≠ 2 ∧
    (q.val < 6 ∨ 12 ≤ q.val) else 49 ≤ q.val)) ∧
    (∃ (dt : Nat) (s : State) (d : Device) (k : AnyDie) (q : Fin 64) (desc : List Byte), d = elapse s.dev dt ∧ dieUp d k = true
    ∧ q.val < queueCount k ∧ queueEmpty d k q = false ∧ descGood desc = false ∧ (if k.val < 2 then q.val ≠ 0 ∧ q.val ≠ 2 ∧
    (q.val < 6 ∨ 12 ≤ q.val) else 49 ≤ q.val)) ∧
    (∃ (dt : Nat) (s : State) (d : Device) (k : AnyDie) (q : Fin 64) (desc : List Byte), d = elapse s.dev dt ∧ dieUp d k = true
    ∧ q.val < queueCount k ∧ queueEmpty d k q = false ∧ descGood desc = false ∧ (if k.val < 2 then q.val ≠ 0 ∧ q.val ≠ 2 ∧
    (q.val < 6 ∨ 12 ≤ q.val) else 49 ≤ q.val)) ∧
    (∃ (dt : Nat) (s : State) (d : Device) (k : AnyDie) (q : Fin 64) (desc : List Byte) (p h w n t : Nat) (S : Scan) (L :
    ScanLayer) (f : Frame), d = elapse s.dev dt ∧ dieUp d k = true ∧ descGood desc = false ∧ k.val = p + 2 ∧ 24 ≤ q.val ∧ q.val
    < 32 ∧ h = 4 * p + (q.val - 24) / 2 ∧ w < 3 ∧ (∀ v, v < w → nextFetch d p h v = none) ∧ nextFetch d p h w = some (n, t) ∧
    scanPick (scanAt d h) w = some S ∧ S.layers.find? (fun L => L.n == n) = some L ∧ L.frame = some f) ∧
    (∃ (dt : Nat) (s : State) (d : Device) (k : AnyDie) (q : Fin 64) (desc : List Byte) (p : Nat), d = elapse s.dev dt ∧ dieUp d
    k = true ∧ descGood desc = false ∧ k.val = p + 2 ∧ 32 ≤ q.val ∧ q.val < 36 ∧ wbOn d p = true ∧ (wbAt d p).spoiled = false) ∧
    (∃ (dt : Nat) (s : State) (d : Device) (k : AnyDie) (q : Fin 64) (desc : List Byte) (p i start : Nat) (l : List Nat), d =
    elapse s.dev dt ∧ dieUp d k = true ∧ descGood desc = false ∧ k.val = p + 2 ∧ 16 ≤ q.val ∧ q.val < 24 ∧ (pipeAt d (2 * p +
    (q.val - 16) / 4)).service = some (i, start, l)) ∧
    (∃ (dt : Nat) (s : State) (d : Device) (k : AnyDie) (q : Fin 64) (desc : List Byte) (p u : Nat) (x : SpurItem) (rest : List
    SpurItem), d = elapse s.dev dt ∧ dieUp d k = true ∧ descGood desc = false ∧ k.val = p + 2 ∧ 36 ≤ q.val ∧ q.val < 44 ∧ u =
    (if q.val < 40 then p else spurFrom p (q.val % 4)) ∧ spurOutOf d u (q.val % 4) = x :: rest) ∧
    (∃ (dt : Nat) (s : State) (d : Device) (k : AnyDie) (q : Fin 64) (desc : List Byte) (p u : Nat) (x : SpurItem) (rest : List
    SpurItem), d = elapse s.dev dt ∧ dieUp d k = true ∧ descGood desc = false ∧ k.val = p + 2 ∧ 36 ≤ q.val ∧ q.val < 44 ∧ u =
    (if q.val < 40 then p else spurFrom p (q.val % 4)) ∧ spurOutOf d u (q.val % 4) = x :: rest) ∧
    (∃ (dt : Nat) (s : State) (d : Device) (k : AnyDie) (q : Fin 64) (desc : List Byte) (p src : Nat) (idx : List Nat) (x :
    OpenFrame), d = elapse s.dev dt ∧ dieUp d k = true ∧ descGood desc = false ∧ k.val = p + 2 ∧ q.val < 16 ∧ tget (queueAt d
    p).fill q 0 ≠ 0 ∧ (tget (queueAt d p).flight q [])[iqUsed d p q - tget (queueAt d p).fill q 0]? = some (src, idx) ∧ tget
    (queueAt d p).fill q 0 ≤ iqUsed d p q ∧ (srcUnit d src p).opn = some x) ∧
    (∃ (dt : Nat) (s : State) (d : Device) (k : AnyDie) (q : Fin 64) (desc : List Byte) (p : Nat) (r : MemReq), d = elapse s.dev
    dt ∧ dieUp d k = true ∧ descGood desc = false ∧ k.val = p + 2 ∧ 44 ≤ q.val ∧ q.val < 49 ∧ (memAt d p).waiting = [] ∧ (memAt
    d p).active.find? (fun x => x.mq == q.val - 44) = some r) ∧
    (∃ (dt : Nat) (s : State) (d : Device) (k : AnyDie) (q : Fin 64) (desc : List Byte), d = elapse s.dev dt ∧ dieUp d k = true
    ∧ descGood desc = false ∧ k.val < 2 ∧ (q.val = 0 ∨ q.val = 2 ∨ (6 ≤ q.val ∧ q.val < 12))) ∧
    (∃ (dt : Nat) (s : State) (d : Device) (k : AnyDie) (q : Fin 64) (desc : List Byte), d = elapse s.dev dt ∧ dieUp d k = true
    ∧ descGood desc = false ∧ k.val < 2 ∧ (q.val = 0 ∨ q.val = 2 ∨ (6 ≤ q.val ∧ q.val < 12))) ∧
    (∃ (dt : Nat) (s : State) (d : Device) (k : AnyDie) (q : Fin 64) (desc : List Byte) (t : Nat) (held : Option CtlMsg) (rest :
    List (Nat × Option CtlMsg)), d = elapse s.dev dt ∧ dieUp d k = true ∧ tget (queueAt d (queueKey k)).failed q [] = (t, held)
    :: rest ∧ t + 50000 ≤ d.mono ∧ descGood desc = true) ∧
    (∃ (dt : Nat) (s : State) (d : Device) (k : AnyDie) (q : Fin 64) (desc : List Byte) (t : Nat) (held : Option CtlMsg) (rest :
    List (Nat × Option CtlMsg)), d = elapse s.dev dt ∧ dieUp d k = true ∧ tget (queueAt d (queueKey k)).failed q [] = (t, held)
    :: rest ∧ t + 50000 ≤ d.mono ∧ descGood desc = true) ∧
    (∃ (dt : Nat) (s : State) (d : Device) (k : AnyDie) (q : Fin 64) (desc : List Byte) (t : Nat) (held : Option CtlMsg) (rest :
    List (Nat × Option CtlMsg)), d = elapse s.dev dt ∧ dieUp d k = true ∧ tget (queueAt d (queueKey k)).failed q [] = (t, held)
    :: rest ∧ t + 50000 ≤ d.mono ∧ descGood desc = false) ∧
    (∃ (dt : Nat) (s : State) (d : Device) (k : AnyDie) (q : Fin 64) (desc : List Byte) (t : Nat) (held : Option CtlMsg) (rest :
    List (Nat × Option CtlMsg)), d = elapse s.dev dt ∧ dieUp d k = true ∧ tget (queueAt d (queueKey k)).failed q [] = (t, held)
    :: rest ∧ t + 50000 ≤ d.mono ∧ descGood desc = false) ∧
    (∃ (dt : Nat) (s : State) (d : Device) (k : AnyDie) (q : Fin 64), d = elapse s.dev dt ∧ (dieUp d k = false ∨ ∀ x ∈ (tget
    (queueAt d (queueKey k)).failed q []).head?, d.mono < x.1 + 50000)) ∧
    (∃ (dt : Nat) (s : State) (d : Device) (k : AnyDie) (q : Fin 64), d = elapse s.dev dt ∧ (dieUp d k = false ∨ ∀ x ∈ (tget
    (queueAt d (queueKey k)).failed q []).head?, d.mono < x.1 + 50000)) :=
  ⟨⟨0, ⟨[], setQueue dev0 1
   { QueueUnit.reset with fill := [(50, 3)], ctl := [.tag 7 ⟨[], 5, none, false, none, false, false⟩] }⟩, _, 3, 52, goodDesc, _,
   rfl, by decide +kernel, by decide +kernel, by decide +kernel, rfl, by decide +kernel⟩,
   ⟨0, ⟨[], dev0⟩, _, 1, 3, goodDesc, _, rfl, by decide +kernel, by decide +kernel, by decide +kernel, rfl, by decide +kernel⟩,
   ⟨0, ⟨[], dev0⟩, _, 3, 5, rfl, by decide +kernel⟩,
   ⟨0, ⟨[], dev0⟩, _, 1, 40, rfl, by decide +kernel⟩,
   ⟨0, ⟨[], setPix dev0 1 PixelDie.reset⟩, _, 3, 60, rfl, by decide +kernel⟩,
   ⟨0, ⟨[], dev0⟩, _, 3, 60, [1], rfl, by decide +kernel⟩,
   ⟨0, ⟨[], setQueue dev0 1 { QueueUnit.reset with ctl := [.tag 7 ⟨[], 5, none, false, none, false, false⟩] }⟩, _, 3, 52, [1],
   rfl, by decide +kernel⟩,
   ⟨0, ⟨[], dev0⟩, _, 1, 3, [1], rfl, by decide +kernel⟩,
   ⟨0, ⟨[], setQueue dev0 1 { QueueUnit.reset with ctl := [.tag 7 ⟨[], 5, none, false, none, false, false⟩] }⟩, _, 0, 13, [1],
   rfl, by decide +kernel⟩,
   ⟨0, ⟨[], withHead (fun u => { u with link := .up }) fun g => { g with cur := some (screen [0]) }⟩, _, 2, 26, [1], 0, 1, 0, 3,
   0, screen [0], ⟨3, pane, some (blankFrame 7), 4, 0, 10, 10, 1000, [0], [], [], []⟩, blankFrame 7, rfl, by decide +kernel⟩,
   ⟨0, ⟨[], { dev0 with force := [(256 * 0x3260 + 1, .num 1)] }⟩, _, 4, 33, [1], 2, rfl, by decide +kernel⟩,
   ⟨0, ⟨[], setPipe (withCamera fun u => { u with opened := true, starts := 1, received := 3, jobs := [camJob 1] }) 0
   { service := some (0, 1, [7]) }⟩, _, 2, 17, [1], 0, 0, 1, [7], rfl, by decide +kernel⟩,
   ⟨0, ⟨[], setQueue (withSource 1 id) 0 { QueueUnit.reset with spurOut := [(1, [.tile 0 5 0 ⟨1, blankHdr, blank, 0, 1⟩])] }⟩,
   _, 2, 37, [1], 0, 0, .tile 0 5 0 ⟨1, blankHdr, blank, 0, 1⟩, [], rfl, by decide +kernel⟩,
   ⟨0, ⟨[], setQueue (withSource 1 id) 0 { QueueUnit.reset with spurOut := [(0, [.tile 0 2 0 ⟨1, blankHdr, blank, 0, 1⟩])] }⟩,
   _, 3, 40, [1], 1, 0, .tile 0 2 0 ⟨1, blankHdr, blank, 0, 1⟩, [], rfl, by decide +kernel⟩,
   ⟨0, ⟨[], setQueue (withSource 1 fun u => { u with opn := some openBlank }) 0
   { QueueUnit.reset with fill := [(3, 2)], credits := [(3, 2)], flight := [(3, [(0, [1]), (0, [2])])] }⟩, _, 2, 3, [1], 0, 0,
   [1], openBlank, rfl, by decide +kernel⟩,
   ⟨0, ⟨[], modMem dev0 1 fun u => { u with active := [waitReq 3] }⟩, _, 3, 46, [1], 1, waitReq 3, rfl, by decide +kernel⟩,
   ⟨0, ⟨[], dev0⟩, _, 0, 2, [1], rfl, by decide +kernel⟩,
   ⟨0, ⟨[], dev0⟩, _, 1, 7, [1], rfl, by decide +kernel⟩,
   ⟨0, ⟨[], setQueue dev0 1 { QueueUnit.reset with failed := [(60, [(99000000000, none), (99500000000, none)])] }⟩, _, 3, 60,
   goodDesc, 99000000000, none, [(99500000000, none)], rfl, by decide +kernel⟩,
   ⟨0, ⟨[], setQueue dev0 1
   { QueueUnit.reset with failed := [(52, [(99000000000, some (.tag 7 ⟨[], 5, none, false, none, false, false⟩))])] }⟩, _, 3,
   52, goodDesc, 99000000000, some (.tag 7 ⟨[], 5, none, false, none, false, false⟩), [], rfl, by decide +kernel⟩,
   ⟨0, ⟨[], setQueue dev0 1 { QueueUnit.reset with failed := [(60, [(99000000000, none)])] }⟩, _, 3, 60, [2], 99000000000, none,
   [], rfl, by decide +kernel⟩,
   ⟨0, ⟨[], setQueue dev0 6
   { QueueUnit.reset with failed := [(14, [(99000000000, some (.tag 7 ⟨[], 5, none, false, none, false, false⟩))])] }⟩, _, 0,
   14, [2], 99000000000, some (.tag 7 ⟨[], 5, none, false, none, false, false⟩), [], rfl, by decide +kernel⟩,
   ⟨0, ⟨[], dev0⟩, _, 3, 60, rfl, by decide +kernel⟩,
   ⟨0, ⟨[], setQueue dev0 1 { QueueUnit.reset with failed := [(60, [(99999999000, none)])] }⟩, _, 3, 60, rfl, by decide +kernel⟩⟩

theorem test_touch_bring_up_advances :
    (∃ (dt : Nat) (s : State) (d : Device) (k : TouchNo) (u : TouchUnit), d = elapse s.dev dt ∧ u = linkAt d k ∧ u.step ≠ 0 ∧
    u.step < 11 ∧ bringFailed u d.mono = false) ∧
    (∃ (dt : Nat) (s : State) (d : Device) (k : TouchNo) (u : TouchUnit), d = elapse s.dev dt ∧ u = linkAt d k ∧ u.step ≠ 0 ∧
    u.step < 11 ∧ bringFailed u d.mono = false) ∧
    (∃ (dt : Nat) (s : State) (d : Device) (k : TouchNo) (u : TouchUnit), d = elapse s.dev dt ∧ u = linkAt d k ∧ 1 ≤ u.step ∧
    u.step ≤ 3 ∧ u.stepAt + (if u.step = 1 then 10000000 else if u.step = 2 then 100000 else 1000000) < d.mono) ∧
    (∃ (dt : Nat) (s : State) (d : Device) (k : TouchNo) (u : TouchUnit), d = elapse s.dev dt ∧ u = linkAt d k ∧ 1 ≤ u.step ∧
    u.step ≤ 3 ∧ u.stepAt + (if u.step = 1 then 10000000 else if u.step = 2 then 100000 else 1000000) < d.mono) ∧
    (∃ (dt : Nat) (s : State) (d : Device) (k : TouchNo) (u : TouchUnit), d = elapse s.dev dt ∧ u = linkAt d k ∧ u.step = 2 ∧
    d.mono ≤ u.stepAt + 100000) ∧
    (∃ (dt : Nat) (s : State) (d : Device) (k : TouchNo) (u : TouchUnit), d = elapse s.dev dt ∧ u = linkAt d k ∧ u.step = 2 ∧
    d.mono ≤ u.stepAt + 100000) ∧
    (∃ (dt : Nat) (s : State) (d : Device) (k : TouchNo) (addr : Nat) (u : TouchUnit), d = elapse s.dev dt ∧ u = linkAt d k ∧
    u.step = 3 ∧ d.mono ≤ u.stepAt + 1000000 ∧ 1 ≤ addr ∧ addr ≤ 4) ∧
    (∃ (dt : Nat) (s : State) (d : Device) (k : TouchNo) (addr : Nat) (u : TouchUnit), d = elapse s.dev dt ∧ u = linkAt d k ∧
    u.step = 3 ∧ d.mono ≤ u.stepAt + 1000000 ∧ 1 ≤ addr ∧ addr ≤ 4) ∧
    (∃ (dt : Nat) (s : State) (d : Device) (k : TouchNo) (u : TouchUnit), d = elapse s.dev dt ∧ u = linkAt d k ∧ u.step ≠ 0 ∧
    u.step < 11 ∧ bringFailed u d.mono = false) :=
  ⟨⟨0, ⟨[], withTouch (fun u => { u with step := 1 }) id⟩, _, 3, _, rfl, rfl, by decide +kernel⟩,
   ⟨0, ⟨[], withTouch (fun u => { u with step := 7 }) id⟩, _, 3, _, rfl, rfl, by decide +kernel⟩,
   ⟨0, ⟨[], withTouch (fun u => { u with step := 1 , stepAt := 99980000000}) id⟩, _, 3, _, rfl, rfl, by decide +kernel⟩,
   ⟨0, ⟨[], withTouch (fun u => { u with step := 3, since := 99950000000 }) id⟩, _, 3, _, rfl, rfl, by decide +kernel⟩,
   ⟨0, ⟨[], withTouch (fun u => { u with step := 2, stepAt := 99999990000 }) id⟩, _, 3, _, rfl, rfl, by decide +kernel⟩,
   ⟨0, ⟨[], withTouch (fun u => { u with step := 2, stepAt := 99999990000 }) id⟩, _, 3, _, rfl, rfl, by decide +kernel⟩,
   ⟨0, ⟨[], withTouch (fun u => { u with step := 3, stepAt := 99999990000, acked := [1, 2, 4] }) id⟩, _, 3, 3, _, rfl, rfl,
   by decide +kernel⟩,
   ⟨0, ⟨[], withTouch (fun u => { u with step := 3, stepAt := 99999990000, acked := [1] }) id⟩, _, 3, 4, _, rfl, rfl,
   by decide +kernel⟩,
   ⟨0, ⟨[], withTouch (fun u => { u with step := 10 }) id⟩, _, 3, _, rfl, rfl, by decide +kernel⟩⟩

theorem test_touch_frames_start_fill_and_spoil :
    (∃ (dt : Nat) (s : State) (d : Device) (k : TouchNo) (u : TouchUnit), d = elapse s.dev dt ∧ u = linkAt d k ∧ 4 ≤ u.step ∧
    u.step ≤ 10 ∧ u.step ≠ 9 ∧ pixUp d (dieOfLink k) = true ∧ (u.slotAt = 0 ∨ u.slotAt + 1000000000 / max 1 u.rate ≤ d.mono) ∧
    u.scanning = 0 ∧ u.hop = none ∧ u.enter = false ∧ u.leave = false ∧ u.selfTest = false ∧ u.badRun < 3 ∧ regN d (0x5800 + k)
    1 = 1) ∧
    (∃ (dt : Nat) (s : State) (d : Device) (k : TouchNo) (u : TouchUnit), d = elapse s.dev dt ∧ u = linkAt d k ∧ 4 ≤ u.step ∧
    u.step ≤ 10 ∧ u.step ≠ 9 ∧ pixUp d (dieOfLink k) = true ∧ (u.slotAt = 0 ∨ u.slotAt + 1000000000 / max 1 u.rate ≤ d.mono) ∧
    u.scanning = 0 ∧ u.hop = none ∧ u.enter = false ∧ u.leave = false ∧ u.selfTest = false ∧ u.badRun < 3 ∧ regN d (0x5800 + k)
    1 = 1) ∧
    (∃ (dt : Nat) (s : State) (d : Device) (k : TouchNo) (u : TouchUnit), d = elapse s.dev dt ∧ u = linkAt d k ∧ 4 ≤ u.step ∧
    u.step ≤ 10 ∧ u.step ≠ 9 ∧ pixUp d (dieOfLink k) = true ∧ (u.slotAt = 0 ∨ u.slotAt + 1000000000 / max 1 u.rate ≤ d.mono) ∧
    u.scanning = 0 ∧ u.hop = none ∧ u.enter = false ∧ u.leave = false ∧ u.selfTest = false ∧ u.badRun < 3 ∧ regN d (0x5800 + k)
    1 = 1) ∧
    (∃ (dt : Nat) (s : State) (d : Device) (k : TouchNo) (u : TouchUnit), d = elapse s.dev dt ∧ u = linkAt d k ∧ 4 ≤ u.step ∧
    u.step ≤ 10 ∧ pixUp d (dieOfLink k) = true ∧ (u.slotAt = 0 ∨ u.slotAt + 1000000000 / max 1 u.rate ≤ d.mono) ∧ u.scanning = 0
    ∧ regN d (0x5800 + k) 1 = 0) ∧
    (∃ (dt : Nat) (s : State) (d : Device) (k : TouchNo) (frame chip : Nat) (samples : List Int) (u : TouchUnit), d = elapse
    s.dev dt ∧ u = linkAt d k ∧ u.step ≠ 0 ∧ u.step < 11 ∧ bringFailed u d.mono = false ∧ u.scanning ≠ 0 ∧ frame = u.frameNo ∧
    chip + 1 < touchChips u ∧ samples.length = tc u 3) ∧
    (∃ (dt : Nat) (s : State) (d : Device) (k : TouchNo) (frame chip : Nat) (samples : List Int) (u : TouchUnit), d = elapse
    s.dev dt ∧ u = linkAt d k ∧ u.step = 5 ∧ u.scanning = 1 ∧ u.spoiled = false ∧ frame = u.frameNo ∧ chip + 1 = touchChips u ∧
    samples.length = tc u 3 ∧ (tput u.samples chip samples).length = touchChips u) ∧
    (∃ (dt : Nat) (s : State) (d : Device) (k : TouchNo) (u : TouchUnit), d = elapse s.dev dt ∧ u = linkAt d k ∧ u.step ≠ 0 ∧
    u.step < 11 ∧ bringFailed u d.mono = false) ∧
    (∃ (dt : Nat) (s : State) (d : Device) (k : TouchNo) (u : TouchUnit), d = elapse s.dev dt ∧ u = linkAt d k ∧ u.step ≠ 0 ∧
    u.step < 11) ∧
    (∃ (dt : Nat) (s : State) (d : Device) (k : TouchNo) (u : TouchUnit), d = elapse s.dev dt ∧ u = linkAt d k ∧ u.step ≠ 0 ∧
    u.step < 11) :=
  ⟨⟨0, ⟨[], withTouch (fun u => { u with step := 10 }) id⟩, _, 3, _, rfl, rfl, by decide +kernel⟩,
   ⟨0, ⟨[], withTouch (fun u => { u with step := 4 }) id⟩, _, 3, _, rfl, rfl, by decide +kernel⟩,
   ⟨0, ⟨[], withTouch (fun u => { u with step := 6 }) id⟩, _, 3, _, rfl, rfl, by decide +kernel⟩,
   ⟨0, ⟨[], withRegs [(0x5803, 1, 0)] (withTouch (fun u => { u with step := 10 }) fun t => { t with touches := [finger] })⟩, _,
   3, _, rfl, rfl, by decide +kernel⟩,
   ⟨0, ⟨[], withTouch (fun u => { u with step := 10, scanning := 1 }) id⟩, _, 3, 9, 1, [5, 6], _, rfl, rfl, by decide +kernel⟩,
   ⟨0, ⟨[], withTouch (fun u => { u with step := 5, scanning := 1, samples := (List.range 23).map fun i => (i, [1, 2]) }) id⟩,
   _, 3, 9, 23, [5, 6], _, rfl, rfl, by decide +kernel⟩,
   ⟨0, ⟨[], withTouch (fun u => { u with step := 10, scanning := 1 }) id⟩, _, 3, _, rfl, rfl, by decide +kernel⟩,
   ⟨0, ⟨[], withTouch (fun u => { u with step := 10, scanning := 1 }) id⟩, _, 3, _, rfl, rfl, by decide +kernel⟩,
   ⟨0, ⟨[], withTouch (fun u => { u with step := 10, scanning := 1 }) id⟩, _, 3, _, rfl, rfl, by decide +kernel⟩⟩

theorem test_touch_reports_are_released_and_cancelled :
    (∃ (dt : Nat) (s : State) (d : Device) (k : TouchNo) (r : Report) (rest : List Report) (seq : Nat), d = elapse s.dev dt ∧
    (trackAt d k).reports = r :: rest ∧ pixUp d (dieOfLink k) = true ∧ (∀ m, frameShown d k r = some m → mapFinal d (tc (linkAt
    d k) 0x0C) m r.y = true) ∧ seq = (if (trackAt d k).seq + 1 = 65536 then 1 else (trackAt d k).seq + 1)) ∧
    (∃ (dt : Nat) (s : State) (d : Device) (k : TouchNo) (u : TouchUnit), d = elapse s.dev dt ∧ u = linkAt d k ∧ 4 ≤ u.step ∧
    u.step ≤ 10 ∧ u.lastUp + 20000000 ≤ d.mono) ∧
    (∃ (dt : Nat) (s : State) (d : Device) (k : TouchNo) (id : Fin 10) (t : Touch), d = elapse s.dev dt ∧ (trackAt d
    k).touches.find? (fun t => t.id == id.val) = some t ∧ t.persistent = false ∧ t.born + tc (linkAt d k) 9 * 1000000000 ≤
    d.mono) :=
  ⟨⟨0, ⟨[], withTouch (fun u => { u with step := 10 }) fun t => { t with reports := [⟨2, 1, 10, 10, 99000000000, 0, 300⟩] }⟩, _,
   3, ⟨2, 1, 10, 10, 99000000000, 0, 300⟩, [], _, rfl, by decide +kernel, by decide +kernel,
   (by intro m h; exact nomatch (show (none : Option PaneMap) = some m from h)), rfl⟩,
   ⟨0, ⟨[], withTouch (fun u => { u with step := 10, lastUp := 99000000000 }) fun t => { t with touches := [finger] }⟩, _, 3, _,
   rfl, rfl, by decide +kernel⟩,
   ⟨600000000000, ⟨[], withTouch (fun u => { u with step := 10 }) fun t => { t with touches := [finger] }⟩, _, 3, 2, finger,
   rfl, by decide +kernel⟩⟩

theorem test_oscillators_crystals_and_plls_start :
    (∃ (dt : Nat) (s : State) (d : Device) (k : AnyDie) (c : ClockUnit), d = elapse s.dev dt ∧ c = clockAt d k ∧ c.src ≠ 0 ∧
    c.ready = false ∧ c.stepAt + (if c.stepped = true then 20000 else 50000) ≤ d.mono ∧ (2 ≤ k.val ∨ c.mon ≠ 3)) ∧
    (∃ (dt : Nat) (s : State) (d : Device) (k : AnyDie) (c : ClockUnit), d = elapse s.dev dt ∧ c = clockAt d k ∧ c.src ≠ 0 ∧
    c.ready = false ∧ c.stepAt + (if c.stepped = true then 20000 else 50000) ≤ d.mono ∧ (2 ≤ k.val ∨ c.mon ≠ 3)) ∧
    (∃ (dt : Nat) (s : State) (d : Device) (k : Ctl) (x : Nat) (c : ClockUnit), d = elapse s.dev dt ∧ c = clockAt d k ∧
    d.pins.straps = some x ∧ c.src = 1 ∧ c.crystal = 0 ∧ c.startAt + 500000 * 2 ^ x ≤ d.mono) ∧
    (∃ (dt : Nat) (s : State) (d : Device) (k : Ctl) (x : Nat) (c : ClockUnit), d = elapse s.dev dt ∧ c = clockAt d k ∧
    d.pins.straps = some x ∧ c.src = 1 ∧ c.crystal = 1 ∧ c.startAt + 500000 * 2 ^ x + 10000000 ≤ d.mono) ∧
    (∃ (dt : Nat) (s : State) (d : Device) (k : AnyDie) (c : ClockUnit), d = elapse s.dev dt ∧ c = clockAt d k ∧ c.ready = true
    ∧ c.src ≠ 0 ∧ c.mon ≠ 3 ∧ d.pins.resetn = true ∧ (railAt d k).held = false) ∧
    (∃ (dt : Nat) (s : State) (d : Device) (k : AnyDie) (c : ClockUnit), d = elapse s.dev dt ∧ c = clockAt d k ∧ c.ready = true
    ∧ c.src ≠ 0 ∧ c.mon ≠ 3 ∧ d.pins.resetn = true ∧ (railAt d k).held = false) :=
  ⟨⟨0, ⟨[], withClock 0 fun c => { c with ready := false, mon := 1, pll := 0 }⟩, _, 0, _, rfl, rfl, by decide +kernel⟩,
   ⟨0, ⟨[], withClock 4 fun c => { c with ready := false, src := 4, mon := 1, pll := 0 }⟩, _, 4, _, rfl, rfl, by decide +kernel⟩,
   ⟨0, ⟨[], withClock 1 id⟩, _, 1, 2, _, rfl, rfl, by decide +kernel⟩,
   ⟨0, ⟨[], withClock 1 fun c => { c with crystal := 1 }⟩, _, 1, 2, _, rfl, rfl, by decide +kernel⟩,
   ⟨0, ⟨[], setCtl (withClock 1 fun c => { c with pll := 2 }) 1 { dieC 0 with out := false }⟩, _, 1, _, rfl, rfl,
   by decide +kernel⟩,
   ⟨0, ⟨[], setPix (withClock 4 fun c => { c with pll := 2, src := 4 }) 2 PixelDie.reset⟩, _, 4, _, rfl, rfl, by decide +kernel⟩⟩

theorem test_clock_monitors_trip_and_hold_over :
    (∃ (dt : Nat) (s : State) (d : Device) (k : AnyDie) (c : ClockUnit), d = elapse s.dev dt ∧ c = clockAt d k ∧ k.val < 2 ∧
    c.src ≠ 0 ∧ c.windows % 2 = 0 ∧ c.stepAt + 30240 ≤ d.mono ∧ c.crystal = 1 ∧ c.quiet = true) ∧
    (∃ (dt : Nat) (s : State) (d : Device) (k : AnyDie) (c : ClockUnit), d = elapse s.dev dt ∧ c = clockAt d k ∧ k.val < 2 ∧
    c.src ≠ 0 ∧ c.windows % 2 = 0 ∧ c.stepAt + 30240 ≤ d.mono ∧ c.crystal = 1 ∧ c.quiet = true) ∧
    (∃ (dt : Nat) (s : State) (d : Device) (k : AnyDie) (c : ClockUnit), d = elapse s.dev dt ∧ c = clockAt d k ∧ k.val < 2 ∧
    c.src ≠ 0 ∧ c.windows % 2 = 0 ∧ c.stepAt + 30240 ≤ d.mono ∧ c.crystal = 1 ∧ c.quiet = true) ∧
    (∃ (dt : Nat) (s : State) (d : Device) (k : AnyDie) (x : Nat) (c : ClockUnit), d = elapse s.dev dt ∧ c = clockAt d k ∧ 2 ≤
    k.val ∧ c.src ≠ 0 ∧ c.windows % 2 = 0 ∧ c.stepAt + 30240 ≤ d.mono ∧ c.mon = 2 ∧ relocking d k = false ∧ (pixAt d (k -
    2)).token = x + 2 ∧ ctlUp d x = true ∧ (k.val, 1, x) ∉ d.crossings) ∧
    (∃ (dt : Nat) (s : State) (d : Device) (k : AnyDie) (x : Nat) (c : ClockUnit), d = elapse s.dev dt ∧ c = clockAt d k ∧ 2 ≤
    k.val ∧ c.src ≠ 0 ∧ c.windows % 2 = 0 ∧ c.stepAt + 30240 ≤ d.mono ∧ c.mon = 2 ∧ relocking d k = false ∧ (pixAt d (k -
    2)).token = x + 2 ∧ ctlUp d x = true ∧ (k.val, 1, x) ∉ d.crossings) ∧
    (∃ (dt : Nat) (s : State) (d : Device) (k : AnyDie) (x : Nat) (c : ClockUnit), d = elapse s.dev dt ∧ c = clockAt d k ∧ 2 ≤
    k.val ∧ c.src ≠ 0 ∧ c.windows % 2 = 0 ∧ c.stepAt + 30240 ≤ d.mono ∧ c.mon = 2 ∧ relocking d k = false ∧ (pixAt d (k -
    2)).token = x + 2 ∧ ctlUp d x = true ∧ (k.val, 1, x) ∉ d.crossings) ∧
    (∃ (dt : Nat) (s : State) (d : Device) (k : AnyDie) (x t : Nat) (c : ClockUnit), d = elapse s.dev dt ∧ c = clockAt d k ∧ 2 ≤
    k.val ∧ c.src ≠ 0 ∧ c.windows % 2 = 0 ∧ c.stepAt + 30240 ≤ d.mono ∧ relocking d k = false ∧ c.mon = 3 ∧ c.tripAt = some t ∧
    d.mono < t + 100000 ∧ (pixAt d (k.val - 2)).token = x + 2 ∧ ctlUp d x = true ∧ (k.val, 1, x) ∉ d.crossings) ∧
    (∃ (dt : Nat) (s : State) (d : Device) (k : AnyDie) (x t : Nat) (c : ClockUnit), d = elapse s.dev dt ∧ c = clockAt d k ∧ 2 ≤
    k.val ∧ c.src ≠ 0 ∧ c.windows % 2 = 0 ∧ c.stepAt + 30240 ≤ d.mono ∧ relocking d k = false ∧ c.mon = 3 ∧ c.tripAt = some t ∧
    d.mono < t + 100000 ∧ (pixAt d (k.val - 2)).token = x + 2 ∧ ctlUp d x = true ∧ (k.val, 1, x) ∉ d.crossings) ∧
    (∃ (dt : Nat) (s : State) (d : Device) (k : AnyDie) (x t : Nat) (c : ClockUnit), d = elapse s.dev dt ∧ c = clockAt d k ∧ 2 ≤
    k.val ∧ c.src ≠ 0 ∧ c.windows % 2 = 0 ∧ c.stepAt + 30240 ≤ d.mono ∧ relocking d k = false ∧ c.mon = 3 ∧ c.tripAt = some t ∧
    d.mono < t + 100000 ∧ (pixAt d (k.val - 2)).token = x + 2 ∧ ctlUp d x = true ∧ (k.val, 1, x) ∉ d.crossings) ∧
    (∃ (dt : Nat) (s : State) (d : Device) (k : AnyDie) (c : ClockUnit), d = elapse s.dev dt ∧ c = clockAt d k ∧ c.src ≠ 0 ∧ (2
    ≤ k.val ∨ c.src = 2) ∧ (k.val < 2 → c.crystal ≠ 1) ∧ c.mon = 2) ∧
    (∃ (dt : Nat) (s : State) (d : Device) (k : AnyDie) (c : ClockUnit), d = elapse s.dev dt ∧ c = clockAt d k ∧ c.src ≠ 0 ∧ (2
    ≤ k.val ∨ c.src = 2) ∧ (k.val < 2 → c.crystal ≠ 1) ∧ c.mon = 2) ∧
    (∃ (dt : Nat) (s : State) (d : Device) (k : AnyDie) (c : ClockUnit), d = elapse s.dev dt ∧ c = clockAt d k ∧ c.src ≠ 0 ∧ (2
    ≤ k.val ∨ c.src = 2) ∧ (k.val < 2 → c.crystal ≠ 1) ∧ c.mon = 2) ∧
    (∃ (dt : Nat) (s : State) (d : Device) (k : AnyDie) (c : ClockUnit) (t : Nat), d = elapse s.dev dt ∧ c = clockAt d k ∧
    c.tripAt = some t ∧ t + 100000 ≤ d.mono ∧ c.mon = 3 ∧ dieUp d k = true) ∧
    (∃ (dt : Nat) (s : State) (d : Device) (k : AnyDie) (c : ClockUnit) (t : Nat), d = elapse s.dev dt ∧ c = clockAt d k ∧
    c.tripAt = some t ∧ t + 100000 ≤ d.mono ∧ c.mon = 3 ∧ dieUp d k = true) ∧
    (∃ (dt : Nat) (s : State) (d : Device) (k : AnyDie) (c : ClockUnit) (j : Fin 4) (h : Nat), d = elapse s.dev dt ∧ c = clockAt
    d k ∧ 2 ≤ k.val ∧ h = 4 * (k.val - 2) + j ∧ dieUp d k = true ∧ heldOver d k = false ∧ (headAt d h).link ≠ .idle) ∧
    (∃ (dt : Nat) (s : State) (d : Device) (k : AnyDie) (c : ClockUnit), d = elapse s.dev dt ∧ c = clockAt d k ∧ k.val < 2 ∧
    dieUp d k = true ∧ heldOver d k = false ∧ ((ctlAt d k).role = 3 ∨ (ctlAt d k).role = 2)) ∧
    (∃ (dt : Nat) (s : State) (d : Device) (k : AnyDie) (c : ClockUnit), d = elapse s.dev dt ∧ c = clockAt d k ∧ dieUp d k =
    true ∧ heldOver d k = false) ∧
    (∃ (dt : Nat) (s : State) (d : Device) (k : AnyDie) (c : ClockUnit), d = elapse s.dev dt ∧ c = clockAt d k ∧ dieUp d k =
    true ∧ heldOver d k = false) ∧
    (∃ (dt : Nat) (s : State) (d : Device) (k : AnyDie) (c : ClockUnit), d = elapse s.dev dt ∧ c = clockAt d k ∧ dieUp d k =
    true ∧ heldOver d k = false) :=
  ⟨⟨0, ⟨[], withClock 1 fun c => { c with crystal := 1, good := 3 }⟩, _, 1, _, rfl, rfl, by decide +kernel⟩,
   ⟨0, ⟨[], withClock 1 fun c => { c with crystal := 1, good := 3 }⟩, _, 1, _, rfl, rfl, by decide +kernel⟩,
   ⟨0, ⟨[], withClock 1 fun c => { c with crystal := 1, good := 1 }⟩, _, 1, _, rfl, rfl, by decide +kernel⟩,
   ⟨0, ⟨[], withClock 4 fun c => { c with src := 4, bad := 1 }⟩, _, 4, 0, _, rfl, rfl, by decide +kernel⟩,
   ⟨0, ⟨[], withClock 4 fun c => { c with src := 4, bad := 0 }⟩, _, 4, 0, _, rfl, rfl, by decide +kernel⟩,
   ⟨0, ⟨[], withClock 4 fun c => { c with src := 4, bad := 1 }⟩, _, 4, 0, _, rfl, rfl, by decide +kernel⟩,
   ⟨0, ⟨[], withClock 4 fun c => { c with src := 4, mon := 3, tripAt := some 99999960000, good := 1 }⟩, _, 4, 0, 99999960000, _,
   rfl, rfl, by decide +kernel⟩,
   ⟨0, ⟨[], withClock 4 fun c => { c with src := 4, mon := 3, tripAt := some 99999960000, good := 1 }⟩, _, 4, 0, 99999960000, _,
   rfl, rfl, by decide +kernel⟩,
   ⟨0, ⟨[], withClock 4 fun c => { c with src := 4, mon := 3, tripAt := some 99999960000 }⟩, _, 4, 0, 99999960000, _, rfl, rfl,
   by decide +kernel⟩,
   ⟨0, ⟨[], withClock 0 fun c => { c with src := 2, crystal := 2 }⟩, _, 0, _, rfl, rfl, by decide +kernel⟩,
   ⟨0, ⟨[], withClock 5 fun c => { c with src := 4 }⟩, _, 5, _, rfl, rfl, by decide +kernel⟩,
   ⟨0, ⟨[], withClock 0 fun c => { c with src := 2, crystal := 2, ready := false }⟩, _, 0, _, rfl, rfl, by decide +kernel⟩,
   ⟨0, ⟨[], withClock 5 fun c => { c with src := 4, mon := 3, tripAt := some 99000000000 }⟩, _, 5, _, 99000000000, rfl, rfl,
   by decide +kernel⟩,
   ⟨0, ⟨[], withClock 1 fun c => { c with mon := 3, tripAt := some 99000000000 }⟩, _, 1, _, 99000000000, rfl, rfl,
   by decide +kernel⟩,
   ⟨0, ⟨[], withHead (fun u => { u with link := .up, hpd := 2, caps := some sink, trained := some (4, 4), everUp := true }) id⟩,
   _, 2, _, 1, 1, rfl, rfl, by decide +kernel⟩,
   ⟨0, ⟨[], dev0⟩, _, 0, _, rfl, rfl, by decide +kernel⟩,
   ⟨0, ⟨[], dev0⟩, _, 6, _, rfl, rfl, by decide +kernel⟩,
   ⟨0, ⟨[], dev0⟩, _, 1, _, rfl, rfl, by decide +kernel⟩,
   ⟨0, ⟨[], dev0⟩, _, 0, _, rfl, rfl, by decide +kernel⟩⟩

theorem test_pins_reset_the_device :
    (∃ (dt : Nat) (s : State) (d : Device), d = elapse s.dev dt ∧ d.pins.pwrgood = false) ∧
    (∃ (dt : Nat) (s : State) (d : Device), d = elapse s.dev dt ∧ d.pins.pwrgood = true) ∧
    (∃ (dt : Nat) (s : State) (d : Device), d = elapse s.dev dt ∧ d.pins.pwrgood = true) ∧
    (∃ (dt : Nat) (s : State) (d : Device), d = elapse s.dev dt ∧ d.pins.pwrgood = true ∧ d.pins.resetn = false) ∧
    (∃ (dt : Nat) (s : State) (d : Device) (k : AnyDie) (temp : Int), d = elapse s.dev dt ∧ d.pins.pwrgood = true ∧ 108 ≤ temp ∧
    k.val ∉ d.pins.thermn) ∧
    (∃ (dt : Nat) (s : State) (d : Device) (temps : List Int), d = elapse s.dev dt ∧ (∀ t ∈ temps, t ≤ 100)) :=
  ⟨⟨0, ⟨[], { State.reset.dev with mono := 5 }⟩, _, rfl, by decide +kernel⟩,
   ⟨0, ⟨[], dev0⟩, _, rfl, by decide +kernel⟩,
   ⟨0, ⟨[], dev0⟩, _, rfl, by decide +kernel⟩,
   ⟨0, ⟨[], { dev0 with pins := { dev0.pins with resetn := false } }⟩, _, rfl, by decide +kernel⟩,
   ⟨0, ⟨[], dev0⟩, _, 3, 109, rfl, by decide +kernel⟩,
   ⟨0, ⟨[], { dev0 with pins := { dev0.pins with thermn := [3] } }⟩, _, [99, 100], rfl, by decide +kernel⟩⟩

theorem test_supply_stages_follow_the_rail :
    (∃ (dt : Nat) (s : State) (d : Device) (k : AnyDie) (level : Fin 5) (mv : Nat) (r : RailUnit), d = elapse s.dev dt ∧ r =
    railAt d k ∧ r.seen = true ∧ 2 * mv < entryLevel (level.val + 1) ∧ level.val < 4) ∧
    (∃ (dt : Nat) (s : State) (d : Device) (k : AnyDie) (level : Fin 5) (mv : Nat) (r : RailUnit), d = elapse s.dev dt ∧ r =
    railAt d k ∧ r.seen = true ∧ 2 * mv < entryLevel (level.val + 1) ∧ level.val < 4) ∧
    (∃ (dt : Nat) (s : State) (d : Device) (k : AnyDie) (level : Fin 5) (mv : Nat) (r : RailUnit), d = elapse s.dev dt ∧ r =
    railAt d k ∧ r.seen = true ∧ 2 * mv < entryLevel (level.val + 1) ∧ level.val < 4) ∧
    (∃ (dt : Nat) (s : State) (d : Device) (k : AnyDie) (mv : Nat) (r : RailUnit), d = elapse s.dev dt ∧ r = railAt d k ∧ r.seen
    = true ∧ 2 * mv < 1335 ∧ r.stage < 5 ∧ r.held = false) ∧
    (∃ (dt : Nat) (s : State) (d : Device) (k : AnyDie) (mv : Nat) (r : RailUnit), d = elapse s.dev dt ∧ r = railAt d k ∧ r.seen
    = true ∧ 2 * mv < 1335 ∧ r.stage < 5 ∧ r.held = false) ∧
    (∃ (dt : Nat) (s : State) (d : Device) (k : AnyDie) (mv : Nat) (r : RailUnit), d = elapse s.dev dt ∧ r = railAt d k ∧ r.seen
    = true ∧ 2 * mv < 1335 ∧ r.stage < 5 ∧ r.held = false) ∧
    (∃ (dt : Nat) (s : State) (d : Device) (k : AnyDie) (mv : Nat) (r : RailUnit), d = elapse s.dev dt ∧ r = railAt d k ∧ r.seen
    = true ∧ r.forced < r.stage ∧ r.stage < 5 ∧ r.stageAt + 1000000000 ≤ d.mono ∧ (r.real < r.stage ∨ leaveLevel r.stage ≤ 2 *
    mv)) ∧
    (∃ (dt : Nat) (s : State) (d : Device) (k : AnyDie) (mv : Nat) (r : RailUnit), d = elapse s.dev dt ∧ r = railAt d k ∧ r.seen
    = true ∧ r.forced < r.stage ∧ r.stage < 5 ∧ r.stageAt + 1000000000 ≤ d.mono ∧ (r.real < r.stage ∨ leaveLevel r.stage ≤ 2 *
    mv)) ∧
    (∃ (dt : Nat) (s : State) (d : Device) (k : AnyDie) (lowest : Nat), d = elapse s.dev dt ∧ 2 * lowest < 1275 ∧ (railAt d
    k).seen = true) ∧
    (∃ (dt : Nat) (s : State) (d : Device) (k : AnyDie) (lowest : Nat), d = elapse s.dev dt ∧ 2 * lowest < 1275 ∧ (railAt d
    k).seen = true) ∧
    (∃ (dt : Nat) (s : State) (d : Device) (k : AnyDie) (lowest : Nat), d = elapse s.dev dt ∧ 2 * lowest < 1275 ∧ (railAt d
    k).seen = true) ∧
    (∃ (dt : Nat) (s : State) (d : Device) (k : AnyDie) (mv n : Nat) (r : RailUnit), d = elapse s.dev dt ∧ r = railAt d k ∧
    r.held = true ∧ 1440 ≤ 2 * mv ∧ r.heldAt + 1000000000 ≤ d.mono ∧ n = max (if 2 * mv < entryLevel 1 ∧ 1 ≤ r.real then 1 else
    0) (min r.forced 4)) ∧
    (∃ (dt : Nat) (s : State) (d : Device) (k : AnyDie) (mv n : Nat) (r : RailUnit), d = elapse s.dev dt ∧ r = railAt d k ∧
    r.held = true ∧ 1440 ≤ 2 * mv ∧ r.heldAt + 1000000000 ≤ d.mono ∧ n = max (if 2 * mv < entryLevel 1 ∧ 1 ≤ r.real then 1 else
    0) (min r.forced 4)) :=
  ⟨⟨0, ⟨[], dev0⟩, _, 4, 1, 600, _, rfl, rfl, by decide +kernel⟩,
   ⟨0, ⟨[], withRail 1 id⟩, _, 1, 0, 690, _, rfl, rfl, by decide +kernel⟩,
   ⟨0, ⟨[], withRail 4 fun r => { r with stage := 4, real := 3 }⟩, _, 4, 1, 650, _, rfl, rfl, by decide +kernel⟩,
   ⟨0, ⟨[], dev0⟩, _, 4, 660, _, rfl, rfl, by decide +kernel⟩,
   ⟨0, ⟨[], dev0⟩, _, 0, 660, _, rfl, rfl, by decide +kernel⟩,
   ⟨0, ⟨[], dev0⟩, _, 1, 660, _, rfl, rfl, by decide +kernel⟩,
   ⟨0, ⟨[], withRail 4 fun r => { r with stage := 2, real := 2, stageAt := 90000000000 }⟩, _, 4, 760, _, rfl, rfl,
   by decide +kernel⟩,
   ⟨0, ⟨[], withRail 0 fun r => { r with stage := 1, real := 1, stageAt := 90000000000 }⟩, _, 0, 760, _, rfl, rfl,
   by decide +kernel⟩,
   ⟨0, ⟨[], dev0⟩, _, 4, 600, rfl, by decide +kernel⟩,
   ⟨0, ⟨[], dev0⟩, _, 0, 600, rfl, by decide +kernel⟩,
   ⟨0, ⟨[], dev0⟩, _, 1, 600, rfl, by decide +kernel⟩,
   ⟨0, ⟨[], heldDie 2⟩, _, 4, 740, _, _, rfl, rfl, by decide +kernel, by decide +kernel, by decide +kernel, rfl⟩,
   ⟨0, ⟨[], setCtl (withRail 1 fun r => { r with held := true, heldAt := 90000000000 }) 1 { dieC 0 with out := false }⟩, _, 1,
   740, _, _, rfl, rfl, by decide +kernel, by decide +kernel, by decide +kernel, rfl⟩⟩

theorem test_crossings_close_and_open :
    (∃ (dt : Nat) (s : State) (d : Device) (k : AnyDie) (kind : LinkKind) (o : AnyDie), d = elapse s.dev dt ∧ dieUp d k = true ∧
    dieUp d o = false ∧ linked kind k o = true ∧ (k.val, linkCode kind, o.val) ∉ d.crossings) ∧
    (∃ (dt : Nat) (s : State) (d : Device) (k : AnyDie) (kind : LinkKind) (o : AnyDie), d = elapse s.dev dt ∧ dieUp d k = true ∧
    dieUp d o = false ∧ linked kind k o = true ∧ (k.val, linkCode kind, o.val) ∉ d.crossings) ∧
    (∃ (dt : Nat) (s : State) (d : Device) (k : AnyDie) (kind : LinkKind) (o : AnyDie), d = elapse s.dev dt ∧ dieUp d k = true ∧
    dieUp d o = false ∧ linked kind k o = true ∧ (k.val, linkCode kind, o.val) ∉ d.crossings) ∧
    (∃ (dt : Nat) (s : State) (d : Device) (k : AnyDie) (kind : LinkKind) (o : AnyDie), d = elapse s.dev dt ∧ dieUp d k = true ∧
    dieUp d o = true ∧ (k.val, linkCode kind, o.val) ∈ d.crossings) :=
  ⟨⟨0, ⟨[], heldDie 2⟩, _, 3, .spur, 4, rfl, by decide +kernel⟩,
   ⟨0, ⟨[], heldDie 2⟩, _, 0, .saddle, 4, rfl, by decide +kernel⟩,
   ⟨0, ⟨[], heldDie 2⟩, _, 5, .spur, 4, rfl, by decide +kernel⟩,
   ⟨0, ⟨[], { dev0 with crossings := [(3, 2, 4), (0, 1, 4)] }⟩, _, 3, .spur, 4, rfl, by decide +kernel⟩⟩

theorem test_debug_port_and_tap_obey_the_rules :
    (∃ (dt : Nat) (s : State) (d : Device) (t : Nat), d = elapse s.dev dt ∧ d.sup.dbg.since = some t ∧ t + 300 * 10 ^ 9 ≤ d.mono
    ∧ (d.sup.dbg.maint = none ∨ d.sup.dbg.audit = none)) ∧
    (∃ (dt : Nat) (s : State) (d : Device), d = elapse s.dev dt ∧ d.sup.dbg.opened = true ∧ d.sup.dbg.openedAt + regN d 0x2500
    0x17 * 10 ^ 9 ≤ d.mono) ∧
    (∃ (dt : Nat) (s : State) (d : Device), d = elapse s.dev dt ∧ d.pins.pwrgood = true) ∧
    (∃ (dt : Nat) (s : State) (d : Device), d = elapse s.dev dt ∧ d.pins.pwrgood = true) ∧
    (∃ (dt : Nat) (s : State) (d : Device), d = elapse s.dev dt ∧ d.pins.pwrgood = true ∧ d.pins.resetn = false) ∧
    (∃ (dt : Nat) (s : State) (d : Device), d = elapse s.dev dt ∧ d.pins.pwrgood = true ∧ d.pins.resetn = false) ∧
    (∃ (dt : Nat) (s : State) (d : Device) (a n k : Nat) (ok : Bool) (en : Option Nat), d = elapse s.dev dt ∧ d.pins.pwrgood =
    true ∧ d.pins.resetn = true ∧ k = a / 2 ^ 44 ∧ d.sup.dbg.opened = true ∧ dieUp d k = true ∧ 0 < n ∧ ruleDecide (ruleCopyAt d
    k) 2 a n false = (ok, en)) ∧
    (∃ (dt : Nat) (s : State) (d : Device) (a n k : Nat) (ok : Bool) (en : Option Nat), d = elapse s.dev dt ∧ d.pins.pwrgood =
    true ∧ d.pins.resetn = true ∧ k = a / 2 ^ 44 ∧ d.sup.dbg.opened = true ∧ dieUp d k = true ∧ 0 < n ∧ ruleDecide (ruleCopyAt d
    k) 2 a n false = (ok, en)) ∧
    (∃ (dt : Nat) (s : State) (d : Device) (a n k : Nat) (ok : Bool) (en : Option Nat), d = elapse s.dev dt ∧ d.pins.pwrgood =
    true ∧ d.pins.resetn = true ∧ k = a / 2 ^ 44 ∧ d.sup.dbg.opened = true ∧ dieUp d k = true ∧ 0 < n ∧ ruleDecide (ruleCopyAt d
    k) 2 a n false = (ok, en)) ∧
    (∃ (dt : Nat) (s : State) (d : Device) (a n k : Nat) (ok : Bool) (en : Option Nat), d = elapse s.dev dt ∧ d.pins.pwrgood =
    true ∧ d.pins.resetn = true ∧ k = a / 2 ^ 44 ∧ d.sup.dbg.opened = true ∧ dieUp d k = true ∧ 0 < n ∧ ruleDecide (ruleCopyAt d
    k) 2 a n false = (ok, en)) ∧
    (∃ (dt : Nat) (s : State) (d : Device) (a n k : Nat) (ok : Bool) (en : Option Nat), d = elapse s.dev dt ∧ d.pins.pwrgood =
    true ∧ d.pins.resetn = true ∧ k = a / 2 ^ 44 ∧ d.sup.dbg.opened = true ∧ dieUp d k = true ∧ 0 < n ∧ ruleDecide (ruleCopyAt d
    k) 2 a n true = (ok, en)) ∧
    (∃ (dt : Nat) (s : State) (d : Device) (a n k : Nat) (ok : Bool) (en : Option Nat), d = elapse s.dev dt ∧ d.pins.pwrgood =
    true ∧ d.pins.resetn = true ∧ k = a / 2 ^ 44 ∧ d.sup.dbg.opened = true ∧ dieUp d k = true ∧ 0 < n ∧ ruleDecide (ruleCopyAt d
    k) 2 a n true = (ok, en)) ∧
    (∃ (dt : Nat) (s : State) (d : Device) (a n k : Nat) (ok : Bool) (en : Option Nat), d = elapse s.dev dt ∧ d.pins.pwrgood =
    true ∧ d.pins.resetn = true ∧ k = a / 2 ^ 44 ∧ d.sup.dbg.opened = true ∧ dieUp d k = true ∧ 0 < n ∧ ruleDecide (ruleCopyAt d
    k) 2 a n true = (ok, en)) ∧
    (∃ (dt : Nat) (s : State) (d : Device) (a n k : Nat) (ok : Bool) (en : Option Nat), d = elapse s.dev dt ∧ d.pins.pwrgood =
    true ∧ d.pins.resetn = true ∧ k = a / 2 ^ 44 ∧ d.sup.dbg.opened = true ∧ dieUp d k = true ∧ 0 < n ∧ ruleDecide (ruleCopyAt d
    k) 2 a n true = (ok, en)) :=
  ⟨⟨0, ⟨[],
   { dev0 with mono := 400000000000, sup := { dev0.sup with dbg := { DebugUnit.reset with since := some 1000, maint := some ([1], [2]) } } }⟩,
   _, 1000, rfl, by decide +kernel⟩,
   ⟨0, ⟨[], { withRules 1 with mono := 90000000000000 }⟩, _, rfl, by decide +kernel⟩,
   ⟨0, ⟨[], dev0⟩, _, rfl, by decide +kernel⟩,
   ⟨0, ⟨[], dev0⟩, _, rfl, by decide +kernel⟩,
   ⟨0, ⟨[], { dev0 with pins := { dev0.pins with resetn := false } }⟩, _, rfl, by decide +kernel⟩,
   ⟨0, ⟨[], { dev0 with pins := { dev0.pins with resetn := false } }⟩, _, rfl, by decide +kernel⟩,
   ⟨0, ⟨[], withRules 1⟩, _, 16, 4, _, _, _, rfl, by decide +kernel, by decide +kernel, rfl, by decide +kernel,
   by decide +kernel, by decide +kernel, rfl⟩,
   ⟨0, ⟨[], withRules 2⟩, _, 16, 4, _, _, _, rfl, by decide +kernel, by decide +kernel, rfl, by decide +kernel,
   by decide +kernel, by decide +kernel, rfl⟩,
   ⟨0, ⟨[], withRules 1⟩, _, 4094, 4, _, _, _, rfl, by decide +kernel, by decide +kernel, rfl, by decide +kernel,
   by decide +kernel, by decide +kernel, rfl⟩,
   ⟨0, ⟨[], withRules 1⟩, _, 5000, 4, _, _, _, rfl, by decide +kernel, by decide +kernel, rfl, by decide +kernel,
   by decide +kernel, by decide +kernel, rfl⟩,
   ⟨0, ⟨[], withRules 2⟩, _, 16, 4, _, _, _, rfl, by decide +kernel, by decide +kernel, rfl, by decide +kernel,
   by decide +kernel, by decide +kernel, rfl⟩,
   ⟨0, ⟨[], withRules 1⟩, _, 16, 4, _, _, _, rfl, by decide +kernel, by decide +kernel, rfl, by decide +kernel,
   by decide +kernel, by decide +kernel, rfl⟩,
   ⟨0, ⟨[], withRules 3⟩, _, 5000, 4, _, _, _, rfl, by decide +kernel, by decide +kernel, rfl, by decide +kernel,
   by decide +kernel, by decide +kernel, rfl⟩,
   ⟨0, ⟨[], withRules 2⟩, _, 16, 2, _, _, _, rfl, by decide +kernel, by decide +kernel, rfl, by decide +kernel,
   by decide +kernel, by decide +kernel, rfl⟩⟩

theorem test_images_are_staged_and_proven :
    (∃ (dt : Nat) (s : State) (d : Device) (a : Nat), d = elapse s.dev dt ∧ d.sup.fwState = 2 ∧ activeCtl d = some a) ∧
    (∃ (dt : Nat) (s : State) (d : Device) (a v : Nat), d = elapse s.dev dt ∧ activeCtl d = some a ∧ v =
    Config.imageSecurityVersion (runningImage d a) ∧ slotSt (norOf d a) ((ctlAt d a).booted - 1) = 4 ∧ (ctlAt d a).bootAt + 60 *
    10 ^ 9 ≤ d.mono ∧ fatalLately d = false) ∧
    (∃ (dt : Nat) (s : State) (d : Device) (p : Die) (u : McUnit), d = elapse s.dev dt ∧ u = mcAt d p ∧ u.probation = 1 ∧
    u.fault = false) ∧
    (∃ (dt : Nat) (s : State) (d : Device) (p : Die), d = elapse s.dev dt ∧ pixUp d p = true) ∧
    (∃ (dt : Nat) (s : State) (d : Device) (p : Die), d = elapse s.dev dt ∧ pixUp d p = true) :=
  ⟨⟨0, ⟨[], setReg { dev0 with sup := { dev0.sup with fwState := 2, fwImage := [8, 8] } } 0x2520 5 (.bytes [8, 8])⟩, _, 0, rfl,
   by decide +kernel⟩,
   ⟨0, ⟨[], dev0⟩, _, 0, _, rfl, by decide +kernel, rfl, by decide +kernel⟩,
   ⟨0, ⟨[], setMc dev0 2
   { McUnit.reset with state0 := 3, state1 := 4, image0 := [1], image1 := [2], running := 1, probation := 1 }⟩, _, 2, _, rfl,
   rfl, by decide +kernel⟩,
   ⟨0, ⟨[], dev0⟩, _, 2, rfl, by decide +kernel⟩,
   ⟨0, ⟨[], setMc dev0 2 { McUnit.reset with probation := 4 }⟩, _, 2, rfl, by decide +kernel⟩⟩

theorem test_heartbeats_are_sent_heard_and_missed :
    (∃ (dt : Nat) (s : State) (d : Device), d = elapse s.dev dt ∧ d.pins.hbmon.length = 2 ∧ (∀ p, p < 6 → (pixAt d
    p).heard.length = 2)) ∧
    (∃ (dt : Nat) (s : State) (d : Device), d = elapse s.dev dt ∧ d.pins.hbmon.length = 2 ∧ (∀ p, p < 6 → (pixAt d
    p).heard.length = 2)) ∧
    (∃ (dt : Nat) (s : State) (d : Device) (c : Ctl) (p : Die), d = elapse s.dev dt ∧ ctlUp d c = true ∧ pixUp d p = true ∧
    (pixAt d p).state = 1) ∧
    (∃ (dt : Nat) (s : State) (d : Device) (c : Ctl) (p : Die), d = elapse s.dev dt ∧ ctlUp d c = true ∧ pixUp d p = true ∧
    (pixAt d p).state = 1) ∧
    (∃ (dt : Nat) (s : State) (d : Device) (c : Ctl), d = elapse s.dev dt ∧ ctlUp d c = true ∧ d.pins.hbtest = false) ∧
    (∃ (dt : Nat) (s : State) (d : Device) (c : Ctl), d = elapse s.dev dt ∧ ctlUp d c = true ∧ d.pins.hbtest = false) ∧
    (∃ (dt : Nat) (s : State) (d : Device) (c : Ctl), d = elapse s.dev dt ∧ ctlUp d c = true ∧ (ctlAt d c).silentS = false ∧
    (ctlAt d c).heardS + 3000000 ≤ d.mono) ∧
    (∃ (dt : Nat) (s : State) (d : Device) (c : Ctl), d = elapse s.dev dt ∧ ctlUp d c = true ∧ (ctlAt d c).silentS = false ∧
    (ctlAt d c).heardS + 3000000 ≤ d.mono) ∧
    (∃ (dt : Nat) (s : State) (d : Device) (c : Ctl), d = elapse s.dev dt ∧ ctlUp d c = true ∧ (ctlAt d c).silentW = false ∧
    (ctlAt d c).heardW + 3000000 ≤ d.mono) ∧
    (∃ (dt : Nat) (s : State) (d : Device) (c : Ctl), d = elapse s.dev dt ∧ ctlUp d c = true ∧ (ctlAt d c).silentW = false ∧
    (ctlAt d c).heardW + 3000000 ≤ d.mono) ∧
    (∃ (dt : Nat) (s : State) (d : Device), d = elapse s.dev dt ∧ d.pins.hbtest = false ∧ d.pins.pwrgood = true) ∧
    (∃ (dt : Nat) (s : State) (d : Device), d = elapse s.dev dt ∧ d.pins.hbtest = false ∧ d.pins.pwrgood = true) ∧
    (∃ (dt : Nat) (s : State) (d : Device), d = elapse s.dev dt ∧ d.pins.hbtest = true) ∧
    (∃ (dt : Nat) (s : State) (d : Device), d = elapse s.dev dt ∧ d.pins.hbtest = true) :=
  ⟨⟨0, ⟨[], dev0⟩, _, rfl, by decide +kernel⟩,
   ⟨0, ⟨[], setCtl dev0 1 (dieC 9)⟩, _, rfl, by decide +kernel⟩,
   ⟨0, ⟨[], dev0⟩, _, 1, 2, rfl, by decide +kernel⟩,
   ⟨0, ⟨[], silence id⟩, _, 1, 2, rfl, by decide +kernel⟩,
   ⟨0, ⟨[], dev0⟩, _, 1, rfl, by decide +kernel⟩,
   ⟨0, ⟨[], silence id⟩, _, 1, rfl, by decide +kernel⟩,
   ⟨0, ⟨[], silence fun c => { c with silentS := false }⟩, _, 1, rfl, by decide +kernel⟩,
   ⟨0, ⟨[], silence fun c => { c with silentS := false, silentW := false }⟩, _, 1, rfl, by decide +kernel⟩,
   ⟨0, ⟨[], silence fun c => { c with silentW := false }⟩, _, 1, rfl, by decide +kernel⟩,
   ⟨0, ⟨[], silence fun c => { c with silentS := false, silentW := false }⟩, _, 1, rfl, by decide +kernel⟩,
   ⟨0, ⟨[], dev0⟩, _, rfl, by decide +kernel⟩,
   ⟨0, ⟨[], silence id⟩, _, rfl, by decide +kernel⟩,
   ⟨0, ⟨[], { dev0 with pins := { dev0.pins with hbtest := true } }⟩, _, rfl, by decide +kernel⟩,
   ⟨0, ⟨[], setCtl { dev0 with pins := { dev0.pins with hbtest := true } } 1 CtlDie.reset⟩, _, rfl, by decide +kernel⟩⟩

theorem test_takeovers_need_four_tokens :
    (∃ (dt : Nat) (s : State) (d : Device) (c : Ctl) (x : CtlDie), d = elapse s.dev dt ∧ x = ctlAt d c ∧ ctlUp d c = true ∧
    bothSilent d c = true ∧ x.heardS + 5000000 ≤ d.mono ∧ (d.pins.hbtest = true ∨ x.heardW + 5000000 ≤ d.mono)) ∧
    (∃ (dt : Nat) (s : State) (d : Device) (c : Ctl) (x : CtlDie), d = elapse s.dev dt ∧ x = ctlAt d c ∧ ctlUp d c = true ∧
    bothSilent d c = true ∧ x.heardS + 5000000 ≤ d.mono ∧ (d.pins.hbtest = true ∨ x.heardW + 5000000 ≤ d.mono)) ∧
    (∃ (dt : Nat) (s : State) (d : Device) (c : Ctl) (x : CtlDie), d = elapse s.dev dt ∧ x = ctlAt d c ∧ ctlUp d c = true ∧
    bothSilent d c = true ∧ x.heardS + 5000000 ≤ d.mono ∧ (d.pins.hbtest = true ∨ x.heardW + 5000000 ≤ d.mono)) ∧
    (∃ (dt : Nat) (s : State) (d : Device) (c : Ctl) (x : CtlDie), d = elapse s.dev dt ∧ x = ctlAt d c ∧ ctlUp d c = true ∧
    bothSilent d c = true ∧ x.heardS + 5000000 ≤ d.mono ∧ (d.pins.hbtest = true ∨ x.heardW + 5000000 ≤ d.mono)) ∧
    (∃ (dt : Nat) (s : State) (d : Device) (p : Die) (c : Ctl), d = elapse s.dev dt ∧ pixUp d p = true ∧ asksTokens d c = true) ∧
    (∃ (dt : Nat) (s : State) (d : Device) (p : Die) (c : Ctl), d = elapse s.dev dt ∧ pixUp d p = true ∧ asksTokens d c = true) ∧
    (∃ (dt : Nat) (s : State) (d : Device) (p : Die) (c : Ctl), d = elapse s.dev dt ∧ pixUp d p = true ∧ asksTokens d c = true) ∧
    (∃ (dt : Nat) (s : State) (d : Device) (c : Ctl) (x : CtlDie), d = elapse s.dev dt ∧ x = ctlAt d c ∧ ctlUp d c = true) ∧
    (∃ (dt : Nat) (s : State) (d : Device) (c : Ctl) (x : CtlDie), d = elapse s.dev dt ∧ x = ctlAt d c ∧ ctlUp d c = true) ∧
    (∃ (dt : Nat) (s : State) (d : Device) (c : Ctl) (x : CtlDie), d = elapse s.dev dt ∧ x = ctlAt d c ∧ ctlUp d c = true) ∧
    (∃ (dt : Nat) (s : State) (d : Device) (c : Ctl) (x : CtlDie) (t : Nat), d = elapse s.dev dt ∧ x = ctlAt d c ∧ x.takeover =
    some t ∧ x.role = 10 ∧ t + 20000000 ≤ d.mono ∧ (tokensOf d c).length < 4) ∧
    (∃ (dt : Nat) (s : State) (d : Device) (c : Ctl), d = elapse s.dev dt ∧ (∀ t, (ctlAt d c).few = some t → d.mono < t +
    5000000)) ∧
    (∃ (dt : Nat) (s : State) (d : Device) (c : Ctl), d = elapse s.dev dt ∧ (∀ t, (ctlAt d c).few = some t → d.mono < t +
    5000000)) ∧
    (∃ (dt : Nat) (s : State) (d : Device) (c : Ctl) (t : Nat), d = elapse s.dev dt ∧ ctlUp d c = true ∧ roleOf d c = 3 ∧ (ctlAt
    d c).few = some t ∧ t + 5000000 ≤ d.mono) :=
  ⟨⟨0, ⟨[], silence id⟩, _, 1, _, rfl, rfl, by decide +kernel⟩,
   ⟨0, ⟨[], setCtl dev0 0 { dieC 3 with heardS := 1, heardW := 1, silentS := true, silentW := true }⟩, _, 0, _, rfl, rfl,
   by decide +kernel⟩,
   ⟨0, ⟨[], silence fun c => { c with role := 9 }⟩, _, 1, _, rfl, rfl, by decide +kernel⟩,
   ⟨0, ⟨[], silence fun c => { c with role := 7 }⟩, _, 1, _, rfl, rfl, by decide +kernel⟩,
   ⟨0, ⟨[], taking [] id⟩, _, 2, 1, rfl, by decide +kernel⟩,
   ⟨0, ⟨[], modPix (taking [] id) 2 fun q => { q with heard := [1, 1] }⟩, _, 2, 1, rfl, by decide +kernel⟩,
   ⟨0, ⟨[], modPix dev0 2 fun q => { q with token := 1 }⟩, _, 2, 0, rfl, by decide +kernel⟩,
   ⟨0, ⟨[], taking [] id⟩, _, 1, _, rfl, rfl, by decide +kernel⟩,
   ⟨0, ⟨[], silence fun c => { c with minority := some 99000000000 }⟩, _, 1, _, rfl, rfl, by decide +kernel⟩,
   ⟨0, ⟨[], dev0⟩, _, 1, _, rfl, rfl, by decide +kernel⟩,
   ⟨0, ⟨[], taking [2] fun c => { c with takeover := some 99000000000 }⟩, _, 1, _, 99000000000, rfl, rfl, by decide +kernel⟩,
   ⟨0, ⟨[], dev0⟩, _, 0, rfl, by decide +kernel⟩,
   ⟨0, ⟨[], modCtl dev0 0 fun x => { x with few := some 99996000000 }⟩, _, 0, rfl, by decide +kernel⟩,
   ⟨0, ⟨[], modCtl ([0, 1, 2].foldl (fun d p => modPix d p fun q => { q with token := 1 }) dev0) 0 fun x =>
   { x with few := some 99990000000 }⟩, _, 0, 99990000000, rfl, by decide +kernel⟩⟩

theorem test_shadows_are_compared :
    (∃ (dt : Nat) (s : State) (d : Device), d = elapse s.dev dt ∧ d.cmp.kind ≠ 0 ∧ d.cmp.kind ≠ 6 ∧ d.cmp.digest ≠ [] ∧ peerPath
    d = true ∧ d.mono ≤ d.cmp.formedAt + 2000000) ∧
    (∃ (dt : Nat) (s : State) (d : Device) (dg : List Byte) (a : Nat), d = elapse s.dev dt ∧ d.cmp.kind = 2 ∧ d.cmp.digest ≠ []
    ∧ (dg ≠ d.cmp.digest ∨ d.cmp.formedAt + 2000000 < d.mono) ∧ activeCtl d = some a ∧ peerPath d = true) ∧
    (∃ (dt : Nat) (s : State) (d : Device) (dg : List Byte) (a : Nat), d = elapse s.dev dt ∧ d.cmp.kind = 2 ∧ d.cmp.digest ≠ []
    ∧ (dg ≠ d.cmp.digest ∨ d.cmp.formedAt + 2000000 < d.mono) ∧ activeCtl d = some a ∧ peerPath d = true) ∧
    (∃ (dt : Nat) (s : State) (d : Device) (a : Nat), d = elapse s.dev dt ∧ d.cmp.kind = 1 ∧ d.cmp.digest ≠ [] ∧ activeCtl d =
    some a ∧ d.cmp.failed < 2 ∧ d.cmp.formedAt + 2000000 ≤ d.mono) ∧
    (∃ (dt : Nat) (s : State) (d : Device) (a : Nat), d = elapse s.dev dt ∧ d.cmp.kind = 1 ∧ d.cmp.digest ≠ [] ∧ activeCtl d =
    some a ∧ 2 ≤ d.cmp.failed ∧ d.cmp.formedAt + 2000000 ≤ d.mono) ∧
    (∃ (dt : Nat) (s : State) (d : Device), d = elapse s.dev dt ∧ (d.cmp.digest = [] ∨ d.mono < d.cmp.formedAt + 2000000)) ∧
    (∃ (dt : Nat) (s : State) (d : Device), d = elapse s.dev dt ∧ (d.cmp.digest = [] ∨ d.mono < d.cmp.formedAt + 2000000)) ∧
    (∃ (dt : Nat) (s : State) (d : Device) (a : Nat), d = elapse s.dev dt ∧ d.cmp.kind = 1 ∧ 60 ≤ d.cmp.matched ∧ d.sup.handover
    = false ∧ activeCtl d = some a) ∧
    (∃ (dt : Nat) (s : State) (d : Device) (a : Nat), d = elapse s.dev dt ∧ d.cmp.kind = 2 ∧ 600 ≤ d.cmp.matched ∧
    d.sup.handover = false ∧ activeCtl d = some a) ∧
    (∃ (dt : Nat) (s : State) (d : Device) (a o : Nat), d = elapse s.dev dt ∧ regN d 0x2300 7 ≠ 0 ∧ activeCtl d = some a ∧
    d.sup.drillAt + regN d 0x2300 7 * 10 ^ 9 ≤ d.mono ∧ standbyIn d [4] = some o) ∧
    (∃ (dt : Nat) (s : State) (d : Device) (c : Ctl) (a : Nat), d = elapse s.dev dt ∧ ctlUp d c = true ∧ roleOf d c = 6 ∧ (ctlAt
    d c).bootAt + regN d 0x2300 0x0A * 10 ^ 9 ≤ d.mono ∧ d.cmp.kind = 0 ∧ activeCtl d = some a) ∧
    (∃ (dt : Nat) (s : State) (d : Device) (c : Ctl) (a : Nat), d = elapse s.dev dt ∧ ctlUp d c = true ∧ roleOf d c = 6 ∧ (ctlAt
    d c).bootAt + regN d 0x2300 0x0A * 10 ^ 9 ≤ d.mono ∧ d.cmp.kind = 0 ∧ activeCtl d = some a) :=
  ⟨⟨0, ⟨[], compare 2 3 5 5 0⟩, _, rfl, by decide +kernel⟩,
   ⟨0, ⟨[], compare 2 3 5 5 0⟩, _, [3], 0, rfl, by decide +kernel⟩,
   ⟨0, ⟨[], { compare 2 3 5 5 0 with mono := 100003000000 }⟩, _, [1, 2], 0, rfl, by decide +kernel⟩,
   ⟨2000000, ⟨[], compare 1 2 2 5 0⟩, _, 0, rfl, by decide +kernel⟩,
   ⟨2000000, ⟨[], compare 1 2 2 5 2⟩, _, 0, rfl, by decide +kernel⟩,
   ⟨0, ⟨[], dev0⟩, _, rfl, by decide +kernel⟩,
   ⟨0, ⟨[], compare 1 2 2 5 2⟩, _, rfl, by decide +kernel⟩,
   ⟨0, ⟨[], compare 1 2 2 60 0⟩, _, 0, rfl, by decide +kernel⟩,
   ⟨0, ⟨[], compare 2 3 5 600 0⟩, _, 0, rfl, by decide +kernel⟩,
   ⟨0, ⟨[], withRegs [(0x2300, 7, 60)] dev0⟩, _, 0, 1, rfl, by decide +kernel⟩,
   ⟨0, ⟨[], setCtl dev0 1 (dieC 6)⟩, _, 1, 0, rfl, by decide +kernel⟩,
   ⟨0, ⟨[], { setCtl dev0 1 (dieC 6) with sup := { dev0.sup with suspects := [1] } }⟩, _, 1, 0, rfl, by decide +kernel⟩⟩

theorem test_control_dies_boot_and_take_over :
    (∃ (dt : Nat) (s : State) (d : Device) (c : Ctl) (p : Die) (x : CtlDie) (t : Nat), d = elapse s.dev dt ∧ x = ctlAt d c ∧
    x.takeover = some t ∧ ctlUp d c = true ∧ x.role = 10 ∧ (pixAt d p).token = c + 2 ∧ 4 ≤ (tokensOf d c).length ∧ d.mono ≤ t +
    20000000 ∧ x.warm = true) ∧
    (∃ (dt : Nat) (s : State) (d : Device) (c : Ctl) (p : Die) (x : CtlDie) (t j : Nat), d = elapse s.dev dt ∧ x = ctlAt d c ∧
    x.takeover = some t ∧ ctlUp d c = true ∧ x.role = 10 ∧ (pixAt d p).token = c + 2 ∧ 4 ≤ (tokensOf d c).length ∧ d.mono ≤ t +
    20000000 ∧ x.warm = false ∧ newestSlot x = some j) ∧
    (∃ (dt : Nat) (s : State) (d : Device) (c : Ctl) (p : Die) (x : CtlDie) (t j : Nat), d = elapse s.dev dt ∧ x = ctlAt d c ∧
    x.takeover = some t ∧ ctlUp d c = true ∧ x.role = 10 ∧ (pixAt d p).token = c + 2 ∧ 4 ≤ (tokensOf d c).length ∧ d.mono ≤ t +
    20000000 ∧ x.warm = false ∧ newestSlot x = some j) ∧
    (∃ (dt : Nat) (s : State) (d f g : Device) (c : Ctl) (r : Option Nat), d = elapse s.dev dt ∧ ctlReady d c = true ∧ f =
    modCtl (bootLog (modClock
    { d with can := { d.can with errs := d.can.errs.set c (if d.can.errs.getD c 0 = 0 then 3 else d.can.errs.getD c 0) } } c fun
    x => { x with faults := x.faults.filter (· != 4) }) c) c (fun x =>
    { x with tb3 := { x.tb3 with ns := max (bootTb3 d c) x.tb3.ns, frac := 0, slew := 0 } }) ∧ bootSelect (bootRom f c) c = (g,
    r)) ∧
    (∃ (dt : Nat) (s : State) (d f g : Device) (c : Ctl) (r : Option Nat), d = elapse s.dev dt ∧ ctlReady d c = true ∧ f =
    modCtl (bootLog (modClock
    { d with can := { d.can with errs := d.can.errs.set c (if d.can.errs.getD c 0 = 0 then 3 else d.can.errs.getD c 0) } } c fun
    x => { x with faults := x.faults.filter (· != 4) }) c) c (fun x =>
    { x with tb3 := { x.tb3 with ns := max (bootTb3 d c) x.tb3.ns, frac := 0, slew := 0 } }) ∧ bootSelect (bootRom f c) c = (g,
    r)) ∧
    (∃ (dt : Nat) (s : State) (d f g : Device) (c : Ctl) (r : Option Nat), d = elapse s.dev dt ∧ ctlReady d c = true ∧ f =
    modCtl (bootLog (modClock
    { d with can := { d.can with errs := d.can.errs.set c (if d.can.errs.getD c 0 = 0 then 3 else d.can.errs.getD c 0) } } c fun
    x => { x with faults := x.faults.filter (· != 4) }) c) c (fun x =>
    { x with tb3 := { x.tb3 with ns := max (bootTb3 d c) x.tb3.ns, frac := 0, slew := 0 } }) ∧ bootSelect (bootRom f c) c = (g,
    r)) :=
  ⟨⟨0, ⟨[], taking [0, 1, 2, 3] fun c => { c with warm := true }⟩, _, 1, 3, _, 99995000000, rfl, rfl, by decide +kernel⟩,
   ⟨0, ⟨[], taking [0, 1, 2, 3] fun c => { c with slot0 := sealed 0 5 }⟩, _, 1, 3, _, 99995000000, 0, rfl, rfl,
   by decide +kernel⟩,
   ⟨0, ⟨[], taking [0, 1, 2, 3] fun c => { c with slot0 := sealed 0 5, retained := some (0, [1, 2]) }⟩, _, 1, 3, _, 99995000000,
   0, rfl, rfl, by decide +kernel⟩,
   ⟨0, ⟨[], setCtl dev0 1 { dieC 1 with flash := (dieC 1).flash }⟩, _, _, _, 1, _, rfl, by decide +kernel, rfl, rfl⟩,
   ⟨0, ⟨[], setCtl dev0 1 (dieC 1)⟩, _, _, _, 1, _, rfl, by decide +kernel, rfl, rfl⟩,
   ⟨0, ⟨[], setCtl (setCtl dev0 0 (dieC 2)) 1 (dieC 1)⟩, _, _, _, 1, _, rfl, by decide +kernel, rfl, rfl⟩⟩

theorem test_pixel_dies_come_back :
    (∃ (dt : Nat) (s : State) (d : Device) (p : Die) (q : PixelDie), d = elapse s.dev dt ∧ q = pixAt d p ∧ q.out = false ∧
    q.state = 3 ∧ q.resetAt + 1000000 ≤ d.mono ∧ (railAt d (p + 2)).held = false ∧ d.pins.pwrgood = true ∧ d.pins.resetn = true
    ∧ 3 ≤ (clockAt d (p + 2)).pll) ∧
    (∃ (dt : Nat) (s : State) (d : Device) (p : Die) (q : PixelDie), d = elapse s.dev dt ∧ q = pixAt d p ∧ q.out = false ∧
    q.state = 3 ∧ q.resetAt + 1000000 ≤ d.mono ∧ (railAt d (p + 2)).held = false ∧ d.pins.pwrgood = true ∧ d.pins.resetn = true
    ∧ 3 ≤ (clockAt d (p + 2)).pll) ∧
    (∃ (dt : Nat) (s : State) (d : Device) (p : Die) (q : PixelDie), d = elapse s.dev dt ∧ q = pixAt d p ∧ q.out = false ∧
    q.state = 3 ∧ q.resetAt + 1000000 ≤ d.mono ∧ (railAt d (p + 2)).held = false ∧ d.pins.pwrgood = true ∧ d.pins.resetn = true
    ∧ 3 ≤ (clockAt d (p + 2)).pll) ∧
    (∃ (dt : Nat) (s : State) (d : Device) (p : Die) (q : PixelDie), d = elapse s.dev dt ∧ q = pixAt d p ∧ q.out = false ∧
    q.state = 3 ∧ q.resetAt + 1000000 ≤ d.mono ∧ (railAt d (p + 2)).held = false ∧ d.pins.pwrgood = true ∧ d.pins.resetn = true
    ∧ 3 ≤ (clockAt d (p + 2)).pll) ∧
    (∃ (dt : Nat) (s : State) (d : Device) (p : Die) (q : PixelDie), d = elapse s.dev dt ∧ q = pixAt d p ∧ q.state = 4) ∧
    (∃ (dt : Nat) (s : State) (d : Device) (p : Die) (q : PixelDie), d = elapse s.dev dt ∧ q = pixAt d p ∧ q.state = 4) ∧
    (∃ (dt : Nat) (s : State) (d : Device) (p : Die) (q : PixelDie), d = elapse s.dev dt ∧ q = pixAt d p ∧ q.state = 4) ∧
    (∃ (dt : Nat) (s : State) (d : Device) (p : Die) (q : PixelDie) (a : Nat), d = elapse s.dev dt ∧ q = pixAt d p ∧ activeCtl d
    = some a ∧ q.out = true ∧ q.state = 3 ∧ q.token = a + 2 ∧ q.tb1.loaded = true ∧ (mcAt d p).state0 ≠ 0 ∧ (∀ m, m < 4 →
    (memIfAt d (ifKey p m)).state ≠ 2)) :=
  ⟨⟨0, ⟨[], coming 2 fun q => { q with repair := true }⟩, _, 2, _, rfl, rfl, by decide +kernel⟩,
   ⟨0, ⟨[], coming 2 id⟩, _, 2, _, rfl, rfl, by decide +kernel⟩,
   ⟨0, ⟨[], setMc (setCtl (setCtl (coming 2 id) 0 (dieC 2)) 1 CtlDie.reset) 2 { McUnit.reset with install := some [7] }⟩, _, 2,
   _, rfl, rfl, by decide +kernel⟩,
   ⟨0, ⟨[], setCtl (setCtl (coming 2 id) 0 CtlDie.reset) 1 CtlDie.reset⟩, _, 2, _, rfl, rfl, by decide +kernel⟩,
   ⟨0, ⟨[], coming 2 fun q => { q with state := 4, repair := true, spare := 3 }⟩, _, 2, _, rfl, rfl, by decide +kernel⟩,
   ⟨0, ⟨[], coming 2 fun q => { q with state := 4, repair := true, spare := 3 }⟩, _, 2, _, rfl, rfl, by decide +kernel⟩,
   ⟨0, ⟨[], setCtl (setCtl (coming 2 fun q => { q with state := 4, repair := true, spare := 3 }) 0 CtlDie.reset) 1
   CtlDie.reset⟩, _, 2, _, rfl, rfl, by decide +kernel⟩,
   ⟨0, ⟨[], setMc
   { modPix dev0 2 (fun q => { q with state := 3 }) with record := [(256 * 0x4040 + 1, .num 1), (256 * 0x4808 + 1, .num 1)] } 2
   { McUnit.reset with state0 := 3 }⟩, _, 2, _, 0, rfl, rfl, by decide +kernel⟩⟩

theorem test_can_nodes_obey_nmt :
    (∃ (dt : Nat) (s : State) (d : Device) (f : CanPort) (node : Nat), d = elapse s.dev dt ∧ nmtHeard d f node = true) ∧
    (∃ (dt : Nat) (s : State) (d : Device) (f : CanPort) (node : Nat), d = elapse s.dev dt ∧ nmtHeard d f node = true) ∧
    (∃ (dt : Nat) (s : State) (d : Device) (f : CanPort) (node : Nat), d = elapse s.dev dt ∧ nmtHeard d f node = true) ∧
    (∃ (dt : Nat) (s : State) (d : Device) (f : CanPort) (node : Nat) (i : Instr), d = elapse s.dev dt ∧ (canLive d f = false ∨
    (activeCtl d ≠ some f.val ∧ peerPath d = false) ∨ (node ≠ 0 ∧ node ≠ d.can.nodes.getD f 0)) ∧ i ∈ [Instr.nmtStartRemoteNode
    dt f node, .nmtEnterPreOperational dt f node, .nmtStopRemoteNode dt f node, .nmtResetCommunication dt f node, .nmtResetNode
    dt f node]) ∧
    (∃ (dt : Nat) (s : State) (d : Device) (f : CanPort) (node : Nat) (i : Instr), d = elapse s.dev dt ∧ (canLive d f = false ∨
    (activeCtl d ≠ some f.val ∧ peerPath d = false) ∨ (node ≠ 0 ∧ node ≠ d.can.nodes.getD f 0)) ∧ i ∈ [Instr.nmtStartRemoteNode
    dt f node, .nmtEnterPreOperational dt f node, .nmtStopRemoteNode dt f node, .nmtResetCommunication dt f node, .nmtResetNode
    dt f node]) ∧
    (∃ (dt : Nat) (s : State) (d : Device) (f : CanPort) (node : Nat) (c : CanUnit), d = elapse s.dev dt ∧ nmtHeard d f node =
    true ∧ c =
    { d.can with nmt := 3, nodes := [regN d 0x2010 1, regN d 0x2010 2], rates := (regN d 0x2010 3, regN d 0x2010 4), sentAt := [], sent := [], latched := [] }) ∧
    (∃ (dt : Nat) (s : State) (d : Device) (f : CanPort) (node : Nat) (c : CanUnit), d = elapse s.dev dt ∧ nmtHeard d f node =
    true ∧ c =
    { d.can with nmt := 3, nodes := [regN d 0x2010 1, regN d 0x2010 2], rates := (regN d 0x2010 3, regN d 0x2010 4), sentAt := [], sent := [], latched := [] }) ∧
    (∃ (dt : Nat) (s : State) (d : Device) (f : CanPort), d = elapse s.dev dt ∧ canLive d f = true ∧ d.can.beatAt.getD f 0 +
    regN d 0x1017 0 * 1000000 ≤ d.mono) ∧
    (∃ (dt : Nat) (s : State) (d : Device) (r : EventRec), d = elapse s.dev dt ∧ d.can.waiting = some r ∧ emcyOn d = true ∧
    emcyInhibited d = false) ∧
    (∃ (dt : Nat) (s : State) (d : Device) (f : CanPort), d = elapse s.dev dt ∧ ctlUp d f = true) ∧
    (∃ (dt : Nat) (s : State) (d : Device) (f : CanPort), d = elapse s.dev dt ∧ ctlUp d f = true) ∧
    (∃ (dt : Nat) (s : State) (d : Device) (f : CanPort), d = elapse s.dev dt ∧ ctlUp d f = true) :=
  ⟨⟨0, ⟨[], { dev0 with can := { dev0.can with nmt := 2 } }⟩, _, 1, 32, rfl, by decide +kernel⟩,
   ⟨0, ⟨[], dev0⟩, _, 0, 0, rfl, by decide +kernel⟩,
   ⟨0, ⟨[], dev0⟩, _, 1, 32, rfl, by decide +kernel⟩,
   ⟨0, ⟨[], dev0⟩, _, 1, 77, .nmtResetNode 0 1 77, rfl, by decide +kernel⟩,
   ⟨0, ⟨[], setCtl dev0 1 CtlDie.reset⟩, _, 1, 0, .nmtStopRemoteNode 0 1 0, rfl, by decide +kernel⟩,
   ⟨0, ⟨[], dev0⟩, _, 1, 32, _, rfl, by decide +kernel, rfl⟩,
   ⟨0, ⟨[], dev0⟩, _, 1, 32, _, rfl, by decide +kernel, rfl⟩,
   ⟨0, ⟨[], withRegs [(0x1017, 0, 500)] dev0⟩, _, 1, rfl, by decide +kernel⟩,
   ⟨0, ⟨[], { withRegs [(0x1014, 0, 0xA0)] dev0 with can := { dev0.can with waiting := some someEvent } }⟩, _, someEvent, rfl,
   by decide +kernel⟩,
   ⟨0, ⟨[], dev0⟩, _, 1, rfl, by decide +kernel⟩,
   ⟨0, ⟨[], dev0⟩, _, 0, rfl, by decide +kernel⟩,
   ⟨0, ⟨[], dev0⟩, _, 0, rfl, by decide +kernel⟩⟩

theorem test_pdos_telegrams_and_events_are_sent :
    (∃ (dt : Nat) (s : State) (d : Device) (f : CanPort) (cob n t v x : Nat) (data : List Byte), d = elapse s.dev dt ∧ canLive d
    f = true ∧ d.can.nmt = 3 ∧ ((List.range 64).filter fun n => regN d (0x1400 + n) 1 == cob % 2048) = [n] ∧ rpdoFields
    (mapEntries d (0x1600 + n)) data = some [(v, x)] ∧ mapIdx v = 0x6000 + t ∧ TagOpen d t) ∧
    (∃ (dt : Nat) (s : State) (d : Device) (m : Fin 16) (vals : List (Nat × Nat)), d = elapse s.dev dt ∧ (activeCtl d).isSome =
    true ∧ regN d (0x1800 + m) 2 = 0xFF ∧ pdoValid (regN d (0x1800 + m) 1) = true ∧ d.can.nmt = 3 ∧ 0 < regN d (0x1A00 + m) 0 ∧
    tget d.can.sentAt m 0 + regN d (0x1800 + m) 5 * 1000000 ≤ d.mono ∧ vals = tget d.can.latched m (tpdoSample d m)) ∧
    (∃ (dt : Nat) (s : State) (d : Device) (go : List Telegram), d = elapse s.dev dt ∧ (activeCtl d).isSome = true ∧ go =
    d.sup.telegrams.filter (fun t => t.late || decide (telegramLeft d t ≤ 0))) ∧
    (∃ (dt : Nat) (s : State) (d : Device) (k : SessNo) (x : Session) (b : List Byte), d = elapse s.dev dt ∧ x = sessAt d k ∧
    sessOpen d k = true ∧ (activeCtl d).isSome = true ∧ x.events ≠ [] ∧ x.counter + 1 < 0xFFFFFFF0 ∧ b = (x.events.take
    40).flatMap recBytes) :=
  ⟨⟨0, ⟨[], withRegs [(0x1405, 1, 0x205), (0x1605, 0, 1), (0x1605, 1, 0x60072020)] withTag⟩, _, 1, 0x205, 5, 7, 0x60072020,
   0x04030201, [1, 2, 3, 4], rfl, by decide +kernel, by decide +kernel, by decide +kernel, (by decide +kernel),
   by decide +kernel, ⟨by decide +kernel, by decide +kernel, by decide +kernel⟩⟩,
   ⟨0, ⟨[], withRegs [(0x1803, 2, 0xFF), (0x1803, 1, 0x183), (0x1803, 5, 10), (0x1A03, 0, 1), (0x1A03, 1, 0x21040008)] dev0⟩, _,
   3, _, rfl, by decide +kernel, by decide +kernel, by decide +kernel, (by decide +kernel), by decide +kernel,
   by decide +kernel, rfl⟩,
   ⟨0, ⟨[], { dev0 with sup := { dev0.sup with telegrams := [⟨3, 1, 5, false⟩, ⟨4, 2, 200000000000, false⟩] } }⟩, _, _, rfl,
   by decide +kernel, rfl⟩,
   ⟨0, ⟨[], withSession fun x => { x with events := [someEvent, someEvent] }⟩, _, 0, _, _, rfl, rfl, by decide +kernel,
   by decide +kernel, by decide +kernel, (by decide +kernel), rfl⟩⟩

theorem test_handshakes_open_sessions :
    (∃ (dt : Nat) (s : State) (d : Device) (port : EthPort), d = elapse s.dev dt ∧ hostPort d port = true) ∧
    (∃ (dt : Nat) (s : State) (d : Device) (port : EthPort), d = elapse s.dev dt ∧ dxpHeard d port = true) ∧
    (∃ (dt : Nat) (s : State) (d : Device) (port : EthPort) (k : SessNo), d = elapse s.dev dt ∧ dxpHeard d port = true ∧
    sessOpen d k = true) ∧
    (∃ (dt : Nat) (s : State) (d : Device) (port : EthPort) (k : SessNo), d = elapse s.dev dt ∧ dxpHeard d port = true ∧
    sessOpen d k = false) ∧
    (∃ (dt : Nat) (s : State) (d g : Device) (port : EthPort) (peer : Endpoint) (m : Hello) (k : Nat) (c : List Byte), d =
    elapse s.dev dt ∧ dxpHeard d port = true ∧ g = dropHandshake d peer ∧ helloSession g m = (k, 0) ∧ c = challengeBytes d k m) ∧
    (∃ (dt : Nat) (s : State) (d g : Device) (port : EthPort) (peer : Endpoint) (m : Hello) (k : Nat) (c : List Byte), d =
    elapse s.dev dt ∧ dxpHeard d port = true ∧ g = dropHandshake d peer ∧ helloSession g m = (k, 0) ∧ c = challengeBytes d k m) ∧
    (∃ (dt : Nat) (s : State) (d g : Device) (port : EthPort) (peer : Endpoint) (m : Hello) (k code : Nat), d = elapse s.dev dt
    ∧ dxpHeard d port = true ∧ g = dropHandshake d peer ∧ helloSession g m = (k, code) ∧ code ≠ 0) ∧
    (∃ (dt : Nat) (s : State) (d g : Device) (port : EthPort) (peer : Endpoint) (m : Hello) (k code : Nat), d = elapse s.dev dt
    ∧ dxpHeard d port = true ∧ g = dropHandshake d peer ∧ helloSession g m = (k, code) ∧ code ≠ 0) ∧
    (∃ (dt : Nat) (s : State) (d g : Device) (port : EthPort) (peer : Endpoint) (sig : List Byte) (h : Handshake) (roles code :
    Nat), d = elapse s.dev dt ∧ dxpHeard d port = true ∧ handshakeOf d peer = some h ∧ handshakeLate d h = false ∧ g = (if
    (Config.chainAnchor (regB d 0x2020 9) h.hello.chain).isSome = true ∧ (baseOf (ctlAt d (supDie d)) 0).st = 1 then raise d
    (supDie d) 52 0x2020 else d) ∧ proveCheck g h sig = (roles, code)) ∧
    (∃ (dt : Nat) (s : State) (d : Device) (peer : Endpoint) (h : Handshake), d = elapse s.dev dt ∧ handshakeOf d peer = some h
    ∧ (activeCtl d).isSome = true ∧ handshakeLate d h = true) :=
  ⟨⟨0, ⟨[], dev0⟩, _, 0, rfl, by decide +kernel⟩,
   ⟨0, ⟨[], dev0⟩, _, 0, rfl, by decide +kernel⟩,
   ⟨0, ⟨[], dev0⟩, _, 0, 0, rfl, by decide +kernel⟩,
   ⟨0, ⟨[], dev0⟩, _, 1, 1, rfl, by decide +kernel⟩,
   ⟨0, ⟨[], dev0⟩, _, _, 0, host, helloMsg 0xFF, 1, _, rfl, by decide +kernel, rfl, by decide +kernel, rfl⟩,
   ⟨0, ⟨[], modSess { dev0 with sup := { dev0.sup with handshakes := [shake] } } 3 (fun x => { x with state := 2 })⟩, _, _, 0,
   host, helloMsg 3, 3, _, rfl, by decide +kernel, rfl, by decide +kernel, rfl⟩,
   ⟨0, ⟨[], dev0⟩, _, _, 0, host, helloMsg 0, 0, 54, rfl, by decide +kernel, rfl, by decide +kernel⟩,
   ⟨0, ⟨[], dev0⟩, _, _, 0, host, helloMsg 9, 0, 11, rfl, by decide +kernel, rfl, by decide +kernel⟩,
   ⟨0, ⟨[], modSess { dev0 with sup := { dev0.sup with handshakes := [shake] } } 3 (fun x => { x with state := 2 })⟩, _, _, 0,
   host, [5], shake, _, _, rfl, by decide +kernel, by decide +kernel, by decide +kernel, rfl, rfl⟩,
   ⟨0, ⟨[], modSess { dev0 with mono := 200000000000, sup := { dev0.sup with handshakes := [shake] } } 3 (fun x =>
   { x with state := 2 })⟩, _, host, shake, rfl, by decide +kernel⟩⟩

theorem test_requests_are_executed_and_answered :
    (∃ (dt : Nat) (s : State) (d g : Device) (port : EthPort) (peer : Endpoint) (k : SessNo) (seq idx sub : Nat) (v : List
    Byte), d = elapse s.dev dt ∧ NewRequest d port k seq ∧ g = heardFrom d port peer k seq ∧ readCode g (sessWho k) idx sub = 1
    ∧ v = valWire idx sub (readReg g idx sub) ∧ v.length ≤ 1396) ∧
    (∃ (dt : Nat) (s : State) (d g : Device) (port : EthPort) (peer : Endpoint) (k : SessNo) (seq idx sub code : Nat), d =
    elapse s.dev dt ∧ NewRequest d port k seq ∧ g = heardFrom d port peer k seq ∧ readCode g (sessWho k) idx sub = code ∧ code ≠
    1) ∧
    (∃ (dt : Nat) (s : State) (d g : Device) (port : EthPort) (peer : Endpoint) (k : SessNo) (seq idx sub code : Nat), d =
    elapse s.dev dt ∧ NewRequest d port k seq ∧ g = heardFrom d port peer k seq ∧ readCode g (sessWho k) idx sub = code ∧ code ≠
    1) ∧
    (∃ (dt : Nat) (s : State) (d g : Device) (port : EthPort) (peer : Endpoint) (k : SessNo) (seq idx : Nat) (b : List Byte), d
    = elapse s.dev dt ∧ NewRequest d port k seq ∧ g = heardFrom d port peer k seq ∧ (objOf idx).isSome = true ∧ (∀ sub ∈
    readableSubs idx, readCode g (sessWho k) idx sub = 1) ∧ b = (readableSubs idx).flatMap (readAllPart g idx) ∧ b.length ≤
    1396) ∧
    (∃ (dt : Nat) (s : State) (d g : Device) (port : EthPort) (peer : Endpoint) (k : SessNo) (seq idx sub len : Nat) (b : List
    Byte), d = elapse s.dev dt ∧ NewRequest d port k seq ∧ g = heardFrom d port peer k seq ∧ readCode g (sessWho k) idx sub = 1
    ∧ b = valWire idx sub (readReg g idx sub) ∧ 1 ≤ len ∧ len ≤ 1024 ∧ len ≤ b.length) ∧
    (∃ (dt : Nat) (s : State) (d : Device) (port : EthPort) (k : SessNo) (seq : Nat) (data : List Byte), d = elapse s.dev dt ∧
    NewRequest d port k seq ∧ data.length ≤ 1024) ∧
    (∃ (dt : Nat) (s : State) (d : Device) (port : EthPort) (k : SessNo) (seq idx sub off : Nat) (data : List Byte), d = elapse
    s.dev dt ∧ NewRequest d port k seq ∧ 0 < off ∧ data.length ≤ 1390 ∧ (∀ i j b, (sessAt d k).wr = some (i, j, b) → i ≠ idx ∨ j
    ≠ sub ∨ b.length ≠ off)) ∧
    (∃ (dt : Nat) (s : State) (d : Device) (port : EthPort) (k : SessNo) (seq idx sub off : Nat) (data : List Byte), d = elapse
    s.dev dt ∧ NewRequest d port k seq ∧ 0 < off ∧ data.length ≤ 1390 ∧ (∀ i j b, (sessAt d k).wr = some (i, j, b) → i ≠ idx ∨ j
    ≠ sub ∨ b.length ≠ off)) ∧
    (∃ (dt : Nat) (s : State) (d : Device) (data : List Byte), d = elapse s.dev dt ∧ 1390 < data.length) ∧
    (∃ (dt : Nat) (s : State) (d : Device) (port : EthPort) (k : SessNo) (seq : Nat), d = elapse s.dev dt ∧ NewRequest d port k
    seq) ∧
    (∃ (dt : Nat) (s : State) (d : Device) (port : EthPort) (k : SessNo) (seq t : Nat), d = elapse s.dev dt ∧ NewRequest d port
    k seq ∧ holds ((sessAt d k).roles % 32) 4 = true ∧ t ≤ 4095 ∧ TagOpen d t) :=
  ⟨⟨0, ⟨[], dev0⟩, _, _, 0, host, 0, 5, 0x2020, 3, _, rfl, ⟨by decide +kernel, ⟨by decide +kernel, by decide +kernel,
   by decide +kernel, by decide +kernel⟩, by decide +kernel, by decide +kernel⟩, rfl, by decide +kernel, rfl, by decide +kernel⟩,
   ⟨0, ⟨[], dev0⟩, _, _, 0, host, 0, 5, 0x2021, 3, _, rfl, ⟨by decide +kernel, ⟨by decide +kernel, by decide +kernel,
   by decide +kernel, by decide +kernel⟩, by decide +kernel, by decide +kernel⟩, rfl, rfl, by decide +kernel⟩,
   ⟨0, ⟨[], dev0⟩, _, _, 0, host, 0, 5, 0x4000, 0x14, _, rfl, ⟨by decide +kernel, ⟨by decide +kernel, by decide +kernel,
   by decide +kernel, by decide +kernel⟩, by decide +kernel, by decide +kernel⟩, rfl, rfl, by decide +kernel⟩,
   ⟨0, ⟨[], dev0⟩, _, _, 0, host, 0, 5, 0x4880, _, rfl, ⟨by decide +kernel, ⟨by decide +kernel, by decide +kernel,
   by decide +kernel, by decide +kernel⟩, by decide +kernel, by decide +kernel⟩, rfl, by decide +kernel, by decide +kernel, rfl,
   by decide +kernel⟩,
   ⟨0, ⟨[], dev0⟩, _, _, 0, host, 0, 5, 0x5480, 0x1B, 100, _, rfl, ⟨by decide +kernel, ⟨by decide +kernel, by decide +kernel,
   by decide +kernel, by decide +kernel⟩, by decide +kernel, by decide +kernel⟩, rfl, by decide +kernel, rfl, by decide +kernel⟩,
   ⟨0, ⟨[], dev0⟩, _, 0, 0, 5, [1, 2], rfl, ⟨by decide +kernel, ⟨by decide +kernel, by decide +kernel, by decide +kernel,
   by decide +kernel⟩, by decide +kernel, by decide +kernel⟩, by decide +kernel⟩,
   ⟨0, ⟨[], dev0⟩, _, 0, 0, 5, 0x5480, 0x1B, 2, [1, 2], rfl, ⟨by decide +kernel, ⟨by decide +kernel, by decide +kernel,
   by decide +kernel, by decide +kernel⟩, by decide +kernel, by decide +kernel⟩, by decide +kernel, by decide +kernel,
   (fun i j b h => nomatch (show (none : Option (Nat × Nat × List Byte)) = some (i, j, b) from h))⟩,
   ⟨0, ⟨[], withSession fun x => { x with wr := some (0x5480, 0x1B, [1, 2, 3]) }⟩, _, 0, 0, 5, 0x5480, 0x1B, 2, [1, 2], rfl,
   ⟨by decide +kernel, ⟨by decide +kernel, by decide +kernel, by decide +kernel, by decide +kernel⟩, by decide +kernel,
   by decide +kernel⟩, by decide +kernel, by decide +kernel, (fun i j b h => by cases h; decide +kernel)⟩,
   ⟨0, ⟨[], dev0⟩, _, List.replicate 1391 0, rfl, by decide +kernel⟩,
   ⟨0, ⟨[], dev0⟩, _, 0, 0, 5, rfl, ⟨by decide +kernel, ⟨by decide +kernel, by decide +kernel, by decide +kernel,
   by decide +kernel⟩, by decide +kernel, by decide +kernel⟩⟩,
   ⟨0, ⟨[], withTag⟩, _, 0, 0, 5, 7, rfl, ⟨by decide +kernel, ⟨by decide +kernel, by decide +kernel, by decide +kernel,
   by decide +kernel⟩, by decide +kernel, by decide +kernel⟩, by decide +kernel, by decide +kernel, ⟨by decide +kernel,
   by decide +kernel, by decide +kernel⟩⟩⟩

theorem test_writes_are_held_and_sessions_close :
    (∃ (dt : Nat) (s : State) (d g f : Device) (port : EthPort) (peer : Endpoint) (k : SessNo) (seq idx sub c : Nat) (v : Val),
    d = elapse s.dev dt ∧ NewRequest d port k seq ∧ (valBytes v).length ≤ 1400 ∧ g = heardFrom d port peer k seq ∧ selfClose g k
    idx sub v = false ∧ writeOp g (sessWho k) idx sub v = (f, c) ∧ Settled f k) ∧
    (∃ (dt : Nat) (s : State) (d g f : Device) (port : EthPort) (peer : Endpoint) (k : SessNo) (seq idx sub c : Nat) (v : Val),
    d = elapse s.dev dt ∧ NewRequest d port k seq ∧ (valBytes v).length ≤ 1400 ∧ g = heardFrom d port peer k seq ∧ selfClose g k
    idx sub v = false ∧ writeOp g (sessWho k) idx sub v = (f, c) ∧ Settled f k) ∧
    (∃ (dt : Nat) (s : State) (d g f : Device) (port : EthPort) (peer : Endpoint) (k : SessNo) (seq idx sub c : Nat) (v : Val),
    d = elapse s.dev dt ∧ NewRequest d port k seq ∧ (valBytes v).length ≤ 1400 ∧ g = heardFrom d port peer k seq ∧ selfClose g k
    idx sub v = false ∧ writeOp g (sessWho k) idx sub v = (f, c) ∧ Settled f k) ∧
    (∃ (dt : Nat) (s : State) (d : Device) (v : Val), d = elapse s.dev dt ∧ 1400 < (valBytes v).length) ∧
    (∃ (dt : Nat) (s : State) (d : Device) (port : EthPort) (k : SessNo) (seq : Nat), d = elapse s.dev dt ∧ NewRequest d port k
    seq) ∧
    (∃ (dt : Nat) (s : State) (d : Device) (k : SessNo), d = elapse s.dev dt ∧ (activeCtl d).isSome = true ∧ sessOpen d k = true
    ∧ (sessAt d k).lastReq + regN d 0x2020 3 * 10 ^ 9 ≤ d.mono) ∧
    (∃ (dt : Nat) (s : State) (d f : Device) (p : CanPort) (node idx sub c : Nat) (v : Val), d = elapse s.dev dt ∧ served d
    (.can p node) = true ∧ writeOp d (.can p node) idx sub v = (f, c)) ∧
    (∃ (dt : Nat) (s : State) (d f : Device) (p : CanPort) (node idx sub c : Nat) (v : Val), d = elapse s.dev dt ∧ served d
    (.can p node) = true ∧ writeOp d (.can p node) idx sub v = (f, c)) ∧
    (∃ (dt : Nat) (s : State) (d : Device) (p : CanPort) (node idx sub : Nat), d = elapse s.dev dt ∧ served d (.can p node) =
    true ∧ readCode d (.can p node) idx sub = 1) :=
  ⟨⟨0, ⟨[], dev0⟩, _, _, _, 0, host, 0, 5, 0x2020, 3, _, .num 40, rfl, ⟨by decide +kernel, ⟨by decide +kernel,
   by decide +kernel, by decide +kernel, by decide +kernel⟩, by decide +kernel, by decide +kernel⟩, by decide +kernel, rfl,
   by decide +kernel, rfl, ⟨by decide +kernel, by decide +kernel, by decide +kernel, by decide +kernel⟩⟩,
   ⟨0, ⟨[], dev0⟩, _, _, _, 0, host, 0, 5, 0x4000, 1, _, .num 1, rfl, ⟨by decide +kernel, ⟨by decide +kernel, by decide +kernel,
   by decide +kernel, by decide +kernel⟩, by decide +kernel, by decide +kernel⟩, by decide +kernel, rfl, by decide +kernel, rfl,
   ⟨by decide +kernel, by decide +kernel, by decide +kernel, by decide +kernel⟩⟩,
   ⟨0, ⟨[], checkpointed 0⟩, _, _, _, 0, host, 0, 5, 0x2020, 3, _, .num 40, rfl, ⟨by decide +kernel, ⟨by decide +kernel,
   by decide +kernel, by decide +kernel, by decide +kernel⟩, by decide +kernel, by decide +kernel⟩, by decide +kernel, rfl,
   by decide +kernel, rfl, ⟨by decide +kernel, by decide +kernel, by decide +kernel, by decide +kernel⟩⟩,
   ⟨0, ⟨[], dev0⟩, _, .bytes (List.replicate 1401 0), rfl, by decide +kernel⟩,
   ⟨0, ⟨[], dev0⟩, _, 0, 0, 5, rfl, ⟨by decide +kernel, ⟨by decide +kernel, by decide +kernel, by decide +kernel,
   by decide +kernel⟩, by decide +kernel, by decide +kernel⟩⟩,
   ⟨60000000000, ⟨[], dev0⟩, _, 0, rfl, by decide +kernel⟩,
   ⟨0, ⟨[], dev0⟩, _, _, 1, 5, 0x2110, 6, _, .num 40, rfl, by decide +kernel, rfl⟩,
   ⟨0, ⟨[], dev0⟩, _, _, 1, 5, 0x4000, 1, _, .num 1, rfl, by decide +kernel, rfl⟩,
   ⟨0, ⟨[], dev0⟩, _, 0, 5, 0x4880, 8, rfl, by decide +kernel⟩⟩

theorem test_checkpoints_and_audit_records_release :
    (∃ (dt : Nat) (s : State) (d : Device) (a o : Nat), d = elapse s.dev dt ∧ activeCtl d = some a ∧ standbyIn d ckptRoles =
    some o ∧ ckptHolding d = true) ∧
    (∃ (dt : Nat) (s : State) (d : Device) (a o : Nat), d = elapse s.dev dt ∧ activeCtl d = some a ∧ standbyIn d ckptRoles =
    some o ∧ ckptHolding d = true) ∧
    (∃ (dt : Nat) (s : State) (d : Device) (o i : Nat), d = elapse s.dev dt ∧ ckptWriting d = some (o, i)) ∧
    (∃ (dt : Nat) (s : State) (d : Device) (n : Nat) (rest : List Nat), d = elapse s.dev dt ∧ d.awaiting = n :: rest ∧
    (activeCtl d).isSome = true) :=
  ⟨⟨0, ⟨[], checkpointed 0⟩, _, 0, 1, rfl, by decide +kernel⟩,
   ⟨0, ⟨[], setRuleCopy (checkpointed 0) 1 { rulesOn with denyAll := true }⟩, _, 0, 1, rfl, by decide +kernel⟩,
   ⟨0, ⟨[], checkpointed 2⟩, _, 1, 1, rfl, by decide +kernel⟩,
   ⟨0, ⟨[],
   { withSession (fun x => { x with answers := [⟨3, 1, [], 2, 5, 1, false, some 7, false, 0, false⟩] }) with awaiting := [7, 8] }⟩,
   _, 7, [8], rfl, by decide +kernel⟩⟩

theorem test_commits_capture_what_is_staged :
    (∃ (dt : Nat) (s : State) (d : Device) (who : Requester) (n : LayerNo) (p : Nat), d = elapse s.dev dt ∧ p = dieOfLayer n ∧
    Allowed d who (0x4000 + n) 0x14 (.num 1)) ∧
    (∃ (dt : Nat) (s : State) (d : Device) (who : Requester) (h : HeadNo) (p : Nat), d = elapse s.dev dt ∧ p = dieOfHead h ∧
    Allowed d who (0x4800 + h) 0x19 (.num 1)) ∧
    (∃ (dt : Nat) (s : State) (d : Device) (who : Requester) (h : HeadNo) (p : Nat), d = elapse s.dev dt ∧ p = dieOfHead h ∧
    Allowed d who (0x4900 + h) 4 (.num 1)) ∧
    (∃ (dt : Nat) (s : State) (d : Device) (who : Requester) (h : HeadNo), d = elapse s.dev dt ∧ Allowed d who (0x4900 + h) 9
    (.num 1)) ∧
    (∃ (dt : Nat) (s : State) (d : Device) (who : Requester) (t : TagNo) (p : Nat) (vals : Table Val), d = elapse s.dev dt ∧
    vals = pickVals d.regs (0x6000 + t) 1 0x11 ∧ p = tagDecider d t vals ∧ Allowed d who (0x6000 + t) 0x12 (.num 1)) ∧
    (∃ (dt : Nat) (s : State) (d : Device) (who : Requester) (p : Die), d = elapse s.dev dt ∧ Allowed d who (pobj 0x3060 p) 6
    (.num 1)) ∧
    (∃ (dt : Nat) (s : State) (d : Device) (who : Requester) (p : Die) (f : Frame), d = elapse s.dev dt ∧ Allowed d who (pobj
    0x3060 p) 7 (.num 1) ∧ wbForce d p 4 < 512 ∧ (srcUnit d (wbForce d p 4) p).frame = some f) ∧
    (∃ (dt : Nat) (s : State) (d : Device) (who : Requester) (p : Die), d = elapse s.dev dt ∧ Allowed d who (pobj 0x3060 p) 7
    (.num 2)) ∧
    (∃ (dt : Nat) (s : State) (d : Device) (who : Requester), d = elapse s.dev dt ∧ Allowed d who 0x5C00 6 (.num 1)) :=
  ⟨⟨0, ⟨[], withRegs [(0x4003, 1, 1)] dev0⟩, _, me, 3, _, rfl, rfl, ⟨by decide +kernel, by decide +kernel⟩⟩,
   ⟨0, ⟨[], withRegs [(0x4801, 0x16, 1)] dev0⟩, _, me, 1, _, rfl, rfl, ⟨by decide +kernel, by decide +kernel⟩⟩,
   ⟨0, ⟨[], withRegs [(0x4901, 1, 1)] dev0⟩, _, me, 1, _, rfl, rfl, ⟨by decide +kernel, by decide +kernel⟩⟩,
   ⟨0, ⟨[], dev0⟩, _, me, 1, rfl, ⟨by decide +kernel, by decide +kernel⟩⟩,
   ⟨0, ⟨[], withTag⟩, _, me, 7, _, _, rfl, rfl, rfl, ⟨by decide +kernel, by decide +kernel⟩⟩,
   ⟨0, ⟨[], dev0⟩, _, me, 2, rfl, ⟨by decide +kernel, by decide +kernel⟩⟩,
   ⟨0, ⟨[],
   { dev0 with force := [(256 * 0x3260 + 4, .num 0)], srcs := [(2, { SrcUnit.reset with present := true, frame := some (blankFrame 7) })] }⟩,
   _, me, 2, blankFrame 7, rfl, ⟨by decide +kernel, by decide +kernel⟩, by decide +kernel⟩,
   ⟨0, ⟨[], setWb dev0 2 { WbUnit.reset with held := some (blankFrame 7) }⟩, _, me, 2, rfl, ⟨by decide +kernel,
   by decide +kernel⟩⟩,
   ⟨0, ⟨[], dev0⟩, _, me, rfl, ⟨by decide +kernel, by decide +kernel⟩⟩⟩

theorem test_scenes_launch_and_cancel :
    (∃ (dt : Nat) (s : State) (d : Device) (who : Requester) (k : SceneNo) (rs : List (Nat × Table Val)), d = elapse s.dev dt ∧
    Allowed d who (0x4A00 + k) 4 (.num 2) ∧ rs = sceneList d k ∧ rs ≠ [] ∧ (∀ r ∈ rs, recordAllowed d who r.1 r.2 = true)) ∧
    (∃ (dt : Nat) (s : State) (d : Device) (who : Requester) (k : SceneNo) (rs : List (Nat × Table Val)) (t : Nat), d = elapse
    s.dev dt ∧ Allowed d who (0x4A00 + k) 4 (.num 1) ∧ rs = sceneList d k ∧ rs ≠ [] ∧ (∀ r ∈ rs, recordAllowed d who r.1 r.2 =
    true) ∧ t = max (launchInstant d k) (openTick d)) ∧
    (∃ (dt : Nat) (s : State) (d : Device) (who : Requester) (k : SceneNo), d = elapse s.dev dt ∧ Allowed d who (0x4A00 + k) 4
    (.num 3)) :=
  ⟨⟨0, ⟨[], setReg dev0 0x4A05 2 (.bytes sceneRec)⟩, _, me, 5, _, rfl, ⟨by decide +kernel, by decide +kernel⟩, rfl,
   by decide +kernel⟩,
   ⟨0, ⟨[], setReg (withRegs [(0x4A05, 3, 101000000000)] dev0) 0x4A05 2 (.bytes sceneRec)⟩, _, me, 5, _, _, rfl,
   ⟨by decide +kernel, by decide +kernel⟩, rfl, by decide +kernel, by decide +kernel, rfl⟩,
   ⟨0, ⟨[], setScene dev0 5 { SceneUnit.reset with waiting := [3] }⟩, _, me, 5, rfl, ⟨by decide +kernel, by decide +kernel⟩⟩⟩

theorem test_inputs_start_and_stop :
    (∃ (dt : Nat) (s : State) (d : Device) (who : Requester) (t : TagNo) (v : Nat), d = elapse s.dev dt ∧ Allowed d who (0x6000
    + t) 0x20 (.num v) ∧ TagOpen d t) ∧
    (∃ (dt : Nat) (s : State) (d : Device) (who : Requester) (src : SourceNo), d = elapse s.dev dt ∧ Allowed d who (0x5000 +
    src) 2 (.num 1) ∧ srcOn d src = false) ∧
    (∃ (dt : Nat) (s : State) (d : Device) (who : Requester) (src : SourceNo), d = elapse s.dev dt ∧ Allowed d who (0x5000 +
    src) 2 (.num 0) ∧ srcOn d src = true) ∧
    (∃ (dt : Nat) (s : State) (d : Device) (p : Die) (src : SourceNo), d = elapse s.dev dt ∧ pixUp d p = true ∧ (pixAt d
    p).tb1.loaded = true ∧ (pixAt d p).closes = (pixAt d p).ticks ∧ aimTick d (pixAt d p) ≤ (pixAt d p).tb1.ns + regN d 0x2110 4
    * 1000 ∧ srcOwner d src = p ∧ srcCfg d src 1 ≠ 4) ∧
    (∃ (dt : Nat) (s : State) (d : Device) (p : Die) (src : SourceNo), d = elapse s.dev dt ∧ pixUp d p = true ∧ (pixAt d
    p).tb1.loaded = true ∧ (pixAt d p).closes = (pixAt d p).ticks ∧ aimTick d (pixAt d p) ≤ (pixAt d p).tb1.ns + regN d 0x2110 4
    * 1000 ∧ srcOwner d src = p ∧ srcCfg d src 1 ≠ 4) ∧
    (∃ (dt : Nat) (s : State) (d : Device) (who : Requester) (i : InputNo), d = elapse s.dev dt ∧ Allowed d who (0x5480 + i) 1
    (.num 1) ∧ camOn d i = false) ∧
    (∃ (dt : Nat) (s : State) (d : Device) (who : Requester) (i : InputNo), d = elapse s.dev dt ∧ Allowed d who (0x5480 + i) 1
    (.num 0) ∧ camOn d i = true) ∧
    (∃ (dt : Nat) (s : State) (d : Device) (who : Requester) (i : InputNo), d = elapse s.dev dt ∧ Allowed d who (0x5480 + i)
    0x1C (.num 1)) ∧
    (∃ (dt : Nat) (s : State) (d : Device) (who : Requester) (k : TouchNo) (on : Bool), d = elapse s.dev dt ∧ Allowed d who
    (0x5800 + k) 1 (.num on.toNat) ∧ regN d (0x5800 + k) 1 ≠ on.toNat) ∧
    (∃ (dt : Nat) (s : State) (d : Device) (who : Requester) (k : TouchNo) (on : Bool), d = elapse s.dev dt ∧ Allowed d who
    (0x5800 + k) 1 (.num on.toNat) ∧ regN d (0x5800 + k) 1 ≠ on.toNat) ∧
    (∃ (dt : Nat) (s : State) (d : Device) (who : Requester) (k : TouchNo), d = elapse s.dev dt ∧ Allowed d who (0x5800 + k)
    0x15 (.num 1) ∧ 1 ≤ (linkAt d k).step ∧ (linkAt d k).step ≤ 10) :=
  ⟨⟨0, ⟨[], withTag⟩, _, me, 7, 9, rfl, ⟨by decide +kernel, by decide +kernel⟩, ⟨by decide +kernel, by decide +kernel,
   by decide +kernel⟩⟩,
   ⟨0, ⟨[], { withSource 1 id with regs := storePut (withSource 1 id).regs 0x5000 2 (.num 0), srcs := [] }⟩, _, me, 0, rfl,
   ⟨by decide +kernel, by decide +kernel⟩, by decide +kernel⟩,
   ⟨0, ⟨[], withSource 1 id⟩, _, me, 0, rfl, ⟨by decide +kernel, by decide +kernel⟩, by decide +kernel⟩,
   ⟨0, ⟨[], { withSource 1 id with force := [], srcs := [], mono := 100000000000 }⟩, _, 0, 0, rfl, by decide +kernel⟩,
   ⟨0, ⟨[], withRegs [(0x5000, 2, 0)] (withSource 1 id)⟩, _, 0, 0, rfl, by decide +kernel⟩,
   ⟨0, ⟨[], camIdle⟩, _, me, 0, rfl, ⟨by decide +kernel, by decide +kernel⟩, by decide +kernel⟩,
   ⟨0, ⟨[], withCamera id⟩, _, me, 0, rfl, ⟨by decide +kernel, by decide +kernel⟩, by decide +kernel⟩,
   ⟨0, ⟨[], withCamera id⟩, _, me, 0, rfl, ⟨by decide +kernel, by decide +kernel⟩⟩,
   ⟨0, ⟨[], withTouch id id⟩, _, me, 3, false, rfl, ⟨by decide +kernel, by decide +kernel⟩, by decide +kernel⟩,
   ⟨0, ⟨[], withRegs [(0x5804, 2, 16), (0x5804, 3, 2), (0x5804, 0x0C, 8), (0x5804, 0x10, 65537)] dev0⟩, _, me, 4, true, rfl,
   ⟨by decide +kernel, by decide +kernel⟩, by decide +kernel⟩,
   ⟨0, ⟨[], withTouch (fun u => { u with step := 10 }) id⟩, _, me, 3, rfl, ⟨by decide +kernel, by decide +kernel⟩,
   by decide +kernel⟩⟩

theorem test_device_settings_take_effect :
    (∃ (dt : Nat) (s : State) (d : Device) (who : Requester) (p : Die) (m : MemIf), d = elapse s.dev dt ∧ Allowed d who (ifObj p
    m) 0x0A (.num 1) ∧ (memIfAt d (ifKey p m)).state = 3) ∧
    (∃ (dt : Nat) (s : State) (d : Device) (who : Requester) (p : Die) (v want : Nat), d = elapse s.dev dt ∧ Allowed d who
    (memObj p) 3 (.num v) ∧ want = max v (stageFsp (dieStage d p)) ∧ (memAt d p).inForce ≠ 0) ∧
    (∃ (dt : Nat) (s : State) (d : Device) (who : Requester) (v : Nat), d = elapse s.dev dt ∧ Allowed d who 0x2210 0x0A (.num
    v)) ∧
    (∃ (dt : Nat) (s : State) (d : Device) (who : Requester) (v : Nat), d = elapse s.dev dt ∧ Allowed d who 0x2200 8 (.num v)) ∧
    (∃ (dt : Nat) (s : State) (d : Device) (who : Requester) (b : Fin 4) (sub v : Nat), d = elapse s.dev dt ∧ Allowed d who
    (0x2100 + b) sub (.num v)) ∧
    (∃ (dt : Nat) (s : State) (d : Device) (who : Requester) (b : Fin 4) (sub v : Nat), d = elapse s.dev dt ∧ Allowed d who
    (0x2100 + b) sub (.num v)) ∧
    (∃ (dt : Nat) (s : State) (d : Device) (who : Requester) (en : Fin 128), d = elapse s.dev dt ∧ Allowed d who (0x2400 + en) 9
    (.num 1)) ∧
    (∃ (dt : Nat) (s : State) (d : Device) (who : Requester) (en : Fin 128), d = elapse s.dev dt ∧ Allowed d who (0x2400 + en) 9
    (.num 1)) ∧
    (∃ (dt : Nat) (s : State) (d : Device) (who : Requester) (en : Fin 128), d = elapse s.dev dt ∧ Allowed d who (0x2400 + en) 9
    (.num 1)) ∧
    (∃ (dt : Nat) (s : State) (d : Device) (who : Requester) (en : Fin 128), d = elapse s.dev dt ∧ Allowed d who (0x2400 + en) 6
    (.num 1)) :=
  ⟨⟨0, ⟨[], dev0⟩, _, me, 1, 2, rfl, ⟨by decide +kernel, by decide +kernel⟩, by decide +kernel⟩,
   ⟨0, ⟨[], dev0⟩, _, me, 1, 2, _, rfl, ⟨by decide +kernel, by decide +kernel⟩, rfl, by decide +kernel⟩,
   ⟨0, ⟨[], dev0⟩, _, me, 2 * 2 ^ 24 + 1 * 2 ^ 16 + 3 * 256 + 5, rfl, ⟨by decide +kernel, by decide +kernel⟩⟩,
   ⟨0, ⟨[], dev0⟩, _, me, 0x21, rfl, ⟨by decide +kernel, by decide +kernel⟩⟩,
   ⟨0, ⟨[], dev0⟩, _, me, 0, 1, 2, rfl, ⟨by decide +kernel, by decide +kernel⟩⟩,
   ⟨0, ⟨[], dev0⟩, _, me, 1, 7, 50, rfl, ⟨by decide +kernel, by decide +kernel⟩⟩,
   ⟨0, ⟨[], withRegs [(0x2403, 1, 1), (0x2403, 2, 4), (0x2403, 3, 0), (0x2403, 4, 1), (0x2403, 5, 3)] dev0⟩, _, me, 3, rfl,
   ⟨by decide +kernel, by decide +kernel⟩⟩,
   ⟨0, ⟨[], withRegs [(0x2403, 1, 1), (0x2403, 3, 17592186040320), (0x2403, 4, 2)] dev0⟩, _, me, 3, rfl, ⟨by decide +kernel,
   by decide +kernel⟩⟩,
   ⟨0, ⟨[], dev0⟩, _, me, 3, rfl, ⟨by decide +kernel, by decide +kernel⟩⟩,
   ⟨0, ⟨[], dev0⟩, _, me, 3, rfl, ⟨by decide +kernel, by decide +kernel⟩⟩⟩

theorem test_writes_store_or_are_refused :
    (∃ (dt : Nat) (s : State) (d : Device) (who : Requester) (idx sub base u : Nat) (v : Val), d = elapse s.dev dt ∧ objOf idx =
    some (base, u) ∧ base ∉ [0x2030, 0x2100, 0x2200, 0x2210, 0x2300, 0x2400, 0x2500, 0x2520, 0x2600, 0x2700, 0x3010, 0x3014,
    0x3050, 0x3060, 0x4800, 0x4900, 0x4A00, 0x5000, 0x5480, 0x5800, 0x5C00, 0x6000] ∧ (base = 0x4000 → sub ≠ 0x14) ∧ Allowed d
    who idx sub v) ∧
    (∃ (dt : Nat) (s : State) (d : Device) (k : SessNo) (idx sub code : Nat) (v : Val), d = elapse s.dev dt ∧ served d (.session
    k) = true ∧ writeCheck (touchSession d (.session k)) (.session k) noSigner idx sub v = code ∧ code ≠ 1) ∧
    (∃ (dt : Nat) (s : State) (d : Device) (f : CanPort) (node idx sub code : Nat) (v : Val), d = elapse s.dev dt ∧ served d
    (.can f node) = true ∧ writeCheck d (.can f node) noSigner idx sub v = code ∧ code ≠ 1) ∧
    (∃ (dt : Nat) (s : State) (d : Device) (who : Requester), d = elapse s.dev dt ∧ served d who = false) :=
  ⟨⟨0, ⟨[], dev0⟩, _, me, 0x2020, 3, 0x2020, 0, .num 40, rfl, by decide +kernel, by decide +kernel, by decide +kernel,
   ⟨by decide +kernel, by decide +kernel⟩⟩,
   ⟨0, ⟨[], dev0⟩, _, 0, 0x4880, 1, _, .num 1, rfl, by decide +kernel, rfl, by decide +kernel⟩,
   ⟨0, ⟨[], dev0⟩, _, 0, 4, 0x4880, 1, _, .num 1, rfl, by decide +kernel, rfl, by decide +kernel⟩,
   ⟨0, ⟨[], dev0⟩, _, .session 1, rfl, by decide +kernel⟩⟩

theorem test_sessions_claim_close_and_acknowledge :
    (∃ (dt : Nat) (s : State) (d : Device) (who : Requester) (k : SessNo) (n : Nat), d = elapse s.dev dt ∧ Allowed d who (0x2030
    + k) 7 (.num n)) ∧
    (∃ (dt : Nat) (s : State) (d : Device) (who : Requester) (k : SessNo) (n : Nat), d = elapse s.dev dt ∧ Allowed d who (0x2030
    + k) 8 (.num n)) ∧
    (∃ (dt : Nat) (s : State) (d : Device) (who : Requester) (k : SessNo), d = elapse s.dev dt ∧ Allowed d who (0x2030 + k) 0x0E
    (.num 1) ∧ sessOpen d k = true) ∧
    (∃ (dt : Nat) (s : State) (d : Device) (who : Requester) (k : SessNo), d = elapse s.dev dt ∧ Allowed d who (0x2030 + k) 0x0E
    (.num 1) ∧ sessOpen d k = true) ∧
    (∃ (dt : Nat) (s : State) (d : Device) (who : Requester) (k : AnyDie) (n : Nat), d = elapse s.dev dt ∧ Allowed d who (0x2600
    + k) 5 (.num n)) ∧
    (∃ (dt : Nat) (s : State) (d : Device) (who : Requester) (rec_ : List Byte) (t : Telegram), d = elapse s.dev dt ∧ Allowed d
    who 0x2700 0x11 (.bytes rec_) ∧ t = Telegram.mk (rec_.getD 0 0).toNat (rec_.getD 1 0).toNat (bigEndian ((rec_.drop 2).take
    6)) false) ∧
    (∃ (dt : Nat) (s : State) (d : Device) (who : Requester) (rec_ : List Byte) (t : Telegram), d = elapse s.dev dt ∧ Allowed d
    who 0x2700 0x11 (.bytes rec_) ∧ t = Telegram.mk (rec_.getD 0 0).toNat (rec_.getD 1 0).toNat (bigEndian ((rec_.drop 2).take
    6)) false) :=
  ⟨⟨0, ⟨[], dev0⟩, _, me, 0, 3, rfl, ⟨by decide +kernel, by decide +kernel⟩⟩,
   ⟨0, ⟨[], setLayer dev0 3 { LayerUnit.reset with owner := some 0 }⟩, _, me, 0, 3, rfl, ⟨by decide +kernel, by decide +kernel⟩⟩,
   ⟨0, ⟨[], dev0⟩, _, me, 0, rfl, ⟨by decide +kernel, by decide +kernel⟩, by decide +kernel⟩,
   ⟨0, ⟨[], twoSessions⟩, _, me, 1, rfl, ⟨by decide +kernel, by decide +kernel⟩, by decide +kernel⟩,
   ⟨0, ⟨[], setRing dev0 0 { Ring.reset with recs := [someEvent], last := 5 }⟩, _, me, 0, 5, rfl, ⟨by decide +kernel,
   by decide +kernel⟩⟩,
   ⟨0, ⟨[], withRegs [(0x1803, 1, 0x183), (0x1A03, 0, 1), (0x1A03, 1, 0x21040008)] dev0⟩, _, me, [3, 2] ++ beBytes 6
   101000000000 ++ [0, 0, 0, 0], _, rfl, ⟨by decide +kernel, by decide +kernel⟩, rfl⟩,
   ⟨0, ⟨[], withRegs [(0x1803, 1, 0x183), (0x1A03, 0, 1), (0x1A03, 1, 0x21040008)] dev0⟩, _, me, [3, 2] ++ beBytes 6 99500000000
   ++ [0, 0, 0, 0], _, rfl, ⟨by decide +kernel, by decide +kernel⟩, rfl⟩⟩

theorem test_security_commands_run :
    (∃ (dt : Nat) (s : State) (d : Device) (who : Requester) (nonce : List Byte), d = elapse s.dev dt ∧ Allowed d who 0x2500 1
    (.bytes nonce)) ∧
    (∃ (dt : Nat) (s : State) (d : Device) (who : Requester), d = elapse s.dev dt ∧ Allowed d who 0x2500 0x12 (.num 1)) ∧
    (∃ (dt : Nat) (s : State) (d : Device) (who : Requester), d = elapse s.dev dt ∧ Allowed d who 0x2500 0x12 (.num 1)) ∧
    (∃ (dt : Nat) (s : State) (d : Device) (who : Requester), d = elapse s.dev dt ∧ Allowed d who 0x2500 0x12 (.num 2)) ∧
    (∃ (dt : Nat) (s : State) (d : Device) (who : Requester), d = elapse s.dev dt ∧ Allowed d who 0x2500 0x12 (.num 2)) ∧
    (∃ (dt : Nat) (s : State) (d : Device) (k : SessNo) (sig leaf : List Byte) (code : Nat), d = elapse s.dev dt ∧ Allowed d
    (.session k) 0x2500 0x14 (.bytes sig) ∧ leaf = (sessAt d k).leaf ∧ code = approvalCode d sig leaf d.sup.dbg.audit) ∧
    (∃ (dt : Nat) (s : State) (d : Device) (k : SessNo) (sig leaf : List Byte) (code : Nat), d = elapse s.dev dt ∧ Allowed d
    (.session k) 0x2500 0x15 (.bytes sig) ∧ leaf = (sessAt d k).leaf ∧ code = approvalCode d sig leaf d.sup.dbg.maint) ∧
    (∃ (dt : Nat) (s : State) (d : Device) (who : Requester) (b : List Byte) (code : Nat), d = elapse s.dev dt ∧ Allowed d who
    0x2500 0x0A (.num 1) ∧ b = regB d 0x2500 9 ∧ bundleCode d b true = code ∧ code ≠ 1) ∧
    (∃ (dt : Nat) (s : State) (d g f : Device) (who : Requester) (b : List Byte) (failed : Option Nat), d = elapse s.dev dt ∧
    Allowed d who 0x2500 0x0A (.num 1) ∧ b = regB d 0x2500 9 ∧ g = (writeOne (touchSession d who) who noSigner 0x2500 0x0A (.num
    1)).1 ∧ applyRecords { slot := bundleSlot b, first := firstEnrolment d b, again := false } false 0 ((bundleRecords b).getD
    []) g = (f, failed)) :=
  ⟨⟨0, ⟨[], dev0⟩, _, me, List.replicate 32 1, rfl, ⟨by decide +kernel, by decide +kernel⟩⟩,
   ⟨0, ⟨[], dev0⟩, _, me, rfl, ⟨by decide +kernel, by decide +kernel⟩⟩,
   ⟨0, ⟨[], { dev0 with pins := { dev0.pins with fuse := true } }⟩, _, me, rfl, ⟨by decide +kernel, by decide +kernel⟩⟩,
   ⟨0, ⟨[], debugging fun u => { u with opened := true }⟩, _, me, rfl, ⟨by decide +kernel, by decide +kernel⟩⟩,
   ⟨0, ⟨[], dev0⟩, _, me, rfl, ⟨by decide +kernel, by decide +kernel⟩⟩,
   ⟨0, ⟨[], debugging fun u => { u with since := some 99000000000, challenge := List.replicate 32 3 }⟩, _, 0, List.replicate 64
   1, _, _, rfl, ⟨by decide +kernel, by decide +kernel⟩, rfl, rfl⟩,
   ⟨0, ⟨[], debugging fun u => { u with since := some 99000000000, challenge := List.replicate 32 3 }⟩, _, 0, List.replicate 64
   1, _, _, rfl, ⟨by decide +kernel, by decide +kernel⟩, rfl, rfl⟩,
   ⟨0, ⟨[], setReg dev0 0x2500 9 (.bytes [1, 2, 3])⟩, _, me, _, _, rfl, ⟨by decide +kernel, by decide +kernel⟩, rfl, rfl,
   by decide +kernel⟩,
   ⟨0, ⟨[], setReg dev0 0x2500 9 (.bytes [1, 2, 3])⟩, _, _, _, me, _, _, rfl, ⟨by decide +kernel, by decide +kernel⟩, rfl, rfl,
   rfl⟩⟩

theorem test_redundancy_commands_run :
    (∃ (dt : Nat) (s : State) (d : Device) (who : Requester), d = elapse s.dev dt ∧ Allowed d who 0x2300 0x0C (.num 1)) ∧
    (∃ (dt : Nat) (s : State) (d : Device) (who : Requester), d = elapse s.dev dt ∧ Allowed d who 0x2300 0x0C (.num 1)) ∧
    (∃ (dt : Nat) (s : State) (d : Device) (who : Requester), d = elapse s.dev dt ∧ Allowed d who 0x2300 0x0C (.num 1)) ∧
    (∃ (dt : Nat) (s : State) (d : Device) (who : Requester), d = elapse s.dev dt ∧ Allowed d who 0x2300 0x0C (.num 2)) ∧
    (∃ (dt : Nat) (s : State) (d : Device) (who : Requester), d = elapse s.dev dt ∧ Allowed d who 0x2300 0x0C (.num 2)) ∧
    (∃ (dt : Nat) (s : State) (d : Device) (who : Requester), d = elapse s.dev dt ∧ Allowed d who 0x2300 0x0C (.num 3)) ∧
    (∃ (dt : Nat) (s : State) (d : Device) (who : Requester), d = elapse s.dev dt ∧ Allowed d who 0x2300 0x0C (.num 3)) ∧
    (∃ (dt : Nat) (s : State) (d : Device) (who : Requester), d = elapse s.dev dt ∧ Allowed d who 0x2300 0x0C (.num 3)) ∧
    (∃ (dt : Nat) (s : State) (d : Device) (k : SessNo), d = elapse s.dev dt ∧ Allowed d (.session k) 0x2300 0x0E (.num 1)) ∧
    (∃ (dt : Nat) (s : State) (d : Device) (k : SessNo), d = elapse s.dev dt ∧ Allowed d (.session k) 0x2300 0x0F (.num 1)) ∧
    (∃ (dt : Nat) (s : State) (d : Device) (who : Requester) (p : Die), d = elapse s.dev dt ∧ Allowed d who 0x2300 0x10 (.num
    (256 * p + 1))) ∧
    (∃ (dt : Nat) (s : State) (d : Device) (who : Requester) (p : Die), d = elapse s.dev dt ∧ Allowed d who 0x2300 0x10 (.num
    (256 * p + 1))) ∧
    (∃ (dt : Nat) (s : State) (d : Device) (who : Requester) (p : Die), d = elapse s.dev dt ∧ Allowed d who 0x2300 0x10 (.num
    (256 * p + 1))) ∧
    (∃ (dt : Nat) (s : State) (d : Device) (who : Requester) (p : Die), d = elapse s.dev dt ∧ Allowed d who 0x2300 0x10 (.num
    (256 * p + 2))) ∧
    (∃ (dt : Nat) (s : State) (d : Device) (who : Requester) (p : Die), d = elapse s.dev dt ∧ Allowed d who 0x2300 0x10 (.num
    (256 * p + 2))) ∧
    (∃ (dt : Nat) (s : State) (d : Device) (who : Requester) (p : Die), d = elapse s.dev dt ∧ Allowed d who 0x2300 0x10 (.num
    (256 * p + 3))) ∧
    (∃ (dt : Nat) (s : State) (d : Device) (who : Requester) (p : Die), d = elapse s.dev dt ∧ Allowed d who 0x2300 0x10 (.num
    (256 * p + 3))) :=
  ⟨⟨0, ⟨[], dev0⟩, _, me, rfl, ⟨by decide +kernel, by decide +kernel⟩⟩,
   ⟨0, ⟨[], setCtl dev0 1 CtlDie.reset⟩, _, me, rfl, ⟨by decide +kernel, by decide +kernel⟩⟩,
   ⟨0, ⟨[], modCtl dev0 1 fun c => { c with retained := some (0, [1, 2]) }⟩, _, me, rfl, ⟨by decide +kernel, by decide +kernel⟩⟩,
   ⟨0, ⟨[], dev0⟩, _, me, rfl, ⟨by decide +kernel, by decide +kernel⟩⟩,
   ⟨0, ⟨[], setCtl dev0 1 CtlDie.reset⟩, _, me, rfl, ⟨by decide +kernel, by decide +kernel⟩⟩,
   ⟨0, ⟨[], dev0⟩, _, me, rfl, ⟨by decide +kernel, by decide +kernel⟩⟩,
   ⟨0, ⟨[], setCtl dev0 1 { dieC 8 with mismatch := true }⟩, _, me, rfl, ⟨by decide +kernel, by decide +kernel⟩⟩,
   ⟨0, ⟨[], setCtl dev0 1 { dieC 8 with mismatch := true, retained := some (0, [1, 2]) }⟩, _, me, rfl, ⟨by decide +kernel,
   by decide +kernel⟩⟩,
   ⟨0, ⟨[], dev0⟩, _, 0, rfl, ⟨by decide +kernel, by decide +kernel⟩⟩,
   ⟨0, ⟨[], dev0⟩, _, 0, rfl, ⟨by decide +kernel, by decide +kernel⟩⟩,
   ⟨0, ⟨[], dev0⟩, _, me, 2, rfl, ⟨by decide +kernel, by decide +kernel⟩⟩,
   ⟨0, ⟨[], setPix dev0 3 { dieP with state := 4 }⟩, _, me, 2, rfl, ⟨by decide +kernel, by decide +kernel⟩⟩,
   ⟨0, ⟨[], setPix dev0 3 { PixelDie.reset with state := 6 }⟩, _, me, 2, rfl, ⟨by decide +kernel, by decide +kernel⟩⟩,
   ⟨0, ⟨[], dev0⟩, _, me, 2, rfl, ⟨by decide +kernel, by decide +kernel⟩⟩,
   ⟨0, ⟨[], setPix dev0 3 { dieP with state := 4 }⟩, _, me, 2, rfl, ⟨by decide +kernel, by decide +kernel⟩⟩,
   ⟨0, ⟨[], setPix dev0 2 { PixelDie.reset with state := 6 }⟩, _, me, 2, rfl, ⟨by decide +kernel, by decide +kernel⟩⟩,
   ⟨0, ⟨[], dev0⟩, _, me, 2, rfl, ⟨by decide +kernel, by decide +kernel⟩⟩⟩

theorem test_image_commands_run :
    (Config.imageSigned [5, 6] = true → fwSecurity (setReg dev0 0x2520 5 (.bytes [5, 6])) ≤ Config.imageSecurityVersion [5, 6] →
    ∃ (dt : Nat) (s : State) (d : Device) (who : Requester) (img : List Byte), d = elapse s.dev dt ∧ Allowed d who 0x2520 6
    (.num 1) ∧ img = regB d 0x2520 5 ∧ updating d = false ∧ Config.imageSigned img = true ∧ fwSecurity d ≤
    Config.imageSecurityVersion img) ∧
    (∃ (dt : Nat) (s : State) (d : Device) (who : Requester) (img : List Byte) (code : Nat), d = elapse s.dev dt ∧ Allowed d who
    0x2520 6 (.num 1) ∧ img = regB d 0x2520 5 ∧ code = (if updating d = true then 5 else if Config.imageSigned img = false then
    2 else if Config.imageSecurityVersion img < fwSecurity d then 3 else 1)) ∧
    (∃ (dt : Nat) (s : State) (d : Device) (who : Requester) (img : List Byte) (code : Nat), d = elapse s.dev dt ∧ Allowed d who
    0x2520 6 (.num 1) ∧ img = regB d 0x2520 5 ∧ code = (if updating d = true then 5 else if Config.imageSigned img = false then
    2 else if Config.imageSecurityVersion img < fwSecurity d then 3 else 1)) ∧
    (∃ (dt : Nat) (s : State) (d : Device) (who : Requester) (o i : Nat), d = elapse s.dev dt ∧ Allowed d who 0x2520 7 (.num 1)
    ∧ standbyIn d [4] = some o ∧ updating d = false ∧ d.cmp.kind ≠ 2 ∧ pixelBusy d = false ∧ anyShed d 4 = false ∧ slotIn (norOf
    d o) 2 = some i) ∧
    (∃ (dt : Nat) (s : State) (d : Device) (who : Requester) (code : Nat), d = elapse s.dev dt ∧ Allowed d who 0x2520 7 (.num 1)
    ∧ code = (match standbyIn d [4] with
      | none => 4
      | some o => if updating d = true ∨ d.cmp.kind = 2 ∨ pixelBusy d = true then 5 else if anyShed d 4 = true then 7 else if
          slotIn (norOf d o) 2 = none then 2 else 1)) ∧
    (∃ (dt : Nat) (s : State) (d : Device) (who : Requester) (code : Nat), d = elapse s.dev dt ∧ Allowed d who 0x2520 7 (.num 1)
    ∧ code = (match standbyIn d [4] with
      | none => 4
      | some o => if updating d = true ∨ d.cmp.kind = 2 ∨ pixelBusy d = true then 5 else if anyShed d 4 = true then 7 else if
          slotIn (norOf d o) 2 = none then 2 else 1)) ∧
    (∃ (dt : Nat) (s : State) (d : Device) (who : Requester) (code : Nat), d = elapse s.dev dt ∧ Allowed d who 0x2520 7 (.num 1)
    ∧ code = (match standbyIn d [4] with
      | none => 4
      | some o => if updating d = true ∨ d.cmp.kind = 2 ∨ pixelBusy d = true then 5 else if anyShed d 4 = true then 7 else if
          slotIn (norOf d o) 2 = none then 2 else 1)) ∧
    (fwSecurity (modCtl dev0 1 fun c => { c with flash := { c.flash with slotB := 5 } }) ≤ Config.imageSecurityVersion [3, 4] →
    ∃ (dt : Nat) (s : State) (d : Device) (who : Requester) (o i : Nat), d = elapse s.dev dt ∧ Allowed d who 0x2520 7 (.num 2) ∧
    standbyIn d [4] = some o ∧ updating d = false ∧ d.cmp.kind ≠ 2 ∧ pixelBusy d = false ∧ anyShed d 4 = false ∧ slotIn (norOf d
    o) 5 = some i ∧ fwSecurity d ≤ Config.imageSecurityVersion (slotImg (norOf d o) i)) ∧
    (∃ (dt : Nat) (s : State) (d : Device) (who : Requester) (code : Nat), d = elapse s.dev dt ∧ Allowed d who 0x2520 7 (.num 2)
    ∧ code = (match standbyIn d [4] with
      | none => 4
      | some o => if updating d = true ∨ d.cmp.kind = 2 ∨ pixelBusy d = true then 5 else if anyShed d 4 = true then 7 else match
          slotIn (norOf d o) 5 with
      | none => 2
      | some i => if Config.imageSecurityVersion (slotImg (norOf d o) i) < fwSecurity d then 3 else 1)) ∧
    (∃ (dt : Nat) (s : State) (d : Device) (who : Requester) (code : Nat), d = elapse s.dev dt ∧ Allowed d who 0x2520 7 (.num 2)
    ∧ code = (match standbyIn d [4] with
      | none => 4
      | some o => if updating d = true ∨ d.cmp.kind = 2 ∨ pixelBusy d = true then 5 else if anyShed d 4 = true then 7 else match
          slotIn (norOf d o) 5 with
      | none => 2
      | some i => if Config.imageSecurityVersion (slotImg (norOf d o) i) < fwSecurity d then 3 else 1)) ∧
    (∃ (dt : Nat) (s : State) (d : Device) (who : Requester) (code : Nat), d = elapse s.dev dt ∧ Allowed d who 0x2520 7 (.num 2)
    ∧ code = (match standbyIn d [4] with
      | none => 4
      | some o => if updating d = true ∨ d.cmp.kind = 2 ∨ pixelBusy d = true then 5 else if anyShed d 4 = true then 7 else match
          slotIn (norOf d o) 5 with
      | none => 2
      | some i => if Config.imageSecurityVersion (slotImg (norOf d o) i) < fwSecurity d then 3 else 1)) ∧
    (Config.imageSigned [5, 6] = true → Config.imageLayout [5, 6] = Config.imageLayout [7] → ∃ (dt : Nat) (s : State) (d :
    Device) (who : Requester) (p : Die) (img : List Byte) (u : McUnit), d = elapse s.dev dt ∧ Allowed d who (mcObj p) 6 (.num 1)
    ∧ img = regB d (mcObj p) 4 ∧ u = mcAt d p ∧ u.armed = none ∧ u.probation = 0 ∧ pixUp d p = true ∧ Config.imageSigned img =
    true ∧ Config.imageLayout img = Config.imageLayout (mcRunning u) ∧ u.running < 2) ∧
    (∃ (dt : Nat) (s : State) (d : Device) (who : Requester) (p : Die) (img : List Byte) (u : McUnit) (code : Nat), d = elapse
    s.dev dt ∧ Allowed d who (mcObj p) 6 (.num 1) ∧ img = regB d (mcObj p) 4 ∧ u = mcAt d p ∧ code = (if mcCheck d p ≠ 1 then
    mcCheck d p else if Config.imageLayout img ≠ Config.imageLayout (mcRunning u) then 3 else 1)) ∧
    (∃ (dt : Nat) (s : State) (d : Device) (who : Requester) (p : Die) (img : List Byte) (u : McUnit) (code : Nat), d = elapse
    s.dev dt ∧ Allowed d who (mcObj p) 6 (.num 1) ∧ img = regB d (mcObj p) 4 ∧ u = mcAt d p ∧ code = (if mcCheck d p ≠ 1 then
    mcCheck d p else if Config.imageLayout img ≠ Config.imageLayout (mcRunning u) then 3 else 1)) ∧
    (∃ (dt : Nat) (s : State) (d : Device) (who : Requester) (p : Die), d = elapse s.dev dt ∧ Allowed d who (mcObj p) 6 (.num
    2)) ∧
    (Config.imageSigned [5, 6] = true → ∃ (dt : Nat) (s : State) (d : Device) (who : Requester) (p : Die) (img : List Byte), d =
    elapse s.dev dt ∧ Allowed d who (mcObj p) 6 (.num 3) ∧ img = regB d (mcObj p) 4 ∧ (mcAt d p).armed = none ∧ (mcAt d
    p).probation = 0 ∧ pixUp d p = true ∧ Config.imageSigned img = true) ∧
    (∃ (dt : Nat) (s : State) (d : Device) (who : Requester) (p : Die), d = elapse s.dev dt ∧ Allowed d who (mcObj p) 6 (.num
    3)) ∧
    (∃ (dt : Nat) (s : State) (d : Device) (who : Requester) (p : Die), d = elapse s.dev dt ∧ Allowed d who (mcObj p) 6 (.num
    3)) :=
  ⟨fun c0 c1 => ⟨0, ⟨[], setReg dev0 0x2520 5 (.bytes [5, 6])⟩, _, me, [5, 6], rfl, ⟨by decide +kernel, by decide +kernel⟩,
   by decide +kernel, by decide +kernel, c0, c1⟩,
   ⟨0, ⟨[], withImage 0x2520 5 dev0⟩, _, me, _, _, rfl, ⟨by decide +kernel, by decide +kernel⟩, rfl, rfl⟩,
   ⟨0, ⟨[], withImage 0x2520 5 { dev0 with sup := { dev0.sup with fwState := 2 } }⟩, _, me, _, _, rfl, ⟨by decide +kernel,
   by decide +kernel⟩, rfl, rfl⟩,
   ⟨0, ⟨[], modCtl dev0 1 fun c => { c with flash := { c.flash with slotB := 2 } }⟩, _, me, 1, 1, rfl, ⟨by decide +kernel,
   by decide +kernel⟩, by decide +kernel⟩,
   ⟨0, ⟨[], dev0⟩, _, me, _, rfl, ⟨by decide +kernel, by decide +kernel⟩, rfl⟩,
   ⟨0, ⟨[], { dev0 with sup := { dev0.sup with fwState := 4 } }⟩, _, me, _, rfl, ⟨by decide +kernel, by decide +kernel⟩, rfl⟩,
   ⟨0, ⟨[], setCtl dev0 1 CtlDie.reset⟩, _, me, _, rfl, ⟨by decide +kernel, by decide +kernel⟩, rfl⟩,
   fun c0 => ⟨0, ⟨[], modCtl dev0 1 fun c => { c with flash := { c.flash with slotB := 5 } }⟩, _, me, 1, 1, rfl,
   ⟨by decide +kernel, by decide +kernel⟩, by decide +kernel, by decide +kernel, by decide +kernel, (by decide +kernel),
   by decide +kernel, by decide +kernel, c0⟩,
   ⟨0, ⟨[], modCtl dev0 1 fun c => { c with flash := { c.flash with slotB := 5 } }⟩, _, me, _, rfl, ⟨by decide +kernel,
   by decide +kernel⟩, rfl⟩,
   ⟨0, ⟨[], dev0⟩, _, me, _, rfl, ⟨by decide +kernel, by decide +kernel⟩, rfl⟩,
   ⟨0, ⟨[], setCtl dev0 1 CtlDie.reset⟩, _, me, _, rfl, ⟨by decide +kernel, by decide +kernel⟩, rfl⟩,
   fun c0 c1 => ⟨0, ⟨[], setMc (setReg dev0 (mcObj 2) 4 (.bytes [5, 6])) 2 { McUnit.reset with state0 := 3, image0 := [7] }⟩, _,
   me, 2, [5, 6], _, rfl, ⟨by decide +kernel, by decide +kernel⟩, by decide +kernel, rfl, by decide +kernel, by decide +kernel,
   by decide +kernel, c0, c1, by decide +kernel⟩,
   ⟨0, ⟨[], withImage (mcObj 2) 4 dev0⟩, _, me, 2, _, _, _, rfl, ⟨by decide +kernel, by decide +kernel⟩, rfl, rfl, rfl⟩,
   ⟨0, ⟨[], setMc (withImage (mcObj 2) 4 dev0) 2 { McUnit.reset with armed := some 5 }⟩, _, me, 2, _, _, _, rfl,
   ⟨by decide +kernel, by decide +kernel⟩, rfl, rfl, rfl⟩,
   ⟨0, ⟨[], setMc dev0 2 { McUnit.reset with armed := some 3 }⟩, _, me, 2, rfl, ⟨by decide +kernel, by decide +kernel⟩⟩,
   fun c0 => ⟨0, ⟨[], setMc (setReg dev0 (mcObj 2) 4 (.bytes [5, 6])) 2 { McUnit.reset with state0 := 3, image0 := [7] }⟩, _,
   me, 2, [5, 6], rfl, ⟨by decide +kernel, by decide +kernel⟩, by decide +kernel, by decide +kernel, by decide +kernel,
   (by decide +kernel), c0⟩,
   ⟨0, ⟨[], withImage (mcObj 2) 4 dev0⟩, _, me, 2, rfl, ⟨by decide +kernel, by decide +kernel⟩⟩,
   ⟨0, ⟨[], setMc (withImage (mcObj 2) 4 dev0) 2 { McUnit.reset with armed := some 5 }⟩, _, me, 2, rfl, ⟨by decide +kernel,
   by decide +kernel⟩⟩⟩

/-! ### The statements about the block as a whole: what meets their hypotheses -/

/-- One rule: master 4 may read the first page of die 2. -/
def oneRule : RuleCopy :=
  { RuleCopy.reset with rules := [(3, { masters := 16, base := 0x200000000000, pages := 1, access := 1 })] }

theorem test_the_lowest_matching_rule_decides :
    Rising oneRule.rules ∧ oneRule.denyAll = false ∧ (ruleDecide oneRule 4 0x200000000FFF 1 false).1 = true ∧
    (ruleDecide oneRule 4 0x200000000FFF 1 true).1 = false ∧ (ruleDecide oneRule 4 0x200000001000 1 false).1 = false ∧
    ({ oneRule with denyAll := true } : RuleCopy).denyAll = true := by
  refine ⟨?_, ?_, ?_, ?_, ?_, ?_⟩ <;> simp [oneRule, Rising, RuleCopy.reset] <;> decide +kernel

theorem test_every_step_keeps_the_stores_canonical :
    ∃ (s t : State), StoresCanonical s ∧ step s = .next t ∧ s.pending ≠ [] :=
  ⟨{ State.reset with pending := [.pwrgoodRise 5] }, _,
    ⟨by simp [State.reset, Device.reset, Canonical, Rising], by simp [State.reset, Device.reset, Canonical, Rising],
      by simp [State.reset, Device.reset, Canonical, Rising], by simp [State.reset, Device.reset, MemWf, Rising]⟩, rfl, by simp⟩

theorem test_the_block_idles_on_an_empty_queue : ∃ s : State, s.pending = [] ∧ step s = .next s := ⟨State.reset, rfl, rfl⟩

theorem test_signatures_cover_the_tile_crcs :
    ∃ (tiles : Table Slot) (b : List Byte), tiles ≠ [] ∧
      b = tiles.flatMap (fun t => ((beBytes 16 t.2.hdr.toNat).drop 12).take 4) ∧ b.length = 4 :=
  ⟨[(0, { num := 0, hdr := 0x7C310A5E#128, payload := [], hif := 0, pif := 0 })], _, by simp,
    rfl, by decide +kernel⟩

/-! ### Values the spec gives -/

/-- R65's check value over the ASCII bytes 123456789. -/
theorem test_crc32c_check_value :
    crc32c ((List.range' 0x31 9).map (BitVec.ofNat 8)) = 0xE3069283 := by decide +kernel

/-- FIPS 180-4's example of SHA-256 over abc, which R351 and others use. -/
theorem test_sha256_of_abc :
    (sha256 [0x61#8, 0x62#8, 0x63#8]).take 4 = [0xBA#8, 0x78#8, 0x16#8, 0xBF#8] := by decide +kernel

/-- PWRGOOD rises: the first command of any run has its effect at the pins. -/
theorem test_pwrgood_rise_from_reset :
    (match step { State.reset with pending := [.pwrgoodRise 5] } with
      | .next t => t.dev.pins.pwrgood && t.pending == []
      | _ => false) = true := by decide +kernel

/-! ### WellFormed refuses what no command carries -/

def goodPeer : Endpoint := { ip := 0xC0A80001, udp := 5000 }
def goodHdr : TppHeader :=
  { magic := 0x5450, version := 1, op := 1, session := 0, count := 1, source := 3, seq := 1, flags := 0, dseq := 1, len := 16, bodyRsvd := false }
def goodTile : TppTile := { index := 0, hdr := 0#128, payload := [] }
def goodRtp : RtpPacket := { payloadType := 96, seq := 0, extSeqHi := 0, timestamp := 0, marker := false, field := false, rows := [] }
def goodHello : Hello := { session := 255, roles := 1, nonce := List.replicate 32 0, key := List.replicate 65 0, chain := [] }
def goodCaps : SinkCaps := { dpcdRev := 0x14, rate := 0x1E, lanes := 4, mst := false, branch := false, ports := [], usable := true }

theorem test_wf_good :
    (Instr.tppTileUpdate 0 0 goodPeer goodHdr [goodTile]).wf ∧ (Instr.rtpPacket 0 0 0 0 goodRtp).wf ∧
    (Instr.dxpHello 0 0 goodPeer goodHello).wf ∧ (Instr.hpdHigh 0 0 goodCaps).wf := by decide +kernel
theorem test_wf_dt : ¬ (Instr.commitWindowClose (2 ^ 64) 0).wf := by decide +kernel
theorem test_wf_line : ¬ (Instr.rasterLine 0 0 0 65536 [] false).wf := by decide +kernel
theorem test_wf_parity : ¬ (Instr.rasterLine 0 0 0 0 [(0, 2 ^ 32)] false).wf := by decide +kernel
theorem test_wf_tile : ¬ (Instr.tileFetchDone 0 0 false (2 ^ 32) ⟨[], false⟩ ⟨[], false⟩).wf := by decide +kernel
theorem test_wf_hdr_flips : ¬ (Instr.tileFetchDone 0 0 false 0 ⟨[128], false⟩ ⟨[], false⟩).wf := by decide +kernel
theorem test_wf_pay_flips : ¬ (Instr.tileFetchDone 0 0 false 0 ⟨[], false⟩ ⟨[8192], false⟩).wf := by decide +kernel
theorem test_wf_caps : ¬ (Instr.hpdHigh 0 0 { goodCaps with rate := 256 }).wf ∧
    ¬ (Instr.linkTrainingRetry 0 0 { goodCaps with ports := [256] }).wf := by decide +kernel
theorem test_wf_peer : ¬ (Instr.tppTileUpdate 0 0 { ip := 2 ^ 32, udp := 0 } goodHdr []).wf ∧
    ¬ (Instr.tppTileUpdate 0 0 { ip := 0, udp := 65536 } goodHdr []).wf := by decide +kernel
theorem test_wf_tpp_header :
    ¬ (Instr.tppTileUpdate 0 0 goodPeer { goodHdr with magic := 65536 } []).wf ∧
    ¬ (Instr.tppTileUpdate 0 0 goodPeer { goodHdr with version := 256 } []).wf ∧
    ¬ (Instr.tppTileUpdate 0 0 goodPeer { goodHdr with op := 256 } []).wf ∧
    ¬ (Instr.tppTileUpdate 0 0 goodPeer { goodHdr with session := 256 } []).wf ∧
    ¬ (Instr.tppTileUpdate 0 0 goodPeer { goodHdr with count := 256 } []).wf ∧
    ¬ (Instr.tppTileUpdate 0 0 goodPeer { goodHdr with source := 65536 } []).wf ∧
    ¬ (Instr.tppTileUpdate 0 0 goodPeer { goodHdr with seq := 65536 } []).wf ∧
    ¬ (Instr.tppTileUpdate 0 0 goodPeer { goodHdr with flags := 65536 } []).wf ∧
    ¬ (Instr.tppTileUpdate 0 0 goodPeer { goodHdr with dseq := 2 ^ 32 } []).wf ∧
    ¬ (Instr.tppTileUpdate 0 0 goodPeer { goodHdr with len := 65536 } []).wf := by decide +kernel
theorem test_wf_tpp_tile : ¬ (Instr.tppTileUpdate 0 0 goodPeer goodHdr [{ goodTile with index := 65536 }]).wf ∧
    ¬ (Instr.tppTileUpdate 0 0 goodPeer goodHdr [{ goodTile with payload := List.replicate 1025 0 }]).wf := by decide +kernel
theorem test_wf_reseal : ¬ (Instr.tppReseal 0 0 goodPeer goodHdr [(65536, 0#128)]).wf := by decide +kernel
theorem test_wf_frame_close :
    ¬ (Instr.tppEndOfFrame 0 0 goodPeer goodHdr { capture := 2 ^ 48, signature := 0, count := 0 }).wf ∧
    ¬ (Instr.tppEndOfFrame 0 0 goodPeer goodHdr { capture := 0, signature := 2 ^ 32, count := 0 }).wf ∧
    ¬ (Instr.tppEndOfFrame 0 0 goodPeer goodHdr { capture := 0, signature := 0, count := 2 ^ 32 }).wf := by decide +kernel
theorem test_wf_keepalive : ¬ (Instr.tppKeepalive 0 0 goodPeer goodHdr (2 ^ 48) 0).wf ∧
    ¬ (Instr.tppKeepalive 0 0 goodPeer goodHdr 0 256).wf := by decide +kernel
theorem test_wf_rtp :
    ¬ (Instr.rtpPacket 0 0 0 0 { goodRtp with payloadType := 128 }).wf ∧ ¬ (Instr.rtpPacket 0 0 0 0 { goodRtp with seq := 65536 }).wf ∧
    ¬ (Instr.rtpPacket 0 0 0 0 { goodRtp with extSeqHi := 65536 }).wf ∧ ¬ (Instr.rtpPacket 0 0 0 0 { goodRtp with timestamp := 2 ^ 32 }).wf ∧
    ¬ (Instr.rtpPacket 0 0 0 0 { goodRtp with rows := List.replicate 1025 { row := 0, first := 0, samples := [] } }).wf ∧
    ¬ (Instr.rtpPacket 0 0 0 0 { goodRtp with rows := [{ row := 65536, first := 0, samples := [] }] }).wf ∧
    ¬ (Instr.rtpPacket 0 0 0 0 { goodRtp with rows := [{ row := 0, first := 0, samples := [2 ^ 32] }] }).wf ∧
    ¬ (Instr.rtpPacket 0 0 (2 ^ 32) 0 goodRtp).wf ∧ ¬ (Instr.rtpPacket 0 0 0 65536 goodRtp).wf := by decide +kernel
theorem test_wf_csi_type : ¬ (Instr.csiLongPacket 0 0 0 64 [] true false).wf := by decide +kernel
theorem test_wf_requester : ¬ (Instr.layerCommit 0 (.can 0 0) 0).wf ∧ ¬ (Instr.layerCommit 0 (.can 0 128) 0).wf := by decide +kernel
theorem test_wf_value : ¬ (Instr.registerWrite 0 .bundle 0 0 (.num (2 ^ 64))).wf ∧ ¬ (Instr.registerWrite 0 .bundle 65536 0 (.num 0)).wf ∧
    ¬ (Instr.registerWrite 0 .bundle 0 256 (.num 0)).wf ∧ ¬ (Instr.tagValueWrite 0 .bundle 0 (2 ^ 64)).wf := by decide +kernel
theorem test_wf_value_bytes : (Val.bytes (List.replicate (2 ^ 20 + 1) 0)).wf = false := by
  simp only [Val.wf, List.length_replicate]; decide
theorem test_wf_small_numbers : ¬ (Instr.sessionClaimLayer 0 (.session 0) 0 256).wf ∧ ¬ (Instr.errorRingAck 0 (.session 0) 0 (2 ^ 32)).wf ∧
    ¬ (Instr.timebaseConfigWrite 0 (.session 0) 0 256 0).wf := by decide +kernel
theorem test_wf_nonce_and_signature : ¬ (Instr.attestNonceWrite 0 (.session 0) []).wf ∧ ¬ (Instr.debugApproveMaint 0 (.session 0) []).wf ∧
    ¬ (Instr.debugApproveAudit 0 (.session 0) []).wf ∧ ¬ (Instr.dxpProve 0 0 goodPeer []).wf := by decide +kernel
theorem test_wf_hello : ¬ (Instr.dxpHello 0 0 goodPeer { goodHello with session := 256 }).wf ∧
    ¬ (Instr.dxpHello 0 0 goodPeer { goodHello with roles := 256 }).wf ∧ ¬ (Instr.dxpHello 0 0 goodPeer { goodHello with nonce := [] }).wf ∧
    ¬ (Instr.dxpHello 0 0 goodPeer { goodHello with key := [] }).wf := by decide +kernel
theorem test_wf_dxp : ¬ (Instr.dxpRead 0 0 goodPeer 0 (2 ^ 32) 0 0).wf ∧ ¬ (Instr.dxpBlockRead 0 0 goodPeer 0 0 0 0 (2 ^ 32) 1).wf ∧
    ¬ (Instr.dxpBlockRead 0 0 goodPeer 0 0 0 0 0 (2 ^ 32)).wf ∧
    ¬ (Instr.dxpTagTelegram 0 0 goodPeer 0 0 1 0 [{ tag := 65536, stamp := none, value := 0, rsvd := false }]).wf ∧
    ¬ (Instr.dxpTagTelegram 0 0 goodPeer 0 0 1 0 [{ tag := 0, stamp := some (2 ^ 48), value := 0, rsvd := false }]).wf ∧
    ¬ (Instr.dxpTagTelegram 0 0 goodPeer 0 0 1 0 [{ tag := 0, stamp := none, value := 2 ^ 32, rsvd := false }]).wf := by decide +kernel
theorem test_wf_can : ¬ (Instr.rpdo 0 0 2048 []).wf ∧ ¬ (Instr.rpdo 0 0 0 (List.replicate 65 0)).wf ∧ ¬ (Instr.usdoUpload 0 0 0 0 0).wf ∧
    ¬ (Instr.nmtStartRemoteNode 0 0 128).wf := by decide +kernel
theorem test_wf_telegram : ¬ (Instr.telegramLaunch 0 (.session 0) []).wf := by decide +kernel
theorem test_wf_touch : ¬ (Instr.touchIdent 0 0 256 0 0 0).wf ∧ ¬ (Instr.touchIdent 0 0 0 0 65536 0).wf ∧ ¬ (Instr.touchIdent 0 0 0 0 0 (2 ^ 32)).wf ∧
    ¬ (Instr.touchReg 0 0 65536 0).wf ∧ ¬ (Instr.touchStatus 0 0 256).wf ∧ ¬ (Instr.touchSample 0 0 65536 0 []).wf ∧
    ¬ (Instr.touchSample 0 0 0 0 [32768]).wf := by decide +kernel
theorem test_wf_memory : ¬ (Instr.memTrainingDone 0 0 []).wf ∧ ¬ (Instr.memRequestEnqueue 0 0 0 0 0 (2 ^ 34)).wf ∧
    ¬ (Instr.queueDequeue 0 0 0 []).wf ∧ ¬ (Instr.descriptorResend 0 0 0 []).wf := by decide +kernel
theorem test_wf_ptp : ¬ (Instr.ptpSync 0 0 0 { seq := 65536, grandmaster := 0, domain := 0, twoStep := false, origin := 0, logInterval := 0 }).wf ∧
    ¬ (Instr.ptpAnnounce 0 0 0 { grandmaster := 2 ^ 64, domain := 0, rank := [], logInterval := 0 }).wf ∧
    ¬ (Instr.ptpAnnounce 0 0 0 { grandmaster := 0, domain := 256, rank := [], logInterval := 0 }).wf ∧
    ¬ (Instr.ptpFollowUp 0 0 0 65536 0).wf := by decide +kernel
theorem test_wf_service : ¬ (Instr.shadowDigest 0 []).wf ∧ ¬ (Instr.freqWindowEnd 0 0 (2 ^ 32)).wf ∧ ¬ (Instr.supplyBrownout 0 0 65536).wf ∧
    ¬ (Instr.thermnRelease 0 []).wf := by decide +kernel
theorem test_wf_tap : ¬ (Instr.debugTapAccess 0 (.access (2 ^ 48) 1 none)).wf ∧ ¬ (Instr.debugTapAccess 0 (.access 0 0 none)).wf ∧
    ¬ (Instr.debugTapAccess 0 (.access 0 257 none)).wf ∧ ¬ (Instr.debugTapAccess 0 (.access 0 2 (some []))).wf := by decide +kernel

end Sys2Proof.Tests
end

section
/-! PROOFS. Tiles and seals: a frame's signature as the CRC-32C over its tiles' header bytes (R67). -/

namespace Sys2Proof

open Machine

/-! ### Big-endian bytes -/

@[simp] theorem length_beBytes (n v : Nat) : (beBytes n v).length = n := by
  induction n with
  | zero => rfl
  | succ n ih => rw [beBytes, List.length_cons, ih]

/-- The last `n` bytes of a wider big-endian number are its `n`-byte form. -/
theorem drop_beBytes (m n v : Nat) : (beBytes (m + n) v).drop m = beBytes n v := by
  induction m with
  | zero => rw [Nat.zero_add, List.drop_zero]
  | succ m ih => rw [Nat.succ_add, beBytes, List.drop_succ_cons, ih]

/-- Dropping the bytes from `w` on leaves byte `n < w` as it was. -/
theorem ofNat_byte_mod {n w : Nat} (h : n < w) (v : Nat) :
    BitVec.ofNat 8 (v % 256 ^ w / 256 ^ n) = BitVec.ofNat 8 (v / 256 ^ n) := by
  obtain ⟨k, rfl⟩ : ∃ k, w = n + (k + 1) := ⟨w - n - 1, by omega⟩
  apply BitVec.eq_of_toNat_eq
  rw [BitVec.toNat_ofNat, BitVec.toNat_ofNat, Nat.pow_add, Nat.mod_mul_right_div_self]
  exact Nat.mod_mod_of_dvd _ (Nat.dvd_mul_left (2 ^ 8) (256 ^ k))

/-- The `n`-byte form reads only the low `w ≥ n` bytes of a number. -/
theorem beBytes_mod {n w : Nat} (h : n ≤ w) (v : Nat) : beBytes n (v % 256 ^ w) = beBytes n v := by
  induction n with
  | zero => rfl
  | succ n ih => rw [beBytes, beBytes, ofNat_byte_mod h, ih (Nat.le_of_succ_le h)]

/-! ### The tile CRC in the header (R62, R65) -/

theorem hdrCrc_eq_mod (h : BitVec 128) : hdrCrc h = h.toNat % 256 ^ 4 := by
  unfold hdrCrc hdrField
  omega

/-- Header bytes 12 to 15 are the tile CRC, most significant byte first. -/
theorem headerBytes_crc (h : BitVec 128) :
    ((beBytes 16 h.toNat).drop 12).take 4 = beBytes 4 (hdrCrc h) := by
  have last4 : (beBytes 16 h.toNat).drop 12 = beBytes 4 h.toNat := drop_beBytes 12 4 _
  rw [last4, List.take_of_length_le (Nat.le_of_eq (length_beBytes 4 _)), hdrCrc_eq_mod, beBytes_mod (Nat.le_refl 4)]

/-! ### Signatures (R67) -/

theorem frameSignature_eq (tiles : Table Slot) :
    frameSignature tiles = crc32c (tiles.flatMap fun t => beBytes 4 (hdrCrc t.2.hdr)) := by
  rw [frameSignature, signatureOf, List.flatMap_map]

theorem length_flatMap_beBytes {α : Type} (n : Nat) (f : α → Nat) (l : List α) :
    (l.flatMap fun x => beBytes n (f x)).length = n * l.length := by
  induction l with
  | nil => rfl
  | cons x xs ih =>
    rw [List.flatMap_cons, List.length_append, length_beBytes, ih, List.length_cons, Nat.mul_succ, Nat.add_comm]

/-- Settles O6: the header bytes fed are each tile's CRC in four bytes, which is what the signature runs over. -/
theorem signaturesCoverTheTileCrcs : Obligations.SignaturesCoverTheTileCrcs := by
  rintro tiles b rfl
  simp only [headerBytes_crc]
  exact ⟨frameSignature_eq tiles, length_flatMap_beBytes 4 _ tiles⟩

end Sys2Proof
end

section
/-! PROOFS. Protection: the access rule table, in which the lowest entry that matches decides (R340), and what a commit
leaves in a copy (R342). -/

namespace Sys2Proof

open Machine Safety

/-! ### Finding in a table with rising keys -/

theorem mem_of_tfind {α : Type} {t : Table α} {k : Nat} {v : α} (h : tfind t k = some v) : (k, v) ∈ t := by
  induction t with
  | nil => simp [tfind] at h
  | cons x s ih =>
    obtain ⟨j, a⟩ := x
    rw [tfind] at h
    split at h
    · next hj => rw [hj, Option.some.inj h]; exact List.mem_cons_self
    · exact List.mem_cons_of_mem _ (ih h)

/-- Every key found behind the first entry of a rising table is greater than that entry's. -/
theorem lt_of_tfind_tail {α : Type} {j k : Nat} {a v : α} {s : Table α} (hr : Rising ((j, a) :: s))
    (h : tfind s k = some v) : j < k :=
  ((rising_cons _ _).mp hr).1 _ (mem_of_tfind h)

theorem tfind_cons_eq_some_iff {α : Type} {j : Nat} {a : α} {s : Table α} (hr : Rising ((j, a) :: s)) (k : Nat) (v : α) :
    tfind ((j, a) :: s) k = some v ↔ (k = j ∧ v = a) ∨ (j < k ∧ tfind s k = some v) := by
  by_cases hj : j = k
  · subst hj
    simp [tfind, eq_comm]
  · rw [tfind, if_neg hj]
    exact ⟨fun h => .inr ⟨lt_of_tfind_tail hr h, h⟩, fun h => (h.resolve_left fun e => hj e.1.symm).2⟩

/-- A scan of a rising table from its front stops at the lowest key whose value passes. -/
theorem find?_eq_some_iff_lowest {α : Type} (p : α → Bool) {t : Table α} (hr : Rising t) (k : Nat) (v : α) :
    t.find? (fun x => p x.2) = some (k, v) ↔
      tfind t k = some v ∧ p v = true ∧ ∀ f q, f < k → tfind t f = some q → ¬ p q = true := by
  induction t with
  | nil => simp [tfind]
  | cons x s ih =>
    obtain ⟨j, a⟩ := x
    simp only [List.find?_cons, tfind_cons_eq_some_iff hr]
    cases ha : p a with
    | true =>
      constructor
      · rintro ⟨⟩
        refine ⟨.inl ⟨rfl, rfl⟩, ha, ?_⟩
        rintro f q hf (⟨hj, -⟩ | ⟨hj, -⟩) <;> omega
      · rintro ⟨⟨rfl, rfl⟩ | ⟨hj, -⟩, -, lowest⟩
        · rfl
        · exact absurd ha (lowest j a hj (.inl ⟨rfl, rfl⟩))
    | false =>
      rw [ih ((rising_cons _ _).mp hr).2]
      constructor
      · rintro ⟨hk, hv, lowest⟩
        refine ⟨.inr ⟨lt_of_tfind_tail hr hk, hk⟩, hv, ?_⟩
        rintro f q hf (⟨-, rfl⟩ | ⟨-, hq⟩)
        · simp [ha]
        · exact lowest f q hf hq
      · rintro ⟨⟨-, rfl⟩ | ⟨-, hk⟩, hv, lowest⟩
        · simp [ha] at hv
        · exact ⟨hk, hv, fun f q hf hq => lowest f q hf (.inr ⟨lt_of_tfind_tail hr hq, hq⟩)⟩

/-! ### Matching and deciding (R340) -/

theorem ruleHits_iff (r : Rule) (master addr : Nat) :
    ruleHits r master addr = true ↔
      r.masters.testBit master = true ∧ r.base ≤ addr ∧ addr < r.base + r.pages * 4096 := by
  simp [ruleHits, and_assoc]

theorem ruleFor_eq_some_iff {rs : Table Rule} (hr : Rising rs) (master addr e : Nat) (r : Rule) :
    ruleFor rs master addr = some (e, r) ↔
      tfind rs e = some r ∧ ruleHits r master addr = true ∧
        ∀ f q, f < e → tfind rs f = some q → ¬ ruleHits q master addr = true :=
  find?_eq_some_iff_lowest (ruleHits · master addr) hr e r

/-- A copy in the state of R342 permits nothing, whatever its entries. -/
theorem ruleDecide_denyAll {c : RuleCopy} (hd : c.denyAll = true) (master addr len : Nat) (write : Bool) :
    (ruleDecide c master addr len write).1 = false := by
  simp [ruleDecide, hd]

/-- The first and the last byte of a one-byte access are decided by the same entry, so that entry's permission is all
there is to it. -/
theorem ruleDecide_byte_of_ruleFor {c : RuleCopy} (hd : c.denyAll = false) {master addr e : Nat} {r : Rule}
    (h : ruleFor c.rules master addr = some (e, r)) (write : Bool) :
    (ruleDecide c master addr 1 write).1 = r.access.testBit (if write then 1 else 0) := by
  cases hp : r.access.testBit (if write then 1 else 0) <;> simp [ruleDecide, hd, h, hp]

theorem ruleDecide_of_ruleFor_none {c : RuleCopy} {master addr : Nat} (h : ruleFor c.rules master addr = none)
    (len : Nat) (write : Bool) : (ruleDecide c master addr len write).1 = false := by
  cases hd : c.denyAll <;> simp [ruleDecide, hd, h]

theorem ruleDecide_byte_iff {c : RuleCopy} (hd : c.denyAll = false) (master addr : Nat) (write : Bool) :
    (ruleDecide c master addr 1 write).1 = true ↔
      ∃ e r, ruleFor c.rules master addr = some (e, r) ∧ r.access.testBit (if write then 1 else 0) = true := by
  constructor
  · intro ok
    cases h : ruleFor c.rules master addr with
    | none => exact absurd (ok.symm.trans (ruleDecide_of_ruleFor_none h 1 write)) (by decide)
    | some x => exact ⟨x.1, x.2, rfl, (ruleDecide_byte_of_ruleFor hd h write).symm.trans ok⟩
  · rintro ⟨e, r, h, hp⟩
    exact (ruleDecide_byte_of_ruleFor hd h write).trans hp

/-! ### Commits (R339, R342) -/

theorem tfind_setRule (c : RuleCopy) (e : Nat) (r : Option Rule) : tfind (setRule c e r).rules e = r := by
  cases r <;> simp [setRule]

theorem stagedRule_eq (d : Device) (e : Nat) :
    stagedRule d e =
      if regN d (0x2400 + e) 1 = 1 then
        some { masters := regN d (0x2400 + e) 2, base := regN d (0x2400 + e) 3, pages := regN d (0x2400 + e) 4,
               access := regN d (0x2400 + e) 5 }
      else none := by
  simp only [stagedRule, regT, beq_iff_eq]

/-- Settles O5: the entry that decides is the first hit of a scan in entry order, and a commit writes or deletes the
entry's own key. -/
theorem theLowestMatchingRuleDecides : Obligations.TheLowestMatchingRuleDecides := by
  refine ⟨fun c master addr write hr hd => ?_, fun c master addr write hd => ruleDecide_denyAll hd master addr 1 write,
    fun d c e _ => ?_⟩
  · simp only [ruleDecide_byte_iff hd, ruleFor_eq_some_iff hr, ruleHits_iff, and_assoc]
  · rw [tfind_setRule, stagedRule_eq]

end Sys2Proof
end

section
/-! PROOFS. Reading a device after an update: the rules of the state's operations that Laws/ leaves out. A command's effect is
that of its function of the device; a unit reads through its table; and a frame (`Keeps`) goes through an update of a part that
it lists exactly when it holds before the update, so that `simp` computes frames. -/

namespace Sys2Proof

open Machine Safety

/-- A command of the shape `act` does what its function does to the device once its time has passed. -/
theorem does_of_act {i : Instr} {dt : Nat} {s : State} {d : Device} {f : Device → Device} {P : Device → Prop}
    (h : exec i s = act dt s f) (hd : d = elapse s.dev dt) (hp : P (settle (f d))) : Does i s P := by
  subst hd
  exact (does_act i dt s f P h).mpr hp

@[simp] theorem die_add_two_lt (p : Die) : p.val + 2 < 8 := by omega
@[simp] theorem dieNo_eq (p : Nat) : dieNo p = p + 2 := rfl
@[simp] theorem ctl_lt (c : Ctl) : c.val < 8 := by omega

theorem eq_of_lt_two {n : Nat} (h : n < 2) : n = 0 ∨ n = 1 := by omega
theorem eq_of_lt_three {n : Nat} (h : n < 3) : n = 0 ∨ n = 1 ∨ n = 2 := by omega
theorem eq_of_lt_four {n : Nat} (h : n < 4) : n = 0 ∨ n = 1 ∨ n = 2 ∨ n = 3 := by omega

/-! ### The part of the device that an update writes -/

@[simp] theorem setCtl_ctls (d : Device) (k : Nat) (v : CtlDie) : (setCtl d k v).ctls = tput d.ctls k v := rfl
@[simp] theorem setPix_pix (d : Device) (k : Nat) (v : PixelDie) : (setPix d k v).pix = tput d.pix k v := rfl
@[simp] theorem setRail_rails (d : Device) (k : Nat) (v : RailUnit) : (setRail d k v).rails = tput d.rails k v := rfl
@[simp] theorem setClock_clocks (d : Device) (k : Nat) (v : ClockUnit) : (setClock d k v).clocks = tput d.clocks k v := rfl
@[simp] theorem setRuleCopy_rules (d : Device) (k : Nat) (v : RuleCopy) : (setRuleCopy d k v).rules = tput d.rules k v := rfl
@[simp] theorem setRing_rings (d : Device) (k : Nat) (v : Ring) : (setRing d k v).rings = tput d.rings k v := rfl
@[simp] theorem setSrc_srcs (d : Device) (k : Nat) (v : SrcUnit) : (setSrc d k v).srcs = tput d.srcs k v := rfl
@[simp] theorem setSt2110_st2110 (d : Device) (k : Nat) (v : St2110Unit) : (setSt2110 d k v).st2110 = tput d.st2110 k v := rfl
@[simp] theorem setCam_cams (d : Device) (k : Nat) (v : CamUnit) : (setCam d k v).cams = tput d.cams k v := rfl
@[simp] theorem setPipe_pipes (d : Device) (k : Nat) (v : PipeUnit) : (setPipe d k v).pipes = tput d.pipes k v := rfl
@[simp] theorem setLayer_layers (d : Device) (k : Nat) (v : LayerUnit) : (setLayer d k v).layers = tput d.layers k v := rfl
@[simp] theorem setHead_heads (d : Device) (k : Nat) (v : HeadUnit) : (setHead d k v).heads = tput d.heads k v := rfl
@[simp] theorem setScan_scans (d : Device) (k : Nat) (v : HeadScan) : (setScan d k v).scans = tput d.scans k v := rfl
@[simp] theorem setTag_tags (d : Device) (k : Nat) (v : TagUnit) : (setTag d k v).tags = tput d.tags k v := rfl
@[simp] theorem setWb_wbs (d : Device) (k : Nat) (v : WbUnit) : (setWb d k v).wbs = tput d.wbs k v := rfl
@[simp] theorem setMemIf_ifs (d : Device) (k : Nat) (v : MemIfUnit) : (setMemIf d k v).ifs = tput d.ifs k v := rfl
@[simp] theorem setMem_mems (d : Device) (k : Nat) (v : MemUnit) : (setMem d k v).mems = tput d.mems k v := rfl
@[simp] theorem setQueue_queues (d : Device) (k : Nat) (v : QueueUnit) : (setQueue d k v).queues = tput d.queues k v := rfl
@[simp] theorem setLink_links (d : Device) (k : Nat) (v : TouchUnit) : (setLink d k v).links = tput d.links k v := rfl
@[simp] theorem setTrack_tracks (d : Device) (k : Nat) (v : TrackUnit) : (setTrack d k v).tracks = tput d.tracks k v := rfl
@[simp] theorem setMc_mcs (d : Device) (k : Nat) (v : McUnit) : (setMc d k v).mcs = tput d.mcs k v := rfl

/-- The last write of a key counts. -/
@[simp] theorem tput_tput {α : Type} (t : Table α) (k : Nat) (v w : α) : tput (tput t k v) k w = tput t k w := by
  induction t with
  | nil => simp [tput]
  | cons e r ih =>
    obtain ⟨i, a⟩ := e
    simp only [tput]
    split
    · simp [tput]
    · split
      · next h => simp [tput]
      · next h1 h2 => simp [tput, h1, h2, ih]

@[simp] theorem setCtl_setCtl (d : Device) (k : Nat) (v w : CtlDie) : setCtl (setCtl d k v) k w = setCtl d k w := by simp [setCtl]
@[simp] theorem setPix_setPix (d : Device) (k : Nat) (v w : PixelDie) : setPix (setPix d k v) k w = setPix d k w := by simp [setPix]
@[simp] theorem setRail_setRail (d : Device) (k : Nat) (v w : RailUnit) : setRail (setRail d k v) k w = setRail d k w := by simp [setRail]
@[simp] theorem setClock_setClock (d : Device) (k : Nat) (v w : ClockUnit) : setClock (setClock d k v) k w = setClock d k w := by simp [setClock]
@[simp] theorem setRuleCopy_setRuleCopy (d : Device) (k : Nat) (v w : RuleCopy) : setRuleCopy (setRuleCopy d k v) k w = setRuleCopy d k w := by simp [setRuleCopy]
@[simp] theorem setRing_setRing (d : Device) (k : Nat) (v w : Ring) : setRing (setRing d k v) k w = setRing d k w := by simp [setRing]
@[simp] theorem setSrc_setSrc (d : Device) (k : Nat) (v w : SrcUnit) : setSrc (setSrc d k v) k w = setSrc d k w := by simp [setSrc]
@[simp] theorem setSt2110_setSt2110 (d : Device) (k : Nat) (v w : St2110Unit) : setSt2110 (setSt2110 d k v) k w = setSt2110 d k w := by simp [setSt2110]
@[simp] theorem setCam_setCam (d : Device) (k : Nat) (v w : CamUnit) : setCam (setCam d k v) k w = setCam d k w := by simp [setCam]
@[simp] theorem setPipe_setPipe (d : Device) (k : Nat) (v w : PipeUnit) : setPipe (setPipe d k v) k w = setPipe d k w := by simp [setPipe]
@[simp] theorem setLayer_setLayer (d : Device) (k : Nat) (v w : LayerUnit) : setLayer (setLayer d k v) k w = setLayer d k w := by simp [setLayer]
@[simp] theorem setHead_setHead (d : Device) (k : Nat) (v w : HeadUnit) : setHead (setHead d k v) k w = setHead d k w := by simp [setHead]
@[simp] theorem setScan_setScan (d : Device) (k : Nat) (v w : HeadScan) : setScan (setScan d k v) k w = setScan d k w := by simp [setScan]
@[simp] theorem setTag_setTag (d : Device) (k : Nat) (v w : TagUnit) : setTag (setTag d k v) k w = setTag d k w := by simp [setTag]
@[simp] theorem setWb_setWb (d : Device) (k : Nat) (v w : WbUnit) : setWb (setWb d k v) k w = setWb d k w := by simp [setWb]
@[simp] theorem setMemIf_setMemIf (d : Device) (k : Nat) (v w : MemIfUnit) : setMemIf (setMemIf d k v) k w = setMemIf d k w := by simp [setMemIf]
@[simp] theorem setMem_setMem (d : Device) (k : Nat) (v w : MemUnit) : setMem (setMem d k v) k w = setMem d k w := by simp [setMem]
@[simp] theorem setQueue_setQueue (d : Device) (k : Nat) (v w : QueueUnit) : setQueue (setQueue d k v) k w = setQueue d k w := by simp [setQueue]
@[simp] theorem setLink_setLink (d : Device) (k : Nat) (v w : TouchUnit) : setLink (setLink d k v) k w = setLink d k w := by simp [setLink]
@[simp] theorem setTrack_setTrack (d : Device) (k : Nat) (v w : TrackUnit) : setTrack (setTrack d k v) k w = setTrack d k w := by simp [setTrack]
@[simp] theorem setMc_setMc (d : Device) (k : Nat) (v w : McUnit) : setMc (setMc d k v) k w = setMc d k w := by simp [setMc]

/-! ### Units of a device whose stores are put in canonical form -/

@[simp] theorem ctlAt_settle (d : Device) (k : Nat) : ctlAt (settle d) k = ctlAt d k := rfl
@[simp] theorem pixAt_settle (d : Device) (k : Nat) : pixAt (settle d) k = pixAt d k := rfl
@[simp] theorem railAt_settle (d : Device) (k : Nat) : railAt (settle d) k = railAt d k := rfl
@[simp] theorem clockAt_settle (d : Device) (k : Nat) : clockAt (settle d) k = clockAt d k := rfl
@[simp] theorem ruleCopyAt_settle (d : Device) (k : Nat) : ruleCopyAt (settle d) k = ruleCopyAt d k := rfl
@[simp] theorem ringAt_settle (d : Device) (k : Nat) : ringAt (settle d) k = ringAt d k := rfl
@[simp] theorem srcAt_settle (d : Device) (k : Nat) : srcAt (settle d) k = srcAt d k := rfl
@[simp] theorem st2110At_settle (d : Device) (k : Nat) : st2110At (settle d) k = st2110At d k := rfl
@[simp] theorem camAt_settle (d : Device) (k : Nat) : camAt (settle d) k = camAt d k := rfl
@[simp] theorem pipeAt_settle (d : Device) (k : Nat) : pipeAt (settle d) k = pipeAt d k := rfl
@[simp] theorem layerAt_settle (d : Device) (k : Nat) : layerAt (settle d) k = layerAt d k := rfl
@[simp] theorem headAt_settle (d : Device) (k : Nat) : headAt (settle d) k = headAt d k := rfl
@[simp] theorem scanAt_settle (d : Device) (k : Nat) : scanAt (settle d) k = scanAt d k := rfl
@[simp] theorem tagAt_settle (d : Device) (k : Nat) : tagAt (settle d) k = tagAt d k := rfl
@[simp] theorem wbAt_settle (d : Device) (k : Nat) : wbAt (settle d) k = wbAt d k := rfl
@[simp] theorem memIfAt_settle (d : Device) (k : Nat) : memIfAt (settle d) k = memIfAt d k := rfl
@[simp] theorem memAt_settle (d : Device) (k : Nat) : memAt (settle d) k = memAt d k := rfl
@[simp] theorem queueAt_settle (d : Device) (k : Nat) : queueAt (settle d) k = queueAt d k := rfl
@[simp] theorem linkAt_settle (d : Device) (k : Nat) : linkAt (settle d) k = linkAt d k := rfl
@[simp] theorem trackAt_settle (d : Device) (k : Nat) : trackAt (settle d) k = trackAt d k := rfl
@[simp] theorem mcAt_settle (d : Device) (k : Nat) : mcAt (settle d) k = mcAt d k := rfl

/-! ### Counters -/

/-- A counter's rise changes the registers alone. -/
@[simp] theorem bumpBy_fields (d : Device) (i s k : Nat) :
    (bumpBy d i s k).mono = d.mono ∧ (bumpBy d i s k).fresh = d.fresh ∧ (bumpBy d i s k).force = d.force ∧ (bumpBy d i s k).record = d.record ∧
    (bumpBy d i s k).pins = d.pins ∧ (bumpBy d i s k).ctls = d.ctls ∧ (bumpBy d i s k).pix = d.pix ∧ (bumpBy d i s k).rails = d.rails ∧
    (bumpBy d i s k).clocks = d.clocks ∧ (bumpBy d i s k).rules = d.rules ∧ (bumpBy d i s k).rings = d.rings ∧ (bumpBy d i s k).sup = d.sup ∧
    (bumpBy d i s k).cmp = d.cmp ∧ (bumpBy d i s k).can = d.can ∧ (bumpBy d i s k).audit = d.audit ∧ (bumpBy d i s k).awaiting = d.awaiting ∧
    (bumpBy d i s k).srcs = d.srcs ∧ (bumpBy d i s k).st2110 = d.st2110 ∧ (bumpBy d i s k).cams = d.cams ∧ (bumpBy d i s k).pipes = d.pipes ∧
    (bumpBy d i s k).layers = d.layers ∧ (bumpBy d i s k).heads = d.heads ∧ (bumpBy d i s k).scans = d.scans ∧ (bumpBy d i s k).tags = d.tags ∧
    (bumpBy d i s k).wbs = d.wbs ∧ (bumpBy d i s k).ifs = d.ifs ∧ (bumpBy d i s k).mems = d.mems ∧ (bumpBy d i s k).queues = d.queues ∧
    (bumpBy d i s k).links = d.links ∧ (bumpBy d i s k).tracks = d.tracks ∧ (bumpBy d i s k).mcs = d.mcs ∧ (bumpBy d i s k).unattr = d.unattr ∧
    (bumpBy d i s k).crossings = d.crossings ∧ (bumpBy d i s k).limits = d.limits ∧ (bumpBy d i s k).layout = d.layout ∧ (bumpBy d i s k).memory = d.memory ∧
    (bumpBy d i s k).tx = d.tx := by
  unfold bumpBy
  split <;> simp

@[simp] theorem bump_eq (d : Device) (i s : Nat) : bump d i s = bumpBy d i s 1 := rfl

/-! ### Frames through one update -/

theorem same_symm {p : Part} {d e : Device} (h : Same p d e) : Same p e d := by
  cases p with
  | force | record => exact fun i s hs => (h i s hs).symm
  | memory => exact fun x => (h x).symm
  | _ => exact Eq.symm h

@[simp] theorem imp_or_left_self {a b : Prop} : (a → a ∨ b) ↔ True := iff_true_intro Or.inl
@[simp] theorem imp_or_right_self {a b : Prop} : (a → b ∨ a) ↔ True := iff_true_intro Or.inr

@[simp] theorem mem_eventParts : Part.rings ∈ eventParts ∧ Part.can ∈ eventParts ∧ Part.sup ∈ eventParts ∧ Part.tx ∈ eventParts := by
  decide

/-- The parts that an event may change, listed for `simp`. -/
theorem eventParts_mem_of {ps : List Part} (hr : Part.rings ∈ ps) (hc : Part.can ∈ ps) (hs : Part.sup ∈ ps) (ht : Part.tx ∈ ps) :
    ∀ p ∈ eventParts, p ∈ ps := by
  simp [eventParts, *]

/-- Where a frame lists all that an update changes, the update decides nothing. -/
theorem keeps_iff_of_keeps {ps : List Part} {rs : Nat → Nat → Prop} {a b c : Device} (h : Keeps ps rs b c) :
    Keeps ps rs a c ↔ Keeps ps rs a b :=
  ⟨fun g => ⟨fun p hp => (g.parts p hp).trans p (same_symm (h.parts p hp)),
      fun i s hs hr => (h.regs i s hs hr).symm.trans (g.regs i s hs hr)⟩, fun g => g.trans h⟩

section
variable {ps : List Part} {rs : Nat → Nat → Prop} {a d : Device}

@[simp] theorem keeps_self : Keeps ps rs d d := Keeps.refl ps rs d
@[simp] theorem keeps_settle_iff : Keeps ps rs a (settle d) ↔ Keeps ps rs a d := keeps_iff_of_keeps (keeps_settle ps rs d)
@[simp] theorem keeps_setCtl_iff {k : Nat} {v : CtlDie} (h : Part.ctls ∈ ps) :
    Keeps ps rs a (setCtl d k v) ↔ Keeps ps rs a d := keeps_iff_of_keeps (keeps_setCtl d k v h)
@[simp] theorem keeps_setPix_iff {k : Nat} {v : PixelDie} (h : Part.pix ∈ ps) :
    Keeps ps rs a (setPix d k v) ↔ Keeps ps rs a d := keeps_iff_of_keeps (keeps_setPix d k v h)
@[simp] theorem keeps_setRail_iff {k : Nat} {v : RailUnit} (h : Part.rails ∈ ps) :
    Keeps ps rs a (setRail d k v) ↔ Keeps ps rs a d := keeps_iff_of_keeps (keeps_setRail d k v h)
@[simp] theorem keeps_setClock_iff {k : Nat} {v : ClockUnit} (h : Part.clocks ∈ ps) :
    Keeps ps rs a (setClock d k v) ↔ Keeps ps rs a d := keeps_iff_of_keeps (keeps_setClock d k v h)
@[simp] theorem keeps_setRuleCopy_iff {k : Nat} {v : RuleCopy} (h : Part.rules ∈ ps) :
    Keeps ps rs a (setRuleCopy d k v) ↔ Keeps ps rs a d := keeps_iff_of_keeps (keeps_setRuleCopy d k v h)
@[simp] theorem keeps_setRing_iff {k : Nat} {v : Ring} (h : Part.rings ∈ ps) :
    Keeps ps rs a (setRing d k v) ↔ Keeps ps rs a d := keeps_iff_of_keeps (keeps_setRing d k v h)
@[simp] theorem keeps_setSrc_iff {k : Nat} {v : SrcUnit} (h : Part.srcs ∈ ps) :
    Keeps ps rs a (setSrc d k v) ↔ Keeps ps rs a d := keeps_iff_of_keeps (keeps_setSrc d k v h)
@[simp] theorem keeps_setSt2110_iff {k : Nat} {v : St2110Unit} (h : Part.st2110 ∈ ps) :
    Keeps ps rs a (setSt2110 d k v) ↔ Keeps ps rs a d := keeps_iff_of_keeps (keeps_setSt2110 d k v h)
@[simp] theorem keeps_setCam_iff {k : Nat} {v : CamUnit} (h : Part.cams ∈ ps) :
    Keeps ps rs a (setCam d k v) ↔ Keeps ps rs a d := keeps_iff_of_keeps (keeps_setCam d k v h)
@[simp] theorem keeps_setPipe_iff {k : Nat} {v : PipeUnit} (h : Part.pipes ∈ ps) :
    Keeps ps rs a (setPipe d k v) ↔ Keeps ps rs a d := keeps_iff_of_keeps (keeps_setPipe d k v h)
@[simp] theorem keeps_setLayer_iff {k : Nat} {v : LayerUnit} (h : Part.layers ∈ ps) :
    Keeps ps rs a (setLayer d k v) ↔ Keeps ps rs a d := keeps_iff_of_keeps (keeps_setLayer d k v h)
@[simp] theorem keeps_setHead_iff {k : Nat} {v : HeadUnit} (h : Part.heads ∈ ps) :
    Keeps ps rs a (setHead d k v) ↔ Keeps ps rs a d := keeps_iff_of_keeps (keeps_setHead d k v h)
@[simp] theorem keeps_setScan_iff {k : Nat} {v : HeadScan} (h : Part.scans ∈ ps) :
    Keeps ps rs a (setScan d k v) ↔ Keeps ps rs a d := keeps_iff_of_keeps (keeps_setScan d k v h)
@[simp] theorem keeps_setTag_iff {k : Nat} {v : TagUnit} (h : Part.tags ∈ ps) :
    Keeps ps rs a (setTag d k v) ↔ Keeps ps rs a d := keeps_iff_of_keeps (keeps_setTag d k v h)
@[simp] theorem keeps_setWb_iff {k : Nat} {v : WbUnit} (h : Part.wbs ∈ ps) :
    Keeps ps rs a (setWb d k v) ↔ Keeps ps rs a d := keeps_iff_of_keeps (keeps_setWb d k v h)
@[simp] theorem keeps_setMemIf_iff {k : Nat} {v : MemIfUnit} (h : Part.ifs ∈ ps) :
    Keeps ps rs a (setMemIf d k v) ↔ Keeps ps rs a d := keeps_iff_of_keeps (keeps_setMemIf d k v h)
@[simp] theorem keeps_setMem_iff {k : Nat} {v : MemUnit} (h : Part.mems ∈ ps) :
    Keeps ps rs a (setMem d k v) ↔ Keeps ps rs a d := keeps_iff_of_keeps (keeps_setMem d k v h)
@[simp] theorem keeps_setQueue_iff {k : Nat} {v : QueueUnit} (h : Part.queues ∈ ps) :
    Keeps ps rs a (setQueue d k v) ↔ Keeps ps rs a d := keeps_iff_of_keeps (keeps_setQueue d k v h)
@[simp] theorem keeps_setLink_iff {k : Nat} {v : TouchUnit} (h : Part.links ∈ ps) :
    Keeps ps rs a (setLink d k v) ↔ Keeps ps rs a d := keeps_iff_of_keeps (keeps_setLink d k v h)
@[simp] theorem keeps_setTrack_iff {k : Nat} {v : TrackUnit} (h : Part.tracks ∈ ps) :
    Keeps ps rs a (setTrack d k v) ↔ Keeps ps rs a d := keeps_iff_of_keeps (keeps_setTrack d k v h)
@[simp] theorem keeps_setMc_iff {k : Nat} {v : McUnit} (h : Part.mcs ∈ ps) :
    Keeps ps rs a (setMc d k v) ↔ Keeps ps rs a d := keeps_iff_of_keeps (keeps_setMc d k v h)
@[simp] theorem keeps_setReg_iff {i s : Nat} {v : Val} (hs : s < 256) (h : rs i s) :
    Keeps ps rs a (setReg d i s v) ↔ Keeps ps rs a d := keeps_iff_of_keeps (keeps_setReg d i s v hs h)
@[simp] theorem keeps_setN_iff {i s n : Nat} (hs : s < 256) (h : rs i s) :
    Keeps ps rs a (setN d i s n) ↔ Keeps ps rs a d := keeps_iff_of_keeps (keeps_setN d i s n hs h)
@[simp] theorem keeps_setB_iff {i s : Nat} {b : List Byte} (hs : s < 256) (h : rs i s) :
    Keeps ps rs a (setB d i s b) ↔ Keeps ps rs a d := keeps_iff_of_keeps (keeps_setB d i s b hs h)
@[simp] theorem keeps_bumpBy_iff {i s n : Nat} (hs : s < 256) (h : rs i s) :
    Keeps ps rs a (bumpBy d i s n) ↔ Keeps ps rs a d := keeps_iff_of_keeps (keeps_bumpBy d i s n hs h)
@[simp] theorem keeps_send_iff {p k t : Nat} {b : List Byte} (h : Part.tx ∈ ps) :
    Keeps ps rs a (send d p k t b) ↔ Keeps ps rs a d := keeps_iff_of_keeps (keeps_send d p k t b h)
@[simp] theorem keeps_sendCan_iff {c : Nat} {b : List Byte} (h : Part.tx ∈ ps) :
    Keeps ps rs a (sendCan d c b) ↔ Keeps ps rs a d := keeps_iff_of_keeps (keeps_sendCan d c b h)
@[simp] theorem keeps_spend_iff (h : Part.fresh ∈ ps) : Keeps ps rs a (spend d) ↔ Keeps ps rs a d :=
  keeps_iff_of_keeps (keeps_fresh d _ h)
@[simp] theorem keeps_raiseFull_iff {k code sev unit count : Nat} {detail : List Nat} {src : Option Nat} (hk : k < 8)
    (hg : Part.rings ∈ ps) (hc : Part.can ∈ ps) (hu : Part.sup ∈ ps) (ht : Part.tx ∈ ps) (hr : ∀ i s, eventReg i s → rs i s) :
    Keeps ps rs a (raiseFull d k code sev unit count detail src) ↔ Keeps ps rs a d :=
  keeps_iff_of_keeps (keeps_raiseFull d k code sev unit count detail src hk (eventParts_mem_of hg hc hu ht) hr)
@[simp] theorem keeps_raiseD_iff {k code unit : Nat} {detail : List Nat} (hk : k < 8)
    (hg : Part.rings ∈ ps) (hc : Part.can ∈ ps) (hu : Part.sup ∈ ps) (ht : Part.tx ∈ ps) (hr : ∀ i s, eventReg i s → rs i s) :
    Keeps ps rs a (raiseD d k code unit detail) ↔ Keeps ps rs a d := keeps_iff_of_keeps (keeps_raiseD d k code unit detail hk (eventParts_mem_of hg hc hu ht) hr)
@[simp] theorem keeps_raise_iff {k code unit : Nat} (hk : k < 8)
    (hg : Part.rings ∈ ps) (hc : Part.can ∈ ps) (hu : Part.sup ∈ ps) (ht : Part.tx ∈ ps) (hr : ∀ i s, eventReg i s → rs i s) :
    Keeps ps rs a (raise d k code unit) ↔ Keeps ps rs a d := keeps_iff_of_keeps (keeps_raise d k code unit hk (eventParts_mem_of hg hc hu ht) hr)

end

/-! ### Units and registers through an update of another part

Each lemma lists what an operation leaves alone, one conjunct for each kind of unit or way to read a register: `simp` uses every
conjunct as a rule. -/

section
variable (d : Device)

@[simp] theorem units_setCtl (k : Nat) (v : CtlDie) :
    (∀ j, pixAt (setCtl d k v) j = pixAt d j) ∧ (∀ j, railAt (setCtl d k v) j = railAt d j) ∧ (∀ j, clockAt (setCtl d k v) j = clockAt d j) ∧
    (∀ j, ruleCopyAt (setCtl d k v) j = ruleCopyAt d j) ∧ (∀ j, ringAt (setCtl d k v) j = ringAt d j) ∧ (∀ j, srcAt (setCtl d k v) j = srcAt d j) ∧
    (∀ j, st2110At (setCtl d k v) j = st2110At d j) ∧ (∀ j, camAt (setCtl d k v) j = camAt d j) ∧ (∀ j, pipeAt (setCtl d k v) j = pipeAt d j) ∧
    (∀ j, layerAt (setCtl d k v) j = layerAt d j) ∧ (∀ j, headAt (setCtl d k v) j = headAt d j) ∧ (∀ j, scanAt (setCtl d k v) j = scanAt d j) ∧
    (∀ j, tagAt (setCtl d k v) j = tagAt d j) ∧ (∀ j, wbAt (setCtl d k v) j = wbAt d j) ∧ (∀ j, memIfAt (setCtl d k v) j = memIfAt d j) ∧
    (∀ j, memAt (setCtl d k v) j = memAt d j) ∧ (∀ j, queueAt (setCtl d k v) j = queueAt d j) ∧ (∀ j, linkAt (setCtl d k v) j = linkAt d j) ∧
    (∀ j, trackAt (setCtl d k v) j = trackAt d j) ∧ (∀ j, mcAt (setCtl d k v) j = mcAt d j) := by and_intros <;> intros <;> rfl
@[simp] theorem units_setPix (k : Nat) (v : PixelDie) :
    (∀ j, ctlAt (setPix d k v) j = ctlAt d j) ∧ (∀ j, railAt (setPix d k v) j = railAt d j) ∧ (∀ j, clockAt (setPix d k v) j = clockAt d j) ∧
    (∀ j, ruleCopyAt (setPix d k v) j = ruleCopyAt d j) ∧ (∀ j, ringAt (setPix d k v) j = ringAt d j) ∧ (∀ j, srcAt (setPix d k v) j = srcAt d j) ∧
    (∀ j, st2110At (setPix d k v) j = st2110At d j) ∧ (∀ j, camAt (setPix d k v) j = camAt d j) ∧ (∀ j, pipeAt (setPix d k v) j = pipeAt d j) ∧
    (∀ j, layerAt (setPix d k v) j = layerAt d j) ∧ (∀ j, headAt (setPix d k v) j = headAt d j) ∧ (∀ j, scanAt (setPix d k v) j = scanAt d j) ∧
    (∀ j, tagAt (setPix d k v) j = tagAt d j) ∧ (∀ j, wbAt (setPix d k v) j = wbAt d j) ∧ (∀ j, memIfAt (setPix d k v) j = memIfAt d j) ∧
    (∀ j, memAt (setPix d k v) j = memAt d j) ∧ (∀ j, queueAt (setPix d k v) j = queueAt d j) ∧ (∀ j, linkAt (setPix d k v) j = linkAt d j) ∧
    (∀ j, trackAt (setPix d k v) j = trackAt d j) ∧ (∀ j, mcAt (setPix d k v) j = mcAt d j) := by and_intros <;> intros <;> rfl
@[simp] theorem units_setRail (k : Nat) (v : RailUnit) :
    (∀ j, ctlAt (setRail d k v) j = ctlAt d j) ∧ (∀ j, pixAt (setRail d k v) j = pixAt d j) ∧ (∀ j, clockAt (setRail d k v) j = clockAt d j) ∧
    (∀ j, ruleCopyAt (setRail d k v) j = ruleCopyAt d j) ∧ (∀ j, ringAt (setRail d k v) j = ringAt d j) ∧ (∀ j, srcAt (setRail d k v) j = srcAt d j) ∧
    (∀ j, st2110At (setRail d k v) j = st2110At d j) ∧ (∀ j, camAt (setRail d k v) j = camAt d j) ∧ (∀ j, pipeAt (setRail d k v) j = pipeAt d j) ∧
    (∀ j, layerAt (setRail d k v) j = layerAt d j) ∧ (∀ j, headAt (setRail d k v) j = headAt d j) ∧ (∀ j, scanAt (setRail d k v) j = scanAt d j) ∧
    (∀ j, tagAt (setRail d k v) j = tagAt d j) ∧ (∀ j, wbAt (setRail d k v) j = wbAt d j) ∧ (∀ j, memIfAt (setRail d k v) j = memIfAt d j) ∧
    (∀ j, memAt (setRail d k v) j = memAt d j) ∧ (∀ j, queueAt (setRail d k v) j = queueAt d j) ∧ (∀ j, linkAt (setRail d k v) j = linkAt d j) ∧
    (∀ j, trackAt (setRail d k v) j = trackAt d j) ∧ (∀ j, mcAt (setRail d k v) j = mcAt d j) := by and_intros <;> intros <;> rfl
@[simp] theorem units_setClock (k : Nat) (v : ClockUnit) :
    (∀ j, ctlAt (setClock d k v) j = ctlAt d j) ∧ (∀ j, pixAt (setClock d k v) j = pixAt d j) ∧ (∀ j, railAt (setClock d k v) j = railAt d j) ∧
    (∀ j, ruleCopyAt (setClock d k v) j = ruleCopyAt d j) ∧ (∀ j, ringAt (setClock d k v) j = ringAt d j) ∧ (∀ j, srcAt (setClock d k v) j = srcAt d j) ∧
    (∀ j, st2110At (setClock d k v) j = st2110At d j) ∧ (∀ j, camAt (setClock d k v) j = camAt d j) ∧ (∀ j, pipeAt (setClock d k v) j = pipeAt d j) ∧
    (∀ j, layerAt (setClock d k v) j = layerAt d j) ∧ (∀ j, headAt (setClock d k v) j = headAt d j) ∧ (∀ j, scanAt (setClock d k v) j = scanAt d j) ∧
    (∀ j, tagAt (setClock d k v) j = tagAt d j) ∧ (∀ j, wbAt (setClock d k v) j = wbAt d j) ∧ (∀ j, memIfAt (setClock d k v) j = memIfAt d j) ∧
    (∀ j, memAt (setClock d k v) j = memAt d j) ∧ (∀ j, queueAt (setClock d k v) j = queueAt d j) ∧ (∀ j, linkAt (setClock d k v) j = linkAt d j) ∧
    (∀ j, trackAt (setClock d k v) j = trackAt d j) ∧ (∀ j, mcAt (setClock d k v) j = mcAt d j) := by and_intros <;> intros <;> rfl
@[simp] theorem units_setRuleCopy (k : Nat) (v : RuleCopy) :
    (∀ j, ctlAt (setRuleCopy d k v) j = ctlAt d j) ∧ (∀ j, pixAt (setRuleCopy d k v) j = pixAt d j) ∧ (∀ j, railAt (setRuleCopy d k v) j = railAt d j) ∧
    (∀ j, clockAt (setRuleCopy d k v) j = clockAt d j) ∧ (∀ j, ringAt (setRuleCopy d k v) j = ringAt d j) ∧ (∀ j, srcAt (setRuleCopy d k v) j = srcAt d j) ∧
    (∀ j, st2110At (setRuleCopy d k v) j = st2110At d j) ∧ (∀ j, camAt (setRuleCopy d k v) j = camAt d j) ∧ (∀ j, pipeAt (setRuleCopy d k v) j = pipeAt d j) ∧
    (∀ j, layerAt (setRuleCopy d k v) j = layerAt d j) ∧ (∀ j, headAt (setRuleCopy d k v) j = headAt d j) ∧ (∀ j, scanAt (setRuleCopy d k v) j = scanAt d j) ∧
    (∀ j, tagAt (setRuleCopy d k v) j = tagAt d j) ∧ (∀ j, wbAt (setRuleCopy d k v) j = wbAt d j) ∧ (∀ j, memIfAt (setRuleCopy d k v) j = memIfAt d j) ∧
    (∀ j, memAt (setRuleCopy d k v) j = memAt d j) ∧ (∀ j, queueAt (setRuleCopy d k v) j = queueAt d j) ∧ (∀ j, linkAt (setRuleCopy d k v) j = linkAt d j) ∧
    (∀ j, trackAt (setRuleCopy d k v) j = trackAt d j) ∧ (∀ j, mcAt (setRuleCopy d k v) j = mcAt d j) := by and_intros <;> intros <;> rfl
@[simp] theorem units_setRing (k : Nat) (v : Ring) :
    (∀ j, ctlAt (setRing d k v) j = ctlAt d j) ∧ (∀ j, pixAt (setRing d k v) j = pixAt d j) ∧ (∀ j, railAt (setRing d k v) j = railAt d j) ∧
    (∀ j, clockAt (setRing d k v) j = clockAt d j) ∧ (∀ j, ruleCopyAt (setRing d k v) j = ruleCopyAt d j) ∧ (∀ j, srcAt (setRing d k v) j = srcAt d j) ∧
    (∀ j, st2110At (setRing d k v) j = st2110At d j) ∧ (∀ j, camAt (setRing d k v) j = camAt d j) ∧ (∀ j, pipeAt (setRing d k v) j = pipeAt d j) ∧
    (∀ j, layerAt (setRing d k v) j = layerAt d j) ∧ (∀ j, headAt (setRing d k v) j = headAt d j) ∧ (∀ j, scanAt (setRing d k v) j = scanAt d j) ∧
    (∀ j, tagAt (setRing d k v) j = tagAt d j) ∧ (∀ j, wbAt (setRing d k v) j = wbAt d j) ∧ (∀ j, memIfAt (setRing d k v) j = memIfAt d j) ∧
    (∀ j, memAt (setRing d k v) j = memAt d j) ∧ (∀ j, queueAt (setRing d k v) j = queueAt d j) ∧ (∀ j, linkAt (setRing d k v) j = linkAt d j) ∧
    (∀ j, trackAt (setRing d k v) j = trackAt d j) ∧ (∀ j, mcAt (setRing d k v) j = mcAt d j) := by and_intros <;> intros <;> rfl
@[simp] theorem units_setSrc (k : Nat) (v : SrcUnit) :
    (∀ j, ctlAt (setSrc d k v) j = ctlAt d j) ∧ (∀ j, pixAt (setSrc d k v) j = pixAt d j) ∧ (∀ j, railAt (setSrc d k v) j = railAt d j) ∧
    (∀ j, clockAt (setSrc d k v) j = clockAt d j) ∧ (∀ j, ruleCopyAt (setSrc d k v) j = ruleCopyAt d j) ∧ (∀ j, ringAt (setSrc d k v) j = ringAt d j) ∧
    (∀ j, st2110At (setSrc d k v) j = st2110At d j) ∧ (∀ j, camAt (setSrc d k v) j = camAt d j) ∧ (∀ j, pipeAt (setSrc d k v) j = pipeAt d j) ∧
    (∀ j, layerAt (setSrc d k v) j = layerAt d j) ∧ (∀ j, headAt (setSrc d k v) j = headAt d j) ∧ (∀ j, scanAt (setSrc d k v) j = scanAt d j) ∧
    (∀ j, tagAt (setSrc d k v) j = tagAt d j) ∧ (∀ j, wbAt (setSrc d k v) j = wbAt d j) ∧ (∀ j, memIfAt (setSrc d k v) j = memIfAt d j) ∧
    (∀ j, memAt (setSrc d k v) j = memAt d j) ∧ (∀ j, queueAt (setSrc d k v) j = queueAt d j) ∧ (∀ j, linkAt (setSrc d k v) j = linkAt d j) ∧
    (∀ j, trackAt (setSrc d k v) j = trackAt d j) ∧ (∀ j, mcAt (setSrc d k v) j = mcAt d j) := by and_intros <;> intros <;> rfl
@[simp] theorem units_setSt2110 (k : Nat) (v : St2110Unit) :
    (∀ j, ctlAt (setSt2110 d k v) j = ctlAt d j) ∧ (∀ j, pixAt (setSt2110 d k v) j = pixAt d j) ∧ (∀ j, railAt (setSt2110 d k v) j = railAt d j) ∧
    (∀ j, clockAt (setSt2110 d k v) j = clockAt d j) ∧ (∀ j, ruleCopyAt (setSt2110 d k v) j = ruleCopyAt d j) ∧ (∀ j, ringAt (setSt2110 d k v) j = ringAt d j) ∧
    (∀ j, srcAt (setSt2110 d k v) j = srcAt d j) ∧ (∀ j, camAt (setSt2110 d k v) j = camAt d j) ∧ (∀ j, pipeAt (setSt2110 d k v) j = pipeAt d j) ∧
    (∀ j, layerAt (setSt2110 d k v) j = layerAt d j) ∧ (∀ j, headAt (setSt2110 d k v) j = headAt d j) ∧ (∀ j, scanAt (setSt2110 d k v) j = scanAt d j) ∧
    (∀ j, tagAt (setSt2110 d k v) j = tagAt d j) ∧ (∀ j, wbAt (setSt2110 d k v) j = wbAt d j) ∧ (∀ j, memIfAt (setSt2110 d k v) j = memIfAt d j) ∧
    (∀ j, memAt (setSt2110 d k v) j = memAt d j) ∧ (∀ j, queueAt (setSt2110 d k v) j = queueAt d j) ∧ (∀ j, linkAt (setSt2110 d k v) j = linkAt d j) ∧
    (∀ j, trackAt (setSt2110 d k v) j = trackAt d j) ∧ (∀ j, mcAt (setSt2110 d k v) j = mcAt d j) := by and_intros <;> intros <;> rfl
@[simp] theorem units_setCam (k : Nat) (v : CamUnit) :
    (∀ j, ctlAt (setCam d k v) j = ctlAt d j) ∧ (∀ j, pixAt (setCam d k v) j = pixAt d j) ∧ (∀ j, railAt (setCam d k v) j = railAt d j) ∧
    (∀ j, clockAt (setCam d k v) j = clockAt d j) ∧ (∀ j, ruleCopyAt (setCam d k v) j = ruleCopyAt d j) ∧ (∀ j, ringAt (setCam d k v) j = ringAt d j) ∧
    (∀ j, srcAt (setCam d k v) j = srcAt d j) ∧ (∀ j, st2110At (setCam d k v) j = st2110At d j) ∧ (∀ j, pipeAt (setCam d k v) j = pipeAt d j) ∧
    (∀ j, layerAt (setCam d k v) j = layerAt d j) ∧ (∀ j, headAt (setCam d k v) j = headAt d j) ∧ (∀ j, scanAt (setCam d k v) j = scanAt d j) ∧
    (∀ j, tagAt (setCam d k v) j = tagAt d j) ∧ (∀ j, wbAt (setCam d k v) j = wbAt d j) ∧ (∀ j, memIfAt (setCam d k v) j = memIfAt d j) ∧
    (∀ j, memAt (setCam d k v) j = memAt d j) ∧ (∀ j, queueAt (setCam d k v) j = queueAt d j) ∧ (∀ j, linkAt (setCam d k v) j = linkAt d j) ∧
    (∀ j, trackAt (setCam d k v) j = trackAt d j) ∧ (∀ j, mcAt (setCam d k v) j = mcAt d j) := by and_intros <;> intros <;> rfl
@[simp] theorem units_setPipe (k : Nat) (v : PipeUnit) :
    (∀ j, ctlAt (setPipe d k v) j = ctlAt d j) ∧ (∀ j, pixAt (setPipe d k v) j = pixAt d j) ∧ (∀ j, railAt (setPipe d k v) j = railAt d j) ∧
    (∀ j, clockAt (setPipe d k v) j = clockAt d j) ∧ (∀ j, ruleCopyAt (setPipe d k v) j = ruleCopyAt d j) ∧ (∀ j, ringAt (setPipe d k v) j = ringAt d j) ∧
    (∀ j, srcAt (setPipe d k v) j = srcAt d j) ∧ (∀ j, st2110At (setPipe d k v) j = st2110At d j) ∧ (∀ j, camAt (setPipe d k v) j = camAt d j) ∧
    (∀ j, layerAt (setPipe d k v) j = layerAt d j) ∧ (∀ j, headAt (setPipe d k v) j = headAt d j) ∧ (∀ j, scanAt (setPipe d k v) j = scanAt d j) ∧
    (∀ j, tagAt (setPipe d k v) j = tagAt d j) ∧ (∀ j, wbAt (setPipe d k v) j = wbAt d j) ∧ (∀ j, memIfAt (setPipe d k v) j = memIfAt d j) ∧
    (∀ j, memAt (setPipe d k v) j = memAt d j) ∧ (∀ j, queueAt (setPipe d k v) j = queueAt d j) ∧ (∀ j, linkAt (setPipe d k v) j = linkAt d j) ∧
    (∀ j, trackAt (setPipe d k v) j = trackAt d j) ∧ (∀ j, mcAt (setPipe d k v) j = mcAt d j) := by and_intros <;> intros <;> rfl
@[simp] theorem units_setLayer (k : Nat) (v : LayerUnit) :
    (∀ j, ctlAt (setLayer d k v) j = ctlAt d j) ∧ (∀ j, pixAt (setLayer d k v) j = pixAt d j) ∧ (∀ j, railAt (setLayer d k v) j = railAt d j) ∧
    (∀ j, clockAt (setLayer d k v) j = clockAt d j) ∧ (∀ j, ruleCopyAt (setLayer d k v) j = ruleCopyAt d j) ∧ (∀ j, ringAt (setLayer d k v) j = ringAt d j) ∧
    (∀ j, srcAt (setLayer d k v) j = srcAt d j) ∧ (∀ j, st2110At (setLayer d k v) j = st2110At d j) ∧ (∀ j, camAt (setLayer d k v) j = camAt d j) ∧
    (∀ j, pipeAt (setLayer d k v) j = pipeAt d j) ∧ (∀ j, headAt (setLayer d k v) j = headAt d j) ∧ (∀ j, scanAt (setLayer d k v) j = scanAt d j) ∧
    (∀ j, tagAt (setLayer d k v) j = tagAt d j) ∧ (∀ j, wbAt (setLayer d k v) j = wbAt d j) ∧ (∀ j, memIfAt (setLayer d k v) j = memIfAt d j) ∧
    (∀ j, memAt (setLayer d k v) j = memAt d j) ∧ (∀ j, queueAt (setLayer d k v) j = queueAt d j) ∧ (∀ j, linkAt (setLayer d k v) j = linkAt d j) ∧
    (∀ j, trackAt (setLayer d k v) j = trackAt d j) ∧ (∀ j, mcAt (setLayer d k v) j = mcAt d j) := by and_intros <;> intros <;> rfl
@[simp] theorem units_setHead (k : Nat) (v : HeadUnit) :
    (∀ j, ctlAt (setHead d k v) j = ctlAt d j) ∧ (∀ j, pixAt (setHead d k v) j = pixAt d j) ∧ (∀ j, railAt (setHead d k v) j = railAt d j) ∧
    (∀ j, clockAt (setHead d k v) j = clockAt d j) ∧ (∀ j, ruleCopyAt (setHead d k v) j = ruleCopyAt d j) ∧ (∀ j, ringAt (setHead d k v) j = ringAt d j) ∧
    (∀ j, srcAt (setHead d k v) j = srcAt d j) ∧ (∀ j, st2110At (setHead d k v) j = st2110At d j) ∧ (∀ j, camAt (setHead d k v) j = camAt d j) ∧
    (∀ j, pipeAt (setHead d k v) j = pipeAt d j) ∧ (∀ j, layerAt (setHead d k v) j = layerAt d j) ∧ (∀ j, scanAt (setHead d k v) j = scanAt d j) ∧
    (∀ j, tagAt (setHead d k v) j = tagAt d j) ∧ (∀ j, wbAt (setHead d k v) j = wbAt d j) ∧ (∀ j, memIfAt (setHead d k v) j = memIfAt d j) ∧
    (∀ j, memAt (setHead d k v) j = memAt d j) ∧ (∀ j, queueAt (setHead d k v) j = queueAt d j) ∧ (∀ j, linkAt (setHead d k v) j = linkAt d j) ∧
    (∀ j, trackAt (setHead d k v) j = trackAt d j) ∧ (∀ j, mcAt (setHead d k v) j = mcAt d j) := by and_intros <;> intros <;> rfl
@[simp] theorem units_setScan (k : Nat) (v : HeadScan) :
    (∀ j, ctlAt (setScan d k v) j = ctlAt d j) ∧ (∀ j, pixAt (setScan d k v) j = pixAt d j) ∧ (∀ j, railAt (setScan d k v) j = railAt d j) ∧
    (∀ j, clockAt (setScan d k v) j = clockAt d j) ∧ (∀ j, ruleCopyAt (setScan d k v) j = ruleCopyAt d j) ∧ (∀ j, ringAt (setScan d k v) j = ringAt d j) ∧
    (∀ j, srcAt (setScan d k v) j = srcAt d j) ∧ (∀ j, st2110At (setScan d k v) j = st2110At d j) ∧ (∀ j, camAt (setScan d k v) j = camAt d j) ∧
    (∀ j, pipeAt (setScan d k v) j = pipeAt d j) ∧ (∀ j, layerAt (setScan d k v) j = layerAt d j) ∧ (∀ j, headAt (setScan d k v) j = headAt d j) ∧
    (∀ j, tagAt (setScan d k v) j = tagAt d j) ∧ (∀ j, wbAt (setScan d k v) j = wbAt d j) ∧ (∀ j, memIfAt (setScan d k v) j = memIfAt d j) ∧
    (∀ j, memAt (setScan d k v) j = memAt d j) ∧ (∀ j, queueAt (setScan d k v) j = queueAt d j) ∧ (∀ j, linkAt (setScan d k v) j = linkAt d j) ∧
    (∀ j, trackAt (setScan d k v) j = trackAt d j) ∧ (∀ j, mcAt (setScan d k v) j = mcAt d j) := by and_intros <;> intros <;> rfl
@[simp] theorem units_setTag (k : Nat) (v : TagUnit) :
    (∀ j, ctlAt (setTag d k v) j = ctlAt d j) ∧ (∀ j, pixAt (setTag d k v) j = pixAt d j) ∧ (∀ j, railAt (setTag d k v) j = railAt d j) ∧
    (∀ j, clockAt (setTag d k v) j = clockAt d j) ∧ (∀ j, ruleCopyAt (setTag d k v) j = ruleCopyAt d j) ∧ (∀ j, ringAt (setTag d k v) j = ringAt d j) ∧
    (∀ j, srcAt (setTag d k v) j = srcAt d j) ∧ (∀ j, st2110At (setTag d k v) j = st2110At d j) ∧ (∀ j, camAt (setTag d k v) j = camAt d j) ∧
    (∀ j, pipeAt (setTag d k v) j = pipeAt d j) ∧ (∀ j, layerAt (setTag d k v) j = layerAt d j) ∧ (∀ j, headAt (setTag d k v) j = headAt d j) ∧
    (∀ j, scanAt (setTag d k v) j = scanAt d j) ∧ (∀ j, wbAt (setTag d k v) j = wbAt d j) ∧ (∀ j, memIfAt (setTag d k v) j = memIfAt d j) ∧
    (∀ j, memAt (setTag d k v) j = memAt d j) ∧ (∀ j, queueAt (setTag d k v) j = queueAt d j) ∧ (∀ j, linkAt (setTag d k v) j = linkAt d j) ∧
    (∀ j, trackAt (setTag d k v) j = trackAt d j) ∧ (∀ j, mcAt (setTag d k v) j = mcAt d j) := by and_intros <;> intros <;> rfl
@[simp] theorem units_setWb (k : Nat) (v : WbUnit) :
    (∀ j, ctlAt (setWb d k v) j = ctlAt d j) ∧ (∀ j, pixAt (setWb d k v) j = pixAt d j) ∧ (∀ j, railAt (setWb d k v) j = railAt d j) ∧
    (∀ j, clockAt (setWb d k v) j = clockAt d j) ∧ (∀ j, ruleCopyAt (setWb d k v) j = ruleCopyAt d j) ∧ (∀ j, ringAt (setWb d k v) j = ringAt d j) ∧
    (∀ j, srcAt (setWb d k v) j = srcAt d j) ∧ (∀ j, st2110At (setWb d k v) j = st2110At d j) ∧ (∀ j, camAt (setWb d k v) j = camAt d j) ∧
    (∀ j, pipeAt (setWb d k v) j = pipeAt d j) ∧ (∀ j, layerAt (setWb d k v) j = layerAt d j) ∧ (∀ j, headAt (setWb d k v) j = headAt d j) ∧
    (∀ j, scanAt (setWb d k v) j = scanAt d j) ∧ (∀ j, tagAt (setWb d k v) j = tagAt d j) ∧ (∀ j, memIfAt (setWb d k v) j = memIfAt d j) ∧
    (∀ j, memAt (setWb d k v) j = memAt d j) ∧ (∀ j, queueAt (setWb d k v) j = queueAt d j) ∧ (∀ j, linkAt (setWb d k v) j = linkAt d j) ∧
    (∀ j, trackAt (setWb d k v) j = trackAt d j) ∧ (∀ j, mcAt (setWb d k v) j = mcAt d j) := by and_intros <;> intros <;> rfl
@[simp] theorem units_setMemIf (k : Nat) (v : MemIfUnit) :
    (∀ j, ctlAt (setMemIf d k v) j = ctlAt d j) ∧ (∀ j, pixAt (setMemIf d k v) j = pixAt d j) ∧ (∀ j, railAt (setMemIf d k v) j = railAt d j) ∧
    (∀ j, clockAt (setMemIf d k v) j = clockAt d j) ∧ (∀ j, ruleCopyAt (setMemIf d k v) j = ruleCopyAt d j) ∧ (∀ j, ringAt (setMemIf d k v) j = ringAt d j) ∧
    (∀ j, srcAt (setMemIf d k v) j = srcAt d j) ∧ (∀ j, st2110At (setMemIf d k v) j = st2110At d j) ∧ (∀ j, camAt (setMemIf d k v) j = camAt d j) ∧
    (∀ j, pipeAt (setMemIf d k v) j = pipeAt d j) ∧ (∀ j, layerAt (setMemIf d k v) j = layerAt d j) ∧ (∀ j, headAt (setMemIf d k v) j = headAt d j) ∧
    (∀ j, scanAt (setMemIf d k v) j = scanAt d j) ∧ (∀ j, tagAt (setMemIf d k v) j = tagAt d j) ∧ (∀ j, wbAt (setMemIf d k v) j = wbAt d j) ∧
    (∀ j, memAt (setMemIf d k v) j = memAt d j) ∧ (∀ j, queueAt (setMemIf d k v) j = queueAt d j) ∧ (∀ j, linkAt (setMemIf d k v) j = linkAt d j) ∧
    (∀ j, trackAt (setMemIf d k v) j = trackAt d j) ∧ (∀ j, mcAt (setMemIf d k v) j = mcAt d j) := by and_intros <;> intros <;> rfl
@[simp] theorem units_setMem (k : Nat) (v : MemUnit) :
    (∀ j, ctlAt (setMem d k v) j = ctlAt d j) ∧ (∀ j, pixAt (setMem d k v) j = pixAt d j) ∧ (∀ j, railAt (setMem d k v) j = railAt d j) ∧
    (∀ j, clockAt (setMem d k v) j = clockAt d j) ∧ (∀ j, ruleCopyAt (setMem d k v) j = ruleCopyAt d j) ∧ (∀ j, ringAt (setMem d k v) j = ringAt d j) ∧
    (∀ j, srcAt (setMem d k v) j = srcAt d j) ∧ (∀ j, st2110At (setMem d k v) j = st2110At d j) ∧ (∀ j, camAt (setMem d k v) j = camAt d j) ∧
    (∀ j, pipeAt (setMem d k v) j = pipeAt d j) ∧ (∀ j, layerAt (setMem d k v) j = layerAt d j) ∧ (∀ j, headAt (setMem d k v) j = headAt d j) ∧
    (∀ j, scanAt (setMem d k v) j = scanAt d j) ∧ (∀ j, tagAt (setMem d k v) j = tagAt d j) ∧ (∀ j, wbAt (setMem d k v) j = wbAt d j) ∧
    (∀ j, memIfAt (setMem d k v) j = memIfAt d j) ∧ (∀ j, queueAt (setMem d k v) j = queueAt d j) ∧ (∀ j, linkAt (setMem d k v) j = linkAt d j) ∧
    (∀ j, trackAt (setMem d k v) j = trackAt d j) ∧ (∀ j, mcAt (setMem d k v) j = mcAt d j) := by and_intros <;> intros <;> rfl
@[simp] theorem units_setQueue (k : Nat) (v : QueueUnit) :
    (∀ j, ctlAt (setQueue d k v) j = ctlAt d j) ∧ (∀ j, pixAt (setQueue d k v) j = pixAt d j) ∧ (∀ j, railAt (setQueue d k v) j = railAt d j) ∧
    (∀ j, clockAt (setQueue d k v) j = clockAt d j) ∧ (∀ j, ruleCopyAt (setQueue d k v) j = ruleCopyAt d j) ∧ (∀ j, ringAt (setQueue d k v) j = ringAt d j) ∧
    (∀ j, srcAt (setQueue d k v) j = srcAt d j) ∧ (∀ j, st2110At (setQueue d k v) j = st2110At d j) ∧ (∀ j, camAt (setQueue d k v) j = camAt d j) ∧
    (∀ j, pipeAt (setQueue d k v) j = pipeAt d j) ∧ (∀ j, layerAt (setQueue d k v) j = layerAt d j) ∧ (∀ j, headAt (setQueue d k v) j = headAt d j) ∧
    (∀ j, scanAt (setQueue d k v) j = scanAt d j) ∧ (∀ j, tagAt (setQueue d k v) j = tagAt d j) ∧ (∀ j, wbAt (setQueue d k v) j = wbAt d j) ∧
    (∀ j, memIfAt (setQueue d k v) j = memIfAt d j) ∧ (∀ j, memAt (setQueue d k v) j = memAt d j) ∧ (∀ j, linkAt (setQueue d k v) j = linkAt d j) ∧
    (∀ j, trackAt (setQueue d k v) j = trackAt d j) ∧ (∀ j, mcAt (setQueue d k v) j = mcAt d j) := by and_intros <;> intros <;> rfl
@[simp] theorem units_setLink (k : Nat) (v : TouchUnit) :
    (∀ j, ctlAt (setLink d k v) j = ctlAt d j) ∧ (∀ j, pixAt (setLink d k v) j = pixAt d j) ∧ (∀ j, railAt (setLink d k v) j = railAt d j) ∧
    (∀ j, clockAt (setLink d k v) j = clockAt d j) ∧ (∀ j, ruleCopyAt (setLink d k v) j = ruleCopyAt d j) ∧ (∀ j, ringAt (setLink d k v) j = ringAt d j) ∧
    (∀ j, srcAt (setLink d k v) j = srcAt d j) ∧ (∀ j, st2110At (setLink d k v) j = st2110At d j) ∧ (∀ j, camAt (setLink d k v) j = camAt d j) ∧
    (∀ j, pipeAt (setLink d k v) j = pipeAt d j) ∧ (∀ j, layerAt (setLink d k v) j = layerAt d j) ∧ (∀ j, headAt (setLink d k v) j = headAt d j) ∧
    (∀ j, scanAt (setLink d k v) j = scanAt d j) ∧ (∀ j, tagAt (setLink d k v) j = tagAt d j) ∧ (∀ j, wbAt (setLink d k v) j = wbAt d j) ∧
    (∀ j, memIfAt (setLink d k v) j = memIfAt d j) ∧ (∀ j, memAt (setLink d k v) j = memAt d j) ∧ (∀ j, queueAt (setLink d k v) j = queueAt d j) ∧
    (∀ j, trackAt (setLink d k v) j = trackAt d j) ∧ (∀ j, mcAt (setLink d k v) j = mcAt d j) := by and_intros <;> intros <;> rfl
@[simp] theorem units_setTrack (k : Nat) (v : TrackUnit) :
    (∀ j, ctlAt (setTrack d k v) j = ctlAt d j) ∧ (∀ j, pixAt (setTrack d k v) j = pixAt d j) ∧ (∀ j, railAt (setTrack d k v) j = railAt d j) ∧
    (∀ j, clockAt (setTrack d k v) j = clockAt d j) ∧ (∀ j, ruleCopyAt (setTrack d k v) j = ruleCopyAt d j) ∧ (∀ j, ringAt (setTrack d k v) j = ringAt d j) ∧
    (∀ j, srcAt (setTrack d k v) j = srcAt d j) ∧ (∀ j, st2110At (setTrack d k v) j = st2110At d j) ∧ (∀ j, camAt (setTrack d k v) j = camAt d j) ∧
    (∀ j, pipeAt (setTrack d k v) j = pipeAt d j) ∧ (∀ j, layerAt (setTrack d k v) j = layerAt d j) ∧ (∀ j, headAt (setTrack d k v) j = headAt d j) ∧
    (∀ j, scanAt (setTrack d k v) j = scanAt d j) ∧ (∀ j, tagAt (setTrack d k v) j = tagAt d j) ∧ (∀ j, wbAt (setTrack d k v) j = wbAt d j) ∧
    (∀ j, memIfAt (setTrack d k v) j = memIfAt d j) ∧ (∀ j, memAt (setTrack d k v) j = memAt d j) ∧ (∀ j, queueAt (setTrack d k v) j = queueAt d j) ∧
    (∀ j, linkAt (setTrack d k v) j = linkAt d j) ∧ (∀ j, mcAt (setTrack d k v) j = mcAt d j) := by and_intros <;> intros <;> rfl
@[simp] theorem units_setMc (k : Nat) (v : McUnit) :
    (∀ j, ctlAt (setMc d k v) j = ctlAt d j) ∧ (∀ j, pixAt (setMc d k v) j = pixAt d j) ∧ (∀ j, railAt (setMc d k v) j = railAt d j) ∧
    (∀ j, clockAt (setMc d k v) j = clockAt d j) ∧ (∀ j, ruleCopyAt (setMc d k v) j = ruleCopyAt d j) ∧ (∀ j, ringAt (setMc d k v) j = ringAt d j) ∧
    (∀ j, srcAt (setMc d k v) j = srcAt d j) ∧ (∀ j, st2110At (setMc d k v) j = st2110At d j) ∧ (∀ j, camAt (setMc d k v) j = camAt d j) ∧
    (∀ j, pipeAt (setMc d k v) j = pipeAt d j) ∧ (∀ j, layerAt (setMc d k v) j = layerAt d j) ∧ (∀ j, headAt (setMc d k v) j = headAt d j) ∧
    (∀ j, scanAt (setMc d k v) j = scanAt d j) ∧ (∀ j, tagAt (setMc d k v) j = tagAt d j) ∧ (∀ j, wbAt (setMc d k v) j = wbAt d j) ∧
    (∀ j, memIfAt (setMc d k v) j = memIfAt d j) ∧ (∀ j, memAt (setMc d k v) j = memAt d j) ∧ (∀ j, queueAt (setMc d k v) j = queueAt d j) ∧
    (∀ j, linkAt (setMc d k v) j = linkAt d j) ∧ (∀ j, trackAt (setMc d k v) j = trackAt d j) := by and_intros <;> intros <;> rfl

@[simp] theorem regs_setCtl (k : Nat) (v : CtlDie) :
    (∀ i s, reg (setCtl d k v) i s = reg d i s) ∧ (∀ i s, regN (setCtl d k v) i s = regN d i s) ∧ (∀ i s, regB (setCtl d k v) i s = regB d i s) ∧
    (∀ i s, regT (setCtl d k v) i s = regT d i s) ∧ (∀ i s, frc (setCtl d k v) i s = frc d i s) ∧ (∀ i s, frcN (setCtl d k v) i s = frcN d i s) ∧
    (∀ i s, frcT (setCtl d k v) i s = frcT d i s) := by and_intros <;> intros <;> rfl
@[simp] theorem regs_setPix (k : Nat) (v : PixelDie) :
    (∀ i s, reg (setPix d k v) i s = reg d i s) ∧ (∀ i s, regN (setPix d k v) i s = regN d i s) ∧ (∀ i s, regB (setPix d k v) i s = regB d i s) ∧
    (∀ i s, regT (setPix d k v) i s = regT d i s) ∧ (∀ i s, frc (setPix d k v) i s = frc d i s) ∧ (∀ i s, frcN (setPix d k v) i s = frcN d i s) ∧
    (∀ i s, frcT (setPix d k v) i s = frcT d i s) := by and_intros <;> intros <;> rfl
@[simp] theorem regs_setRail (k : Nat) (v : RailUnit) :
    (∀ i s, reg (setRail d k v) i s = reg d i s) ∧ (∀ i s, regN (setRail d k v) i s = regN d i s) ∧ (∀ i s, regB (setRail d k v) i s = regB d i s) ∧
    (∀ i s, regT (setRail d k v) i s = regT d i s) ∧ (∀ i s, frc (setRail d k v) i s = frc d i s) ∧ (∀ i s, frcN (setRail d k v) i s = frcN d i s) ∧
    (∀ i s, frcT (setRail d k v) i s = frcT d i s) := by and_intros <;> intros <;> rfl
@[simp] theorem regs_setClock (k : Nat) (v : ClockUnit) :
    (∀ i s, reg (setClock d k v) i s = reg d i s) ∧ (∀ i s, regN (setClock d k v) i s = regN d i s) ∧ (∀ i s, regB (setClock d k v) i s = regB d i s) ∧
    (∀ i s, regT (setClock d k v) i s = regT d i s) ∧ (∀ i s, frc (setClock d k v) i s = frc d i s) ∧ (∀ i s, frcN (setClock d k v) i s = frcN d i s) ∧
    (∀ i s, frcT (setClock d k v) i s = frcT d i s) := by and_intros <;> intros <;> rfl
@[simp] theorem regs_setRuleCopy (k : Nat) (v : RuleCopy) :
    (∀ i s, reg (setRuleCopy d k v) i s = reg d i s) ∧ (∀ i s, regN (setRuleCopy d k v) i s = regN d i s) ∧ (∀ i s, regB (setRuleCopy d k v) i s = regB d i s) ∧
    (∀ i s, regT (setRuleCopy d k v) i s = regT d i s) ∧ (∀ i s, frc (setRuleCopy d k v) i s = frc d i s) ∧ (∀ i s, frcN (setRuleCopy d k v) i s = frcN d i s) ∧
    (∀ i s, frcT (setRuleCopy d k v) i s = frcT d i s) := by and_intros <;> intros <;> rfl
@[simp] theorem regs_setRing (k : Nat) (v : Ring) :
    (∀ i s, reg (setRing d k v) i s = reg d i s) ∧ (∀ i s, regN (setRing d k v) i s = regN d i s) ∧ (∀ i s, regB (setRing d k v) i s = regB d i s) ∧
    (∀ i s, regT (setRing d k v) i s = regT d i s) ∧ (∀ i s, frc (setRing d k v) i s = frc d i s) ∧ (∀ i s, frcN (setRing d k v) i s = frcN d i s) ∧
    (∀ i s, frcT (setRing d k v) i s = frcT d i s) := by and_intros <;> intros <;> rfl
@[simp] theorem regs_setSrc (k : Nat) (v : SrcUnit) :
    (∀ i s, reg (setSrc d k v) i s = reg d i s) ∧ (∀ i s, regN (setSrc d k v) i s = regN d i s) ∧ (∀ i s, regB (setSrc d k v) i s = regB d i s) ∧
    (∀ i s, regT (setSrc d k v) i s = regT d i s) ∧ (∀ i s, frc (setSrc d k v) i s = frc d i s) ∧ (∀ i s, frcN (setSrc d k v) i s = frcN d i s) ∧
    (∀ i s, frcT (setSrc d k v) i s = frcT d i s) := by and_intros <;> intros <;> rfl
@[simp] theorem regs_setSt2110 (k : Nat) (v : St2110Unit) :
    (∀ i s, reg (setSt2110 d k v) i s = reg d i s) ∧ (∀ i s, regN (setSt2110 d k v) i s = regN d i s) ∧ (∀ i s, regB (setSt2110 d k v) i s = regB d i s) ∧
    (∀ i s, regT (setSt2110 d k v) i s = regT d i s) ∧ (∀ i s, frc (setSt2110 d k v) i s = frc d i s) ∧ (∀ i s, frcN (setSt2110 d k v) i s = frcN d i s) ∧
    (∀ i s, frcT (setSt2110 d k v) i s = frcT d i s) := by and_intros <;> intros <;> rfl
@[simp] theorem regs_setCam (k : Nat) (v : CamUnit) :
    (∀ i s, reg (setCam d k v) i s = reg d i s) ∧ (∀ i s, regN (setCam d k v) i s = regN d i s) ∧ (∀ i s, regB (setCam d k v) i s = regB d i s) ∧
    (∀ i s, regT (setCam d k v) i s = regT d i s) ∧ (∀ i s, frc (setCam d k v) i s = frc d i s) ∧ (∀ i s, frcN (setCam d k v) i s = frcN d i s) ∧
    (∀ i s, frcT (setCam d k v) i s = frcT d i s) := by and_intros <;> intros <;> rfl
@[simp] theorem regs_setPipe (k : Nat) (v : PipeUnit) :
    (∀ i s, reg (setPipe d k v) i s = reg d i s) ∧ (∀ i s, regN (setPipe d k v) i s = regN d i s) ∧ (∀ i s, regB (setPipe d k v) i s = regB d i s) ∧
    (∀ i s, regT (setPipe d k v) i s = regT d i s) ∧ (∀ i s, frc (setPipe d k v) i s = frc d i s) ∧ (∀ i s, frcN (setPipe d k v) i s = frcN d i s) ∧
    (∀ i s, frcT (setPipe d k v) i s = frcT d i s) := by and_intros <;> intros <;> rfl
@[simp] theorem regs_setLayer (k : Nat) (v : LayerUnit) :
    (∀ i s, reg (setLayer d k v) i s = reg d i s) ∧ (∀ i s, regN (setLayer d k v) i s = regN d i s) ∧ (∀ i s, regB (setLayer d k v) i s = regB d i s) ∧
    (∀ i s, regT (setLayer d k v) i s = regT d i s) ∧ (∀ i s, frc (setLayer d k v) i s = frc d i s) ∧ (∀ i s, frcN (setLayer d k v) i s = frcN d i s) ∧
    (∀ i s, frcT (setLayer d k v) i s = frcT d i s) := by and_intros <;> intros <;> rfl
@[simp] theorem regs_setHead (k : Nat) (v : HeadUnit) :
    (∀ i s, reg (setHead d k v) i s = reg d i s) ∧ (∀ i s, regN (setHead d k v) i s = regN d i s) ∧ (∀ i s, regB (setHead d k v) i s = regB d i s) ∧
    (∀ i s, regT (setHead d k v) i s = regT d i s) ∧ (∀ i s, frc (setHead d k v) i s = frc d i s) ∧ (∀ i s, frcN (setHead d k v) i s = frcN d i s) ∧
    (∀ i s, frcT (setHead d k v) i s = frcT d i s) := by and_intros <;> intros <;> rfl
@[simp] theorem regs_setScan (k : Nat) (v : HeadScan) :
    (∀ i s, reg (setScan d k v) i s = reg d i s) ∧ (∀ i s, regN (setScan d k v) i s = regN d i s) ∧ (∀ i s, regB (setScan d k v) i s = regB d i s) ∧
    (∀ i s, regT (setScan d k v) i s = regT d i s) ∧ (∀ i s, frc (setScan d k v) i s = frc d i s) ∧ (∀ i s, frcN (setScan d k v) i s = frcN d i s) ∧
    (∀ i s, frcT (setScan d k v) i s = frcT d i s) := by and_intros <;> intros <;> rfl
@[simp] theorem regs_setTag (k : Nat) (v : TagUnit) :
    (∀ i s, reg (setTag d k v) i s = reg d i s) ∧ (∀ i s, regN (setTag d k v) i s = regN d i s) ∧ (∀ i s, regB (setTag d k v) i s = regB d i s) ∧
    (∀ i s, regT (setTag d k v) i s = regT d i s) ∧ (∀ i s, frc (setTag d k v) i s = frc d i s) ∧ (∀ i s, frcN (setTag d k v) i s = frcN d i s) ∧
    (∀ i s, frcT (setTag d k v) i s = frcT d i s) := by and_intros <;> intros <;> rfl
@[simp] theorem regs_setWb (k : Nat) (v : WbUnit) :
    (∀ i s, reg (setWb d k v) i s = reg d i s) ∧ (∀ i s, regN (setWb d k v) i s = regN d i s) ∧ (∀ i s, regB (setWb d k v) i s = regB d i s) ∧
    (∀ i s, regT (setWb d k v) i s = regT d i s) ∧ (∀ i s, frc (setWb d k v) i s = frc d i s) ∧ (∀ i s, frcN (setWb d k v) i s = frcN d i s) ∧
    (∀ i s, frcT (setWb d k v) i s = frcT d i s) := by and_intros <;> intros <;> rfl
@[simp] theorem regs_setMemIf (k : Nat) (v : MemIfUnit) :
    (∀ i s, reg (setMemIf d k v) i s = reg d i s) ∧ (∀ i s, regN (setMemIf d k v) i s = regN d i s) ∧ (∀ i s, regB (setMemIf d k v) i s = regB d i s) ∧
    (∀ i s, regT (setMemIf d k v) i s = regT d i s) ∧ (∀ i s, frc (setMemIf d k v) i s = frc d i s) ∧ (∀ i s, frcN (setMemIf d k v) i s = frcN d i s) ∧
    (∀ i s, frcT (setMemIf d k v) i s = frcT d i s) := by and_intros <;> intros <;> rfl
@[simp] theorem regs_setMem (k : Nat) (v : MemUnit) :
    (∀ i s, reg (setMem d k v) i s = reg d i s) ∧ (∀ i s, regN (setMem d k v) i s = regN d i s) ∧ (∀ i s, regB (setMem d k v) i s = regB d i s) ∧
    (∀ i s, regT (setMem d k v) i s = regT d i s) ∧ (∀ i s, frc (setMem d k v) i s = frc d i s) ∧ (∀ i s, frcN (setMem d k v) i s = frcN d i s) ∧
    (∀ i s, frcT (setMem d k v) i s = frcT d i s) := by and_intros <;> intros <;> rfl
@[simp] theorem regs_setQueue (k : Nat) (v : QueueUnit) :
    (∀ i s, reg (setQueue d k v) i s = reg d i s) ∧ (∀ i s, regN (setQueue d k v) i s = regN d i s) ∧ (∀ i s, regB (setQueue d k v) i s = regB d i s) ∧
    (∀ i s, regT (setQueue d k v) i s = regT d i s) ∧ (∀ i s, frc (setQueue d k v) i s = frc d i s) ∧ (∀ i s, frcN (setQueue d k v) i s = frcN d i s) ∧
    (∀ i s, frcT (setQueue d k v) i s = frcT d i s) := by and_intros <;> intros <;> rfl
@[simp] theorem regs_setLink (k : Nat) (v : TouchUnit) :
    (∀ i s, reg (setLink d k v) i s = reg d i s) ∧ (∀ i s, regN (setLink d k v) i s = regN d i s) ∧ (∀ i s, regB (setLink d k v) i s = regB d i s) ∧
    (∀ i s, regT (setLink d k v) i s = regT d i s) ∧ (∀ i s, frc (setLink d k v) i s = frc d i s) ∧ (∀ i s, frcN (setLink d k v) i s = frcN d i s) ∧
    (∀ i s, frcT (setLink d k v) i s = frcT d i s) := by and_intros <;> intros <;> rfl
@[simp] theorem regs_setTrack (k : Nat) (v : TrackUnit) :
    (∀ i s, reg (setTrack d k v) i s = reg d i s) ∧ (∀ i s, regN (setTrack d k v) i s = regN d i s) ∧ (∀ i s, regB (setTrack d k v) i s = regB d i s) ∧
    (∀ i s, regT (setTrack d k v) i s = regT d i s) ∧ (∀ i s, frc (setTrack d k v) i s = frc d i s) ∧ (∀ i s, frcN (setTrack d k v) i s = frcN d i s) ∧
    (∀ i s, frcT (setTrack d k v) i s = frcT d i s) := by and_intros <;> intros <;> rfl
@[simp] theorem regs_setMc (k : Nat) (v : McUnit) :
    (∀ i s, reg (setMc d k v) i s = reg d i s) ∧ (∀ i s, regN (setMc d k v) i s = regN d i s) ∧ (∀ i s, regB (setMc d k v) i s = regB d i s) ∧
    (∀ i s, regT (setMc d k v) i s = regT d i s) ∧ (∀ i s, frc (setMc d k v) i s = frc d i s) ∧ (∀ i s, frcN (setMc d k v) i s = frcN d i s) ∧
    (∀ i s, frcT (setMc d k v) i s = frcT d i s) := by and_intros <;> intros <;> rfl

@[simp] theorem units_setReg (x y : Nat) (v : Val) :
    (∀ j, ctlAt (setReg d x y v) j = ctlAt d j) ∧ (∀ j, pixAt (setReg d x y v) j = pixAt d j) ∧ (∀ j, railAt (setReg d x y v) j = railAt d j) ∧
    (∀ j, clockAt (setReg d x y v) j = clockAt d j) ∧ (∀ j, ruleCopyAt (setReg d x y v) j = ruleCopyAt d j) ∧ (∀ j, ringAt (setReg d x y v) j = ringAt d j) ∧
    (∀ j, srcAt (setReg d x y v) j = srcAt d j) ∧ (∀ j, st2110At (setReg d x y v) j = st2110At d j) ∧ (∀ j, camAt (setReg d x y v) j = camAt d j) ∧
    (∀ j, pipeAt (setReg d x y v) j = pipeAt d j) ∧ (∀ j, layerAt (setReg d x y v) j = layerAt d j) ∧ (∀ j, headAt (setReg d x y v) j = headAt d j) ∧
    (∀ j, scanAt (setReg d x y v) j = scanAt d j) ∧ (∀ j, tagAt (setReg d x y v) j = tagAt d j) ∧ (∀ j, wbAt (setReg d x y v) j = wbAt d j) ∧
    (∀ j, memIfAt (setReg d x y v) j = memIfAt d j) ∧ (∀ j, memAt (setReg d x y v) j = memAt d j) ∧ (∀ j, queueAt (setReg d x y v) j = queueAt d j) ∧
    (∀ j, linkAt (setReg d x y v) j = linkAt d j) ∧ (∀ j, trackAt (setReg d x y v) j = trackAt d j) ∧ (∀ j, mcAt (setReg d x y v) j = mcAt d j) := by and_intros <;> intros <;> rfl
@[simp] theorem units_setN (x y n : Nat) :
    (∀ j, ctlAt (setN d x y n) j = ctlAt d j) ∧ (∀ j, pixAt (setN d x y n) j = pixAt d j) ∧ (∀ j, railAt (setN d x y n) j = railAt d j) ∧
    (∀ j, clockAt (setN d x y n) j = clockAt d j) ∧ (∀ j, ruleCopyAt (setN d x y n) j = ruleCopyAt d j) ∧ (∀ j, ringAt (setN d x y n) j = ringAt d j) ∧
    (∀ j, srcAt (setN d x y n) j = srcAt d j) ∧ (∀ j, st2110At (setN d x y n) j = st2110At d j) ∧ (∀ j, camAt (setN d x y n) j = camAt d j) ∧
    (∀ j, pipeAt (setN d x y n) j = pipeAt d j) ∧ (∀ j, layerAt (setN d x y n) j = layerAt d j) ∧ (∀ j, headAt (setN d x y n) j = headAt d j) ∧
    (∀ j, scanAt (setN d x y n) j = scanAt d j) ∧ (∀ j, tagAt (setN d x y n) j = tagAt d j) ∧ (∀ j, wbAt (setN d x y n) j = wbAt d j) ∧
    (∀ j, memIfAt (setN d x y n) j = memIfAt d j) ∧ (∀ j, memAt (setN d x y n) j = memAt d j) ∧ (∀ j, queueAt (setN d x y n) j = queueAt d j) ∧
    (∀ j, linkAt (setN d x y n) j = linkAt d j) ∧ (∀ j, trackAt (setN d x y n) j = trackAt d j) ∧ (∀ j, mcAt (setN d x y n) j = mcAt d j) := by and_intros <;> intros <;> rfl
@[simp] theorem units_setB (x y : Nat) (b : List Byte) :
    (∀ j, ctlAt (setB d x y b) j = ctlAt d j) ∧ (∀ j, pixAt (setB d x y b) j = pixAt d j) ∧ (∀ j, railAt (setB d x y b) j = railAt d j) ∧
    (∀ j, clockAt (setB d x y b) j = clockAt d j) ∧ (∀ j, ruleCopyAt (setB d x y b) j = ruleCopyAt d j) ∧ (∀ j, ringAt (setB d x y b) j = ringAt d j) ∧
    (∀ j, srcAt (setB d x y b) j = srcAt d j) ∧ (∀ j, st2110At (setB d x y b) j = st2110At d j) ∧ (∀ j, camAt (setB d x y b) j = camAt d j) ∧
    (∀ j, pipeAt (setB d x y b) j = pipeAt d j) ∧ (∀ j, layerAt (setB d x y b) j = layerAt d j) ∧ (∀ j, headAt (setB d x y b) j = headAt d j) ∧
    (∀ j, scanAt (setB d x y b) j = scanAt d j) ∧ (∀ j, tagAt (setB d x y b) j = tagAt d j) ∧ (∀ j, wbAt (setB d x y b) j = wbAt d j) ∧
    (∀ j, memIfAt (setB d x y b) j = memIfAt d j) ∧ (∀ j, memAt (setB d x y b) j = memAt d j) ∧ (∀ j, queueAt (setB d x y b) j = queueAt d j) ∧
    (∀ j, linkAt (setB d x y b) j = linkAt d j) ∧ (∀ j, trackAt (setB d x y b) j = trackAt d j) ∧ (∀ j, mcAt (setB d x y b) j = mcAt d j) := by and_intros <;> intros <;> rfl
@[simp] theorem units_setForce (x y : Nat) (v : Val) :
    (∀ j, ctlAt (setForce d x y v) j = ctlAt d j) ∧ (∀ j, pixAt (setForce d x y v) j = pixAt d j) ∧ (∀ j, railAt (setForce d x y v) j = railAt d j) ∧
    (∀ j, clockAt (setForce d x y v) j = clockAt d j) ∧ (∀ j, ruleCopyAt (setForce d x y v) j = ruleCopyAt d j) ∧ (∀ j, ringAt (setForce d x y v) j = ringAt d j) ∧
    (∀ j, srcAt (setForce d x y v) j = srcAt d j) ∧ (∀ j, st2110At (setForce d x y v) j = st2110At d j) ∧ (∀ j, camAt (setForce d x y v) j = camAt d j) ∧
    (∀ j, pipeAt (setForce d x y v) j = pipeAt d j) ∧ (∀ j, layerAt (setForce d x y v) j = layerAt d j) ∧ (∀ j, headAt (setForce d x y v) j = headAt d j) ∧
    (∀ j, scanAt (setForce d x y v) j = scanAt d j) ∧ (∀ j, tagAt (setForce d x y v) j = tagAt d j) ∧ (∀ j, wbAt (setForce d x y v) j = wbAt d j) ∧
    (∀ j, memIfAt (setForce d x y v) j = memIfAt d j) ∧ (∀ j, memAt (setForce d x y v) j = memAt d j) ∧ (∀ j, queueAt (setForce d x y v) j = queueAt d j) ∧
    (∀ j, linkAt (setForce d x y v) j = linkAt d j) ∧ (∀ j, trackAt (setForce d x y v) j = trackAt d j) ∧ (∀ j, mcAt (setForce d x y v) j = mcAt d j) := by and_intros <;> intros <;> rfl
@[simp] theorem units_setRecord (x y : Nat) (v : Val) :
    (∀ j, ctlAt (setRecord d x y v) j = ctlAt d j) ∧ (∀ j, pixAt (setRecord d x y v) j = pixAt d j) ∧ (∀ j, railAt (setRecord d x y v) j = railAt d j) ∧
    (∀ j, clockAt (setRecord d x y v) j = clockAt d j) ∧ (∀ j, ruleCopyAt (setRecord d x y v) j = ruleCopyAt d j) ∧ (∀ j, ringAt (setRecord d x y v) j = ringAt d j) ∧
    (∀ j, srcAt (setRecord d x y v) j = srcAt d j) ∧ (∀ j, st2110At (setRecord d x y v) j = st2110At d j) ∧ (∀ j, camAt (setRecord d x y v) j = camAt d j) ∧
    (∀ j, pipeAt (setRecord d x y v) j = pipeAt d j) ∧ (∀ j, layerAt (setRecord d x y v) j = layerAt d j) ∧ (∀ j, headAt (setRecord d x y v) j = headAt d j) ∧
    (∀ j, scanAt (setRecord d x y v) j = scanAt d j) ∧ (∀ j, tagAt (setRecord d x y v) j = tagAt d j) ∧ (∀ j, wbAt (setRecord d x y v) j = wbAt d j) ∧
    (∀ j, memIfAt (setRecord d x y v) j = memIfAt d j) ∧ (∀ j, memAt (setRecord d x y v) j = memAt d j) ∧ (∀ j, queueAt (setRecord d x y v) j = queueAt d j) ∧
    (∀ j, linkAt (setRecord d x y v) j = linkAt d j) ∧ (∀ j, trackAt (setRecord d x y v) j = trackAt d j) ∧ (∀ j, mcAt (setRecord d x y v) j = mcAt d j) := by and_intros <;> intros <;> rfl
@[simp] theorem units_spend  :
    (∀ j, ctlAt (spend d) j = ctlAt d j) ∧ (∀ j, pixAt (spend d) j = pixAt d j) ∧ (∀ j, railAt (spend d) j = railAt d j) ∧
    (∀ j, clockAt (spend d) j = clockAt d j) ∧ (∀ j, ruleCopyAt (spend d) j = ruleCopyAt d j) ∧ (∀ j, ringAt (spend d) j = ringAt d j) ∧
    (∀ j, srcAt (spend d) j = srcAt d j) ∧ (∀ j, st2110At (spend d) j = st2110At d j) ∧ (∀ j, camAt (spend d) j = camAt d j) ∧
    (∀ j, pipeAt (spend d) j = pipeAt d j) ∧ (∀ j, layerAt (spend d) j = layerAt d j) ∧ (∀ j, headAt (spend d) j = headAt d j) ∧
    (∀ j, scanAt (spend d) j = scanAt d j) ∧ (∀ j, tagAt (spend d) j = tagAt d j) ∧ (∀ j, wbAt (spend d) j = wbAt d j) ∧
    (∀ j, memIfAt (spend d) j = memIfAt d j) ∧ (∀ j, memAt (spend d) j = memAt d j) ∧ (∀ j, queueAt (spend d) j = queueAt d j) ∧
    (∀ j, linkAt (spend d) j = linkAt d j) ∧ (∀ j, trackAt (spend d) j = trackAt d j) ∧ (∀ j, mcAt (spend d) j = mcAt d j) := by and_intros <;> intros <;> rfl
@[simp] theorem units_bumpBy (x y n : Nat) :
    (∀ j, ctlAt (bumpBy d x y n) j = ctlAt d j) ∧ (∀ j, pixAt (bumpBy d x y n) j = pixAt d j) ∧ (∀ j, railAt (bumpBy d x y n) j = railAt d j) ∧
    (∀ j, clockAt (bumpBy d x y n) j = clockAt d j) ∧ (∀ j, ruleCopyAt (bumpBy d x y n) j = ruleCopyAt d j) ∧ (∀ j, ringAt (bumpBy d x y n) j = ringAt d j) ∧
    (∀ j, srcAt (bumpBy d x y n) j = srcAt d j) ∧ (∀ j, st2110At (bumpBy d x y n) j = st2110At d j) ∧ (∀ j, camAt (bumpBy d x y n) j = camAt d j) ∧
    (∀ j, pipeAt (bumpBy d x y n) j = pipeAt d j) ∧ (∀ j, layerAt (bumpBy d x y n) j = layerAt d j) ∧ (∀ j, headAt (bumpBy d x y n) j = headAt d j) ∧
    (∀ j, scanAt (bumpBy d x y n) j = scanAt d j) ∧ (∀ j, tagAt (bumpBy d x y n) j = tagAt d j) ∧ (∀ j, wbAt (bumpBy d x y n) j = wbAt d j) ∧
    (∀ j, memIfAt (bumpBy d x y n) j = memIfAt d j) ∧ (∀ j, memAt (bumpBy d x y n) j = memAt d j) ∧ (∀ j, queueAt (bumpBy d x y n) j = queueAt d j) ∧
    (∀ j, linkAt (bumpBy d x y n) j = linkAt d j) ∧ (∀ j, trackAt (bumpBy d x y n) j = trackAt d j) ∧ (∀ j, mcAt (bumpBy d x y n) j = mcAt d j) := by
  unfold bumpBy
  split <;> simp
@[simp] theorem units_send (p k t : Nat) (b : List Byte) :
    (∀ j, ctlAt (send d p k t b) j = ctlAt d j) ∧ (∀ j, pixAt (send d p k t b) j = pixAt d j) ∧ (∀ j, railAt (send d p k t b) j = railAt d j) ∧
    (∀ j, clockAt (send d p k t b) j = clockAt d j) ∧ (∀ j, ruleCopyAt (send d p k t b) j = ruleCopyAt d j) ∧ (∀ j, ringAt (send d p k t b) j = ringAt d j) ∧
    (∀ j, srcAt (send d p k t b) j = srcAt d j) ∧ (∀ j, st2110At (send d p k t b) j = st2110At d j) ∧ (∀ j, camAt (send d p k t b) j = camAt d j) ∧
    (∀ j, pipeAt (send d p k t b) j = pipeAt d j) ∧ (∀ j, layerAt (send d p k t b) j = layerAt d j) ∧ (∀ j, headAt (send d p k t b) j = headAt d j) ∧
    (∀ j, scanAt (send d p k t b) j = scanAt d j) ∧ (∀ j, tagAt (send d p k t b) j = tagAt d j) ∧ (∀ j, wbAt (send d p k t b) j = wbAt d j) ∧
    (∀ j, memIfAt (send d p k t b) j = memIfAt d j) ∧ (∀ j, memAt (send d p k t b) j = memAt d j) ∧ (∀ j, queueAt (send d p k t b) j = queueAt d j) ∧
    (∀ j, linkAt (send d p k t b) j = linkAt d j) ∧ (∀ j, trackAt (send d p k t b) j = trackAt d j) ∧ (∀ j, mcAt (send d p k t b) j = mcAt d j) := by
  unfold send
  split <;> and_intros <;> intros <;> rfl
@[simp] theorem units_raiseFull (k code sev unit count : Nat) (detail : List Nat) (src : Option Nat) :
    (∀ j, ctlAt (raiseFull d k code sev unit count detail src) j = ctlAt d j) ∧ (∀ j, pixAt (raiseFull d k code sev unit count detail src) j = pixAt d j) ∧ (∀ j, railAt (raiseFull d k code sev unit count detail src) j = railAt d j) ∧
    (∀ j, clockAt (raiseFull d k code sev unit count detail src) j = clockAt d j) ∧ (∀ j, ruleCopyAt (raiseFull d k code sev unit count detail src) j = ruleCopyAt d j) ∧ (∀ j, srcAt (raiseFull d k code sev unit count detail src) j = srcAt d j) ∧
    (∀ j, st2110At (raiseFull d k code sev unit count detail src) j = st2110At d j) ∧ (∀ j, camAt (raiseFull d k code sev unit count detail src) j = camAt d j) ∧ (∀ j, pipeAt (raiseFull d k code sev unit count detail src) j = pipeAt d j) ∧
    (∀ j, layerAt (raiseFull d k code sev unit count detail src) j = layerAt d j) ∧ (∀ j, headAt (raiseFull d k code sev unit count detail src) j = headAt d j) ∧ (∀ j, scanAt (raiseFull d k code sev unit count detail src) j = scanAt d j) ∧
    (∀ j, tagAt (raiseFull d k code sev unit count detail src) j = tagAt d j) ∧ (∀ j, wbAt (raiseFull d k code sev unit count detail src) j = wbAt d j) ∧ (∀ j, memIfAt (raiseFull d k code sev unit count detail src) j = memIfAt d j) ∧
    (∀ j, memAt (raiseFull d k code sev unit count detail src) j = memAt d j) ∧ (∀ j, queueAt (raiseFull d k code sev unit count detail src) j = queueAt d j) ∧ (∀ j, linkAt (raiseFull d k code sev unit count detail src) j = linkAt d j) ∧
    (∀ j, trackAt (raiseFull d k code sev unit count detail src) j = trackAt d j) ∧ (∀ j, mcAt (raiseFull d k code sev unit count detail src) j = mcAt d j) := by
  simp [ctlAt, pixAt, railAt, clockAt, ruleCopyAt, srcAt, st2110At, camAt, pipeAt, layerAt, headAt, scanAt, tagAt, wbAt, memIfAt, memAt, queueAt, linkAt, trackAt, mcAt]
@[simp] theorem units_raiseD (k code unit : Nat) (detail : List Nat) :
    (∀ j, ctlAt (raiseD d k code unit detail) j = ctlAt d j) ∧ (∀ j, pixAt (raiseD d k code unit detail) j = pixAt d j) ∧ (∀ j, railAt (raiseD d k code unit detail) j = railAt d j) ∧
    (∀ j, clockAt (raiseD d k code unit detail) j = clockAt d j) ∧ (∀ j, ruleCopyAt (raiseD d k code unit detail) j = ruleCopyAt d j) ∧ (∀ j, srcAt (raiseD d k code unit detail) j = srcAt d j) ∧
    (∀ j, st2110At (raiseD d k code unit detail) j = st2110At d j) ∧ (∀ j, camAt (raiseD d k code unit detail) j = camAt d j) ∧ (∀ j, pipeAt (raiseD d k code unit detail) j = pipeAt d j) ∧
    (∀ j, layerAt (raiseD d k code unit detail) j = layerAt d j) ∧ (∀ j, headAt (raiseD d k code unit detail) j = headAt d j) ∧ (∀ j, scanAt (raiseD d k code unit detail) j = scanAt d j) ∧
    (∀ j, tagAt (raiseD d k code unit detail) j = tagAt d j) ∧ (∀ j, wbAt (raiseD d k code unit detail) j = wbAt d j) ∧ (∀ j, memIfAt (raiseD d k code unit detail) j = memIfAt d j) ∧
    (∀ j, memAt (raiseD d k code unit detail) j = memAt d j) ∧ (∀ j, queueAt (raiseD d k code unit detail) j = queueAt d j) ∧ (∀ j, linkAt (raiseD d k code unit detail) j = linkAt d j) ∧
    (∀ j, trackAt (raiseD d k code unit detail) j = trackAt d j) ∧ (∀ j, mcAt (raiseD d k code unit detail) j = mcAt d j) := units_raiseFull ..
@[simp] theorem units_raise (k code unit : Nat) :
    (∀ j, ctlAt (raise d k code unit) j = ctlAt d j) ∧ (∀ j, pixAt (raise d k code unit) j = pixAt d j) ∧ (∀ j, railAt (raise d k code unit) j = railAt d j) ∧
    (∀ j, clockAt (raise d k code unit) j = clockAt d j) ∧ (∀ j, ruleCopyAt (raise d k code unit) j = ruleCopyAt d j) ∧ (∀ j, srcAt (raise d k code unit) j = srcAt d j) ∧
    (∀ j, st2110At (raise d k code unit) j = st2110At d j) ∧ (∀ j, camAt (raise d k code unit) j = camAt d j) ∧ (∀ j, pipeAt (raise d k code unit) j = pipeAt d j) ∧
    (∀ j, layerAt (raise d k code unit) j = layerAt d j) ∧ (∀ j, headAt (raise d k code unit) j = headAt d j) ∧ (∀ j, scanAt (raise d k code unit) j = scanAt d j) ∧
    (∀ j, tagAt (raise d k code unit) j = tagAt d j) ∧ (∀ j, wbAt (raise d k code unit) j = wbAt d j) ∧ (∀ j, memIfAt (raise d k code unit) j = memIfAt d j) ∧
    (∀ j, memAt (raise d k code unit) j = memAt d j) ∧ (∀ j, queueAt (raise d k code unit) j = queueAt d j) ∧ (∀ j, linkAt (raise d k code unit) j = linkAt d j) ∧
    (∀ j, trackAt (raise d k code unit) j = trackAt d j) ∧ (∀ j, mcAt (raise d k code unit) j = mcAt d j) := units_raiseFull ..

@[simp] theorem regs_spend :
    (∀ i s, reg (spend d) i s = reg d i s) ∧ (∀ i s, regN (spend d) i s = regN d i s) ∧ (∀ i s, regB (spend d) i s = regB d i s) ∧
    (∀ i s, regT (spend d) i s = regT d i s) ∧ (∀ i s, frc (spend d) i s = frc d i s) ∧ (∀ i s, frcN (spend d) i s = frcN d i s) ∧
    (∀ i s, frcT (spend d) i s = frcT d i s) := by and_intros <;> intros <;> rfl
@[simp] theorem regs_send (p k t : Nat) (b : List Byte) :
    (∀ i s, reg (send d p k t b) i s = reg d i s) ∧ (∀ i s, regN (send d p k t b) i s = regN d i s) ∧ (∀ i s, regB (send d p k t b) i s = regB d i s) ∧
    (∀ i s, regT (send d p k t b) i s = regT d i s) ∧ (∀ i s, frc (send d p k t b) i s = frc d i s) ∧ (∀ i s, frcN (send d p k t b) i s = frcN d i s) ∧
    (∀ i s, frcT (send d p k t b) i s = frcT d i s) := by
  unfold send
  split <;> and_intros <;> intros <;> rfl
@[simp] theorem regs_setForce (x y : Nat) (v : Val) :
    (∀ i s, reg (setForce d x y v) i s = reg d i s) ∧ (∀ i s, regN (setForce d x y v) i s = regN d i s) ∧ (∀ i s, regB (setForce d x y v) i s = regB d i s) ∧
    (∀ i s, regT (setForce d x y v) i s = regT d i s) := by and_intros <;> intros <;> rfl
@[simp] theorem regs_setRecord (x y : Nat) (v : Val) :
    (∀ i s, reg (setRecord d x y v) i s = reg d i s) ∧ (∀ i s, regN (setRecord d x y v) i s = regN d i s) ∧ (∀ i s, regB (setRecord d x y v) i s = regB d i s) ∧
    (∀ i s, regT (setRecord d x y v) i s = regT d i s) ∧ (∀ i s, frc (setRecord d x y v) i s = frc d i s) ∧ (∀ i s, frcN (setRecord d x y v) i s = frcN d i s) ∧
    (∀ i s, frcT (setRecord d x y v) i s = frcT d i s) := by and_intros <;> intros <;> rfl
@[simp] theorem frc_setReg (x y : Nat) (v : Val) :
    (∀ i s, frc (setReg d x y v) i s = frc d i s) ∧ (∀ i s, frcN (setReg d x y v) i s = frcN d i s) ∧ (∀ i s, frcT (setReg d x y v) i s = frcT d i s) := by and_intros <;> intros <;> rfl
@[simp] theorem frc_setN (x y n : Nat) :
    (∀ i s, frc (setN d x y n) i s = frc d i s) ∧ (∀ i s, frcN (setN d x y n) i s = frcN d i s) ∧ (∀ i s, frcT (setN d x y n) i s = frcT d i s) := by and_intros <;> intros <;> rfl
@[simp] theorem frc_setB (x y : Nat) (b : List Byte) :
    (∀ i s, frc (setB d x y b) i s = frc d i s) ∧ (∀ i s, frcN (setB d x y b) i s = frcN d i s) ∧ (∀ i s, frcT (setB d x y b) i s = frcT d i s) := by and_intros <;> intros <;> rfl
@[simp] theorem frc_bumpBy (x y n : Nat) :
    (∀ i s, frc (bumpBy d x y n) i s = frc d i s) ∧ (∀ i s, frcN (bumpBy d x y n) i s = frcN d i s) ∧ (∀ i s, frcT (bumpBy d x y n) i s = frcT d i s) := by
  unfold bumpBy
  split <;> simp
@[simp] theorem frc_raiseFull (k code sev unit count : Nat) (detail : List Nat) (src : Option Nat) :
    (∀ i s, s < 256 → frc (raiseFull d k code sev unit count detail src) i s = frc d i s) :=
  (keeps_raiseFull_of (ps := eventParts) (rs := anyReg) d k code sev unit count detail src (fun _ h => h) (fun _ _ => trivial) trivial trivial).parts .force (by decide)

end

/-! ### Registers after a write, a count and an event -/

section
variable (d : Device) {i s j r : Nat}

@[simp] theorem reg_setReg_eq (v : Val) (hs : s < 256) (hr : r < 256) :
    reg (setReg d i s v) j r = (if i = j ∧ s = r then v else reg d j r) ∧
    regN (setReg d i s v) j r = (if i = j ∧ s = r then valNum v else regN d j r) ∧
    regB (setReg d i s v) j r = (if i = j ∧ s = r then valBytes v else regB d j r) ∧
    regT (setReg d i s v) j r = (if i = j ∧ s = r then valNum v == 1 else regT d j r) := by
  simp only [regT, regN, regB, reg_setReg d i s j r v hs hr]
  split <;> simp

@[simp] theorem reg_setN_eq (n : Nat) (hs : s < 256) (hr : r < 256) :
    reg (setN d i s n) j r = (if i = j ∧ s = r then .num n else reg d j r) ∧
    regN (setN d i s n) j r = (if i = j ∧ s = r then n else regN d j r) ∧
    regB (setN d i s n) j r = (if i = j ∧ s = r then [] else regB d j r) ∧
    regT (setN d i s n) j r = (if i = j ∧ s = r then n == 1 else regT d j r) := reg_setReg_eq d (.num n) hs hr

@[simp] theorem reg_setB_eq (b : List Byte) (hs : s < 256) (hr : r < 256) :
    reg (setB d i s b) j r = (if i = j ∧ s = r then .bytes b else reg d j r) ∧
    regN (setB d i s b) j r = (if i = j ∧ s = r then 0 else regN d j r) ∧
    regB (setB d i s b) j r = (if i = j ∧ s = r then b else regB d j r) ∧
    regT (setB d i s b) j r = (if i = j ∧ s = r then false else regT d j r) := reg_setReg_eq d (.bytes b) hs hr

theorem regN_bumpBy (n : Nat) (hs : s < 256) (hr : r < 256) :
    regN (bumpBy d i s n) j r = if i = j ∧ s = r ∧ n ≠ 0 then min (regN d j r + n) 0x7FFFFFFF else regN d j r := by
  unfold bumpBy
  split
  · next h => simp [h]
  · next h =>
    rw [regN_setN _ _ _ _ _ _ hs hr]
    by_cases e : i = j ∧ s = r
    · obtain ⟨rfl, rfl⟩ := e
      simp [h]
    · rw [if_neg e, if_neg fun x => e ⟨x.1, x.2.1⟩]

/-- A count leaves every other register as it was. -/
@[simp] theorem reg_bumpBy_of_ne (n : Nat) (hs : s < 256) (hr : r < 256) (h : ¬(i = j ∧ s = r)) :
    reg (bumpBy d i s n) j r = reg d j r ∧ regN (bumpBy d i s n) j r = regN d j r ∧
    regB (bumpBy d i s n) j r = regB d j r ∧ regT (bumpBy d i s n) j r = regT d j r := by
  unfold bumpBy
  split
  · simp
  · simp [hs, hr, h]

@[simp] theorem reg_settle_eq (hs : s < 256) :
    reg (settle d) i s = reg d i s ∧ regN (settle d) i s = regN d i s ∧ regB (settle d) i s = regB d i s ∧
    regT (settle d) i s = regT d i s ∧ frc (settle d) i s = frc d i s ∧ frcN (settle d) i s = frcN d i s :=
  ⟨reg_settle d i s hs, regN_settle d i s hs, regB_settle d i s hs, regT_settle d i s hs, frc_settle d i s hs, frcN_settle d i s hs⟩

end

/-! ### Reading through a choice -/

section
variable (p : Prop) [Decidable p] (a b : Device)

@[simp] theorem fields_ite :
    (if p then a else b).mono = (if p then a.mono else b.mono) ∧ (if p then a else b).fresh = (if p then a.fresh else b.fresh) ∧
    (if p then a else b).force = (if p then a.force else b.force) ∧ (if p then a else b).record = (if p then a.record else b.record) ∧
    (if p then a else b).pins = (if p then a.pins else b.pins) ∧ (if p then a else b).ctls = (if p then a.ctls else b.ctls) ∧
    (if p then a else b).pix = (if p then a.pix else b.pix) ∧ (if p then a else b).rails = (if p then a.rails else b.rails) ∧
    (if p then a else b).clocks = (if p then a.clocks else b.clocks) ∧ (if p then a else b).rules = (if p then a.rules else b.rules) ∧
    (if p then a else b).rings = (if p then a.rings else b.rings) ∧ (if p then a else b).sup = (if p then a.sup else b.sup) ∧
    (if p then a else b).cmp = (if p then a.cmp else b.cmp) ∧ (if p then a else b).can = (if p then a.can else b.can) ∧
    (if p then a else b).audit = (if p then a.audit else b.audit) ∧ (if p then a else b).awaiting = (if p then a.awaiting else b.awaiting) ∧
    (if p then a else b).srcs = (if p then a.srcs else b.srcs) ∧ (if p then a else b).st2110 = (if p then a.st2110 else b.st2110) ∧
    (if p then a else b).cams = (if p then a.cams else b.cams) ∧ (if p then a else b).pipes = (if p then a.pipes else b.pipes) ∧
    (if p then a else b).layers = (if p then a.layers else b.layers) ∧ (if p then a else b).heads = (if p then a.heads else b.heads) ∧
    (if p then a else b).scans = (if p then a.scans else b.scans) ∧ (if p then a else b).tags = (if p then a.tags else b.tags) ∧
    (if p then a else b).wbs = (if p then a.wbs else b.wbs) ∧ (if p then a else b).ifs = (if p then a.ifs else b.ifs) ∧
    (if p then a else b).mems = (if p then a.mems else b.mems) ∧ (if p then a else b).queues = (if p then a.queues else b.queues) ∧
    (if p then a else b).links = (if p then a.links else b.links) ∧ (if p then a else b).tracks = (if p then a.tracks else b.tracks) ∧
    (if p then a else b).mcs = (if p then a.mcs else b.mcs) ∧ (if p then a else b).unattr = (if p then a.unattr else b.unattr) ∧
    (if p then a else b).crossings = (if p then a.crossings else b.crossings) ∧ (if p then a else b).limits = (if p then a.limits else b.limits) ∧
    (if p then a else b).layout = (if p then a.layout else b.layout) ∧ (if p then a else b).memory = (if p then a.memory else b.memory) ∧
    (if p then a else b).tx = (if p then a.tx else b.tx) ∧ (if p then a else b).regs = (if p then a.regs else b.regs) := by
  split <;> simp
@[simp] theorem units_ite :
    (∀ j, ctlAt (if p then a else b) j = (if p then ctlAt a j else ctlAt b j)) ∧ (∀ j, pixAt (if p then a else b) j = (if p then pixAt a j else pixAt b j)) ∧
    (∀ j, railAt (if p then a else b) j = (if p then railAt a j else railAt b j)) ∧ (∀ j, clockAt (if p then a else b) j = (if p then clockAt a j else clockAt b j)) ∧
    (∀ j, ruleCopyAt (if p then a else b) j = (if p then ruleCopyAt a j else ruleCopyAt b j)) ∧ (∀ j, ringAt (if p then a else b) j = (if p then ringAt a j else ringAt b j)) ∧
    (∀ j, srcAt (if p then a else b) j = (if p then srcAt a j else srcAt b j)) ∧ (∀ j, st2110At (if p then a else b) j = (if p then st2110At a j else st2110At b j)) ∧
    (∀ j, camAt (if p then a else b) j = (if p then camAt a j else camAt b j)) ∧ (∀ j, pipeAt (if p then a else b) j = (if p then pipeAt a j else pipeAt b j)) ∧
    (∀ j, layerAt (if p then a else b) j = (if p then layerAt a j else layerAt b j)) ∧ (∀ j, headAt (if p then a else b) j = (if p then headAt a j else headAt b j)) ∧
    (∀ j, scanAt (if p then a else b) j = (if p then scanAt a j else scanAt b j)) ∧ (∀ j, tagAt (if p then a else b) j = (if p then tagAt a j else tagAt b j)) ∧
    (∀ j, wbAt (if p then a else b) j = (if p then wbAt a j else wbAt b j)) ∧ (∀ j, memIfAt (if p then a else b) j = (if p then memIfAt a j else memIfAt b j)) ∧
    (∀ j, memAt (if p then a else b) j = (if p then memAt a j else memAt b j)) ∧ (∀ j, queueAt (if p then a else b) j = (if p then queueAt a j else queueAt b j)) ∧
    (∀ j, linkAt (if p then a else b) j = (if p then linkAt a j else linkAt b j)) ∧ (∀ j, trackAt (if p then a else b) j = (if p then trackAt a j else trackAt b j)) ∧
    (∀ j, mcAt (if p then a else b) j = (if p then mcAt a j else mcAt b j)) := by
  split <;> simp
@[simp] theorem regs_ite :
    (∀ i s, reg (if p then a else b) i s = (if p then reg a i s else reg b i s)) ∧ (∀ i s, regN (if p then a else b) i s = (if p then regN a i s else regN b i s)) ∧
    (∀ i s, regB (if p then a else b) i s = (if p then regB a i s else regB b i s)) ∧ (∀ i s, regT (if p then a else b) i s = (if p then regT a i s else regT b i s)) ∧
    (∀ i s, frc (if p then a else b) i s = (if p then frc a i s else frc b i s)) ∧ (∀ i s, frcN (if p then a else b) i s = (if p then frcN a i s else frcN b i s)) ∧
    (∀ i s, frcT (if p then a else b) i s = (if p then frcT a i s else frcT b i s)) := by
  split <;> simp
@[simp] theorem keeps_ite {ps : List Part} {rs : Nat → Nat → Prop} {d : Device} :
    Keeps ps rs d (if p then a else b) ↔ (p → Keeps ps rs d a) ∧ (¬ p → Keeps ps rs d b) := by
  split <;> simp [*]

end

/-! ### A frame tells how units and registers read -/

section
variable {ps : List Part} {rs : Nat → Nat → Prop} {d e : Device}

theorem Safety.Keeps.ctlAt (h : Keeps ps rs d e) (hp : Part.ctls ∉ ps) (k : Nat) : ctlAt e k = ctlAt d k :=
  ctlAt_congr d e (h.parts .ctls hp) k
theorem Safety.Keeps.pixAt (h : Keeps ps rs d e) (hp : Part.pix ∉ ps) (k : Nat) : pixAt e k = pixAt d k :=
  pixAt_congr d e (h.parts .pix hp) k
theorem Safety.Keeps.railAt (h : Keeps ps rs d e) (hp : Part.rails ∉ ps) (k : Nat) : railAt e k = railAt d k :=
  railAt_congr d e (h.parts .rails hp) k
theorem Safety.Keeps.clockAt (h : Keeps ps rs d e) (hp : Part.clocks ∉ ps) (k : Nat) : clockAt e k = clockAt d k :=
  clockAt_congr d e (h.parts .clocks hp) k
theorem Safety.Keeps.ruleCopyAt (h : Keeps ps rs d e) (hp : Part.rules ∉ ps) (k : Nat) : ruleCopyAt e k = ruleCopyAt d k :=
  ruleCopyAt_congr d e (h.parts .rules hp) k
theorem Safety.Keeps.ringAt (h : Keeps ps rs d e) (hp : Part.rings ∉ ps) (k : Nat) : ringAt e k = ringAt d k :=
  ringAt_congr d e (h.parts .rings hp) k
theorem Safety.Keeps.srcAt (h : Keeps ps rs d e) (hp : Part.srcs ∉ ps) (k : Nat) : srcAt e k = srcAt d k :=
  srcAt_congr d e (h.parts .srcs hp) k
theorem Safety.Keeps.st2110At (h : Keeps ps rs d e) (hp : Part.st2110 ∉ ps) (k : Nat) : st2110At e k = st2110At d k :=
  st2110At_congr d e (h.parts .st2110 hp) k
theorem Safety.Keeps.camAt (h : Keeps ps rs d e) (hp : Part.cams ∉ ps) (k : Nat) : camAt e k = camAt d k :=
  camAt_congr d e (h.parts .cams hp) k
theorem Safety.Keeps.pipeAt (h : Keeps ps rs d e) (hp : Part.pipes ∉ ps) (k : Nat) : pipeAt e k = pipeAt d k :=
  pipeAt_congr d e (h.parts .pipes hp) k
theorem Safety.Keeps.layerAt (h : Keeps ps rs d e) (hp : Part.layers ∉ ps) (k : Nat) : layerAt e k = layerAt d k :=
  layerAt_congr d e (h.parts .layers hp) k
theorem Safety.Keeps.headAt (h : Keeps ps rs d e) (hp : Part.heads ∉ ps) (k : Nat) : headAt e k = headAt d k :=
  headAt_congr d e (h.parts .heads hp) k
theorem Safety.Keeps.scanAt (h : Keeps ps rs d e) (hp : Part.scans ∉ ps) (k : Nat) : scanAt e k = scanAt d k :=
  scanAt_congr d e (h.parts .scans hp) k
theorem Safety.Keeps.tagAt (h : Keeps ps rs d e) (hp : Part.tags ∉ ps) (k : Nat) : tagAt e k = tagAt d k :=
  tagAt_congr d e (h.parts .tags hp) k
theorem Safety.Keeps.wbAt (h : Keeps ps rs d e) (hp : Part.wbs ∉ ps) (k : Nat) : wbAt e k = wbAt d k :=
  wbAt_congr d e (h.parts .wbs hp) k
theorem Safety.Keeps.memIfAt (h : Keeps ps rs d e) (hp : Part.ifs ∉ ps) (k : Nat) : memIfAt e k = memIfAt d k :=
  memIfAt_congr d e (h.parts .ifs hp) k
theorem Safety.Keeps.memAt (h : Keeps ps rs d e) (hp : Part.mems ∉ ps) (k : Nat) : memAt e k = memAt d k :=
  memAt_congr d e (h.parts .mems hp) k
theorem Safety.Keeps.queueAt (h : Keeps ps rs d e) (hp : Part.queues ∉ ps) (k : Nat) : queueAt e k = queueAt d k :=
  queueAt_congr d e (h.parts .queues hp) k
theorem Safety.Keeps.linkAt (h : Keeps ps rs d e) (hp : Part.links ∉ ps) (k : Nat) : linkAt e k = linkAt d k :=
  linkAt_congr d e (h.parts .links hp) k
theorem Safety.Keeps.trackAt (h : Keeps ps rs d e) (hp : Part.tracks ∉ ps) (k : Nat) : trackAt e k = trackAt d k :=
  trackAt_congr d e (h.parts .tracks hp) k
theorem Safety.Keeps.mcAt (h : Keeps ps rs d e) (hp : Part.mcs ∉ ps) (k : Nat) : mcAt e k = mcAt d k :=
  mcAt_congr d e (h.parts .mcs hp) k

end

/-! ### Frames through a part that Laws/ leaves out, and what a frame says of a register -/

section
variable {ps : List Part} {rs : Nat → Nat → Prop}

theorem keeps_ifs (d : Device) (v : Table MemIfUnit) (h : Part.ifs ∈ ps) : Keeps ps rs d { d with ifs := v } :=
  ⟨fun p hp => by cases p <;> simp_all [Same, memByte, Machine.frc], fun _ _ _ _ => rfl⟩

theorem keeps_crossings (d : Device) (v : List (Nat × Nat × Nat)) (h : Part.crossings ∈ ps) : Keeps ps rs d { d with crossings := v } :=
  ⟨fun p hp => by cases p <;> simp_all [Same, memByte, Machine.frc], fun _ _ _ _ => rfl⟩

theorem Safety.Keeps.regN {d e : Device} {i s : Nat} (h : Keeps ps rs d e) (hs : s < 256) (hr : ¬ rs i s) : regN e i s = regN d i s := by
  rw [Machine.regN, h.regs i s hs hr, Machine.regN]

theorem Safety.Keeps.regT {d e : Device} {i s : Nat} (h : Keeps ps rs d e) (hs : s < 256) (hr : ¬ rs i s) : regT e i s = regT d i s := by
  rw [Machine.regT, h.regN hs hr, Machine.regT]

theorem Safety.Keeps.regB {d e : Device} {i s : Nat} (h : Keeps ps rs d e) (hs : s < 256) (hr : ¬ rs i s) : regB e i s = regB d i s := by
  rw [Machine.regB, h.regs i s hs hr, Machine.regB]

theorem Safety.Keeps.mono_eq {d e : Device} (h : Keeps ps rs d e) (hp : Part.mono ∉ ps) : e.mono = d.mono := h.parts .mono hp
theorem Safety.Keeps.fresh_eq {d e : Device} (h : Keeps ps rs d e) (hp : Part.fresh ∉ ps) : e.fresh = d.fresh := h.parts .fresh hp
theorem Safety.Keeps.pins_eq {d e : Device} (h : Keeps ps rs d e) (hp : Part.pins ∉ ps) : e.pins = d.pins := h.parts .pins hp
theorem Safety.Keeps.ctls_eq {d e : Device} (h : Keeps ps rs d e) (hp : Part.ctls ∉ ps) : e.ctls = d.ctls := h.parts .ctls hp
theorem Safety.Keeps.pix_eq {d e : Device} (h : Keeps ps rs d e) (hp : Part.pix ∉ ps) : e.pix = d.pix := h.parts .pix hp
theorem Safety.Keeps.rails_eq {d e : Device} (h : Keeps ps rs d e) (hp : Part.rails ∉ ps) : e.rails = d.rails := h.parts .rails hp
theorem Safety.Keeps.clocks_eq {d e : Device} (h : Keeps ps rs d e) (hp : Part.clocks ∉ ps) : e.clocks = d.clocks := h.parts .clocks hp
theorem Safety.Keeps.rules_eq {d e : Device} (h : Keeps ps rs d e) (hp : Part.rules ∉ ps) : e.rules = d.rules := h.parts .rules hp
theorem Safety.Keeps.rings_eq {d e : Device} (h : Keeps ps rs d e) (hp : Part.rings ∉ ps) : e.rings = d.rings := h.parts .rings hp
theorem Safety.Keeps.sup_eq {d e : Device} (h : Keeps ps rs d e) (hp : Part.sup ∉ ps) : e.sup = d.sup := h.parts .sup hp
theorem Safety.Keeps.cmp_eq {d e : Device} (h : Keeps ps rs d e) (hp : Part.cmp ∉ ps) : e.cmp = d.cmp := h.parts .cmp hp
theorem Safety.Keeps.can_eq {d e : Device} (h : Keeps ps rs d e) (hp : Part.can ∉ ps) : e.can = d.can := h.parts .can hp
theorem Safety.Keeps.audit_eq {d e : Device} (h : Keeps ps rs d e) (hp : Part.audit ∉ ps) : e.audit = d.audit := h.parts .audit hp
theorem Safety.Keeps.awaiting_eq {d e : Device} (h : Keeps ps rs d e) (hp : Part.awaiting ∉ ps) : e.awaiting = d.awaiting := h.parts .awaiting hp
theorem Safety.Keeps.srcs_eq {d e : Device} (h : Keeps ps rs d e) (hp : Part.srcs ∉ ps) : e.srcs = d.srcs := h.parts .srcs hp
theorem Safety.Keeps.st2110_eq {d e : Device} (h : Keeps ps rs d e) (hp : Part.st2110 ∉ ps) : e.st2110 = d.st2110 := h.parts .st2110 hp
theorem Safety.Keeps.cams_eq {d e : Device} (h : Keeps ps rs d e) (hp : Part.cams ∉ ps) : e.cams = d.cams := h.parts .cams hp
theorem Safety.Keeps.pipes_eq {d e : Device} (h : Keeps ps rs d e) (hp : Part.pipes ∉ ps) : e.pipes = d.pipes := h.parts .pipes hp
theorem Safety.Keeps.layers_eq {d e : Device} (h : Keeps ps rs d e) (hp : Part.layers ∉ ps) : e.layers = d.layers := h.parts .layers hp
theorem Safety.Keeps.heads_eq {d e : Device} (h : Keeps ps rs d e) (hp : Part.heads ∉ ps) : e.heads = d.heads := h.parts .heads hp
theorem Safety.Keeps.scans_eq {d e : Device} (h : Keeps ps rs d e) (hp : Part.scans ∉ ps) : e.scans = d.scans := h.parts .scans hp
theorem Safety.Keeps.tags_eq {d e : Device} (h : Keeps ps rs d e) (hp : Part.tags ∉ ps) : e.tags = d.tags := h.parts .tags hp
theorem Safety.Keeps.wbs_eq {d e : Device} (h : Keeps ps rs d e) (hp : Part.wbs ∉ ps) : e.wbs = d.wbs := h.parts .wbs hp
theorem Safety.Keeps.ifs_eq {d e : Device} (h : Keeps ps rs d e) (hp : Part.ifs ∉ ps) : e.ifs = d.ifs := h.parts .ifs hp
theorem Safety.Keeps.mems_eq {d e : Device} (h : Keeps ps rs d e) (hp : Part.mems ∉ ps) : e.mems = d.mems := h.parts .mems hp
theorem Safety.Keeps.queues_eq {d e : Device} (h : Keeps ps rs d e) (hp : Part.queues ∉ ps) : e.queues = d.queues := h.parts .queues hp
theorem Safety.Keeps.links_eq {d e : Device} (h : Keeps ps rs d e) (hp : Part.links ∉ ps) : e.links = d.links := h.parts .links hp
theorem Safety.Keeps.tracks_eq {d e : Device} (h : Keeps ps rs d e) (hp : Part.tracks ∉ ps) : e.tracks = d.tracks := h.parts .tracks hp
theorem Safety.Keeps.mcs_eq {d e : Device} (h : Keeps ps rs d e) (hp : Part.mcs ∉ ps) : e.mcs = d.mcs := h.parts .mcs hp
theorem Safety.Keeps.unattr_eq {d e : Device} (h : Keeps ps rs d e) (hp : Part.unattr ∉ ps) : e.unattr = d.unattr := h.parts .unattr hp
theorem Safety.Keeps.crossings_eq {d e : Device} (h : Keeps ps rs d e) (hp : Part.crossings ∉ ps) : e.crossings = d.crossings := h.parts .crossings hp
theorem Safety.Keeps.limits_eq {d e : Device} (h : Keeps ps rs d e) (hp : Part.limits ∉ ps) : e.limits = d.limits := h.parts .limits hp
theorem Safety.Keeps.layout_eq {d e : Device} (h : Keeps ps rs d e) (hp : Part.layout ∉ ps) : e.layout = d.layout := h.parts .layout hp
theorem Safety.Keeps.tx_eq {d e : Device} (h : Keeps ps rs d e) (hp : Part.tx ∉ ps) : e.tx = d.tx := h.parts .tx hp

theorem Safety.Keeps.frc {d e : Device} {i s : Nat} (h : Keeps ps rs d e) (hs : s < 256) (hp : Part.force ∉ ps) : frc e i s = frc d i s :=
  h.parts .force hp i s hs

end

/-! ### A loop over units -/

@[simp] theorem forEach_nil {α : Type} (d : Device) (f : Device → α → Device) : forEach d [] f = d := rfl
@[simp] theorem forEach_cons {α : Type} (d : Device) (x : α) (l : List α) (f : Device → α → Device) :
    forEach d (x :: l) f = forEach (f d x) l f := rfl

/-- A loop whose every round changes the unit of its own number alone, in a way that depends on that unit: each unit in the list
is changed once, every other is as before. -/
theorem forEach_read {α : Type} (read : Device → Nat → α) (f : Device → Nat → Device) (g : Nat → α → α)
    (own : ∀ d k, read (f d k) k = g k (read d k)) (other : ∀ d k j, k ≠ j → read (f d k) j = read d j)
    {l : List Nat} (hl : l.Nodup) (d : Device) (j : Nat) :
    read (forEach d l f) j = if j ∈ l then g j (read d j) else read d j := by
  induction l generalizing d with
  | nil => rfl
  | cons k l ih =>
    obtain ⟨hk, hl⟩ := List.nodup_cons.mp hl
    rw [forEach_cons, ih hl]
    by_cases e : k = j
    · subst e
      simp [hk, own]
    · simp [other d k j e, show j ≠ k from fun h => e h.symm]

/-! ### What is recorded and counted -/

theorem recorded_settle {d e : Device} {k code unit : Nat} : Recorded d (settle e) k code unit ↔ Recorded d e k code unit := Iff.rfl
theorem noted_settle {d e : Device} {k code unit : Nat} : Noted d (settle e) k code unit ↔ Noted d e k code unit := Iff.rfl

/-- An event recorded after a change that leaves its ring as it was. -/
theorem recorded_raiseFull_of {d x : Device} {k : Nat} (h : ringAt x k = ringAt d k) (code sev unit count : Nat) (detail : List Nat)
    (src : Option Nat) (hs : 2 ≤ sev) : Recorded d (raiseFull x k code sev unit count detail src) k code unit := by
  have r := recorded_raiseFull x k code sev unit count detail src hs
  rwa [Recorded, h] at r

/-- An event of any severity has the next number of its die, and its ring holds it where notes are recorded. -/
theorem noted_raiseFull (d : Device) (k code sev unit count : Nat) (detail : List Nat) (src : Option Nat) :
    Noted d (raiseFull d k code sev unit count detail src) k code unit := by
  have entered : ∀ g r, (ringHandle g r).recs = g.recs := fun g r => by
    unfold ringHandle
    split <;> rfl
  have lostCount : ∀ (b : Bool) (x : Device) i s n, (bif b then bumpBy x i s n else x).rings = x.rings := fun b x i s n => by
    cases b <;> simp
  simp only [Noted, ringAt, raiseFull, emcyCheck_rings, emcyRecord_rings, deliverEvent_rings, bump_eq, ← Bool.cond_eq_ite, lostCount,
    bumpBy_fields, setRing_rings, tget_tput, if_true, true_and]
  intro hn hl
  rw [entered]
  simp only [hn, Bool.or_true, cond_true, ringEnter, if_pos hl]
  exact ⟨_, rfl, rfl, rfl, rfl, rfl⟩

theorem noted_raiseFull_of {d x : Device} {k : Nat} (h : ringAt x k = ringAt d k)
    (hr : regT x (0x2600 + k) 8 = regT d (0x2600 + k) 8) (code sev unit count : Nat) (detail : List Nat) (src : Option Nat) :
    Noted d (raiseFull x k code sev unit count detail src) k code unit := by
  have r := noted_raiseFull x k code sev unit count detail src
  rwa [Noted, h, hr] at r

theorem noted_raiseD_of {d x : Device} {k : Nat} (h : ringAt x k = ringAt d k)
    (hr : regT x (0x2600 + k) 8 = regT d (0x2600 + k) 8) (code unit : Nat) (detail : List Nat) :
    Noted d (raiseD x k code unit detail) k code unit :=
  noted_raiseFull_of h hr code _ unit 1 detail none

theorem noted_raise_of {d x : Device} {k : Nat} (h : ringAt x k = ringAt d k)
    (hr : regT x (0x2600 + k) 8 = regT d (0x2600 + k) 8) (code unit : Nat) : Noted d (raise x k code unit) k code unit :=
  noted_raiseFull_of h hr code _ unit 1 [] none

theorem recorded_raise_of {d x : Device} {k code : Nat} (h : ringAt x k = ringAt d k) (unit : Nat) (hs : 2 ≤ sevOf code) :
    Recorded d (raise x k code unit) k code unit := recorded_raiseFull_of h code _ unit 1 [] none hs

end Sys2Proof
end

section
/-! PROOFS. The block as a whole: a step runs the command at the front, every command completes, a queue drains, and the stores
stay canonical (notes/assumptions 5, 157). -/

namespace Sys2Proof

open Machine Safety

/-- Every command has the one shape of a meaning. -/
theorem exec_eq_act (c : Instr) (s : State) : ∃ dt f, exec c s = act dt s f := by
  unfold exec
  cases c <;> exact ⟨_, _, rfl⟩

theorem exec_completes (c : Instr) (s : State) : ∃ t, exec c s = .next t ∧ t.pending = s.pending := by
  obtain ⟨dt, f, h⟩ := exec_eq_act c s
  exact ⟨_, h, rfl⟩

theorem step_of_pending_nil {s : State} (h : s.pending = []) : step s = .next s := by
  rw [step, h]

theorem step_of_pending_cons {s : State} {c : Instr} {l : List Instr} (h : s.pending = c :: l) :
    step s = exec c { s with pending := l } := by
  rw [step, h]

/-- A run as long as the queue works the queue off, a command a step. -/
theorem run_length_pending (l : List Instr) (s : State) (h : s.pending = l) :
    ∃ t, Sys2Proof.core.run l.length s = .next t ∧ t.pending = [] := by
  induction l generalizing s with
  | nil => exact ⟨s, rfl, h⟩
  | cons c l ih =>
    obtain ⟨t, ht, hp⟩ := exec_completes c { s with pending := l }
    have first : Sys2Proof.core.step s = .next t := (step_of_pending_cons h).trans ht
    obtain ⟨u, hu, done⟩ := ih t hp
    refine ⟨u, ?_, done⟩
    simpa only [List.length_cons, Host.Core.run, first] using hu

/-- Settles O1: the queue's front is the command that the step's match finds. -/
theorem stepRunsTheFrontCommand : Obligations.StepRunsTheFrontCommand :=
  fun _ _ _ => step_of_pending_cons rfl

/-- Settles O2, by induction on the queue. -/
theorem everyCommandCompletesAndTheQueueDrains : Obligations.EveryCommandCompletesAndTheQueueDrains :=
  ⟨exec_completes, fun _ => step_of_pending_nil, fun s => run_length_pending s.pending s rfl⟩

/-- Settles O3: an idle step changes nothing, and every command puts its stores in canonical form at its end. -/
theorem everyStepKeepsTheStoresCanonical : Obligations.EveryStepKeepsTheStoresCanonical := by
  intro s t hs h
  cases hq : s.pending with
  | nil =>
    rw [step_of_pending_nil hq] at h
    cases h
    exact hs
  | cons c l =>
    rw [step_of_pending_cons hq] at h
    obtain ⟨dt, f, hf⟩ := exec_eq_act c { s with pending := l }
    exact act_stores dt _ t f (hf ▸ h)

theorem storesCanonical_reset : StoresCanonical State.reset := by
  simp [StoresCanonical, State.reset, Device.reset, Canonical, MemWf, Rising]

theorem dieUp_reset (k : Nat) : dieUp Device.reset k = false := by
  unfold dieUp
  split <;> rfl

/-- Settles O4: no store of the reset device lists an entry, so every read answers the object table's value. -/
theorem resetHoldsTheTablesValues : Obligations.ResetHoldsTheTablesValues :=
  ⟨storesCanonical_reset, rfl, rfl, rfl, fun _ _ _ => rfl, fun _ _ _ => rfl, fun _ => rfl, fun k _ => dieUp_reset k, rfl, rfl,
    rfl, rfl, rfl⟩

end Sys2Proof
end

section
/-! PROOFS. Time bases: the feed to the pixel dies and its absence (R274), the peer's alignment and the trim (R275, R289), the
offset from a PTP master (R278) and the masters themselves (R276, R277). -/

namespace Sys2Proof

open Machine Safety

/-! ### The time feed (R274) -/

/-- The message that control die c feeds to the copies. -/
def feedOf (d : Device) (c : Nat) : FeedMsg :=
  let x := ctlAt d c
  { times := [x.tb0.ns, x.tb1.ns, x.tb2.ns, x.tb3.ns], sts := [x.tb0.st, x.tb1.st, x.tb2.st, x.tb3.st],
    uncs := (List.range 4).map fun b => baseUnc d b (baseOf x b), ppbs := (List.range 4).map (baseRate x), sent := d.mono,
    setAt := x.tb1.setAt }

/-- A pixel die out of reset takes a feed message into its queue. -/
def withFeed (c : Nat) (m : FeedMsg) (q : PixelDie) : PixelDie := if q.out then { q with feed := q.feed ++ [(c, m)] } else q

theorem timeFeedSendOp_of_active {d : Device} {c : Nat} (h : activeCtl d = some c) :
    timeFeedSendOp d = forEach d (List.range 6) fun x p =>
      if pixUp x p then modPix x p fun q => { q with feed := q.feed ++ [(c, feedOf d c)] } else x := by
  simp only [timeFeedSendOp, h]
  rfl

theorem pixAt_timeFeedSendOp {d : Device} {c : Nat} (h : activeCtl d = some c) (p : Nat) :
    pixAt (timeFeedSendOp d) p = if p ∈ List.range 6 then withFeed c (feedOf d c) (pixAt d p) else pixAt d p := by
  rw [timeFeedSendOp_of_active h]
  refine forEach_read pixAt _ (fun _ => withFeed c (feedOf d c)) (fun x k => ?_) (fun x k j hj => ?_) List.nodup_range d p
  · simp only [withFeed, pixUp]
    split
    · next h => simp [h]
    · next h => simp [h]
  · split <;> simp [hj]

theorem keeps_timeFeedSendOp {d : Device} {c : Nat} (h : activeCtl d = some c) : Keeps [.pix] noReg d (timeFeedSendOp d) := by
  rw [timeFeedSendOp_of_active h]
  refine keeps_forEach _ _ (fun x p _ => ?_) d
  split <;> simp

/-- A change of each of a die's copies by its number is that change of every copy. -/
theorem copyOf_eq_of_tbs {x q : PixelDie} {f : Nat → TimeCopy → TimeCopy} (h0 : x.tb0 = f 0 q.tb0) (h1 : x.tb1 = f 1 q.tb1)
    (h2 : x.tb2 = f 2 q.tb2) (h3 : x.tb3 = f 3 q.tb3) {b : Nat} (hb : b < 4) : copyOf x b = f b (copyOf q b) := by
  rcases eq_of_lt_four hb with rfl | rfl | rfl | rfl <;> assumption

/-- A followed copy has the message's state and uncertainty; it is set where it was not loaded or is a settable base off by more
than 100 µs, and slews otherwise. -/
theorem followCopy_spec (now delay b : Nat) (m : FeedMsg) (t : TimeCopy) :
    (followCopy now delay b m t).loaded = true ∧ (followCopy now delay b m t).st = m.sts.getD b 0 ∧
    (followCopy now delay b m t).unc = m.uncs.getD b 0 ∧ (followCopy now delay b m t).feedAt = now ∧
    (let at_ := m.times.getD b 0 + delay
     let err := Int.ofNat at_ - Int.ofNat t.ns
     if t.loaded = false ∨ (b < 2 ∧ 100000 < err.natAbs) then
       (followCopy now delay b m t).ns = at_ ∧ (followCopy now delay b m t).slew = 0
     else (followCopy now delay b m t).ns = t.ns ∧ (followCopy now delay b m t).slew = err) := by
  cases h : t.loaded with
  | false => simp [followCopy, h]
  | true =>
    by_cases far : b < 2 ∧ 100000 < (Int.ofNat (m.times.getD b 0 + delay) - Int.ofNat t.ns).natAbs
    · simp only [followCopy, h, Bool.not_true, Bool.false_eq_true, if_false, if_pos far, if_pos (Or.inr far), and_self]
    · have near : ¬(true = false ∨ b < 2 ∧ 100000 < (Int.ofNat (m.times.getD b 0 + delay) - Int.ofNat t.ns).natAbs) := by
        simpa using far
      simp only [followCopy, h, Bool.not_true, Bool.false_eq_true, if_false, if_neg far, if_neg near, and_self]

theorem timeFeedMessageOp_of_holder {d : Device} {p c : Nat} {m : FeedMsg} {rest : List (Nat × FeedMsg)} (hp : pixUp d p = true)
    (hf : (pixAt d p).feed = (c, m) :: rest) (ht : (pixAt d p).token = c + 2) :
    timeFeedMessageOp d p c = feedAccept (setPix d p { pixAt d p with feed := rest }) p c m := by
  simp [timeFeedMessageOp, hp, hf, ht]

/-- A pixel die that hears no feed: in holdover, its copies following nothing. -/
def loseFeed (q : PixelDie) : PixelDie :=
  { q with holdover := true, tb0 := { q.tb0 with follow := false }, tb1 := { q.tb1 with follow := false },
           tb2 := { q.tb2 with follow := false }, tb3 := { q.tb3 with follow := false } }

theorem copyOf_loseFeed (q : PixelDie) {b : Nat} (hb : b < 4) : copyOf (loseFeed q) b = { copyOf q b with follow := false } :=
  copyOf_eq_of_tbs (f := fun _ t => { t with follow := false }) rfl rfl rfl rfl hb

theorem timeFeedTimeoutOp_of_due {d : Device} {p : Nat} (hp : pixUp d p = true) (hl : (pixAt d p).tb0.loaded = true)
    (hh : (pixAt d p).holdover = false) (hdue : (pixAt d p).tb0.feedAt + 500000 ≤ d.mono) :
    timeFeedTimeoutOp d p = raise (setPix d p (loseFeed (pixAt d p))) (dieNo p) 45 0 := by
  simp [timeFeedTimeoutOp, hp, hl, hh, hdue, loseFeed]

/-- Settles O7. -/
theorem timeFeedReachesTheCopies : Obligations.TimeFeedReachesTheCopies := by
  refine ⟨fun dt s d c hd hc => ?_, fun dt s d p c m rest hd hp hf ht => ?_, fun dt s d p hd hp hl hh hdue => ?_,
    fun dt s d c p rt hd hc hp hl => ?_⟩
  · refine does_of_act (f := timeFeedSendOp) rfl hd ⟨fun p hp hu => ⟨feedOf d c, ?_, rfl, rfl, rfl, fun b hb => ?_, rfl⟩,
      fun p hp => ?_, keeps_settled (keeps_timeFeedSendOp hc)⟩
    · have out : (pixAt d p).out = true := hu
      simp [pixAt_timeFeedSendOp hc, hp, withFeed, out]
    · rcases eq_of_lt_four hb with rfl | rfl | rfl | rfl <;> rfl
    · have idle : p ∈ List.range 6 → (pixAt d p).out = false := fun h =>
        hp.resolve_right (by simpa using h)
      rw [pixAt_settle, pixAt_timeFeedSendOp hc]
      split
      · next h => simp [withFeed, idle h]
      · rfl
  · refine does_of_act (f := (timeFeedMessageOp · p c)) rfl hd ?_
    clear hd
    dsimp only
    rw [timeFeedMessageOp_of_holder hp hf ht]
    have copies := fun b (hb : b < 4) => copyOf_eq_of_tbs
      (x := pixAt (feedAccept (setPix d p { pixAt d p with feed := rest }) p c m) p) (q := pixAt d p)
      (f := fun b => followCopy d.mono ((pixAt d p).delays.getD c 0) b m) (b := b) (by simp [feedAccept, ht])
      (by simp [feedAccept, ht]) (by simp [feedAccept, ht]) (by simp [feedAccept, ht]) hb
    refine ⟨?_, ?_, ?_, fun b hb => ?_, fun q hq => ?_, ?_⟩
    · simp [feedAccept, ht]
    · simp [feedAccept, ht]
    · simp [feedAccept, ht]
    · rw [pixAt_settle, copies b hb]
      exact followCopy_spec ..
    · simp [feedAccept, ht, hq.symm]
    · simp [feedAccept, ht]
  · refine does_of_act (f := (timeFeedTimeoutOp · p)) rfl hd ?_
    clear hd
    simp only [timeFeedTimeoutOp_of_due hp hl hh hdue, dieNo_eq]
    refine ⟨by simp [loseFeed], fun b hb => ?_, recorded_settle.mpr (recorded_raise_of (by simp) 0 (by decide)),
      fun q hq => by simp [hq.symm], by simp⟩
    simp [copyOf_loseFeed _ hb]
  · refine does_of_act (f := (saddleDelayOp · c p rt)) rfl hd ?_
    clear hd
    have hc2 : c.val < (pixAt d p).delays.length := by omega
    refine ⟨by simp [saddleDelayOp, hp, hc, hc2], fun k hk => by simp [saddleDelayOp, hp, hc, hk.symm],
      fun q hq => by simp [saddleDelayOp, hp, hc, hq.symm], by simp [saddleDelayOp, hp, hc]⟩

/-! ### The peer's bases and the trim (R275, R289) -/

theorem peerPath_of_service {d : Device} {p : Nat} (hp : p < 6) (hu : pixUp d p = true) (hs : (pixAt d p).state = 1) :
    peerPath d = true := by
  simp only [peerPath, List.any_eq_true, List.mem_range]
  exact ⟨p, hp, by simp [hu, hs]⟩

/-- Byte k of a list whose byte k is replaced. -/
theorem getD_patch_one {l : List Byte} {k : Nat} (hk : k < l.length) (b : Byte) : (patch l k [b]).getD k 0 = b := by
  have short : (l.take k).length = k := by
    rw [List.length_take]
    omega
  simp [patch, hk, short]

/-- A trim whose reference is there, of an error beyond 0.05 %, within the range of the trim: one step toward zero. -/
theorem oscTrimOp_of_step {d : Device} {k ref : Nat} {err m : Int} (hu : dieUp d k = true) (ht : trimReference d k err = (ref, m))
    (h5 : ref ≠ 5) (hm : 500000 < m.natAbs) (hn : (clockAt d k).noTrim = false) (hlo : -128 < (clockAt d k).trim)
    (hhi : (clockAt d k).trim < 128) :
    ∃ b v, oscTrimOp d k err = setClock (setB (setB d 0x2210 6 (patch (regB d 0x2210 6) k [BitVec.ofNat 8 ref])) 0x2210 7 b) k v ∧
      v.trim = (clockAt d k).trim + (if 0 < m then -1 else 1) ∧ v.ready = false ∧ v.stepAt = d.mono := by
  have h5' : ¬(ref = 5 ∨ m.natAbs ≤ 500000) := by omega
  have inRange : ¬((if 0 < m then (-1 : Int) else 1) = 0 ∨ (clockAt d k).noTrim = true ∨
      (clockAt d k).trim + (if 0 < m then -1 else 1) < -128 ∨ 128 < (clockAt d k).trim + (if 0 < m then -1 else 1)) := by
    rw [hn]
    split <;> simp <;> omega
  have byte : beBytes 1 ref = [BitVec.ofNat 8 ref] := by simp [beBytes]
  simp only [oscTrimOp, hu, ht, Bool.not_true, Bool.false_eq_true, if_false, if_neg h5, if_neg h5', units_setB, byte]
  rw [if_neg inRange]
  exact ⟨_, _, rfl, rfl, rfl, rfl⟩

/-- Settles O8. -/
theorem peerTimeAndTrimFollowTheirReference : Obligations.PeerTimeAndTrimFollowTheirReference := by
  refine ⟨fun dt s d c hd hc hu ⟨p, hp, hpu, hps⟩ => ?_, fun dt s d c hd hc => ?_,
    fun dt s d k err ref m hd hu ht h5 hm hn hlo hhi hlen => ?_⟩
  · refine does_of_act (f := peerTimeAlignOp) rfl hd ?_
    clear hd
    have path := peerPath_of_service hp hpu hps
    refine ⟨?_, ?_, ?_, ?_, ?_, ?_, fun j hj => ?_, ?_⟩
    all_goals simp [peerTimeAlignOp, hc, hu, path]
    exact fun h => absurd h.symm hj
  · refine does_of_act (f := tb3PersistOp) rfl hd ?_
    clear hd
    refine ⟨?_, ?_, fun j hj => ?_, ?_⟩
    all_goals simp [tb3PersistOp, hc]
    exact fun h => absurd h.symm hj
  · refine does_of_act (f := (oscTrimOp · k err)) rfl hd ?_
    clear hd
    obtain ⟨b, v, run, htrim, hready, hat⟩ := oscTrimOp_of_step hu ht h5 hm hn hlo hhi
    have hk : k.val < (regB d 0x2210 6).length := by omega
    simp only [run]
    refine ⟨by simpa using htrim, by simpa using hready, by simpa using hat, ?_, fun j hj => by simp [hj.symm], by simp⟩
    simpa using getD_patch_one hk (BitVec.ofNat 8 ref)

/-! ### A base of a control die -/

@[simp] theorem baseOf_setBase (x : CtlDie) (b : Nat) (t : TimeBase) : baseOf (setBase x b t) b = t := by
  unfold setBase baseOf
  split
  · rfl
  · split
    · rfl
    · split <;> rfl

@[simp] theorem setBase_setBase (x : CtlDie) (b : Nat) (t u : TimeBase) : setBase (setBase x b t) b u = setBase x b u := by
  unfold setBase
  split
  · rfl
  · split
    · rfl
    · split <;> rfl

theorem modBase_eq (d : Device) (c b : Nat) (f : TimeBase → TimeBase) :
    modBase d c b f = setCtl d c (setBase (ctlAt d c) b (f (baseAt d c b))) := rfl

@[simp] theorem baseAt_setCtl_setBase (d : Device) (c b : Nat) (x : CtlDie) (t : TimeBase) :
    baseAt (setCtl d c (setBase x b t)) c b = t := by
  simp [baseAt]

theorem baseAt_congr {d e : Device} {c : Nat} (h : ctlAt e c = ctlAt d c) (b : Nat) : baseAt e c b = baseAt d c b := by
  simp [baseAt, h]

/-- What of the control dies a device owes to a change of one base. -/
theorem onlyBase_of {d e : Device} {c b : Nat} (t : TimeBase) (own : ctlAt e c = setBase (ctlAt d c) b t)
    (other : ∀ j, j ≠ c → ctlAt e j = ctlAt d j) : baseAt e c b = t ∧ OnlyBase d e c b := by
  have h : baseAt e c b = t := by simp [baseAt, own]
  exact ⟨h, other, own.trans (by rw [h])⟩

@[simp] theorem baseAt_settle (d : Device) (c b : Nat) : baseAt (settle d) c b = baseAt d c b := rfl
@[simp] theorem onlyBase_settle {d e : Device} {c b : Nat} : OnlyBase d (settle e) c b ↔ OnlyBase d e c b := Iff.rfl

theorem onlyBase_trans {d x e : Device} {c b : Nat} (h : OnlyBase d x c b) (g : OnlyBase x e c b) : OnlyBase d e c b :=
  ⟨fun j hj => (g.1 j hj).trans (h.1 j hj), by rw [g.2, h.2, setBase_setBase]⟩

theorem onlyBase_modBase (d : Device) (c b : Nat) (f : TimeBase → TimeBase) : OnlyBase d (modBase d c b f) c b :=
  (onlyBase_of (f (baseAt d c b)) (by simp [modBase_eq]) fun j hj => by simp [modBase_eq, hj.symm]).2

theorem keeps_modBase {ps : List Part} {rs : Nat → Nat → Prop} (h : .ctls ∈ ps) (d : Device) (c b : Nat) (f : TimeBase → TimeBase) :
    Keeps ps rs d (modBase d c b f) := by simp [modBase_eq, h]

@[simp] theorem baseAt_modBase (d : Device) (c b : Nat) (f : TimeBase → TimeBase) :
    baseAt (modBase d c b f) c b = f (baseAt d c b) := by simp [modBase_eq]

/-! ### Offsets from a master (R278) -/

@[simp] theorem keeps_telegramsLate_iff {ps : List Part} {rs : Nat → Nat → Prop} {a d : Device} {c b : Nat} (h : Part.sup ∈ ps) :
    Keeps ps rs a (telegramsLate d c b) ↔ Keeps ps rs a d := by
  refine keeps_iff_of_keeps ?_
  unfold telegramsLate
  split
  · exact keeps_sup d _ h
  · exact Keeps.refl ..

@[simp] theorem ctlAt_telegramsLate (d : Device) (c b j : Nat) : ctlAt (telegramsLate d c b) j = ctlAt d j := by
  unfold telegramsLate
  split <;> rfl

@[simp] theorem ringAt_telegramsLate (d : Device) (c b j : Nat) : ringAt (telegramsLate d c b) j = ringAt d j := by
  unfold telegramsLate
  split <;> rfl

@[simp] theorem regT_telegramsLate (d : Device) (c b i s : Nat) : regT (telegramsLate d c b) i s = regT d i s := by
  unfold telegramsLate
  split <;> rfl

theorem boundCheck_of_not_check {d : Device} {c b : Nat} (h : (baseAt d c b).check = false) (o : Int) : boundCheck d c b o = d := by
  simp [boundCheck, h]

/-- The servo moves the rate by at most 100 ppm (R278). -/
theorem servoRate_near (n : Nat) (o ppb : Int) : (servoRate n o ppb - ppb).natAbs ≤ 100000 := by
  have bound : (Int.ofNat (min 100000 (Config.servoPpb n).natAbs)) ≤ 100000 := by
    simp only [Int.ofNat_eq_natCast]
    omega
  have nonneg : 0 ≤ (Int.ofNat (min 100000 (Config.servoPpb n).natAbs)) := Int.natCast_nonneg _
  simp only [servoRate]
  split
  · simp
  · split <;> omega

/-- A base off by `o`, with its measurement noted. -/
def offsetNoted (o : Int) (t : TimeBase) : TimeBase := { t with off := some o, last := t.msAt }

/-- The lock's state of a base after an offset within the step limit. -/
def slewed (r : Int) (n : Nat) (t : TimeBase) : TimeBase :=
  { t with ppb := r, corr := (t.corr ++ [r]).drop (t.corr.length + 1 - 64), streak := n }

theorem measureOffset_of_far {d : Device} {c b : Nat} {o : Int} (hc : (baseAt d c b).check = false)
    (hf : regN d (0x2100 + b) 8 * 1000 < o.natAbs) :
    measureOffset d c b o = stepBase (modBase d c b (offsetNoted o)) c b o := by
  have far : regN (modBase d c b (offsetNoted o)) (0x2100 + b) 8 * 1000 < o.natAbs := by simpa [modBase_eq] using hf
  simp only [measureOffset, boundCheck_of_not_check hc]
  exact if_pos (.inr far)

theorem measureOffset_of_near {d : Device} {c b : Nat} {o : Int} (hc : (baseAt d c b).check = false) (hs : (baseAt d c b).st = 2)
    (hn : ¬ regN d (0x2100 + b) 8 * 1000 < o.natAbs) :
    ∃ r n, (r - (baseAt d c b).ppb).natAbs ≤ 100000 ∧
      measureOffset d c b o = spend (modBase (modBase d c b (offsetNoted o)) c b (slewed r n)) := by
  have st : (baseAt (modBase d c b (offsetNoted o)) c b).st = 2 := by simpa [modBase_eq, offsetNoted] using hs
  have near : ¬ regN (modBase d c b (offsetNoted o)) (0x2100 + b) 8 * 1000 < o.natAbs := by simpa [modBase_eq] using hn
  have stays : ¬(((baseAt (modBase d c b (offsetNoted o)) c b).st = 1 ∧
      (!(baseAt (modBase d c b (offsetNoted o)) c b).wasSet) = true) ∨
      regN (modBase d c b (offsetNoted o)) (0x2100 + b) 8 * 1000 < o.natAbs) := by
    simp [near, offsetNoted, hs]
  have locked : ∀ n : Nat, ¬(16 ≤ n ∧ (baseAt (modBase d c b (offsetNoted o)) c b).st ≠ 2) := fun n h => h.2 st
  simp only [measureOffset, boundCheck_of_not_check hc]
  refine ⟨_, _, ?_, (if_neg stays).trans (if_neg (locked _))⟩
  have ppb : (baseAt (modBase d c b (offsetNoted o)) c b).ppb = (baseAt d c b).ppb := by simp [modBase_eq, offsetNoted]
  rw [← ppb]
  exact servoRate_near ..

/-- The base as a Sync of this origin, heard at `now`, leaves it before its offset is measured. -/
def syncHeard (log : Int) (now : Nat) (ms : Int) (t : TimeBase) : TimeBase :=
  { t with syncLog := log, syncAt := now, ms := some ms, msAt := now }

/-- Whether a Sync of message m is one that base b of die c follows. -/
def Follows (d : Device) (c b : Nat) (m : PtpSyncMsg) : Prop :=
  ptpOn d c b m.domain = true ∧ (baseAt d c b).gm = m.grandmaster ∧ (baseAt d c b).gm ≠ 0 ∧ -7 ≤ m.logInterval ∧ m.logInterval ≤ 1

/-- A base that awaits the Follow_Up of a two-step Sync. -/
def followUpAwaited (log : Int) (now seq : Nat) (t : TimeBase) : TimeBase :=
  { t with syncLog := log, syncAt := now, twoStep := some (seq, t.ns) }

theorem ptpSyncOp_of_twoStep {d : Device} {c b : Nat} {m : PtpSyncMsg} (h : Follows d c b m) (h2 : m.twoStep = true) :
    ptpSyncOp d c b m = modBase d c b (followUpAwaited m.logInterval d.mono m.seq) := by
  unfold Follows at h
  simp only [ptpSyncOp]
  rw [if_pos h]
  simp [h2, modBase_eq, followUpAwaited]

/-- A base whose Follow_Up has come while the path delay is not known. -/
def followedUp (ms : Int) (t : TimeBase) : TimeBase := { t with twoStep := none, ms := some ms, msAt := t.syncAt }

theorem ptpFollowUpOp_of_no_delay {d : Device} {c b seq origin arr : Nat} (h2 : (baseAt d c b).twoStep = some (seq, arr))
    (port : ptpPort d c b = true) (cfg : regN d (0x2100 + b) 1 = 2) (hd : (baseAt d c b).delay = none) :
    ptpFollowUpOp d c b seq origin = modBase d c b (followedUp (Int.ofNat arr - Int.ofNat origin)) := by
  simp [ptpFollowUpOp, h2, port, cfg, syncTimes, modBase_eq, hd, followedUp]

/-- A base that has sent a Delay_Req. -/
def delayAsked (now seq : Nat) (t : TimeBase) : TimeBase := { t with reqAt := some (seq, t.ns), asked := some (now, seq) }

@[simp] theorem setBase_out (x : CtlDie) (b : Nat) (t : TimeBase) : (setBase x b t).out = x.out := by
  unfold setBase
  split
  · rfl
  · split
    · rfl
    · split <;> rfl

/-- A message leaves by a port whose control die is out of reset. -/
theorem send_of_up {d : Device} {port : Nat} (h : ctlUp d (ctlOfPort port) = true) (kind to_ : Nat) (body : List Byte) :
    send d port kind to_ body = { d with tx := d.tx ++ [{ port := port, kind := kind, to_ := to_, body := body }] } := by
  simp [send, h]

theorem ctlUp_modBase (d : Device) (c b : Nat) (f : TimeBase → TimeBase) (k : Nat) : ctlUp (modBase d c b f) k = ctlUp d k := by
  simp only [ctlUp, modBase_eq, ctlAt_setCtl]
  split
  · next h => rw [setBase_out, h]
  · rfl

/-- The Delay_Req of a base whose last one is not too recent. -/
theorem ptpDelayReqOp_of_due {d : Device} {c b seq : Nat} (port : ptpPort d c b = true) (cfg : regN d (0x2100 + b) 1 = 2)
    (gm0 : (baseAt d c b).gm ≠ 0) (due : reqEarly d.mono (baseAt d c b) = false)
    (hseq : seq = (baseAt d c b).asked.elim 1 (fun a => (a.2 + 1) % 65536)) :
    ptpDelayReqOp d c b = send (modBase d c b (delayAsked d.mono seq)) (basePort d c b) 6 b
      (beBytes 8 (clockIdentity d c b) ++ beBytes 2 seq) := by
  subst hseq
  cases asked : (baseAt d c b).asked with
  | none => simp [ptpDelayReqOp, port, cfg, due, gm0, asked, modBase_eq, delayAsked]
  | some a => simp [ptpDelayReqOp, port, cfg, due, gm0, asked, modBase_eq, delayAsked]

/-- A base whose path delay a Delay_Resp has measured. -/
def delayMeasured (ms sm : Int) (log : Int) (t : TimeBase) : TimeBase :=
  { t with delay := some ((ms + sm) / 2).toNat, reqLog := max log (-4), reqAt := none }

theorem ptpDelayRespOp_of_delay {d : Device} {c b seq receive t3 : Nat} {ms log : Int}
    (hq : (baseAt d c b).reqAt = some (seq, t3)) (hms : (baseAt d c b).ms = some ms) (port : ptpPort d c b = true)
    (hd : (baseAt d c b).delay.isSome = true) :
    ptpDelayRespOp d c b seq receive log =
      modBase d c b (delayMeasured ms (Int.ofNat receive - Int.ofNat t3) log) := by
  have known : (baseAt d c b).delay.isNone = false := by simpa using hd
  simp [ptpDelayRespOp, hq, hms, port, known, modBase_eq, delayMeasured]

theorem ptpSyncOp_of_oneStep {d : Device} {c b : Nat} {m : PtpSyncMsg} (h : Follows d c b m) (h1 : m.twoStep = false) {dl : Nat}
    (hd : (baseAt d c b).delay = some dl) :
    ptpSyncOp d c b m =
      measureOffset (setCtl d c (setBase (ctlAt d c) b (syncHeard m.logInterval d.mono
        (Int.ofNat (baseAt d c b).ns - Int.ofNat m.origin) (baseAt d c b)))) c b
        (Int.ofNat (baseAt d c b).ns - Int.ofNat m.origin - Int.ofNat dl) := by
  unfold Follows at h
  simp only [ptpSyncOp]
  rw [if_pos h]
  simp [h1, syncTimes, modBase_eq, hd, syncHeard]

/-- A base set to its master's time by a step of −o at `now`. -/
def stepped (now : Nat) (o : Int) (t : TimeBase) : TimeBase :=
  { t with ns := (Int.ofNat t.ns - o).toNat, streak := 0, wasSet := true, ms := none, reqAt := none, setAt := now }

theorem ctlAt_stepBase (d : Device) (c b : Nat) (o : Int) (j : Nat) :
    ctlAt (stepBase d c b o) j = if c = j then setBase (ctlAt d c) b (stepped d.mono o (baseAt d c b)) else ctlAt d j := by
  simp only [stepBase, units_raise, units_ite, bump_eq, units_bumpBy, ite_self]
  simp [modBase_eq, stepped]

theorem baseAt_stepBase (d : Device) (c b : Nat) (o : Int) :
    baseAt (stepBase d c b o) c b = stepped d.mono o (baseAt d c b) ∧ OnlyBase d (stepBase d c b o) c b :=
  onlyBase_of _ (by simp [ctlAt_stepBase]) fun j hj => by simp [ctlAt_stepBase, hj.symm]

theorem noted_stepBase {d x : Device} {c b : Nat} (hr : ringAt x c = ringAt d c)
    (hn : regT x (0x2600 + c) 8 = regT d (0x2600 + c) 8) (o : Int) : Noted d (stepBase x c b o) c 47 (0x2100 + b) := by
  simp only [stepBase]
  refine noted_raise_of ?_ ?_ 47 (0x2100 + b)
  · simp only [units_ite, bump_eq, units_bumpBy, ite_self]
    simp [modBase_eq, hr]
  · simp only [regs_ite]
    simp [modBase_eq, hn]

/-- The registers that a measured offset may change. -/
def stepReg (b : Nat) : Nat → Nat → Prop := fun i r => eventReg i r ∨ (i = 0x2100 + b ∧ r = 0x18)

theorem keeps_stepBase {c b : Nat} (hc : c < 8) (d : Device) (o : Int) :
    Keeps (.ctls :: .fresh :: eventParts) (stepReg b) d (stepBase d c b o) := by
  simp only [stepBase]
  refine (keeps_raise_iff hc (by simp) (by simp) (by simp) (by simp) fun _ _ => Or.inl).mpr ?_
  simp only [keeps_ite]
  simp [modBase_eq]

/-- What a locked base makes of an offset that no check awaits (R278). -/
theorem measureOffset_of_locked {d : Device} {c b : Nat} (hc : c < 8) (o : Int) (hk : (baseAt d c b).check = false)
    (hs : (baseAt d c b).st = 2) :
    (baseAt (measureOffset d c b o) c b).off = some o ∧ (baseAt (measureOffset d c b o) c b).last = (baseAt d c b).msAt ∧
    (baseAt (measureOffset d c b o) c b).syncAt = (baseAt d c b).syncAt ∧ (baseAt (measureOffset d c b o) c b).st = 2 ∧
    (if regN d (0x2100 + b) 8 * 1000 < o.natAbs then
       (baseAt (measureOffset d c b o) c b).ns = (Int.ofNat (baseAt d c b).ns - o).toNat ∧
       (baseAt (measureOffset d c b o) c b).ppb = (baseAt d c b).ppb ∧ Noted d (measureOffset d c b o) c 47 (0x2100 + b)
     else (baseAt (measureOffset d c b o) c b).ns = (baseAt d c b).ns ∧
       ((baseAt (measureOffset d c b o) c b).ppb - (baseAt d c b).ppb).natAbs ≤ 100000 ∧
       (measureOffset d c b o).rings = d.rings) ∧
    OnlyBase d (measureOffset d c b o) c b ∧ Keeps (.ctls :: .fresh :: eventParts) (stepReg b) d (measureOffset d c b o) := by
  have modKeeps : ∀ (x : Device) f, Keeps (.ctls :: .fresh :: eventParts) (stepReg b) x (modBase x c b f) := fun x f => by
    simp [modBase_eq]
  by_cases far : regN d (0x2100 + b) 8 * 1000 < o.natAbs
  · rw [measureOffset_of_far hk far, if_pos far]
    obtain ⟨at_, only⟩ := baseAt_stepBase (modBase d c b (offsetNoted o)) c b o
    rw [baseAt_modBase] at at_
    rw [at_]
    refine ⟨rfl, rfl, rfl, hs, ⟨rfl, rfl, ?_⟩, onlyBase_trans (onlyBase_modBase d c b _) only, (modKeeps d _).trans (keeps_stepBase hc _ o)⟩
    exact noted_stepBase (by simp [modBase_eq]) (by simp [modBase_eq]) o
  · obtain ⟨r, n, near, run⟩ := measureOffset_of_near hk hs far
    have at_ : baseAt (measureOffset d c b o) c b = slewed r n (offsetNoted o (baseAt d c b)) := by
      rw [run]
      exact (baseAt_modBase ..).trans (by rw [baseAt_modBase])
    rw [at_, if_neg far]
    refine ⟨rfl, rfl, rfl, hs, ⟨rfl, near, by rw [run]; rfl⟩, ?_, ?_⟩
    · rw [run]
      exact onlyBase_trans (onlyBase_modBase d c b _) (onlyBase_modBase _ c b _)
    · rw [run, keeps_spend_iff (by simp)]
      exact (modKeeps d _).trans (modKeeps _ _)

/-- Settles O9. -/
theorem ptpMessagesMeasureTheOffset : Obligations.PtpMessagesMeasureTheOffset := by
  refine ⟨fun dt s d c b m t dl o hd ht on gm gm0 lo hi h1 hdl st chk ho => ?_, fun dt s d c b m t hd ht on gm gm0 lo hi h2 => ?_,
    fun dt s d c b seq origin arr t hd ht h2 port cfg hdl => ?_, fun dt s d c b t seq hd ht port cfg gm0 early hseq => ?_,
    fun dt s d c b seq receive t3 ms li t hd ht hq hms port hdl => ?_⟩ <;> subst ht
  · refine does_of_act (f := (ptpSyncOp · c b m)) rfl hd ?_
    clear hd
    rw [ptpSyncOp_of_oneStep ⟨on, gm, gm0, lo, hi⟩ h1 hdl, ← ho]
    generalize hx : setCtl d c (setBase (ctlAt d c) b (syncHeard m.logInterval d.mono
        (Int.ofNat (baseAt d c b).ns - Int.ofNat m.origin) (baseAt d c b))) = x
    have xat : baseAt x c b = syncHeard m.logInterval d.mono (Int.ofNat (baseAt d c b).ns - Int.ofNat m.origin) (baseAt d c b) := by
      simp [← hx]
    have xonly : OnlyBase d x c b := (onlyBase_of _ (by simp [← hx]; rfl) fun j hj => by simp [← hx, hj.symm]).2
    have xkeeps : Keeps (.ctls :: .fresh :: eventParts) (stepReg b) d x := by simp [← hx]
    have xlimit : regN x (0x2100 + b) 8 = regN d (0x2100 + b) 8 := by simp [← hx]
    have xrings : x.rings = d.rings := by simp [← hx]
    have xnotes : regT x (0x2600 + c) 8 = regT d (0x2600 + c) 8 := by simp [← hx]
    obtain ⟨hoff, hlast, hsync, hst, hcase, only, keeps⟩ := measureOffset_of_locked (c := c) (ctl_lt c) o
      (by rw [xat]; exact chk) (by rw [xat]; exact st)
    rw [xat] at hlast hsync
    rw [xlimit, xat] at hcase
    refine ⟨hoff, hlast, hsync, hst, ?_, onlyBase_trans xonly only, keeps_settled (xkeeps.trans keeps)⟩
    split
    · next far =>
      rw [if_pos far] at hcase
      obtain ⟨hns, hppb, note⟩ := hcase
      rw [Noted, ringAt_congr d x xrings, xnotes] at note
      exact ⟨hns, hppb, note⟩
    · next near =>
      rw [if_neg near] at hcase
      obtain ⟨hns, hppb, rings⟩ := hcase
      exact ⟨hns, hppb, rings.trans xrings⟩
  · refine does_of_act (f := (ptpSyncOp · c b m)) rfl hd ?_
    rw [ptpSyncOp_of_twoStep ⟨on, gm, gm0, lo, hi⟩ h2]
    exact ⟨baseAt_modBase .., onlyBase_modBase .., by simp [modBase_eq]⟩
  · refine does_of_act (f := (ptpFollowUpOp · c b seq origin)) rfl hd ?_
    rw [ptpFollowUpOp_of_no_delay h2 port cfg hdl]
    exact ⟨baseAt_modBase .., onlyBase_modBase .., by simp [modBase_eq]⟩
  · refine does_of_act (f := (ptpDelayReqOp · c b)) rfl hd ?_
    have due : reqEarly d.mono (baseAt d c b) = false := by
      unfold reqEarly
      split
      · next a q h => simpa using early _ h
      · rfl
    have up : ctlUp (modBase d c b (delayAsked d.mono seq)) (ctlOfPort (basePort d c b)) = true := by
      rw [ctlUp_modBase]
      simp only [ptpPort, hostPort, Bool.and_eq_true] at port
      exact port.2.2
    rw [ptpDelayReqOp_of_due port cfg gm0 due hseq, send_of_up up]
    exact ⟨baseAt_modBase .., rfl, onlyBase_modBase ..,
      keeps_settled (Keeps.trans (by simp [modBase_eq]) (keeps_tx _ _ (by simp)))⟩
  · refine does_of_act (f := (ptpDelayRespOp · c b seq receive li)) rfl hd ?_
    rw [ptpDelayRespOp_of_delay hq hms port hdl]
    exact ⟨baseAt_modBase .., onlyBase_modBase .., by simp [modBase_eq]⟩

/-! ### Masters (R276, R277) -/

/-- A base that enters HOLDOVER. -/
def heldOver (t : TimeBase) : TimeBase := { t with st := 3, ppb := meanPpb t.corr t.ppb, check := true, streak := 0 }

theorem ctlAt_enterHoldover {d : Device} {c b : Nat} (hs : (baseAt d c b).st = 2) (j : Nat) :
    ctlAt (enterHoldover d c b) j = if c = j then setBase (ctlAt d c) b (heldOver (baseAt d c b)) else ctlAt d j := by
  simp only [enterHoldover, hs, if_true, units_raise, units_ite, bump_eq, units_bumpBy, ite_self]
  simp [modBase_eq, heldOver]

/-- What a LOCKED base's entry into HOLDOVER does (R277). -/
theorem enterHoldover_of_locked {d : Device} {c b : Nat} (hc : c < 8) (hs : (baseAt d c b).st = 2) :
    baseAt (enterHoldover d c b) c b = heldOver (baseAt d c b) ∧ OnlyBase d (enterHoldover d c b) c b ∧
    Recorded d (enterHoldover d c b) c 46 (0x2100 + b) ∧ (enterHoldover d c b).mono = d.mono ∧
    Keeps (.ctls :: eventParts) (fun i r => eventReg i r ∨ (i = 0x2100 + b ∧ r = 0x19)) d (enterHoldover d c b) := by
  obtain ⟨at_, only⟩ := onlyBase_of (d := d) (e := enterHoldover d c b) (c := c) (b := b) (heldOver (baseAt d c b))
    (by simp [ctlAt_enterHoldover hs]) fun j hj => by simp [ctlAt_enterHoldover hs, hj.symm]
  refine ⟨at_, only, ?_, ?_, ?_⟩ <;> simp only [enterHoldover, hs, if_true]
  · refine recorded_raise_of ?_ (0x2100 + b) (by decide)
    simp only [units_ite, bump_eq, units_bumpBy, ite_self]
    simp [modBase_eq]
  · simp only [raise_mono, fields_ite, bump_eq, bumpBy_fields, ite_self]
    simp [modBase_eq]
  · refine (keeps_raise_iff hc (by simp) (by simp) (by simp) (by simp) fun _ _ => Or.inl).mpr ?_
    simp only [keeps_ite]
    simp [modBase_eq]

/-- A base that follows no master. -/
def unfollowed (t : TimeBase) : TimeBase := { t with gm := 0, delay := none, ms := none, reqAt := none, twoStep := none }

/-- A base that follows foreign master f from `now` on. -/
def followed (f : Foreign) (now : Nat) (t : TimeBase) : TimeBase :=
  { t with gm := f.gm, rank := f.rank, delay := none, ms := none, reqAt := none, twoStep := none, annAt := f.at_,
           annLog := f.log, syncAt := now }

theorem selectMaster_of_none {d : Device} {c b : Nat} (h : bestMaster d.mono (baseAt d c b) = none) :
    selectMaster d c b = modBase d c b unfollowed := by
  simp [selectMaster, h, modBase_eq, unfollowed]

/-- A base without a master follows the best that is qualified. -/
theorem selectMaster_of_free {d : Device} {c b : Nat} {f : Foreign} (h : bestMaster d.mono (baseAt d c b) = some f)
    (free : (baseAt d c b).gm = 0) : selectMaster d c b = if f.gm = 0 then d else modBase d c b (followed f d.mono) := by
  simp [selectMaster, h, modBase_eq, followed, free]

/-- The better of the best so far and a foreign master. -/
def betterMaster (a : Option Foreign) (f : Foreign) : Option Foreign := match a with
  | none => some f
  | some g => if rankLt f.rank g.rank then some f else some g

theorem foldl_betterMaster_some (l : List Foreign) (g : Foreign) :
    ∃ f, l.foldl betterMaster (some g) = some f ∧ (f = g ∨ f ∈ l) := by
  induction l generalizing g with
  | nil => exact ⟨g, rfl, .inl rfl⟩
  | cons x l ih =>
    rw [List.foldl_cons]
    by_cases h : rankLt x.rank g.rank = true
    · obtain ⟨f, hf, e⟩ := ih x
      refine ⟨f, by simp [betterMaster, h, hf], ?_⟩
      rcases e with rfl | e
      · exact .inr List.mem_cons_self
      · exact .inr (List.mem_cons_of_mem _ e)
    · obtain ⟨f, hf, e⟩ := ih g
      exact ⟨f, by simp [betterMaster, h, hf], e.imp_right (List.mem_cons_of_mem _)⟩

/-- The best of some masters is one of them. -/
theorem foldl_betterMaster_mem {l : List Foreign} (h : l ≠ []) : ∃ f ∈ l, l.foldl betterMaster none = some f := by
  cases l with
  | nil => exact absurd rfl h
  | cons x l =>
    obtain ⟨f, hf, e⟩ := foldl_betterMaster_some l x
    exact ⟨f, List.mem_cons.mpr e, hf⟩

theorem bestMaster_of_free (now : Nat) {t : TimeBase} (free : t.gm = 0) :
    bestMaster now t = (t.others.filter (qualified now)).foldl betterMaster none := by
  simp [bestMaster, free]
  rfl

/-- A base that gives its master up. -/
def masterDropped (t : TimeBase) : TimeBase := { t with others := t.others.filter fun f => f.gm != t.gm, gm := 0 }

theorem dropMaster_eq (d : Device) (c b : Nat) : dropMaster d c b = selectMaster (modBase d c b masterDropped) c b := rfl

/-- The masters that a base which gives its own up can follow. -/
def successors (now : Nat) (t : TimeBase) : List Foreign := t.others.filter fun f => f.gm != t.gm && qualified now f

theorem bestMaster_dropped (now : Nat) (t : TimeBase) :
    bestMaster now (masterDropped t) = (successors now t).foldl betterMaster none := by
  rw [bestMaster_of_free now (t := masterDropped t) rfl, successors, masterDropped, List.filter_filter]
  simp only [Bool.and_comm]

/-- A base that gives up its master keeps its time and state, and follows a successor where there is one. -/
theorem dropMaster_spec (d : Device) (c b : Nat) :
    (if successors d.mono (baseAt d c b) = [] then (baseAt (dropMaster d c b) c b).gm = 0
     else ∃ f ∈ successors d.mono (baseAt d c b), (baseAt (dropMaster d c b) c b).gm = f.gm) ∧
    (baseAt (dropMaster d c b) c b).st = (baseAt d c b).st ∧ (baseAt (dropMaster d c b) c b).check = (baseAt d c b).check ∧
    (baseAt (dropMaster d c b) c b).ns = (baseAt d c b).ns ∧ OnlyBase d (dropMaster d c b) c b ∧
    Keeps [.ctls] noReg d (dropMaster d c b) := by
  have mono : (modBase d c b masterDropped).mono = d.mono := by simp [modBase_eq]
  have best := bestMaster_dropped d.mono (baseAt d c b)
  have only := onlyBase_modBase d c b masterDropped
  have keeps : Keeps [.ctls] noReg d (modBase d c b masterDropped) := by simp [modBase_eq]
  rw [dropMaster_eq]
  by_cases h : successors d.mono (baseAt d c b) = []
  · rw [selectMaster_of_none (by rw [mono, baseAt_modBase, best, h]; rfl), if_pos h, baseAt_modBase, baseAt_modBase]
    exact ⟨rfl, rfl, rfl, rfl, onlyBase_trans only (onlyBase_modBase ..), keeps.trans (keeps_modBase (by simp) ..)⟩
  · obtain ⟨f, hf, pick⟩ := foldl_betterMaster_mem h
    rw [selectMaster_of_free (by rw [mono, baseAt_modBase, best, pick]) (by simp [masterDropped]), if_neg h]
    by_cases f0 : f.gm = 0
    · rw [if_pos f0, baseAt_modBase]
      exact ⟨⟨f, hf, f0.symm⟩, rfl, rfl, rfl, only, keeps⟩
    · rw [if_neg f0, baseAt_modBase, baseAt_modBase]
      exact ⟨⟨f, hf, rfl⟩, rfl, rfl, rfl, onlyBase_trans only (onlyBase_modBase ..), keeps.trans (keeps_modBase (by simp) ..)⟩

/-- A base that has heard an Announce while it followed no master. -/
def announced (now : Nat) (a : PtpAnnounceMsg) (t : TimeBase) : TimeBase := { t with others := heardAnnounce now a t.others }

theorem ptpAnnounceOp_of_free {d : Device} {c b : Nat} {a : PtpAnnounceMsg} (on : ptpOn d c b a.domain = true)
    (lo : -3 ≤ a.logInterval) (hi : a.logInterval ≤ 4) (g0 : a.grandmaster ≠ 0) (free : (baseAt d c b).gm = 0) :
    ptpAnnounceOp d c b a = selectMaster (modBase d c b (announced d.mono a)) c b := by
  have h : ptpOn d c b a.domain = true ∧ -3 ≤ a.logInterval ∧ a.logInterval ≤ 4 ∧ a.grandmaster ≠ 0 := ⟨on, lo, hi, g0⟩
  simp only [ptpAnnounceOp]
  rw [if_pos h]
  simp [modBase_eq, announced, free, Ne.symm g0]

/-- Settles O10. -/
theorem ptpMastersComeAndGo : Obligations.PtpMastersComeAndGo := by
  refine ⟨fun dt s d c b a t hd ht on lo hi g0 free none_ => ?_, fun dt s d c b a t o hd ht on lo hi g0 free one same near => ?_,
    fun dt s d c b t hd ht up gm0 st alone due => ?_, fun dt s d c b t hd ht up gm0 st due => ?_⟩ <;> subst ht
  · refine does_of_act (f := (ptpAnnounceOp · c b a)) rfl hd ?_
    clear hd
    have others : (announced d.mono a (baseAt d c b)).others =
        [{ gm := a.grandmaster, rank := a.rank, at_ := d.mono, log := a.logInterval, good := false }] := by
      simp [announced, heardAnnounce, none_]
    have best : bestMaster (modBase d c b (announced d.mono a)).mono (baseAt (modBase d c b (announced d.mono a)) c b) = none := by
      rw [baseAt_modBase, bestMaster_of_free _ (by exact free), others]
      simp [qualified]
    rw [ptpAnnounceOp_of_free on lo hi g0 free, selectMaster_of_none best]
    have at_ : baseAt (modBase (modBase d c b (announced d.mono a)) c b unfollowed) c b =
        unfollowed (announced d.mono a (baseAt d c b)) := by simp
    refine ⟨by rw [baseAt_settle, at_]; rfl, ?_, onlyBase_trans (onlyBase_modBase ..) (onlyBase_modBase ..), by simp [modBase_eq]⟩
    rw [baseAt_settle, at_]
    exact others
  · refine does_of_act (f := (ptpAnnounceOp · c b a)) rfl hd ?_
    clear hd
    let f : Foreign := { o with rank := a.rank, at_ := d.mono, log := a.logInterval, good := true }
    have others : (announced d.mono a (baseAt d c b)).others = [f] := by
      simp [announced, heardAnnounce, one, same, near, f]
    have best : bestMaster (modBase d c b (announced d.mono a)).mono (baseAt (modBase d c b (announced d.mono a)) c b) = some f := by
      have recent : qualified d.mono f = true := by simp [qualified, f]
      rw [baseAt_modBase, bestMaster_of_free _ (by exact free), others]
      simp [modBase_eq, recent, betterMaster]
    rw [ptpAnnounceOp_of_free on lo hi g0 free, selectMaster_of_free best (by simpa [announced] using free),
      if_neg (by simpa [f, same] using g0)]
    have at_ : baseAt (modBase (modBase d c b (announced d.mono a)) c b (followed f (modBase d c b (announced d.mono a)).mono)) c b =
        followed f d.mono (announced d.mono a (baseAt d c b)) := by simp [modBase_eq]
    refine ⟨?_, ?_, ?_, ?_, onlyBase_trans (onlyBase_modBase ..) (onlyBase_modBase ..), by simp [modBase_eq]⟩ <;>
      rw [baseAt_settle, at_]
    · exact same
    · rfl
    · rfl
    · rfl
  · refine does_of_act (f := (ptpAnnounceTimeoutOp · c b)) rfl hd ?_
    clear hd
    have run : ptpAnnounceTimeoutOp d c b = dropMaster (enterHoldover d c b) c b := by
      simp only [ptpAnnounceTimeoutOp]
      rw [if_pos ⟨up, gm0, due⟩]
    obtain ⟨at1, only1, rec1, mono1, keeps1⟩ := enterHoldover_of_locked (ctl_lt c) st
    obtain ⟨gm2, st2, check2, ns2, only2, keeps2⟩ := dropMaster_spec (enterHoldover d c b) c b
    have none_ : successors (enterHoldover d c b).mono (baseAt (enterHoldover d c b) c b) = [] := by
      rw [at1]
      refine List.filter_eq_nil_iff.mpr fun f hf => ?_
      simp [show f.gm = (heldOver (baseAt d c b)).gm from alone f hf]
    rw [if_pos none_] at gm2
    rw [at1] at st2 check2 ns2
    rw [run]
    exact ⟨gm2, st2, check2, ns2, by rw [recorded_settle, Recorded, keeps2.ringAt (by simp)]; exact rec1,
      onlyBase_trans only1 only2, keeps_settled (keeps1.trans (keeps2.mono (by simp) (by simp [noReg])))⟩
  · refine does_of_act (f := (ptpSyncTimeoutOp · c b)) rfl hd ?_
    clear hd
    obtain ⟨at1, only1, rec1, mono1, keeps1⟩ := enterHoldover_of_locked (ctl_lt c) st
    have run : ptpSyncTimeoutOp d c b =
        if (baseAt d c b).others.any (fun f => f.gm != (baseAt d c b).gm && qualified d.mono f) = true then
          dropMaster (enterHoldover d c b) c b else enterHoldover d c b := by
      simp only [ptpSyncTimeoutOp]
      rw [if_pos ⟨up, gm0, due⟩]
      simp only [st, mono1, true_and]
    have after : successors (enterHoldover d c b).mono (baseAt (enterHoldover d c b) c b) = successors d.mono (baseAt d c b) := by
      rw [mono1, at1]
      rfl
    rw [run]
    by_cases h : (baseAt d c b).others.any (fun f => f.gm != (baseAt d c b).gm && qualified d.mono f) = true
    · obtain ⟨gm2, st2, check2, ns2, only2, keeps2⟩ := dropMaster_spec (enterHoldover d c b) c b
      have some_ : successors d.mono (baseAt d c b) ≠ [] := fun none_ => by
        obtain ⟨f, hf, ok⟩ := List.any_eq_true.mp h
        exact List.filter_eq_nil_iff.mp none_ f hf ok
      rw [after, if_neg some_] at gm2
      rw [at1] at st2 check2 ns2
      rw [if_pos h, if_pos h]
      obtain ⟨f, hf, hgm⟩ := gm2
      obtain ⟨mem, ok⟩ := List.mem_filter.mp hf
      rw [Bool.and_eq_true, bne_iff_ne] at ok
      exact ⟨st2, ⟨f, mem, ok.1, ok.2, hgm⟩, check2, ns2, by
        rw [recorded_settle, Recorded, keeps2.ringAt (by simp)]
        exact rec1,
        onlyBase_trans only1 only2, keeps_settled (keeps1.trans (keeps2.mono (by simp) (by simp [noReg])))⟩
    · rw [if_neg h, if_neg h, baseAt_settle, at1]
      exact ⟨rfl, rfl, rfl, rfl, rec1, only1, keeps_settled keeps1⟩

end Sys2Proof
end

section
/-! PROOFS. Clocks, supply, pins and crossings. Three of these statements fail in one clause each; a device in which a pixel
die's reset meets a full memory elsewhere, and one whose debug port is open at RESETn, show it. -/

namespace Sys2Proof

open Machine Safety

/-- What a command does to a device is what its statement says of it. -/
theorem of_does_at {i : Instr} {D : Device} {f : Device → Device} {P : Device → Prop}
    (hf : exec i { pending := [], dev := D } = act 0 { pending := [], dev := D } f)
    (h : Does i { pending := [], dev := D } P) : P (settle (f D)) :=
  (does_act i 0 { pending := [], dev := D } f P hf).mp h

/-! ### Three counterexamples -/

/-- A tile of die P0 waits on its Spur link while P1, which is to take it, has no surface memory placed: the reset of P0 ends the
tile's flight, and P1 notes that its memory is full in `limits` (R239). -/
def tileInFlight : Device := { Device.reset with
  mono := 100000, force := [(regKey 0x5000 2, .num 1)],
  pix := [(0, { PixelDie.reset with out := true }), (1, { PixelDie.reset with out := true })],
  clocks := [(2, { ClockUnit.reset with mon := 3, tripAt := some 0 })], rails := [(2, { RailUnit.reset with seen := true })],
  srcs := [(srcKey 0 1, { SrcUnit.reset with present := true })],
  queues := [(0, { QueueUnit.reset with spurOut := [(0, [.tile 0 1 0 ⟨0, 0, [], 0, 0⟩])] })] }

theorem tileInFlight_limits_holdoverTimeout : (holdoverTimeoutOp tileInFlight 2).limits ≠ tileInFlight.limits := by decide +kernel

theorem tileInFlight_limits_brownout : (brownoutOp tileInFlight 2 0).limits ≠ tileInFlight.limits := by decide +kernel

/-- Refutes O35: the reset after a clock's holdover may note a full memory in `limits`, which the frame of its clause leaves out. -/
theorem not_clockMonitorsTripAndHoldOver : ¬ Obligations.ClockMonitorsTripAndHoldOver := by
  intro h
  obtain ⟨-, -, -, -, timeout, -⟩ := h
  have does := of_does_at (f := (holdoverTimeoutOp · 2)) rfl
    (timeout 0 { pending := [], dev := tileInFlight } tileInFlight 2 _ 0 (elapse_zero _).symm rfl rfl (by decide) rfl (by decide))
  obtain ⟨-, -, -, -, -, -, frame⟩ := does
  exact tileInFlight_limits_holdoverTimeout ((keeps_settle_iff.mp frame).limits_eq (by decide))

/-- Refutes O37: the reset of a brown-out may note a full memory in `limits`, which the frame of its clause leaves out. -/
theorem not_supplyStagesFollowTheRail : ¬ Obligations.SupplyStagesFollowTheRail := by
  intro h
  obtain ⟨-, -, -, brownout, -⟩ := h
  have does := of_does_at (f := (brownoutOp · 2 0)) rfl
    (brownout 0 { pending := [], dev := tileInFlight } tileInFlight 2 0 (elapse_zero _).symm (by decide) rfl)
  obtain ⟨-, -, -, -, -, -, -, -, frame⟩ := does
  exact tileInFlight_limits_brownout ((keeps_settle_iff.mp frame).limits_eq (by decide))

/-- The debug port is open, so that the register of its state is not at its reset value. -/
def openPortAtReset : Device := { Device.reset with
  pins := { Pins.reset with pwrgood := true }, regs := [(regKey 0x2500 0x18, .num 5)],
  sup := { Sup.reset with dbg := { DebugUnit.reset with opened := true } } }

theorem openPortAtReset_reg_resetnLow : reg (resetnLowOp openPortAtReset) 0x2500 0x18 ≠ resetVal 0x2500 0x18 := by decide +kernel

/-- Refutes O36: RESETn keeps an open debug port and its state register, so not every register returns to its reset value. -/
theorem not_pinsResetTheDevice : ¬ Obligations.PinsResetTheDevice := by
  intro h
  obtain ⟨-, -, resetn, -⟩ := h
  have does := of_does_at rfl (resetn 0 { pending := [], dev := openPortAtReset } openPortAtReset (elapse_zero _).symm rfl)
  obtain ⟨regs, -⟩ := does
  exact openPortAtReset_reg_resetnLow ((reg_settle _ 0x2500 0x18 (by decide)).symm.trans (regs 0x2500 0x18 (by decide)))

/-! ### Crossings (R413) -/

/-- What a die that sees its neighbour in reset does with what is on its way there. -/
def peerDiscard (d : Device) (k : Nat) (kind : LinkKind) (o : Nat) : Device :=
  if kind = .spur then spurDiscard d (k - 2) (o - 2) else if kind = .saddle ∧ o < 2 then spoilFlight d (k - 2) o else d

theorem peerResetOp_of_reset {d : Device} {k o : Nat} {kind : LinkKind} (hk : dieUp d k = true) (ho : dieUp d o = false)
    (hl : linked kind k o = true) (hx : (k, linkCode kind, o) ∉ d.crossings) :
    peerResetOp d k kind o =
      raiseD (peerDiscard { d with crossings := d.crossings ++ [(k, linkCode kind, o)] } k kind o) k 90 0 [linkCode kind, o + 1] := by
  simp [peerResetOp, peerDiscard, hk, ho, hl, hx]

theorem keeps_owe (d : Device) (s dest : Nat) (l : List Nat) : Keeps [.srcs] noReg d (owe d s dest l) := by
  simp [owe, modSrcUnit]

/-- An item taken off a Spur queue: a tile is owed to its die. -/
def oweItem (d : Device) (x : SpurItem) : Device := match x with
  | .tile s dest i _ => owe d s dest [i]
  | _ => d

theorem keeps_oweItem (d : Device) (x : SpurItem) : Keeps [.srcs] noReg d (oweItem d x) := by
  cases x with
  | tile s dest i sl => exact keeps_owe d s dest [i]
  | _ => exact keeps_self

/-- One Spur queue of die p is emptied, its tiles owed. -/
def emptySpur (d : Device) (p k : Nat) : Device :=
  forEach (modQueue d p fun u => { u with spurOut := tdel u.spurOut k }) (spurOutOf d p k) oweItem

theorem spurDiscard_eq (d : Device) (p q : Nat) :
    spurDiscard d p q = forEach d (if (p + 1) % 6 = q then [0, 1] else [2, 3]) fun x k => emptySpur x p k := rfl

theorem spurOutOf_emptySpur (d : Device) (p k j : Nat) :
    spurOutOf (emptySpur d p k) p j = if k = j then [] else spurOutOf d p j := by
  have loop := keeps_forEach (spurOutOf d p k) oweItem (fun x i _ => keeps_oweItem x i)
    (modQueue d p fun u => { u with spurOut := tdel u.spurOut k })
  rw [spurOutOf, emptySpur, loop.queueAt (by simp)]
  simp [spurOutOf]

theorem keeps_emptySpur (d : Device) (p k : Nat) : Keeps [.queues, .srcs] noReg d (emptySpur d p k) :=
  Keeps.trans (by simp)
    (keeps_forEach (spurOutOf d p k) oweItem (fun x i _ => (keeps_oweItem x i).mono (by simp) fun _ _ h => h)
      (modQueue d p fun u => { u with spurOut := tdel u.spurOut k }))

theorem keeps_spurDiscard (d : Device) (p q : Nat) : Keeps [.queues, .srcs] noReg d (spurDiscard d p q) := by
  rw [spurDiscard_eq]
  exact keeps_forEach _ _ (fun x k _ => keeps_emptySpur x p k) d

/-- The queues toward the die in reset are empty. -/
theorem spurOutOf_spurDiscard (d : Device) (p q : Nat) :
    ∀ j ∈ (if (p + 1) % 6 = q then [0, 1] else [2, 3]), spurOutOf (spurDiscard d p q) p j = [] := by
  intro j hj
  rw [spurDiscard_eq]
  split at hj <;> simp only [List.mem_cons, List.not_mem_nil, or_false] at hj <;> rcases hj with rfl | rfl <;>
    simp [spurOutOf_emptySpur, *]

theorem tget_foldl_tdel {α : Type} (qs : List Nat) (t : Table α) (q : Nat) (x : α) :
    tget (qs.foldl tdel t) q x = if q ∈ qs then x else tget t q x := by
  induction qs generalizing t with
  | nil => rfl
  | cons k qs ih =>
    rw [List.foldl_cons, ih, tget_tdel]
    by_cases h : k = q
    · simp [h]
    · simp [h, show q ≠ k from fun e => h e.symm]

theorem keeps_unitLost (d : Device) (p s : Nat) (l : List Nat) (f : Table Slot → Nat → Table Slot) :
    Keeps [.srcs] noReg d (unitLost d p s l f) := by
  simp [unitLost, modSrcUnit]

theorem keeps_spoilFlight (d : Device) (p c : Nat) : Keeps [.queues, .srcs] noReg d (spoilFlight d p c) := by
  simp only [spoilFlight, modQueue_eq]
  rw [keeps_setQueue_iff (by simp)]
  exact keeps_forEach _ _ (fun x e _ => (keeps_unitLost x p e.1 e.2 voidTile).mono (by simp) fun _ _ h => h) d

/-- Nothing is in flight on the ingress queues from the control die in reset. -/
theorem flight_spoilFlight (d : Device) (p c q : Nat) (hq : q / 8 = c) :
    tget (queueAt (spoilFlight d p c) p).flight q [] = [] ∧ tget (queueAt (spoilFlight d p c) p).fill q 0 = 0 := by
  have mine : q ∈ (List.range 8).map (8 * c + ·) := List.mem_map.mpr ⟨q % 8, List.mem_range.mpr (by omega), by omega⟩
  simp only [spoilFlight, modQueue_eq, queueAt_setQueue, if_true, tget_foldl_tdel, if_pos mine, and_self]

theorem keeps_peerDiscard (d : Device) (k : Nat) (kind : LinkKind) (o : Nat) :
    Keeps [.queues, .srcs] noReg d (peerDiscard d k kind o) := by
  simp only [peerDiscard, keeps_ite, keeps_self, keeps_spurDiscard, keeps_spoilFlight, implies_true, and_self]

/-- Settles O38. -/
theorem crossingsCloseAndOpen : Obligations.CrossingsCloseAndOpen := by
  refine ⟨fun dt s d k kind o hd hk ho hl hx => ?_, fun dt s d k kind o hd hk ho hx => ?_⟩
  · refine does_of_act (f := (peerResetOp · k kind o)) rfl hd ?_
    clear hd
    simp only [peerResetOp_of_reset hk ho hl hx]
    have seen : Keeps [.crossings] noReg d { d with crossings := d.crossings ++ [(k.val, linkCode kind, o.val)] } :=
      keeps_crossings d _ (by simp)
    generalize hy : { d with crossings := d.crossings ++ [(k.val, linkCode kind, o.val)] } = y at seen ⊢
    have added : y.crossings = d.crossings ++ [(k.val, linkCode kind, o.val)] := by rw [← hy]
    have quiet := keeps_peerDiscard y k kind o
    have frame : Keeps [.crossings, .queues, .srcs] noReg d (peerDiscard y k kind o) :=
      (seen.mono (by simp) fun _ _ h => h).trans (quiet.mono (by simp) fun _ _ h => h)
    have counted := noted_settle.mpr (noted_raiseD_of (frame.ringAt (by simp) k) (frame.regT (by decide) id) 90 0 [linkCode kind, o + 1])
    have noted := keeps_settled (keeps_raiseD (ps := eventParts) (rs := eventReg) (peerDiscard y k kind o) k 90 0
      [linkCode kind, o + 1] (by omega) (fun _ h => h) (fun _ _ h => h))
    generalize settle (raiseD (peerDiscard y k kind o) k 90 0 [linkCode kind, o + 1]) = e at noted counted ⊢
    have queue := noted.queueAt (by decide)
    refine ⟨?_, counted, fun hs => ?_, fun hs ho2 q hq => ?_, fun hs => ?_, ?_⟩
    · exact (noted.crossings_eq (by decide)).trans ((quiet.crossings_eq (by simp)).trans added)
    · subst hs
      simpa only [spurOutOf, queue, peerDiscard, if_true] using spurOutOf_spurDiscard y (k - 2) (o - 2)
    · subst hs
      simpa [queue, peerDiscard, ho2] using flight_spoilFlight y (k - 2) o q hq
    · have still : peerDiscard y k kind o = y := by
        rcases hs with rfl | ⟨rfl, far⟩
        · rfl
        · simp [peerDiscard, show ¬ o.val < 2 by omega]
      rw [still] at noted
      exact ⟨(noted.queues_eq (by decide)).trans (seen.queues_eq (by decide)),
        (noted.srcs_eq (by decide)).trans (seen.srcs_eq (by decide))⟩
    · exact (frame.mono (by decide) fun _ _ h => h.elim).trans (noted.mono (by decide) fun _ _ h => h)
  · refine does_of_act (f := (peerUpOp · k kind o)) rfl hd ?_
    clear hd
    have seen : Keeps [.crossings] noReg d { d with crossings := d.crossings.filter (· != (k.val, linkCode kind, o.val)) } :=
      keeps_crossings d _ (by simp)
    have closed : peerUpOp d k kind o =
        raiseD { d with crossings := d.crossings.filter (· != (k.val, linkCode kind, o.val)) } k 91 0 [linkCode kind, o + 1] := by
      simp [peerUpOp, hk, ho, hx]
    simp only [closed]
    have counted := noted_settle.mpr (noted_raiseD_of (seen.ringAt (by simp) k) (seen.regT (by decide) id) 91 0 [linkCode kind, o + 1])
    have noted := keeps_settled (keeps_raiseD (ps := eventParts) (rs := eventReg)
      { d with crossings := d.crossings.filter (· != (k.val, linkCode kind, o.val)) } k 91 0 [linkCode kind, o + 1] (by omega)
      (fun _ h => h) (fun _ _ h => h))
    generalize settle (raiseD { d with crossings := _ } k 91 0 [linkCode kind, o + 1]) = e at noted counted ⊢
    refine ⟨fun x => ?_, counted, ?_⟩
    · rw [noted.crossings_eq (by decide)]
      simp
    · exact (seen.mono (by decide) fun _ _ h => h.elim).trans (noted.mono (by decide) fun _ _ h => h)

/-! ### Oscillators, crystals and PLLs (R401, R402, R416) -/

theorem startDelay_of_straps {d : Device} {x : Nat} (h : d.pins.straps = some x) : startDelay d = some (500000 * 2 ^ x) := by
  simp [startDelay, h]

/-- The clock of an oscillator that has become ready. -/
def readyClock (c : ClockUnit) : ClockUnit :=
  { c with ready := true, mon := if c.mon = 1 then 2 else c.mon, pll := if c.stepped then c.pll else 2 }

/-- The pins once a control die's oscillator is ready: the straps are sampled once. -/
def sampledPins (k straps : Nat) (q : Pins) : Pins :=
  { q with straps := if k < 2 ∧ q.straps = none then some straps else q.straps }

theorem oscReadyOp_of_due {d : Device} {k straps : Nat} (hs : (clockAt d k).src ≠ 0) (hr : (clockAt d k).ready = false)
    (hdue : (clockAt d k).stepAt + (if (clockAt d k).stepped = true then 20000 else 50000) ≤ d.mono)
    (hk : 2 ≤ k ∨ (clockAt d k).mon ≠ 3) :
    oscReadyOp d k straps = { setClock d k (readyClock (clockAt d k)) with pins := sampledPins k straps d.pins } := by
  have trip : ¬(k < 2 ∧ (clockAt d k).mon = 3) := fun h => hk.elim (by omega) fun g => g h.2
  simp only [oscReadyOp, hs, hr, Nat.not_lt.mpr hdue, trip, sampledPins, Bool.false_eq_true, or_self, if_false, modClock_eq,
    setClock_pins, Option.isNone_iff_eq_none]
  by_cases h : k < 2 ∧ d.pins.straps = none
  · rw [if_pos h, if_pos h]
    rfl
  · rw [if_neg h, if_neg h]
    rfl

theorem crystalStartOp_of_due {d : Device} {k x : Nat} (h : d.pins.straps = some x) (hs : (clockAt d k).src = 1)
    (hc : (clockAt d k).crystal = 0) (hdue : (clockAt d k).startAt + 500000 * 2 ^ x ≤ d.mono) :
    crystalStartOp d k = setClock d k { clockAt d k with crystal := 1, good := 0, quiet := true } := by
  simp [crystalStartOp, startDelay_of_straps h, hs, hc, hdue]

theorem crystalTimeoutOp_of_due {d : Device} {k x : Nat} (h : d.pins.straps = some x) (hs : (clockAt d k).src = 1)
    (hc : (clockAt d k).crystal = 1) (hdue : (clockAt d k).startAt + 500000 * 2 ^ x + 10000000 ≤ d.mono) :
    crystalTimeoutOp d k = raise (setClock d k { clockAt d k with crystal := 3, src := 3 }) k 85 0 := by
  simp [crystalTimeoutOp, startDelay_of_straps h, hs, hc, hdue]

/-! ### A first PLL lock -/

theorem keeps_igmpReport (d : Device) (s : Nat) (join : Bool) : Keeps [.tx] noReg d (igmpReport d s join) := by
  simp only [igmpReport]
  split <;> split <;> simp

theorem keeps_controlUp_startCtl (d : Device) (c : Nat) : Keeps [.tx] noReg (startCtl d c) (controlUp d c) :=
  keeps_forEach _ _ (fun x s _ => keeps_igmpReport x s true) _

theorem keeps_controlUp (d : Device) (c : Nat) : Keeps [.ctls, .tx] noReg d (controlUp d c) :=
  Keeps.trans (by simp [startCtl]) ((keeps_controlUp_startCtl d c).mono (by simp) fun _ _ h => h)

/-- A control die that starts takes the other's first two bases, or starts them at 0 (R275). -/
theorem ctlAt_controlUp (d : Device) (c : Nat) :
    (ctlAt (controlUp d c) c).out = true ∧ (ctlAt (controlUp d c) c).role = 1 ∧
    (∀ b, b < 2 → (baseAt (controlUp d c) c b).ns = (if ctlUp d (1 - c) = true then (baseAt d (1 - c) b).ns else 0)) ∧
    ∀ j, j ≠ c → ctlAt (controlUp d c) j = ctlAt d j := by
  have same := (keeps_controlUp_startCtl d c).ctlAt (by simp)
  refine ⟨by simp [same, startCtl], by simp [same, startCtl], fun b hb => ?_, fun j hj => by simp [same, startCtl, hj.symm]⟩
  rcases eq_of_lt_two hb with rfl | rfl <;> simp [baseAt, baseOf, same, startCtl]

/-- The register of one entry's commit. -/
def ruleCommitReg : Nat → Nat → Prop := fun x i => 0x2400 ≤ x ∧ x < 0x2480 ∧ i = 0x0A

theorem keeps_ruleSettle (d : Device) : Keeps [.sup] ruleCommitReg d (ruleSettle d) := by
  refine Keeps.trans ?_ (keeps_sup _ _ (by simp))
  refine keeps_forEach _ _ (fun x e he => ?_) d
  have he : e < 128 := List.mem_range.mp (List.mem_filter.mp he).1
  split
  · exact keeps_setN _ _ _ _ (by decide) ⟨by omega, by omega, rfl⟩
  · exact keeps_self

theorem keeps_ruleReload (d : Device) (k : Nat) : Keeps [.rules, .sup] ruleCommitReg d (ruleReload d k) :=
  Keeps.trans (by simp) ((keeps_ruleSettle _).mono (by simp) fun _ _ h => h)

/-- Pixel die p out of reset, its memory interfaces in bring-up. -/
def pixelOut (d : Device) (p : Nat) : Device :=
  forEach (setPix d p { pixAt d p with out := true, state := 3 }) (List.range 4) fun x m =>
    setMemIf x (ifKey p m) { memIfAt x (ifKey p m) with state := 2 }

theorem releasePixel_eq (d : Device) (p : Nat) :
    releasePixel d p = if (activeCtl (pixelOut d p)).isSome then ruleReload (pixelOut d p) (p + 2) else pixelOut d p := rfl

theorem keeps_pixelOut (d : Device) (p : Nat) : Keeps [.pix, .ifs] noReg d (pixelOut d p) :=
  Keeps.trans (by simp) (keeps_forEach _ _ (fun x m _ => by simp) _)

theorem pixAt_pixelOut (d : Device) (p j : Nat) :
    pixAt (pixelOut d p) j = if p = j then { pixAt d p with out := true, state := 3 } else pixAt d j := by
  have loop : Keeps [.ifs] noReg (setPix d p { pixAt d p with out := true, state := 3 }) (pixelOut d p) :=
    keeps_forEach _ _ (fun x m _ => by simp) _
  rw [loop.pixAt (by simp), pixAt_setPix]

theorem memIfAt_pixelOut (d : Device) (p : Nat) {m : Nat} (hm : m < 4) : (memIfAt (pixelOut d p) (ifKey p m)).state = 2 := by
  have split : List.range 4 = [0, 1, 2, 3] := rfl
  simp only [pixelOut, split, forEach_cons, forEach_nil]
  rcases eq_of_lt_four hm with rfl | rfl | rfl | rfl <;> simp [ifKey]

theorem keeps_releasePixel_pixelOut (d : Device) (p : Nat) :
    Keeps [.rules, .sup] ruleCommitReg (pixelOut d p) (releasePixel d p) := by
  simp only [releasePixel_eq, keeps_ite, keeps_self, keeps_ruleReload, implies_true, and_self]

theorem keeps_releasePixel (d : Device) (p : Nat) : Keeps [.pix, .ifs, .rules, .sup] ruleCommitReg d (releasePixel d p) :=
  ((keeps_pixelOut d p).mono (by simp) fun _ _ h => h.elim).trans
    ((keeps_releasePixel_pixelOut d p).mono (by simp) fun _ _ h => h)

/-- What a lock releases on a die that is not held. -/
def lockRelease (d : Device) (k : Nat) : Device :=
  if k < 2 then (if ctlUp d k ∨ (ctlAt d k).role ≠ 0 then d else controlUp d k)
  else if pixUp d (k - 2) ∨ (pixAt d (k - 2)).state ≠ 0 then d else releasePixel d (k - 2)

/-- The device with the PLLs of die k locked and the end of its holdover noted. -/
def lockedAt (d : Device) (k : Nat) : Device := handled (setClock d k { clockAt d k with pll := 4 }) k [86] 0

theorem keeps_lockedAt (d : Device) (k : Nat) : Keeps [.clocks, .rings] noReg d (lockedAt d k) := by
  simp [lockedAt, handled]

theorem clockAt_lockedAt (d : Device) (k j : Nat) :
    clockAt (lockedAt d k) j = if k = j then { clockAt d k with pll := 4 } else clockAt d j := by
  simp [lockedAt, handled]

theorem pllLockOp_of_free {d : Device} {k : Nat} (hr : (clockAt d k).ready = true) (hs : (clockAt d k).src ≠ 0)
    (hm : (clockAt d k).mon ≠ 3) (hp : d.pins.resetn = true) (hh : (railAt d k).held = false) :
    pllLockOp d k = lockRelease (lockedAt d k) k := by
  have held : (railAt (lockedAt d k) k).held = false := by rw [(keeps_lockedAt d k).railAt (by simp), hh]
  have shape : pllLockOp d k =
      if (!(clockAt d k).ready && (clockAt d k).src != 2) || (clockAt d k).src == 0 || (clockAt d k).mon == 3 || !d.pins.resetn then d
      else if (railAt (lockedAt d k) k).held then lockedAt d k else lockRelease (lockedAt d k) k := rfl
  simp [shape, hr, hs, hm, hp, held]

theorem keeps_lockRelease (d : Device) (k : Nat) :
    Keeps [.ctls, .tx, .pix, .ifs, .rules, .sup] ruleCommitReg d (lockRelease d k) := by
  simp only [lockRelease, keeps_ite, keeps_self, implies_true, true_and]
  exact ⟨fun _ _ => (keeps_controlUp d k).mono (by simp) fun _ _ h => h.elim,
    fun _ _ => (keeps_releasePixel d _).mono (by simp) fun _ _ h => h⟩

theorem clockAt_lockRelease (d : Device) (k j : Nat) : clockAt (lockRelease d k) j = clockAt d j :=
  (keeps_lockRelease d k).clockAt (by simp) j

/-- Of the control dies only one that was in its first reset starts. -/
theorem ctlAt_lockRelease_of_ne {d : Device} {k j : Nat} (h : j ≠ k ∨ ctlUp d k = true) : ctlAt (lockRelease d k) j = ctlAt d j := by
  have pixel : ctlAt (releasePixel d (k - 2)) j = ctlAt d j := (keeps_releasePixel d (k - 2)).ctlAt (by simp) j
  simp only [lockRelease, units_ite, pixel, ite_self]
  rcases h with h | h
  · simp [(ctlAt_controlUp d k).2.2.2 j h]
  · simp [h]

/-- Of the pixel dies only the one whose PLLs locked leaves reset. -/
theorem pixAt_lockRelease_of_ne {d : Device} {k j : Nat} (h : j + 2 ≠ k) : pixAt (lockRelease d k) j = pixAt d j := by
  have control : pixAt (controlUp d k) j = pixAt d j := (keeps_controlUp d k).pixAt (by simp) j
  have pixel : 2 ≤ k → pixAt (releasePixel d (k - 2)) j = pixAt d j := fun hk => by
    rw [(keeps_releasePixel_pixelOut d (k - 2)).pixAt (by simp), pixAt_pixelOut, if_neg (by omega)]
  simp only [lockRelease, units_ite, control, ite_self]
  by_cases hk : k < 2
  · rw [if_pos hk]
  · rw [if_neg hk, pixel (by omega), ite_self]

theorem lockRelease_of_control {d : Device} {k : Nat} (hk : k < 2) (hu : ctlUp d k = false) (hr : (ctlAt d k).role = 0) :
    lockRelease d k = controlUp d k := by
  simp [lockRelease, hk, hu, hr]

theorem lockRelease_of_pixel {d : Device} {k : Nat} (hk : 2 ≤ k) (hu : pixUp d (k - 2) = false) (hs : (pixAt d (k - 2)).state = 0) :
    lockRelease d k = releasePixel d (k - 2) := by
  simp [lockRelease, Nat.not_lt.mpr hk, hu, hs]

/-- Settles O34. -/
theorem oscillatorsCrystalsAndPllsStart : Obligations.OscillatorsCrystalsAndPllsStart := by
  refine ⟨fun dt s d k straps c hd hc hs hr hdue hk => ?_, fun dt s d k x c hd hc hx hs hc0 hdue => ?_,
    fun dt s d k x c hd hc hx hs hc1 hdue => ?_, fun dt s d k c hd hc hr hs hm hp hh => ?_⟩
  · refine does_of_act (f := (oscReadyOp · k straps)) rfl hd ?_
    clear hd
    subst hc
    simp only [oscReadyOp_of_due hs hr hdue hk]
    refine ⟨?_, fun j hj => ?_, rfl, keeps_settled (Keeps.trans (by simp) (keeps_pins _ _ (by simp)))⟩
    · exact (clockAt_setClock d k k _).trans (if_pos rfl)
    · exact (clockAt_setClock d k j _).trans (if_neg hj.symm)
  · refine does_of_act (f := (crystalStartOp · k)) rfl hd ?_
    clear hd
    subst hc
    simp only [crystalStartOp_of_due hx hs hc0 hdue]
    exact ⟨by simp, fun j hj => by simp [hj.symm], by simp⟩
  · refine does_of_act (f := (crystalTimeoutOp · k)) rfl hd ?_
    clear hd
    subst hc
    simp only [crystalTimeoutOp_of_due hx hs hc1 hdue]
    exact ⟨by simp, recorded_settle.mpr (recorded_raise_of (by simp) 0 (by decide)), fun j hj => by simp [hj.symm], by simp⟩
  · refine does_of_act (f := (pllLockOp · k)) rfl hd ?_
    clear hd
    subst hc
    simp only [pllLockOp_of_free hr hs hm hp hh]
    have before := keeps_lockedAt d k
    have ctls := before.ctlAt (by simp)
    have pixs := before.pixAt (by simp)
    have ups : ∀ j, ctlUp (lockedAt d k) j = ctlUp d j := fun j => by rw [ctlUp, ctls, ctlUp]
    refine ⟨?_, fun j hj => ?_, fun hk hu h0 => ?_, fun j hj => ?_, fun hk hu h0 => ⟨?_, fun m hm => ?_⟩, fun j hj => ?_, keeps_settled ?_⟩
    · rw [clockAt_settle, clockAt_lockRelease, clockAt_lockedAt, if_pos rfl]
    · rw [clockAt_settle, clockAt_lockRelease, clockAt_lockedAt, if_neg hj.symm]
    · obtain ⟨out, role, bases, -⟩ := ctlAt_controlUp (lockedAt d k) k
      rw [lockRelease_of_control hk (by rw [ups, hu]) (by rw [ctls, h0])]
      simp only [ups, baseAt, ctls] at bases
      exact ⟨out, role, bases⟩
    · rw [ctlAt_settle, ctlAt_lockRelease_of_ne (by rwa [ups]), ctls]
    · rw [lockRelease_of_pixel hk (by rw [pixUp, pixs, ← pixUp, hu]) (by rw [pixs, h0]), pixAt_settle,
        (keeps_releasePixel_pixelOut _ _).pixAt (by simp), pixAt_pixelOut, if_pos rfl, pixs]
    · rw [lockRelease_of_pixel hk (by rw [pixUp, pixs, ← pixUp, hu]) (by rw [pixs, h0]), memIfAt_settle,
        (keeps_releasePixel_pixelOut _ _).memIfAt (by simp), memIfAt_pixelOut _ _ hm]
    · rw [pixAt_settle, pixAt_lockRelease_of_ne hj, pixs]
    · exact (before.mono (by decide) fun _ _ h => h.elim).trans ((keeps_lockRelease _ k).mono (by decide) fun _ _ h => h)

end Sys2Proof
end

section
/-! PROOFS. Surface memory: refresh and its debts (R225 to R228), bring-up and training (R218, R229, R230), set points (R232 to
R235), retirement (R237, R238), requests and credits (R211, R213, R224). -/

namespace Sys2Proof

open Machine Safety

/-! ### Retirement (R237, R238) -/

/-- The descriptor of an entry of a Spur queue of die P0 lies on interface 0, which fails. -/
def descriptorOnInterface : Device := { Device.reset with
  pix := [(0, { PixelDie.reset with out := true })],
  ifs := [(0, { MemIfUnit.reset with state := 3 }), (1, { MemIfUnit.reset with state := 3 }),
    (2, { MemIfUnit.reset with state := 3 }), (3, { MemIfUnit.reset with state := 3 })],
  queues := [(0, { QueueUnit.reset with spurOut := [(0, [.tile 0 1 0 ⟨0, 0, [], 0, 0⟩])], descs := [(36, [0])] })] }

theorem descriptorOnInterface_queues_memIfTimeout :
    (memIfTimeoutOp descriptorOnInterface 0 0).queues ≠ descriptorOnInterface.queues := by decide +kernel

/-- Refutes O28: what is copied off a failed interface includes descriptors of queue entries, and the frame of the clause leaves
out the queues. -/
theorem not_interfacesRetireOrFail : ¬ Obligations.InterfacesRetireOrFail := by
  intro h
  obtain ⟨-, -, timeout⟩ := h
  have does := of_does_at (f := (memIfTimeoutOp · 0 0)) rfl
    (timeout 0 { pending := [], dev := descriptorOnInterface } descriptorOnInterface 0 0 (elapse_zero _).symm (by decide) (by decide)
      (by decide))
  obtain ⟨-, -, -, -, -, -, frame⟩ := does
  exact descriptorOnInterface_queues_memIfTimeout ((keeps_settle_iff.mp frame).queues_eq (by decide))

/-! ### Refresh (R225 to R228) -/

/-- The rates that wait for the ranks of an interface. -/
def waitingRates (u : MemIfUnit) : Option Nat × Option Nat := (u.rank0.crossing, u.rank1.crossing)

@[simp] theorem rankOf_setRank (u : MemIfUnit) (r s : Nat) (v : RankUnit) (hr : r < 2) (hs : s < 2) :
    rankOf (setRank u r v) s = if r = s then v else rankOf u s := by
  rcases eq_of_lt_two hr with rfl | rfl <;> rcases eq_of_lt_two hs with rfl | rfl <;> rfl

@[simp] theorem rankOf_setRank_same (u : MemIfUnit) (r : Nat) (v : RankUnit) : rankOf (setRank u r v) r = v := by
  by_cases h : r = 0 <;> simp [rankOf, setRank, h]

/-- A refresh leaves a rank's debt, the time of its last accrual and its rate. -/
theorem rankOf_refreshed (u : MemIfUnit) {r s : Nat} (hr : r < 2) (hs : s < 2) :
    rankOf (refreshed u r) s = if r = s then { rankOf u r with inUse := (rankOf u r).fresh.getD (rankOf u r).inUse, fresh := none }
      else rankOf u s := by
  rcases eq_of_lt_two hr with rfl | rfl <;> rcases eq_of_lt_two hs with rfl | rfl <;> rfl

theorem keeps_raiseLimited {ps : List Part} {rs : Nat → Nat → Prop} (d : Device) (k code unit sel : Nat) (detail : List Nat)
    (period : Nat) (src : Option Nat) (hk : k < 8) (hl : Part.limits ∈ ps) (hp : ∀ p ∈ eventParts, p ∈ ps)
    (hr : ∀ i s, eventReg i s → rs i s) : Keeps ps rs d (raiseLimited d k code unit sel detail period src) := by
  have lim := fun v => keeps_limits (ps := ps) (rs := rs) d v hl
  simp only [raiseLimited]
  split
  · split
    · exact lim _
    · exact (lim _).trans (keeps_raiseFull _ _ _ _ _ _ _ _ hk hp hr)
  · exact (lim _).trans (keeps_raiseFull _ _ _ _ _ _ _ _ hk hp hr)

/-- The unit of an interface at the accrual of its rank r. -/
def accrued (d : Device) (p m r : Nat) : MemIfUnit :=
  let u := memIfAt d (ifKey p m)
  let k := rankOf u r
  let idle := !(memAt d p).switching.isSome && !urgentFor d p m r
  let x := setRank u r { k with debt := if idle then 0 else min (k.debt + 1) 8, last := k.last + trefi k.rate }
  if idle || (!(memAt d p).switching.isSome && decide (8 < k.debt + 1)) then refreshed x r else x

theorem refreshAccrualOp_of_due {d : Device} {p m r : Nat} (hp : pixUp d p = true)
    (hu : (memIfAt d (ifKey p m)).state = 3 ∨ (memIfAt d (ifKey p m)).state = 4) (hr : r < (memIfAt d (ifKey p m)).ranks)
    (hdue : (rankOf (memIfAt d (ifKey p m)) r).last + trefi (rankOf (memIfAt d (ifKey p m)) r).rate ≤ d.mono) :
    refreshAccrualOp d p m r =
      setMemIf (debtSeen d p m (min ((rankOf (memIfAt d (ifKey p m)) r).debt + 1) 8)) (ifKey p m) (accrued d p m r) := by
  have hu' : ((memIfAt d (ifKey p m)).state == 3 || (memIfAt d (ifKey p m)).state == 4) = true := by simpa using hu
  simp only [refreshAccrualOp, hp, hu', Nat.not_le.mpr hr, Nat.not_lt.mpr hdue, Bool.not_true, Bool.or_self, decide_false,
    Bool.false_eq_true, if_false]
  rfl

/-- The rank whose interval elapsed has one refresh more to catch up, or none where nothing holds it back; the other is as before. -/
theorem rankOf_accrued (d : Device) (p m : Nat) {r : Nat} (hr : r < 2) :
    (rankOf (accrued d p m r) r).debt = (if (memAt d p).switching.isSome = true ∨ urgentFor d p m r = true then
      min ((rankOf (memIfAt d (ifKey p m)) r).debt + 1) 8 else 0) ∧
    (rankOf (accrued d p m r) r).last =
      (rankOf (memIfAt d (ifKey p m)) r).last + trefi (rankOf (memIfAt d (ifKey p m)) r).rate ∧
    (rankOf (accrued d p m r) r).rate = (rankOf (memIfAt d (ifKey p m)) r).rate ∧
    rankOf (accrued d p m r) (1 - r) = rankOf (memIfAt d (ifKey p m)) (1 - r) := by
  have other : 1 - r < 2 := by omega
  have ne : r ≠ 1 - r := by omega
  simp only [accrued]
  generalize memIfAt d (ifKey p m) = u
  generalize urgentFor d p m r = urgent
  cases (memAt d p).switching.isSome <;> cases urgent <;> split <;>
    simp_all [rankOf_refreshed]

theorem regN_debtSeen (d : Device) (p m debt : Nat) :
    regN (debtSeen d p m debt) (ifObj p m) 6 = 0x80 + max (regN d (ifObj p m) 6 % 16) (min debt 8) := by
  simp [debtSeen]

theorem not_eventReg_ifObj (p m s : Nat) : ¬ eventReg (ifObj p m) s := by
  simp only [eventReg, ifObj]
  omega

/-- The register that an interface's refresh debt and its bursts are read in. -/
def debtReg (p m : Nat) : Nat → Nat → Prop := fun x i => eventReg x i ∨ (x = ifObj p m ∧ (i = 6 ∨ i = 7))

theorem keeps_debtSeen {d : Device} {ps : List Part} {p m debt : Nat} {a : Device} :
    Keeps ps (debtReg p m) a (debtSeen d p m debt) ↔ Keeps ps (debtReg p m) a d :=
  keeps_iff_of_keeps (keeps_setN _ _ _ _ (by decide) (Or.inr ⟨rfl, Or.inl rfl⟩))

/-- The rate of a rank is the one read. -/
def rateCode : Mr4Rate → Nat
  | .oneOrSlower => 1
  | .two => 2
  | .faster => 3

/-- After the rate is read, MR4_POLL notes the state of MEM_OVERTEMP alone. -/
theorem keeps_mr4PollOp {d : Device} {p m r : Nat} {rate : Mr4Rate} (hp : p < 6) (hu : pixUp d p = true)
    (hs : (memIfAt d (ifKey p m)).state = 3 ∨ (memIfAt d (ifKey p m)).state = 4) (hr : r < (memIfAt d (ifKey p m)).ranks) :
    Keeps (.limits :: eventParts) eventReg (rateRead d p m r (rateCode rate)) (mr4PollOp d p m r rate) := by
  have hs' : ((memIfAt d (ifKey p m)).state == 3 || (memIfAt d (ifKey p m)).state == 4) = true := by simpa using hs
  have rest : ∀ x, Keeps (.limits :: eventParts) eventReg x (overtempEnd x p m) := fun x => by
    simp [overtempEnd, handled]
  simp only [mr4PollOp, hu, hs', Nat.not_le.mpr hr, Bool.not_true, Bool.or_self, decide_false, Bool.false_eq_true, if_false]
  cases rate with
  | oneOrSlower => exact rest _
  | two => exact rest _
  | faster => exact keeps_raiseLimited _ _ _ _ _ _ _ _ (by simp; omega) (by decide) (by decide) (fun _ _ h => h)

section
variable {d : Device} {p m r rate : Nat}

theorem crossRate_same (h : rate = (rankOf (memIfAt d (ifKey p m)) r).rate ∨ (2 ≤ rate ∧ 2 ≤ (rankOf (memIfAt d (ifKey p m)) r).rate)) :
    crossRate d p m r rate =
      setMemIf d (ifKey p m) (setRank (memIfAt d (ifKey p m)) r { rankOf (memIfAt d (ifKey p m)) r with rate := rate }) := by
  simp only [crossRate, if_pos h]

theorem crossRate_down (h : (rankOf (memIfAt d (ifKey p m)) r).rate ≠ 1) (hr : rate = 1) :
    crossRate d p m r rate =
      debtSeen (setMemIf d (ifKey p m) (setRank (memIfAt d (ifKey p m)) r { rankOf (memIfAt d (ifKey p m)) r with
        debt := ((rankOf (memIfAt d (ifKey p m)) r).debt + 1) / 2, rate := 1,
        last := d.mono - (d.mono - (rankOf (memIfAt d (ifKey p m)) r).last) })) p m
        (((rankOf (memIfAt d (ifKey p m)) r).debt + 1) / 2) := by
  subst hr
  simp only [crossRate, if_true, if_neg (show ¬(1 = (rankOf (memIfAt d (ifKey p m)) r).rate ∨
    2 ≤ 1 ∧ 2 ≤ (rankOf (memIfAt d (ifKey p m)) r).rate) by omega)]

/-- The debt of a rank counted in intervals of the high rate. -/
def debtAtHigh (d : Device) (k : RankUnit) : Nat := 2 * k.debt + (d.mono - k.last) / 1953

theorem crossRate_up (h : ¬ (rate = (rankOf (memIfAt d (ifKey p m)) r).rate ∨ (2 ≤ rate ∧ 2 ≤ (rankOf (memIfAt d (ifKey p m)) r).rate)))
    (h1 : rate ≠ 1) (hd : debtAtHigh d (rankOf (memIfAt d (ifKey p m)) r) ≤ 8) :
    crossRate d p m r rate =
      debtSeen (setMemIf d (ifKey p m) (setRank (memIfAt d (ifKey p m)) r { rankOf (memIfAt d (ifKey p m)) r with
        debt := debtAtHigh d (rankOf (memIfAt d (ifKey p m)) r), rate := rate,
        last := d.mono - (d.mono - (rankOf (memIfAt d (ifKey p m)) r).last) % 1953 })) p m
        (debtAtHigh d (rankOf (memIfAt d (ifKey p m)) r)) := by
  simp only [debtAtHigh] at hd
  simp only [crossRate, debtAtHigh, if_pos hd, if_neg h1, if_neg h]

/-- The number of refreshes of a burst at a crossing. -/
def burstAt (d : Device) (u : MemIfUnit) (r : Nat) : Nat :=
  burstLength 64 (debtAtHigh d (rankOf u r) - 8) (trfc u.density) (1953 - (d.mono - (rankOf u r).last) % 1953)

/-- The interface during a burst of rank r. -/
def bursting (d : Device) (u : MemIfUnit) (r rate : Nat) : MemIfUnit :=
  { refreshed (setRank u r { rankOf u r with
      debt := 8, rate := rate
      last := d.mono - (d.mono - (rankOf u r).last) % 1953 + 1953 * (burstAt d u r - (debtAtHigh d (rankOf u r) - 8)) }) r with
    burstTill := d.mono + burstAt d u r * trfc u.density }

theorem crossRate_burst (h : ¬ (rate = (rankOf (memIfAt d (ifKey p m)) r).rate ∨ (2 ≤ rate ∧ 2 ≤ (rankOf (memIfAt d (ifKey p m)) r).rate)))
    (h1 : rate ≠ 1) (hd : 8 < debtAtHigh d (rankOf (memIfAt d (ifKey p m)) r)) :
    crossRate d p m r rate =
      raiseD (bumpBy (modMem (debtSeen (setMemIf d (ifKey p m) (bursting d (memIfAt d (ifKey p m)) r rate)) p m 8) p
        fun x => { x with
          burstEnd := max x.burstEnd (d.mono + burstAt d (memIfAt d (ifKey p m)) r * trfc (memIfAt d (ifKey p m)).density + 150000) })
        (ifObj p m) 7 1) (p + 2) 33 (ifObj p m) [burstAt d (memIfAt d (ifKey p m)) r] := by
  simp only [debtAtHigh] at hd
  simp only [crossRate, burstAt, bursting, debtAtHigh, if_neg (Nat.not_le.mpr hd), if_neg h1, if_neg h]
  rfl

/-- A crossing to more than eight debts is a burst, and is counted. -/
theorem crossRate_counted (h : ¬ (rate = (rankOf (memIfAt d (ifKey p m)) r).rate ∨ (2 ≤ rate ∧ 2 ≤ (rankOf (memIfAt d (ifKey p m)) r).rate)))
    (h1 : rate ≠ 1) (hd : 8 < debtAtHigh d (rankOf (memIfAt d (ifKey p m)) r)) (hr2 : r < 2) (hp : p < 6) :
    (rankOf (memIfAt (crossRate d p m r rate) (ifKey p m)) r).debt = 8 ∧ Counted d (crossRate d p m r rate) (ifObj p m) 7 1 := by
  rw [crossRate_burst h h1 hd]
  have noted := fun x n => keeps_raiseD (ps := eventParts) (rs := eventReg) x (p + 2) 33 (ifObj p m) [n] (by omega)
    (fun _ h => h) (fun _ _ h => h)
  refine ⟨?_, ((noted _ _).regN (by decide) (not_eventReg_ifObj p m 7)).trans ?_⟩
  · simp only [units_raiseD, units_bumpBy, debtSeen, modMem_eq, units_setMem, units_setN, memIfAt_setMemIf, if_true]
    exact congrArg RankUnit.debt ((rankOf_refreshed _ hr2 hr2).trans (if_pos rfl)) |>.trans (by simp [hr2])
  · simp [regN_bumpBy, debtSeen]

/-- What a crossing to a rate does: the rank has the rate, the rates that wait are as before, and beside the interface it changes
its registers of debt and bursts and the end of a burst on the die. -/
structure Crossed (d e : Device) (p m r rate : Nat) : Prop where
  rate : (rankOf (memIfAt e (ifKey p m)) r).rate = rate
  waiting : waitingRates (memIfAt e (ifKey p m)) = waitingRates (memIfAt d (ifKey p m))
  others : ∀ j, j ≠ ifKey p m → memIfAt e j = memIfAt d j
  mems : ∀ q, q ≠ p → memAt e q = memAt d q
  inForce : (memAt e p).inForce = (memAt d p).inForce
  switching : (memAt e p).switching = (memAt d p).switching
  frame : Keeps (.ifs :: .mems :: eventParts) (debtReg p m) d e

theorem crossed_setMemIf {u : MemIfUnit} (hr : (rankOf u r).rate = rate)
    (hw : waitingRates u = waitingRates (memIfAt d (ifKey p m))) : Crossed d (setMemIf d (ifKey p m) u) p m r rate where
  rate := by simp [hr]
  waiting := by simp [hw]
  others j hj := by simp [hj.symm]
  mems q _ := by simp
  inForce := by simp
  switching := by simp
  frame := by simp

theorem Crossed.debtSeen {e : Device} (h : Crossed d e p m r rate) (debt : Nat) : Crossed d (debtSeen e p m debt) p m r rate := by
  obtain ⟨rate, waiting, others, mems, inForce, switching, frame⟩ := h
  exact ⟨by simpa [Machine.debtSeen] using rate, by simpa [Machine.debtSeen] using waiting, by simpa [Machine.debtSeen] using others,
    by simpa [Machine.debtSeen] using mems, by simpa [Machine.debtSeen] using inForce, by simpa [Machine.debtSeen] using switching,
    keeps_debtSeen.mpr frame⟩

theorem Crossed.burst {e : Device} (h : Crossed d e p m r rate) (hp : p < 6) (b n : Nat) :
    Crossed d (raiseD (bumpBy (setMem e p { memAt e p with burstEnd := b }) (ifObj p m) 7 1) (p + 2) 33 (ifObj p m) [n]) p m r rate := by
  obtain ⟨rate, waiting, others, mems, inForce, switching, frame⟩ := h
  refine ⟨by simpa using rate, by simpa using waiting, by simpa using others, fun q hq => by simpa [hq.symm] using mems q hq,
    by simpa using inForce, by simpa using switching, ?_⟩
  refine (keeps_raiseD_iff (by omega) (by simp) (by simp) (by simp) (by simp) fun _ _ h => Or.inl h).mpr ?_
  refine Keeps.trans ?_ (keeps_bumpBy _ _ _ _ (by decide) (Or.inr ⟨rfl, Or.inr rfl⟩))
  exact (keeps_setMem_iff (by simp)).mpr frame

theorem waitingRates_setRank (u : MemIfUnit) (r : Nat) (v : RankUnit) (h : v.crossing = (rankOf u r).crossing) :
    waitingRates (setRank u r v) = waitingRates u := by
  by_cases e : r = 0 <;> simp_all [waitingRates, setRank, rankOf]

theorem waitingRates_refreshed (u : MemIfUnit) {r : Nat} (hr : r < 2) : waitingRates (refreshed u r) = waitingRates u := by
  rcases eq_of_lt_two hr with rfl | rfl <;> rfl

theorem bursting_reads (u : MemIfUnit) (hr : r < 2) :
    (rankOf (bursting d u r rate) r).rate = rate ∧ waitingRates (bursting d u r rate) = waitingRates u := by
  refine ⟨?_, ?_⟩
  · exact congrArg RankUnit.rate ((rankOf_refreshed _ hr hr).trans (if_pos rfl)) |>.trans (by simp)
  · exact (waitingRates_refreshed _ hr).trans (waitingRates_setRank u r _ rfl)

theorem crossed_crossRate (hp : p < 6) (hr : r < 2) : Crossed d (crossRate d p m r rate) p m r rate := by
  by_cases same : rate = (rankOf (memIfAt d (ifKey p m)) r).rate ∨ (2 ≤ rate ∧ 2 ≤ (rankOf (memIfAt d (ifKey p m)) r).rate)
  · rw [crossRate_same same]
    exact crossed_setMemIf (by simp) (waitingRates_setRank _ _ _ rfl)
  by_cases h1 : rate = 1
  · rw [crossRate_down (by omega) h1]
    refine Crossed.debtSeen ?_ _
    exact crossed_setMemIf (by simp [h1]) (waitingRates_setRank _ _ _ rfl)
  by_cases few : debtAtHigh d (rankOf (memIfAt d (ifKey p m)) r) ≤ 8
  · rw [crossRate_up same h1 few]
    refine Crossed.debtSeen ?_ _
    exact crossed_setMemIf (by simp) (waitingRates_setRank _ _ _ rfl)
  · rw [crossRate_burst same h1 (by omega)]
    obtain ⟨rateIs, waiting⟩ := bursting_reads (d := d) (rate := rate) (memIfAt d (ifKey p m)) hr
    exact ((crossed_setMemIf rateIs waiting).debtSeen 8).burst hp _ _

end

theorem rateRead_of_idle {d : Device} {p : Nat} (m r rate : Nat) (h : (memAt d p).switching = none) :
    rateRead d p m r rate = crossRate d p m r rate := by
  simp [rateRead, h]

theorem rateRead_of_switching {d : Device} {p : Nat} (m r rate : Nat) (h : (memAt d p).switching.isSome = true) :
    rateRead d p m r rate = setMemIf d (ifKey p m) (setRank (memIfAt d (ifKey p m)) r
      { rankOf (memIfAt d (ifKey p m)) r with crossing := some rate }) := by
  simp [rateRead, h]

theorem rateCode_eq_one {rate : Mr4Rate} : rateCode rate = 1 ↔ rate = .oneOrSlower := by cases rate <;> decide

/-- The rate in the words of the statement. -/
theorem rateCode_eq (rate : Mr4Rate) : (match rate with | .oneOrSlower => 1 | .two => 2 | .faster => 3) = rateCode rate := by
  cases rate <;> rfl

/-- Settles O25. -/
theorem refreshDebtAccruesAndCrosses : Obligations.RefreshDebtAccruesAndCrosses := by
  refine ⟨fun dt s d p m r u k hd hu hk hp hs hr hdue => ?_, fun dt s d p m r rate u k f hd hu hk hp hs hr hsw hf => ?_,
    fun dt s d p m r rate u k hd hu hk hp hs hr hsw => ?_⟩
  · refine does_of_act (f := (refreshAccrualOp · p m r)) rfl hd ?_
    clear hd
    subst hk hu
    simp only [refreshAccrualOp_of_due hp hs hr hdue]
    obtain ⟨debt, last, rate, other⟩ := rankOf_accrued d p m r.isLt
    refine ⟨?_, ?_, ?_, ?_, ?_, fun j hj => ?_, keeps_settled ?_⟩
    · simpa using debt
    · simpa using last
    · simpa using rate
    · simpa using other
    · simp [regN_debtSeen]
    · simp [debtSeen, hj.symm]
    · simp [debtSeen]
  · refine does_of_act (f := (mr4PollOp · p m r rate)) rfl hd ?_
    clear hd
    subst hk hu hf
    have after := keeps_settled (keeps_mr4PollOp (rate := rate) p.isLt hp hs hr)
    rw [rateRead_of_idle _ _ _ hsw] at after
    generalize settle (mr4PollOp d p m r rate) = e at after ⊢
    obtain ⟨rateIs, -, others, -, -, -, frame⟩ := crossed_crossRate (d := d) (m := m) (rate := rateCode rate) p.isLt r.isLt
    have ifs := after.memIfAt (by decide)
    simp only [ifs]
    have up : rate ≠ .oneOrSlower → (rankOf (memIfAt d (ifKey p m)) r).rate = 1 →
        ¬ (rateCode rate = (rankOf (memIfAt d (ifKey p m)) r).rate ∨
          (2 ≤ rateCode rate ∧ 2 ≤ (rankOf (memIfAt d (ifKey p m)) r).rate)) := fun hr h1 => by
      rw [h1]
      have := mt rateCode_eq_one.mp hr
      omega
    refine ⟨?_, fun h1 hr few => ?_, fun h1 hr many => ?_, fun h2 hr => ?_, others, ?_⟩
    · rw [rateIs]
      cases rate <;> rfl
    · rw [crossRate_up (up hr h1) (mt rateCode_eq_one.mp hr) few]
      exact ⟨by simp [debtSeen, debtAtHigh], by simp [debtSeen]⟩
    · have counted := crossRate_counted (up hr h1) (mt rateCode_eq_one.mp hr) many r.isLt p.isLt
      exact ⟨counted.1, (after.regN (by decide) (not_eventReg_ifObj p m 7)).trans counted.2⟩
    · rw [crossRate_down (by omega) (rateCode_eq_one.mpr hr)]
      simp [debtSeen]
    · exact (frame.mono (by decide) fun _ _ h => h).trans (after.mono (by decide) fun _ _ h => Or.inl h)
  · refine does_of_act (f := (mr4PollOp · p m r rate)) rfl hd ?_
    clear hd
    subst hk hu
    have after := keeps_settled (keeps_mr4PollOp (rate := rate) p.isLt hp hs hr)
    rw [rateRead_of_switching _ _ _ hsw] at after
    generalize settle (mr4PollOp d p m r rate) = e at after ⊢
    have ifs := after.memIfAt (by decide)
    simp only [ifs]
    refine ⟨?_, fun j hj => ?_, ?_⟩
    · cases rate <;> simp [rateCode]
    · simp [hj.symm]
    · exact Keeps.trans (by simp) (after.mono (by decide) fun _ _ h => h)

/-! ### Bring-up and training (R218, R229, R230) -/

theorem ifKey_inj {p m n : Nat} : ifKey p m = ifKey p n ↔ m = n := by simp [ifKey]

theorem bringUp_eq_setMemIf (d : Device) (p : Nat) (org : Option (Nat × Nat)) (m : Nat) (r : TrainResult) :
    ∃ u, bringUp d p org m r = setMemIf d (ifKey p m) u := by
  cases r with
  | notPresent => exact ⟨_, rfl⟩
  | failed => exact ⟨_, rfl⟩
  | trained a b =>
    simp only [bringUp]
    split
    · exact ⟨_, rfl⟩
    · exact ⟨_, rfl⟩

theorem keeps_bringUpAll (p : Nat) (org : Option (Nat × Nat)) (l : List TrainResult) (m : Nat) (d : Device) :
    Keeps [.ifs] noReg d (bringUpAll d p org m l) := by
  induction l generalizing m d with
  | nil => exact keeps_self
  | cons r l ih =>
    obtain ⟨u, hu⟩ := bringUp_eq_setMemIf d p org m r
    rw [bringUpAll, hu]
    exact Keeps.trans (by simp) (ih (m + 1) _)

/-- Bring-up from interface m on leaves those before it. -/
theorem memIfAt_bringUpAll_of_lt (p : Nat) (org : Option (Nat × Nat)) (l : List TrainResult) {m k : Nat} (h : k < m) (d : Device) :
    memIfAt (bringUpAll d p org m l) (ifKey p k) = memIfAt d (ifKey p k) := by
  induction l generalizing m d with
  | nil => rfl
  | cons r l ih =>
    obtain ⟨u, hu⟩ := bringUp_eq_setMemIf d p org m r
    rw [bringUpAll, ih (by omega), hu, memIfAt_setMemIf, if_neg (by simp [ifKey_inj]; omega)]

/-- Each interface ends bring-up as its own result says. -/
theorem memIfAt_bringUpAll (p : Nat) (org : Option (Nat × Nat)) (l : List TrainResult) (m : Nat) (d : Device) {j : Nat}
    {r : TrainResult} (h : l[j]? = some r) :
    ∃ x, memIfAt (bringUpAll d p org m l) (ifKey p (m + j)) = memIfAt (bringUp x p org (m + j) r) (ifKey p (m + j)) := by
  induction l generalizing m d j with
  | nil => simp at h
  | cons a l ih =>
    cases j with
    | zero =>
      cases (show a = r by simpa using h)
      exact ⟨d, memIfAt_bringUpAll_of_lt p org l (by omega) _⟩
    | succ j =>
      obtain ⟨x, hx⟩ := ih (m + 1) (bringUp d p org m a) (show l[j]? = some r by simpa using h)
      rw [show m + (j + 1) = m + 1 + j by omega]
      exact ⟨x, hx⟩

/-- The state in which bring-up leaves an interface. -/
def upState (a b : Nat) : TrainResult → Nat
  | .notPresent => 1
  | .failed => 6
  | .trained x y => if x = a ∧ y = b then 3 else 6

theorem state_bringUp (d : Device) (p a b m : Nat) (r : TrainResult) :
    (memIfAt (bringUp d p (some (a, b)) m r) (ifKey p m)).state = upState a b r := by
  cases r with
  | notPresent => simp [bringUp, upState]
  | failed => simp [bringUp, upState]
  | trained x y =>
    simp only [bringUp, upState, Option.some.injEq, Prod.mk.injEq, eq_comm (a := a), eq_comm (a := b)]
    split <;> simp

theorem organisation_bringUp (d : Device) (p a b m : Nat) :
    (memIfAt (bringUp d p (some (a, b)) m (.trained a b)) (ifKey p m)).density = a ∧
    (memIfAt (bringUp d p (some (a, b)) m (.trained a b)) (ifKey p m)).ranks = b := by
  simp [bringUp]

theorem keeps_bringEvents {d : Device} {p : Nat} (hp : p < 6) (org : Option (Nat × Nat)) (res : List TrainResult) :
    Keeps eventParts eventReg d (bringEvents d p org res) := by
  refine Keeps.trans (keeps_forEach _ _ (fun x e _ => ?_) d) (keeps_forEach _ _ (fun x e _ => ?_) _)
  · cases e.1 with
    | failed => simp [handled, show p + 2 < 8 by omega]
    | _ => exact keeps_self
  · cases e.1 with
    | trained a b =>
      simp only [keeps_ite, keeps_self, implies_true, true_and]
      exact fun _ => keeps_raise _ _ _ _ (by simp; omega) (fun _ h => h) (fun _ _ h => h)
    | _ => exact keeps_self

/-- The interfaces that trained with the die's organisation place pages. -/
theorem length_ifsPlacing_bringUpAll (d : Device) (p a b : Nat) {res : List TrainResult} (hl : res.length = 4) :
    (ifsPlacing (bringUpAll d p (some (a, b)) 0 res) p).length = res.countP (· == .trained a b) := by
  have state : ∀ m r, res[m]? = some r →
      ((memIfAt (bringUpAll d p (some (a, b)) 0 res) (ifKey p m)).state == 3) = (r == .trained a b) := fun m r h => by
    obtain ⟨x, hx⟩ := memIfAt_bringUpAll p (some (a, b)) res 0 d h
    rw [Nat.zero_add] at hx
    rw [hx, state_bringUp]
    cases r with
    | trained g n =>
      by_cases e : g = a ∧ n = b
      · obtain ⟨rfl, rfl⟩ := e
        simp [upState]
      · have other : ¬ TrainResult.trained g n = .trained a b := fun h => e ⟨(TrainResult.trained.inj h).1, (TrainResult.trained.inj h).2⟩
        rw [beq_eq_false_iff_ne.mpr other]
        simp [upState, if_neg e]
    | _ => simp [upState]
  have indexed : res = (List.range 4).map fun m => res.getD m .failed := by
    rw [← hl]
    exact List.ext_getElem (by simp) fun i h _ => by simp [h]
  rw [ifsPlacing, ← List.countP_eq_length_filter]
  have counted : res.countP (· == .trained a b) = (List.range 4).countP ((· == .trained a b) ∘ fun m => res.getD m .failed) :=
    (congrArg (List.countP _) indexed).trans List.countP_map
  rw [counted]
  refine List.countP_congr fun m hm => ?_
  have hm : m < res.length := hl ▸ List.mem_range.mp hm
  simp [state m res[m] (List.getElem?_eq_getElem hm), hm]

/-- The die at the end of a bring-up of enough interfaces, its events still to come. -/
def broughtUp (d : Device) (p : Nat) (res : List TrainResult) : Device :=
  let x := bringUpAll d p (firstOrg res) 0 res
  setN (modMem x p fun u => { u with inForce := wantFsp x p, latency := targetsUs x p }) (memObj p) 2 (regN x (memObj p) 1)

theorem memTrainingDoneOp_of_enough {d : Device} {p a b : Nat} {res : List TrainResult} (hp : pixUp d p = true)
    (h0 : (memAt d p).inForce = 0) (hl : res.length = 4) (ho : firstOrg res = some (a, b))
    (hc : 3 ≤ res.countP (· == .trained a b)) :
    memTrainingDoneOp d p res = bringEvents (broughtUp d p res) p (firstOrg res) res := by
  have enough : ¬ (ifsPlacing (broughtUp d p res) p).length < 3 := by
    have same : ifsPlacing (broughtUp d p res) p = ifsPlacing (bringUpAll d p (firstOrg res) 0 res) p := by
      simp [ifsPlacing, broughtUp]
    rw [same, ho, length_ifsPlacing_bringUpAll d p a b hl]
    omega
  have shape : memTrainingDoneOp d p res = if !pixUp d p || (memAt d p).inForce != 0 || res.length != 4 then d
      else memEnough (broughtUp d p res) p fun d => bringEvents d p (firstOrg res) res := rfl
  simp [shape, hp, h0, hl, memEnough, enough]

theorem memTrainingDone_brings {d : Device} {p a b : Nat} {res : List TrainResult} (hp : p < 6) (hu : pixUp d p = true)
    (h0 : (memAt d p).inForce = 0) (hl : res.length = 4) (ho : firstOrg res = some (a, b))
    (hc : 3 ≤ res.countP (· == .trained a b)) :
    (∀ m r, res[m]? = some r → (memIfAt (memTrainingDoneOp d p res) (ifKey p m)).state = upState a b r) ∧
    (∀ m, res[m]? = some (.trained a b) → (memIfAt (memTrainingDoneOp d p res) (ifKey p m)).density = a ∧
      (memIfAt (memTrainingDoneOp d p res) (ifKey p m)).ranks = b) ∧
    (memAt (memTrainingDoneOp d p res) p).inForce = wantFsp d p ∧
    regN (memTrainingDoneOp d p res) (memObj p) 2 = regN d (memObj p) 1 ∧
    Keeps (.ifs :: .mems :: eventParts) (fun x i => eventReg x i ∨ (x = memObj p ∧ i = 2)) d (memTrainingDoneOp d p res) := by
  have up := keeps_bringUpAll p (some (a, b)) res 0 d
  have events := keeps_bringEvents (d := broughtUp d p res) hp (firstOrg res) res
  rw [memTrainingDoneOp_of_enough hu h0 hl ho hc]
  have ifs : ∀ k, memIfAt (bringEvents (broughtUp d p res) p (firstOrg res) res) k = memIfAt (bringUpAll d p (some (a, b)) 0 res) k := by
    intro k
    rw [events.memIfAt (by decide)]
    simp [broughtUp, ho]
  have want : wantFsp (bringUpAll d p (some (a, b)) 0 res) p = wantFsp d p := by
    simp only [wantFsp, dieStage, up.regN (show 3 < 256 by decide) id, up.railAt (by simp)]
  have one : regN (bringUpAll d p (some (a, b)) 0 res) (memObj p) 1 = regN d (memObj p) 1 := up.regN (by decide) id
  have free : ¬ eventReg (memObj p) 2 := by
    simp only [eventReg, memObj, pobj]
    omega
  refine ⟨fun m r h => ?_, fun m h => ?_, ?_, ?_, ?_⟩
  · obtain ⟨x, hx⟩ := memIfAt_bringUpAll p (some (a, b)) res 0 d h
    rw [Nat.zero_add] at hx
    rw [ifs, hx, state_bringUp]
  · obtain ⟨x, hx⟩ := memIfAt_bringUpAll p (some (a, b)) res 0 d h
    rw [Nat.zero_add] at hx
    rw [ifs, hx]
    exact organisation_bringUp ..
  · rw [events.memAt (by decide)]
    simp [broughtUp, ho, want]
  · rw [events.regN (by decide) free]
    simp [broughtUp, ho, one]
  · refine Keeps.trans ?_ (events.mono (by decide) fun _ _ h => Or.inl h)
    simp only [broughtUp, ho, modMem_eq]
    rw [keeps_setN_iff (by decide) (Or.inr ⟨rfl, rfl⟩), keeps_setMem_iff (by simp)]
    exact up.mono (by simp) fun _ _ h => h.elim

theorem any_step_eq_false {d : Device} {p : Nat} (h : ∀ j, j < 4 → (memIfAt d (ifKey p j)).step = none) :
    ((List.range 4).any fun j => (memIfAt d (ifKey p j)).step.isSome) = false := by
  simp only [List.any_eq_false, List.mem_range]
  intro j hj
  simp [h j hj]

/-- An interface at the start of a training step for set point f. -/
def stepping (now inForce f : Nat) (u : MemIfUnit) : MemIfUnit :=
  if f = inForce then { u with step := some f, ownStep := some now, stepped := [] }
  else { u with step := some f, stepped := u.stepped ++ [f] }

theorem trainingStepOp_of_due {d : Device} {p m f : Nat} (hp : pixUp d p = true)
    (hs : (memIfAt d (ifKey p m)).state = 3 ∨ (memIfAt d (ifKey p m)).state = 4)
    (hf : ∀ j, j < 4 → (memIfAt d (ifKey p j)).step = none) (hpend : (memAt d p).pending = none)
    (hsw : (memAt d p).switching = none) (hdue : stepDue d p m (f + 1) = true) :
    trainingStepOp d p m f =
      setMemIf d (ifKey p m) (stepping d.mono (memAt d p).inForce (f + 1) (memIfAt d (ifKey p m))) := by
  have hs' : ((memIfAt d (ifKey p m)).state == 3 || (memIfAt d (ifKey p m)).state == 4) = true := by simpa using hs
  simp only [trainingStepOp, hp, hs', any_step_eq_false hf, hpend, hsw, hdue, stepping, Bool.not_true, Bool.or_self,
    Option.isSome_none, Bool.false_eq_true, if_false, modMemIf_eq]
  split <;> rfl

/-- What MemIfTrainResult reads after a step. -/
def stepCode : StepResult → Nat
  | .pass => 1
  | .outOfRange => 2
  | .noResponse => 3

/-- The interface whose step has ended: its run of failures is of the set point in force alone. -/
def stepOver (inForce f : Nat) (res : StepResult) (u : MemIfUnit) : MemIfUnit :=
  { u with step := none, failRun := if f = inForce then (if res = .pass then 0 else u.failRun + 1) else u.failRun }

/-- The result is shown and the step has ended. -/
def stepEnded (d : Device) (p m f : Nat) (res : StepResult) : Device :=
  setMemIf (setN d (ifObj p m) 9 (stepCode res)) (ifKey p m) (stepOver (memAt d p).inForce f res (memIfAt d (ifKey p m)))

/-- Whether the failed step is the third in a row of an interface in service that is not retiring. -/
def thirdFailure (d : Device) (p m f : Nat) : Prop :=
  f = (memAt d p).inForce ∧ (memIfAt d (ifKey p m)).failRun = 2 ∧ (memIfAt d (ifKey p m)).state = 3 ∧
    (memIfAt d (ifKey p m)).retiring = false

theorem armedStart_of_idle {d : Device} {p : Nat} (h : (memAt d p).armed = false) : armedStart d p = d := by
  simp only [armedStart]
  split
  · simp [h]
  · rfl

theorem keepDelays_memAt (d : Device) (p m f j : Nat) : memAt (keepDelays d p m f) j = memAt d j := by
  simp only [keepDelays]
  split
  · simp
  · split <;> simp

theorem trainingStepEndOp_of_pass {d : Device} {p m f : Nat} (hf : (memIfAt d (ifKey p m)).step = some f) :
    trainingStepEndOp d p m .pass = armedStart (keepDelays (stepEnded d p m f .pass) p m f) p := by
  simp [trainingStepEndOp, hf, stepEnded, stepOver, stepCode]

/-- The counted failure of a step, with what a third one in a row brings. -/
def stepFailed (d : Device) (p m f : Nat) (res : StepResult) : Device :=
  let x := bumpBy (stepEnded d p m f res) (ifObj p m) 8 1
  if f = (memAt d p).inForce ∧ 3 ≤ (memIfAt x (ifKey p m)).failRun ∧ (memIfAt d (ifKey p m)).state = 3 ∧
      (memIfAt d (ifKey p m)).retiring = false ∧ (memIfAt d (ifKey p m)).failRun < 3 then interfaceFailing x p m else x

theorem trainingStepEndOp_of_fail {d : Device} {p m f : Nat} {res : StepResult} (hf : (memIfAt d (ifKey p m)).step = some f)
    (hr : res ≠ .pass) :
    trainingStepEndOp d p m res = armedStart (raise (stepFailed d p m f res) (p + 2) 34 (ifObj p m)) p := by
  cases res with
  | pass => exact absurd rfl hr
  | _ => simp [trainingStepEndOp, hf, stepEnded, stepOver, stepCode, stepFailed]

theorem lastInterfaces_congr {d e : Device} (p m : Nat)
    (h : ∀ k, (memIfAt e k).state = (memIfAt d k).state ∧ (memIfAt e k).retiring = (memIfAt d k).retiring) :
    lastInterfaces e p m = lastInterfaces d p m := by
  have state := fun k => (h k).1
  have retiring := fun k => (h k).2
  have left : ((ifsPlacing e p).filter fun k => k != m && !(memIfAt e (ifKey p k)).retiring) =
      (ifsPlacing d p).filter fun k => k != m && !(memIfAt d (ifKey p k)).retiring := by
    simp only [ifsPlacing, state, retiring]
  rw [lastInterfaces, left, lastInterfaces]

section
variable {d : Device} {p m f : Nat} {res : StepResult}

/-- Of a failed step the interface shows the end and the run of failures; its state and retirement are as before. -/
theorem memIfAt_stepEnded (j : Nat) :
    memIfAt (bumpBy (stepEnded d p m f res) (ifObj p m) 8 1) j =
      if ifKey p m = j then stepOver (memAt d p).inForce f res (memIfAt d (ifKey p m)) else memIfAt d j := by
  simp [stepEnded]

theorem stepFailed_of_first (hr : res ≠ .pass) (h : ¬ thirdFailure d p m f) :
    stepFailed d p m f res = bumpBy (stepEnded d p m f res) (ifObj p m) 8 1 := by
  refine if_neg fun ⟨own, many, state, retiring, few⟩ => h ⟨own, ?_, state, retiring⟩
  rw [memIfAt_stepEnded, if_pos rfl] at many
  simp only [stepOver, if_pos own, if_neg hr] at many
  omega

theorem stepFailed_of_third (hr : res ≠ .pass) (h : thirdFailure d p m f) :
    stepFailed d p m f res = interfaceFailing (bumpBy (stepEnded d p m f res) (ifObj p m) 8 1) p m := by
  obtain ⟨own, run, state, retiring⟩ := h
  refine if_pos ⟨own, ?_, state, retiring, by omega⟩
  rw [memIfAt_stepEnded, if_pos rfl]
  simp [stepOver, own, hr, run]

theorem interfaceFailing_of_room (h : regT d (memObj p) 0x0B = true) (hl : lastInterfaces d p m = false) :
    interfaceFailing d p m = setMemIf d (ifKey p m) { memIfAt d (ifKey p m) with retiring := true } := by
  simp [interfaceFailing, h, hl, retireBegin]

/-- An interface that fails is retired or reported. -/
theorem interfaceFailing_cases (d : Device) (p m : Nat) :
    interfaceFailing d p m = setMemIf d (ifKey p m) { memIfAt d (ifKey p m) with retiring := true } ∨
    interfaceFailing d p m = raise d (p + 2) 35 (ifObj p m) := by
  simp only [interfaceFailing]
  split
  · exact Or.inl rfl
  · exact Or.inr rfl

/-- A step's registers and its end stand whatever its failure brings. -/
theorem stepFailed_reads (hp : p < 6) (hr : res ≠ .pass) :
    (memIfAt (stepFailed d p m f res) (ifKey p m)).step = none ∧
    (memIfAt (stepFailed d p m f res) (ifKey p m)).failRun =
      (stepOver (memAt d p).inForce f res (memIfAt d (ifKey p m))).failRun ∧
    regN (stepFailed d p m f res) (ifObj p m) 9 = stepCode res ∧ Counted d (stepFailed d p m f res) (ifObj p m) 8 1 ∧
    (∀ j, memAt (stepFailed d p m f res) j = memAt d j) ∧
    Keeps (.ifs :: eventParts) (fun x i => eventReg x i ∨ (x = ifObj p m ∧ (i = 8 ∨ i = 9))) d (stepFailed d p m f res) := by
  have base : (memIfAt (bumpBy (stepEnded d p m f res) (ifObj p m) 8 1) (ifKey p m)) =
      stepOver (memAt d p).inForce f res (memIfAt d (ifKey p m)) := (memIfAt_stepEnded _).trans (if_pos rfl)
  have nine : regN (bumpBy (stepEnded d p m f res) (ifObj p m) 8 1) (ifObj p m) 9 = stepCode res := by
    simp [stepEnded]
  have eight : Counted d (bumpBy (stepEnded d p m f res) (ifObj p m) 8 1) (ifObj p m) 8 1 := by
    simp [Counted, regN_bumpBy, stepEnded]
  have mems : ∀ j, memAt (bumpBy (stepEnded d p m f res) (ifObj p m) 8 1) j = memAt d j := fun j => by simp [stepEnded]
  have frame : Keeps (.ifs :: eventParts) (fun x i => eventReg x i ∨ (x = ifObj p m ∧ (i = 8 ∨ i = 9))) d
      (bumpBy (stepEnded d p m f res) (ifObj p m) 8 1) := by
    simp [stepEnded]
  by_cases third : thirdFailure d p m f
  · rw [stepFailed_of_third hr third]
    rcases interfaceFailing_cases (bumpBy (stepEnded d p m f res) (ifObj p m) 8 1) p m with h | h
    · rw [h]
      generalize bumpBy (stepEnded d p m f res) (ifObj p m) 8 1 = x at *
      refine ⟨by simp [base, stepOver], by simp [base], by simpa using nine, by simpa [Counted] using eight, fun j => by simpa using mems j, ?_⟩
      simpa using frame
    · rw [h]
      have noted := keeps_raise (ps := eventParts) (rs := eventReg) (bumpBy (stepEnded d p m f res) (ifObj p m) 8 1) (p + 2) 35
        (ifObj p m) (by omega) (fun _ h => h) (fun _ _ h => h)
      generalize raise (bumpBy (stepEnded d p m f res) (ifObj p m) 8 1) (p + 2) 35 (ifObj p m) = y at noted ⊢
      refine ⟨?_, ?_, ?_, ?_, fun j => ?_, frame.trans (noted.mono (by decide) fun _ _ h => Or.inl h)⟩
      · rw [noted.memIfAt (by decide), base, stepOver]
      · rw [noted.memIfAt (by decide), base]
      · rw [noted.regN (show 9 < 256 by decide) (not_eventReg_ifObj p m 9), nine]
      · rw [Counted, noted.regN (show 8 < 256 by decide) (not_eventReg_ifObj p m 8), eight]
      · rw [noted.memAt (by decide), mems]
  · rw [stepFailed_of_first hr third]
    exact ⟨by rw [base, stepOver], by rw [base], nine, eight, mems, frame⟩

end

section
variable {d : Device} {p m f : Nat}

/-- The delays of a step that passed are stored, and with the set point in force are to be used from the next refresh. -/
theorem keepDelays_reads (x : Device) (h : (memAt x p).armed = false) :
    tget (memIfAt (keepDelays x p m f) (ifKey p m)).stored f 0 = delayAt (ifKey p m) f x.mono ∧
    (f = (memAt x p).inForce →
      (memIfAt (keepDelays x p m f) (ifKey p m)).rank0.fresh = some (delayAt (ifKey p m) f x.mono) ∧
      (memIfAt (keepDelays x p m f) (ifKey p m)).rank1.fresh = some (delayAt (ifKey p m) f x.mono)) := by
  by_cases own : f = (memAt x p).inForce
  · simp [keepDelays, ← own, h]
  · simp [keepDelays, own]

/-- Apart from the delays a step that passed leaves the interface and every other as they were. -/
theorem keepDelays_frame (x : Device) :
    (memIfAt (keepDelays x p m f) (ifKey p m)).step = (memIfAt x (ifKey p m)).step ∧
    (memIfAt (keepDelays x p m f) (ifKey p m)).failRun = (memIfAt x (ifKey p m)).failRun ∧
    Keeps [.ifs] noReg x (keepDelays x p m f) := by
  simp only [keepDelays]
  split
  · simp
  · split <;> simp

theorem stepEnded_mem (res : StepResult) (j : Nat) : memAt (stepEnded d p m f res) j = memAt d j := by simp [stepEnded]

end

/-! ### Set points (R231 to R236) -/

/-- The start of a switch: its set point is no longer pending. -/
def switched (d : Device) (p f : Nat) : MemUnit :=
  let x := memAt d p
  { x with pending := none, switching := some f, armed := false, scheduled := false, lateRun := x.scheduled
           switchEnd := if x.scheduled then d.mono + 1000000000 else x.switchEnd }

/-- At the start of a switch every interface of the die has its ranks refreshed; no other is touched. -/
theorem memIfAt_fspBegin (d : Device) (p f k : Nat) :
    memIfAt (fspBegin d p f) k = if k / 4 = p then refreshAll (memIfAt d k) else memIfAt d k := by
  have untouched : refreshAll MemIfUnit.reset = MemIfUnit.reset := rfl
  have shape : memIfAt (fspBegin d p f) k = tget (tmap (fun k u => if k / 4 = p then refreshAll u else u) d.ifs) k MemIfUnit.reset := rfl
  rw [shape, memIfAt, tget_eq, tget_eq, tfind_tmap]
  cases tfind d.ifs k with
  | none => simp [untouched]
  | some u => rfl

theorem memAt_fspBegin (d : Device) (p f q : Nat) : memAt (fspBegin d p f) q = if p = q then switched d p f else memAt d q := by
  simp only [fspBegin, modMem_eq, memAt_setMem]
  rfl

theorem keeps_fspBegin (d : Device) (p f : Nat) : Keeps [.ifs, .mems] noReg d (fspBegin d p f) := by
  simp only [fspBegin, modMem_eq]
  rw [keeps_setMem_iff (by simp)]
  exact keeps_ifs _ _ (by simp)

/-- Refreshed ranks owe nothing and have no row open. -/
theorem refreshAll_reads (u : MemIfUnit) :
    (refreshAll u).rank0.debt = 0 ∧ (refreshAll u).rank1.debt = 0 ∧ (refreshAll u).openRows = [] ∧
    (refreshAll u).state = u.state ∧ (refreshAll u).step = u.step ∧ (refreshAll u).stored = u.stored := ⟨rfl, rfl, rfl, rfl, rfl, rfl⟩

/-- Settles O26. -/
theorem interfacesTrainAndRetrain : Obligations.InterfacesTrainAndRetrain := by
  refine ⟨fun dt s d p res a b hd hp h0 hl ho hc => ?_, fun dt s d p m f hd hp hs hf hpend hsw hdue => ?_,
    fun dt s d p m res f u hd hu hf ha => ?_, fun dt s d p m f g hd hf ha hpend hsw hb => ?_⟩
  · refine does_of_act (f := (memTrainingDoneOp · p res)) rfl hd ?_
    clear hd
    obtain ⟨state, org, force, limit, frame⟩ := memTrainingDone_brings p.isLt hp h0 hl ho hc
    refine ⟨fun m r h => ?_, org, force, ?_, keeps_settled frame⟩
    · rw [memIfAt_settle, state m r h]
      cases r <;> rfl
    · rw [regN_settle _ _ _ (by decide), limit]
  · refine does_of_act (f := (trainingStepOp · p m f)) rfl hd ?_
    clear hd
    simp only [trainingStepOp_of_due hp hs hf hpend hsw hdue]
    exact ⟨by simp [stepping], fun j hj => by simp [hj.symm], by simp⟩
  · refine does_of_act (f := (trainingStepEndOp · p m res)) rfl hd ?_
    clear hd
    subst hu
    by_cases hr : res = .pass
    · subst hr
      have idle : (memAt (keepDelays (stepEnded d p m f .pass) p m f) p).armed = false := by
        rw [keepDelays_memAt, stepEnded_mem, ha]
      simp only [trainingStepEndOp_of_pass hf, armedStart_of_idle idle]
      obtain ⟨stored, fresh⟩ := keepDelays_reads (m := m) (f := f) (stepEnded d p m f .pass) (p := p) (by rw [stepEnded_mem, ha])
      obtain ⟨done, run, frame⟩ := keepDelays_frame (m := m) (f := f) (p := p) (stepEnded d p m f .pass)
      have base : ∀ j, memIfAt (stepEnded d p m f .pass) j = if ifKey p m = j then
          stepOver (memAt d p).inForce f .pass (memIfAt d (ifKey p m)) else memIfAt d j := fun j => by simp [stepEnded]
      refine ⟨?_, fun _ => ?_, fun _ own => ?_, ?_, ?_, fun h => absurd rfl h, fun h => absurd rfl h, fun h => absurd rfl h,
        keeps_settled ?_⟩
      · rw [memIfAt_settle, done, base, if_pos rfl, stepOver]
      · rw [memIfAt_settle, stored]
        simp [stepEnded]
      · rw [memIfAt_settle]
        simpa [stepEnded] using fresh (by rw [stepEnded_mem, own])
      · rw [regN_settle _ _ _ (by decide), frame.regN (by decide) id]
        simp [stepEnded, stepCode]
      · rw [memIfAt_settle, run, base, if_pos rfl]
        rfl
      · refine Keeps.trans ?_ (frame.mono (by simp) fun _ _ h => h.elim)
        simp [stepEnded]
    · have idle : (memAt (raise (stepFailed d p m f res) (p + 2) 34 (ifObj p m)) p).armed = false := by
        simp [(stepFailed_reads (d := d) (m := m) (f := f) p.isLt hr).2.2.2.2.1, ha]
      simp only [trainingStepEndOp_of_fail hf hr, armedStart_of_idle idle]
      have reads := stepFailed_reads (d := d) (m := m) (f := f) p.isLt hr
      obtain ⟨done, run, nine, eight, -, frame⟩ := reads
      have noted := keeps_settled (keeps_raise (ps := eventParts) (rs := eventReg) (stepFailed d p m f res) (p + 2) 34 (ifObj p m)
        (by omega) (fun _ h => h) (fun _ _ h => h))
      have ifs := noted.memIfAt (by decide)
      refine ⟨?_, fun h => absurd h hr, fun h => absurd h hr, ?_, ?_, fun _ => ?_, fun _ few => ?_, fun _ own run state stay room hl => ?_,
        frame.trans (noted.mono (by decide) fun _ _ h => Or.inl h)⟩
      · rw [ifs, done]
      · rw [noted.regN (show 9 < 256 by decide) (not_eventReg_ifObj p m 9), nine]
        cases res <;> rfl
      · rw [ifs, run]
        rfl
      · rw [Counted, noted.regN (show 8 < 256 by decide) (not_eventReg_ifObj p m 8), eight]
      · rw [stepFailed_of_first hr fun third => by have := third.2.1; omega]
        exact recorded_settle.mpr (recorded_raise_of (by simp [stepEnded]) _ (by decide))
      · rw [ifs, stepFailed_of_third hr ⟨own, run, state, stay⟩, interfaceFailing_of_room]
        · simp
        · simpa [stepEnded, memObj, ifObj, pobj] using room
        · rw [← hl]
          refine lastInterfaces_congr p m fun k => ?_
          rw [memIfAt_stepEnded]
          split
          · next h => simp [stepOver, h]
          · exact ⟨rfl, rfl⟩
  · refine does_of_act (f := (trainingStepEndOp · p m .pass)) rfl hd ?_
    clear hd
    have mem := fun j => (keepDelays_memAt (stepEnded d p m f .pass) p m f j).trans (stepEnded_mem .pass j)
    have kept : f = (memAt d p).inForce → keepDelays (stepEnded d p m f .pass) p m f = stepEnded d p m f .pass := fun own => by
      simp [keepDelays, stepEnded, own, ha]
    obtain ⟨done, -, frame⟩ := keepDelays_frame (m := m) (f := f) (p := p) (stepEnded d p m f .pass)
    have mono : (keepDelays (stepEnded d p m f .pass) p m f).mono = d.mono := by
      rw [frame.mono_eq (by simp)]
      rfl
    have start : trainingStepEndOp d p m .pass = fspBegin (keepDelays (stepEnded d p m f .pass) p m f) p g := by
      simp [trainingStepEndOp_of_pass hf, armedStart, mem, ha, hpend, hsw, hb, mono]
    simp only [start]
    have mine : ifKey p m / 4 = p := by
      simp only [ifKey]
      omega
    refine ⟨?_, ?_, ?_, fun own => ?_, fun q hq => ?_, keeps_settled ?_⟩
    · rw [memIfAt_settle, memIfAt_fspBegin, if_pos mine, (refreshAll_reads _).2.2.2.2.1, done]
      simp [stepEnded, stepOver]
    · rw [memAt_settle, memAt_fspBegin, if_pos rfl, switched]
    · rw [memAt_settle, memAt_fspBegin, if_pos rfl, switched]
    · rw [memIfAt_settle, memIfAt_fspBegin, if_pos mine, (refreshAll_reads _).2.2.2.2.2, kept own]
      simp [stepEnded, stepOver]
    · rw [memAt_settle, memAt_fspBegin, if_neg hq.symm, mem]
    · refine Keeps.trans ?_ ((frame.mono (by simp) fun _ _ h => h.elim).trans ((keeps_fspBegin _ _ _).mono (by simp) fun _ _ h => h.elim))
      simp [stepEnded]

/-- The admission object of a die, and the counters of events. -/
def admissionReg (p : Nat) : Nat → Nat → Prop := fun x i => eventReg x i ∨ x = 0x3040 + 0x100 * p

theorem keeps_admissionShow (d : Device) (p : Nat) : Keeps [] (admissionReg p) d (admissionShow d p) := by
  have put : ∀ (x : Device) (i n : Nat), i < 256 → Keeps [] (admissionReg p) x (setN x (pobj 0x3040 p) i n) := fun x i n hi =>
    keeps_setN x _ i n hi (Or.inr rfl)
  have putB : ∀ (x : Device) (i : Nat) (l : List Byte), i < 256 → Keeps [] (admissionReg p) x (setB x (pobj 0x3040 p) i l) := fun x i n hi =>
    keeps_setB x _ i n hi (Or.inr rfl)
  exact (put _ _ _ (by decide)).trans <| (put _ _ _ (by decide)).trans <| (put _ _ _ (by decide)).trans <|
    (put _ _ _ (by decide)).trans <| (put _ _ _ (by decide)).trans <| (put _ _ _ (by decide)).trans <|
    (put _ _ _ (by decide)).trans <| (put _ _ _ (by decide)).trans (putB _ _ _ (by decide))

/-- The check of declared traffic changes its object, and reports an excess. -/
theorem keeps_admissionCheck (d : Device) {p : Nat} (hp : p < 6) : Keeps eventParts (admissionReg p) d (admissionCheck d p) := by
  have shown := (keeps_admissionShow d p).mono (qs := eventParts) (by simp) fun _ _ h => h
  simp only [admissionCheck, keeps_ite, keeps_self, implies_true, true_and]
  refine fun _ => ⟨fun _ => ⟨fun _ => shown, fun _ => ?_⟩, fun _ => ?_⟩
  · refine (keeps_raise_iff (by simp; omega) (by simp) (by simp) (by simp) (by simp) fun _ _ h => Or.inl h).mpr ?_
    exact (keeps_setN_iff (by decide) (Or.inr rfl)).mpr shown
  · exact (keeps_setN_iff (by decide) (Or.inr rfl)).mpr shown

theorem not_admissionReg_memObj {p i : Nat} (hp : p < 6) : ¬ admissionReg p (memObj p) i := by
  simp only [admissionReg, eventReg, memObj, pobj]
  omega

/-! What is left of an interface when it serves and refreshes: the crossings that its ranks wait for. -/

/-- The crossings that wait for the ranks of an interface. -/
def crossings (u : MemIfUnit) : Option Nat × Option Nat := (u.rank0.crossing, u.rank1.crossing)

/-- An interface that takes a request changes what it serves and which rows are open, if anything. -/
theorem serveIf_cases (d : Device) (p m : Nat) :
    serveIf d p m = d ∨ ∃ r rows, serveIf d p m =
      setMemIf d (ifKey p m) { memIfAt d (ifKey p m) with serving := some r, openRows := rows } := by
  simp only [serveIf]
  split
  · exact Or.inl rfl
  · split
    · exact Or.inl rfl
    · exact Or.inr ⟨_, _, rfl⟩

theorem keeps_serveIf (d : Device) (p m : Nat) : Keeps [.ifs] noReg d (serveIf d p m) := by
  obtain h | ⟨r, rows, h⟩ := serveIf_cases d p m <;> simp [h]

theorem waitingRates_serveIf (d : Device) (p m j : Nat) :
    waitingRates (memIfAt (serveIf d p m) j) = waitingRates (memIfAt d j) := by
  obtain h | ⟨r, rows, h⟩ := serveIf_cases d p m
  · rw [h]
  · rw [h, memIfAt_setMemIf]
    split
    · next e => simp [waitingRates, e]
    · rfl

theorem keeps_serveAll (d : Device) (p : Nat) : Keeps [.ifs] noReg d (serveAll d p) :=
  keeps_forEach _ _ (fun x m _ => keeps_serveIf x p m) d

/-- What every round of a loop keeps, the loop keeps. -/
theorem forEach_keeps {α β : Type} (read : Device → β) (f : Device → α → Device) (l : List α)
    (h : ∀ d x, x ∈ l → read (f d x) = read d) (d : Device) : read (forEach d l f) = read d := by
  induction l generalizing d with
  | nil => rfl
  | cons x l ih => exact (ih (fun d y hy => h d y (by simp [hy])) (f d x)).trans (h d x (by simp))

theorem waitingRates_serveAll (d : Device) (p j : Nat) :
    waitingRates (memIfAt (serveAll d p) j) = waitingRates (memIfAt d j) :=
  forEach_keeps (fun x => waitingRates (memIfAt x j)) _ _ (fun x m _ => waitingRates_serveIf x p m j) d

/-- A rank whose debt is issued. -/
def issued (u : MemIfUnit) (r : Nat) : MemIfUnit := refreshed (setRank u r { rankOf u r with debt := 0 }) r

theorem waitingRates_issued (u : MemIfUnit) {r : Nat} (hr : r < 2) : waitingRates (issued u r) = waitingRates u := by
  rcases eq_of_lt_two hr with rfl | rfl <;> rfl

/-- The ranks of a die's interfaces, in the order in which they are refreshed. -/
def dieRanks : List (Nat × Nat) := (List.range 4).flatMap fun m => [(m, 0), (m, 1)]

theorem refreshIdle_eq (d : Device) (p : Nat) : refreshIdle d p = if (memAt d p).switching.isSome then d else
    forEach d dieRanks fun d e =>
      if (rankOf (memIfAt d (ifKey p e.1)) e.2).debt = 0 ∨ urgentFor d p e.1 e.2 then d
      else setMemIf d (ifKey p e.1) (issued (memIfAt d (ifKey p e.1)) e.2) := rfl

theorem keeps_refreshIdle (d : Device) (p : Nat) : Keeps [.ifs] noReg d (refreshIdle d p) := by
  rw [refreshIdle_eq]
  simp only [keeps_ite, keeps_self, implies_true, true_and]
  exact fun _ => keeps_forEach _ _ (fun x e _ => by simp) d

theorem waitingRates_refreshIdle (d : Device) (p j : Nat) :
    waitingRates (memIfAt (refreshIdle d p) j) = waitingRates (memIfAt d j) := by
  rw [refreshIdle_eq]
  split
  · rfl
  · refine forEach_keeps (fun x => waitingRates (memIfAt x j)) _ _ (fun x e he => ?_) d
    have rank : e.2 < 2 := by
      revert e
      decide
    split
    · rfl
    · simp only [memIfAt_setMemIf]
      split
      · next h => rw [waitingRates_issued _ rank, h]
      · rfl

/-! A rank resumes at the new set point. -/

/-- What resuming ranks of one interface do to the rest of the device. -/
structure Resumed (d e : Device) (p m : Nat) : Prop where
  others : ∀ j, j ≠ ifKey p m → memIfAt e j = memIfAt d j
  mems : ∀ q, q ≠ p → memAt e q = memAt d q
  inForce : (memAt e p).inForce = (memAt d p).inForce
  switching : (memAt e p).switching = (memAt d p).switching
  frame : Keeps (.ifs :: .mems :: eventParts) (debtReg p m) d e

theorem Resumed.trans {d e f : Device} {p m : Nat} (h : Resumed d e p m) (g : Resumed e f p m) : Resumed d f p m where
  others j hj := (g.others j hj).trans (h.others j hj)
  mems q hq := (g.mems q hq).trans (h.mems q hq)
  inForce := g.inForce.trans h.inForce
  switching := g.switching.trans h.switching
  frame := h.frame.trans g.frame

/-- A rank that resumes: nothing waits for it any more. -/
def resumedUnit (f : Nat) (u : MemIfUnit) (r : Nat) : MemIfUnit :=
  setRank u r { rankOf u r with crossing := none, fresh := none, inUse := tget u.stored f (rankOf u r).inUse }

theorem waitingRates_resumedUnit (f : Nat) (u : MemIfUnit) {r : Nat} (hr : r < 2) :
    waitingRates (resumedUnit f u r) = if r = 0 then (none, (waitingRates u).2) else ((waitingRates u).1, none) := by
  rcases eq_of_lt_two hr with rfl | rfl <;> rfl

theorem rankResumes_spec (d : Device) {p m r : Nat} (hp : p < 6) (hr : r < 2) :
    waitingRates (memIfAt (rankResumes d p m r) (ifKey p m)) =
      waitingRates (resumedUnit (memAt d p).inForce (memIfAt d (ifKey p m)) r) ∧ Resumed d (rankResumes d p m r) p m := by
  have begun : Resumed d (setMemIf d (ifKey p m) (resumedUnit (memAt d p).inForce (memIfAt d (ifKey p m)) r)) p m :=
    ⟨fun j hj => by simp [hj.symm], fun q _ => by simp, by simp, by simp, by simp⟩
  cases hx : (rankOf (memIfAt d (ifKey p m)) r).crossing with
  | none =>
    have stays : rankResumes d p m r =
        setMemIf d (ifKey p m) (resumedUnit (memAt d p).inForce (memIfAt d (ifKey p m)) r) := by
      simp [rankResumes, hx, resumedUnit]
    rw [stays]
    exact ⟨by simp, begun⟩
  | some rate =>
    have crosses : rankResumes d p m r =
        crossRate (setMemIf d (ifKey p m) (resumedUnit (memAt d p).inForce (memIfAt d (ifKey p m)) r)) p m r rate := by
      simp [rankResumes, hx, resumedUnit]
    rw [crosses]
    have crossed := crossed_crossRate (d := setMemIf d (ifKey p m) (resumedUnit (memAt d p).inForce (memIfAt d (ifKey p m)) r))
      (m := m) (rate := rate) hp hr
    exact ⟨by rw [crossed.waiting]; simp, begun.trans ⟨crossed.others, crossed.mems, crossed.inForce, crossed.switching, crossed.frame⟩⟩

/-- Both ranks of interface m resume. -/
def ifResumes (d : Device) (p m : Nat) : Device := rankResumes (rankResumes d p m 0) p m 1

theorem ifResumes_spec (d : Device) {p : Nat} (m : Nat) (hp : p < 6) :
    waitingRates (memIfAt (ifResumes d p m) (ifKey p m)) = (none, none) ∧ Resumed d (ifResumes d p m) p m := by
  obtain ⟨low, first⟩ := rankResumes_spec d (m := m) hp (show 0 < 2 by decide)
  obtain ⟨high, second⟩ := rankResumes_spec (rankResumes d p m 0) (m := m) hp (show 1 < 2 by decide)
  rw [waitingRates_resumedUnit _ _ (by decide)] at low high
  refine ⟨?_, first.trans second⟩
  rw [ifResumes, high, low]
  rfl

/-- The registers of debt and bursts of a die's interfaces, and the counters of events. -/
def debtRegs (p : Nat) : Nat → Nat → Prop := fun x i => eventReg x i ∨ ∃ j, j < 4 ∧ x = ifObj p j ∧ (i = 6 ∨ i = 7)

/-- All interfaces of die p resume. -/
theorem allResume_spec (d : Device) {p : Nat} (hp : p < 6) :
    let e := forEach d (List.range 4) fun d m => ifResumes d p m
    (∀ m, m < 4 → waitingRates (memIfAt e (ifKey p m)) = (none, none)) ∧
    (∀ q, q ≠ p → memAt e q = memAt d q) ∧ (memAt e p).inForce = (memAt d p).inForce ∧
    (memAt e p).switching = (memAt d p).switching ∧ Keeps (.ifs :: .mems :: eventParts) (debtRegs p) d e := by
  refine ⟨fun m hm => ?_, fun q hq => ?_, ?_, ?_, ?_⟩
  · rw [forEach_read (fun x k => waitingRates (memIfAt x (ifKey p k))) _ (fun _ _ => (none, none))
      (fun x k => (ifResumes_spec x k hp).1)
      (fun x k j hj => congrArg waitingRates ((ifResumes_spec x k hp).2.others _ (by rw [Ne, ifKey_inj]; exact hj.symm)))
      List.nodup_range, if_pos (List.mem_range.mpr hm)]
  · exact forEach_keeps (fun x => memAt x q) _ _ (fun x k _ => (ifResumes_spec x k hp).2.mems q hq) d
  · exact forEach_keeps (fun x => (memAt x p).inForce) _ _ (fun x k _ => (ifResumes_spec x k hp).2.inForce) d
  · exact forEach_keeps (fun x => (memAt x p).switching) _ _ (fun x k _ => (ifResumes_spec x k hp).2.switching) d
  · refine keeps_forEach _ _ (fun x k hk => ?_) d
    exact (ifResumes_spec x k hp).2.frame.mono (fun _ h => h) fun _ _ h =>
      h.imp_right fun h => ⟨k, List.mem_range.mp hk, h⟩

/-- A switch that is done: its set point is in force. -/
def switchedOver (d : Device) (p f : Nat) : Device :=
  setClock (setMem d p { memAt d p with
    inForce := f, switching := none, lateRun := false
    switchEnd := if (memAt d p).lateRun then d.mono + 150000 else (memAt d p).switchEnd }) (p + 2)
    { clockAt d (p + 2) with relockAt := d.mono }

theorem fspDoneOp_of_switching {d : Device} {p f : Nat} (hu : pixUp d p = true) (hs : (memAt d p).switching = some f) :
    fspDoneOp d p = admissionCheck (bumpBy (refreshIdle (serveAll
      (forEach (switchedOver d p f) (List.range 4) fun d m => ifResumes d p m) p) p) (memObj p) 5 1) p := by
  simp only [fspDoneOp, hs, hu, Bool.not_true, Bool.false_eq_true, if_false]
  rfl

theorem fspStartOp_of_due {d : Device} {p f : Nat} (hu : pixUp d p = true) (hpend : (memAt d p).pending = some f)
    (hs : (memAt d p).switching = none)
    (hm : (memAt d p).armed = true ∨
      (if (memAt d p).scheduled = true then (memAt d p).startAt ≤ (pixAt d p).tb1.ns else qualifies d p = true)) :
    fspStartOp d p = if ((List.range 4).any fun j => (memIfAt d (ifKey p j)).step.isSome) || decide (d.mono + 150000 < (memAt d p).burstEnd)
      then modMem d p (fun x => { x with armed := true }) else fspBegin d p f := by
  have moment : fspMoment d p = true := by
    rcases hm with h | h
    · simp [fspMoment, h]
    · simp only [fspMoment, Bool.or_eq_true]
      right
      split
      · next e => simpa [e] using h
      · next e => simpa [e] using h
  simp only [fspStartOp, hpend, hu, hs, moment, Bool.not_true, Option.isSome_none, Bool.or_self, Bool.false_eq_true, if_false]

theorem fspNoWindowOp_of_due {d : Device} {p : Nat} (hu : pixUp d p = true) (hpend : (memAt d p).pending.isSome = true)
    (hsch : (memAt d p).scheduled = false) (ha : (memAt d p).armed = false) (hs : (memAt d p).switching = none)
    (hdue : (memAt d p).asked + tickPeriod d ≤ d.mono) :
    fspNoWindowOp d p = raise (bumpBy (setMem d p { memAt d p with
      scheduled := true
      startAt := (pixAt d p).tb1.ns + ((Int.ofNat ((pixAt d p).tickAt + bestOpening d p) - Int.ofNat (pixAt d p).tb1.ns) %
        Int.ofNat (tickPeriod d)).toNat }) (memObj p) 6 1) (p + 2) 36 (memObj p) := by
  simp [fspNoWindowOp, hu, hpend, hsch, ha, hs, hdue]

theorem not_eventReg_memObj (p i : Nat) : ¬ eventReg (memObj p) i := by
  simp only [eventReg, memObj, pobj]
  omega

/-- Settles O27. -/
theorem setPointSwitchesRun : Obligations.SetPointSwitchesRun := by
  refine ⟨fun dt s d p f hd hu hpend hs hstep hb hm => ?_, fun dt s d p f hd hu hpend hs hbusy hm => ?_,
    fun dt s d p f hd hu hs => ?_, fun dt s d p hd hu hpend hsch ha hs hdue => ?_⟩
  · refine does_of_act (f := (fspStartOp · p)) rfl hd ?_
    clear hd
    have start : fspStartOp d p = fspBegin d p f := by
      rw [fspStartOp_of_due hu hpend hs hm, any_step_eq_false hstep]
      simp [Nat.not_lt.mpr hb]
    simp only [start]
    refine ⟨?_, ?_, ?_, fun j hj => ?_, fun k hk => ?_, fun q hq => ?_, keeps_settled (keeps_fspBegin d p f)⟩
    · rw [memAt_settle, memAt_fspBegin, if_pos rfl, switched]
    · rw [memAt_settle, memAt_fspBegin, if_pos rfl, switched]
    · rw [memAt_settle, memAt_fspBegin, if_pos rfl, switched]
    · have mine : ifKey p j / 4 = p := by
        simp only [ifKey]
        omega
      obtain ⟨low, high, rows, state, -⟩ := refreshAll_reads (memIfAt d (ifKey p j))
      rw [memIfAt_settle, memIfAt_fspBegin, if_pos mine]
      exact ⟨low, high, rows, state⟩
    · rw [memIfAt_settle, memIfAt_fspBegin, if_neg (show ¬ k.val / 4 = p.val from fun h => hk (Fin.ext h))]
    · rw [memAt_settle, memAt_fspBegin, if_neg hq.symm]
  · refine does_of_act (f := (fspStartOp · p)) rfl hd ?_
    clear hd
    have busy : (((List.range 4).any fun j => (memIfAt d (ifKey p j)).step.isSome) ||
        decide (d.mono + 150000 < (memAt d p).burstEnd)) = true := by
      simp only [Bool.or_eq_true, List.any_eq_true, List.mem_range, Option.isSome_iff_ne_none, decide_eq_true_eq]
      exact hbusy
    simp only [fspStartOp_of_due hu hpend hs (Or.inr hm), busy, if_true]
    exact ⟨by simp, fun q hq => by simp [hq.symm], by simp⟩
  · refine does_of_act (f := (fspDoneOp · p)) rfl hd ?_
    clear hd
    simp only [fspDoneOp_of_switching hu hs]
    have first : Keeps [.mems, .clocks] noReg d (switchedOver d p f) := by simp [switchedOver]
    obtain ⟨waiting, mems, force, idle, resumed⟩ := allResume_spec (switchedOver d p f) p.isLt
    generalize forEach (switchedOver d p f) (List.range 4) (fun d m => ifResumes d p m) = x at *
    have served := keeps_serveAll x p
    have refreshing := keeps_refreshIdle (serveAll x p) p
    have waits := fun j => (waitingRates_refreshIdle (serveAll x p) p j).trans (waitingRates_serveAll x p j)
    have serving : Keeps [.ifs] noReg x (refreshIdle (serveAll x p) p) := served.trans refreshing
    generalize refreshIdle (serveAll x p) p = y at *
    have checked := keeps_settled (keeps_admissionCheck (bumpBy y (memObj p) 5 1) p.isLt)
    generalize settle (admissionCheck (bumpBy y (memObj p) 5 1) p) = e at *
    have mem : ∀ q, memAt e q = memAt x q := fun q => by
      rw [checked.memAt (by decide), (units_bumpBy y (memObj p) 5 1).2.2.2.2.2.2.2.2.2.2.2.2.2.2.2.2.1 q, serving.memAt (by simp)]
    refine ⟨?_, ?_, ?_, fun j hj => ?_, fun q hq => ?_, fun k hk => ?_, ?_⟩
    · rw [mem, force]
      simp [switchedOver]
    · rw [mem, idle]
      simp [switchedOver]
    · have free : ¬ debtRegs p (memObj p) 5 := by
        simp [debtRegs, not_eventReg_memObj]
      rw [Counted, checked.regN (by decide) (not_admissionReg_memObj p.isLt), regN_bumpBy _ _ (by decide) (by decide),
        serving.regN (by decide) id, resumed.regN (by decide) free, first.regN (by decide) id]
      simp
    · have free := waits (ifKey p j)
      rw [waiting j hj] at free
      have ifs : memIfAt e (ifKey p j) = memIfAt y (ifKey p j) := by
        rw [checked.memIfAt (by decide), (units_bumpBy y (memObj p) 5 1).2.2.2.2.2.2.2.2.2.2.2.2.2.2.2.1]
      rw [ifs]
      exact Prod.mk.inj free
    · rw [mem, mems q hq]
      simp [switchedOver, hq.symm]
    · rw [checked.clockAt (by decide), (units_bumpBy y (memObj p) 5 1).2.2.2.1, serving.clockAt (by simp), resumed.clockAt (by decide)]
      simp [switchedOver, hk.symm]
    · refine (first.mono (by decide) fun _ _ h => h.elim).trans ((resumed.mono (by decide) fun x i h => ?_).trans
        ((serving.mono (by decide) fun _ _ h => h.elim).trans
          ((keeps_bumpBy y _ _ _ (by decide) (Or.inr (Or.inl ⟨rfl, rfl⟩))).trans (checked.mono (by decide) fun x i h => ?_))))
      · exact h.imp_right fun h => Or.inr (Or.inr h)
      · exact h.imp_right fun h => Or.inr (Or.inl h)
  · refine does_of_act (f := (fspNoWindowOp · p)) rfl hd ?_
    clear hd
    simp only [fspNoWindowOp_of_due hu hpend hsch ha hs hdue]
    have noted := keeps_settled (keeps_raise (ps := eventParts) (rs := eventReg) (bumpBy (setMem d p { memAt d p with
      scheduled := true
      startAt := (pixAt d p).tb1.ns + ((Int.ofNat ((pixAt d p).tickAt + bestOpening d p) - Int.ofNat (pixAt d p).tb1.ns) %
        Int.ofNat (tickPeriod d)).toNat }) (memObj p) 6 1) (p + 2) 36 (memObj p) (by omega) (fun _ h => h) (fun _ _ h => h))
    refine ⟨by simp, ?_, recorded_settle.mpr (recorded_raise_of (by simp) _ (by decide)), fun q hq => by simp [hq.symm], ?_⟩
    · rw [Counted, noted.regN (show 6 < 256 by decide) (not_eventReg_memObj p 6)]
      simp [regN_bumpBy]
    · refine Keeps.trans ?_ (noted.mono (by decide) fun _ _ h => Or.inl h)
      refine Keeps.trans ?_ (keeps_bumpBy _ _ _ _ (by decide) (Or.inr ⟨rfl, rfl⟩))
      simp

/-! ### Requests and credits (R211, R213, R222 to R224) -/

theorem keeps_memQueueMark (d : Device) (p mq : Nat) : Keeps [.queues] noReg d (memQueueMark d p mq) := by simp [memQueueMark]

/-- The die's memory once request r, the next in number, has a credit or waits for one. -/
def requested (u : MemUnit) (r : MemReq) : MemUnit :=
  match takeCredit u r with
  | some c => { u with nextReq := u.nextReq + 1, active := u.active ++ [c] }
  | none => { u with nextReq := u.nextReq + 1, waiting := u.waiting ++ [r] }

/-- A request takes a credit of its class's reserve where its share has one, else a shared one where one is free to its class. -/
theorem requested_spec (u : MemUnit) {r : MemReq} (hr : r.shared = false) :
    (requested u r).nextReq = u.nextReq + 1 ∧
    (if shareUsed u r.mq r.port < shareSize r.mq then (requested u r).active = u.active ++ [r] ∧ (requested u r).waiting = u.waiting
      else if 0 < sharedFree u ∧ classShared u (drainClass r.mq) < 160 then
        (requested u r).active = u.active ++ [{ r with shared := true }] ∧ (requested u r).waiting = u.waiting
      else (requested u r).active = u.active ∧ (requested u r).waiting = u.waiting ++ [r]) := by
  have same : { r with shared := false } = r := by rw [← hr]
  simp only [requested, takeCredit]
  by_cases own : shareUsed u r.mq r.port < shareSize r.mq
  · simp only [if_pos own, same, and_self]
  · by_cases shared : 0 < sharedFree u ∧ classShared u (drainClass r.mq) < 160
    · simp only [if_neg own, if_pos shared, and_self]
    · simp only [if_neg own, if_neg shared, and_self]

/-- The memory of the die that took the request, in drain mode where it begins. -/
def requestedAt (d : Device) (p : Nat) (r : MemReq) : MemUnit :=
  if drainBegins (requested (memAt d p) r) then { requested (memAt d p) r with draining := some d.mono }
  else requested (memAt d p) r

theorem requestedAt_reads (d : Device) (p : Nat) (r : MemReq) :
    (requestedAt d p r).nextReq = (requested (memAt d p) r).nextReq ∧ (requestedAt d p r).active = (requested (memAt d p) r).active ∧
    (requestedAt d p r).waiting = (requested (memAt d p) r).waiting := by
  simp only [requestedAt]
  split <;> exact ⟨rfl, rfl, rfl⟩

/-- The die once the request is placed and its interface goes on. -/
def requestPlaced (d : Device) (p mq : Nat) (r : MemReq) : Device :=
  memQueueMark (serveIf (setMem d p (requestedAt d p r)) p r.mem) p mq

theorem memRequestOp_of_service {d : Device} {p port mq m addr : Nat} (hu : pixUp d p = true) (hq : portQueue port mq = true)
    (hf : (memAt d p).inForce ≠ 0) (hs : (memIfAt d (ifKey p m)).state = 3 ∨ (memIfAt d (ifKey p m)).state = 4) :
    memRequestOp d p port mq m addr =
      let r := MemReq.mk (memAt d p).nextReq port mq m addr d.mono false false
      if drainBegins (requested (memAt d p) r) then bumpBy (requestPlaced d p mq r) (0x3030 + 0x100 * p) 3 1
      else requestPlaced d p mq r := by
  have hs' : ([3, 4].contains (memIfAt d (ifKey p m)).state) = true := by simpa using hs
  have hf' : ((memAt d p).inForce == 0) = false := by simpa using hf
  simp only [memRequestOp, hu, hq, hf', hs', Bool.not_true, Bool.or_self, Bool.false_eq_true, if_false]
  rfl

theorem keeps_requestPlaced (d : Device) (p mq : Nat) (r : MemReq) :
    Keeps [.ifs, .queues] noReg (setMem d p (requestedAt d p r)) (requestPlaced d p mq r) :=
  ((keeps_serveIf _ _ _).mono (by simp) fun _ _ h => h).trans ((keeps_memQueueMark _ _ _).mono (by simp) fun _ _ h => h)

theorem memAt_memRequestOp {d : Device} {p port mq m addr : Nat} (hu : pixUp d p = true) (hq : portQueue port mq = true)
    (hf : (memAt d p).inForce ≠ 0) (hs : (memIfAt d (ifKey p m)).state = 3 ∨ (memIfAt d (ifKey p m)).state = 4) (q : Nat) :
    memAt (memRequestOp d p port mq m addr) q =
      if p = q then requestedAt d p (MemReq.mk (memAt d p).nextReq port mq m addr d.mono false false) else memAt d q := by
  have placed := (keeps_requestPlaced d p mq (MemReq.mk (memAt d p).nextReq port mq m addr d.mono false false)).memAt (by simp) q
  rw [memAt_setMem] at placed
  rw [memRequestOp_of_service hu hq hf hs]
  simp [placed]

theorem keeps_memRequestOp {d : Device} {p port mq m addr : Nat} (hu : pixUp d p = true) (hq : portQueue port mq = true)
    (hf : (memAt d p).inForce ≠ 0) (hs : (memIfAt d (ifKey p m)).state = 3 ∨ (memIfAt d (ifKey p m)).state = 4) :
    Keeps [.mems, .ifs, .queues] (fun x i => x = 0x3030 + 0x100 * p ∧ i = 3) d (memRequestOp d p port mq m addr) := by
  have placed := (keeps_requestPlaced d p mq (MemReq.mk (memAt d p).nextReq port mq m addr d.mono false false)).mono
    (qs := [.mems, .ifs, .queues]) (ts := fun x i => x = 0x3030 + 0x100 * p ∧ i = 3) (by simp) fun _ _ h => h.elim
  have first := (keeps_setMem (ps := [.mems, .ifs, .queues]) (rs := fun x i => x = 0x3030 + 0x100 * p ∧ i = 3) d p
    (requestedAt d p (MemReq.mk (memAt d p).nextReq port mq m addr d.mono false false)) (by simp)).trans placed
  rw [memRequestOp_of_service hu hq hf hs]
  simp only [keeps_ite]
  exact ⟨fun _ => first.trans (keeps_bumpBy _ _ _ _ (by decide) ⟨rfl, rfl⟩), fun _ => first⟩

/-- A request marked late where it has this number. -/
def markLate (id : Nat) (x : MemReq) : MemReq := if x.id = id then { x with late := true } else x

theorem requestLateOp_of_due {d : Device} {p id : Nat} {r : MemReq} (hu : pixUp d p = true)
    (hr : ((memAt d p).active ++ (memAt d p).waiting).find? (fun x => x.id == id) = some r) (hl : r.late = false)
    (hdue : r.since + reqTarget (memAt d p) r ≤ d.mono) :
    requestLateOp d p id = bumpBy (setMem d p { memAt d p with
      active := (memAt d p).active.map (markLate id), waiting := (memAt d p).waiting.map (markLate id) }) (memObj p) 0x0A 1 := by
  simp only [requestLateOp, hr, hu, hl, Nat.not_lt.mpr hdue, Bool.not_true, Bool.or_self, decide_false, Bool.false_eq_true, if_false]
  rfl

/-- Only an interface that works on the request completes it. -/
theorem completeReq_of_serving {d : Device} {p id : Nat} {r : MemReq} (hr : (memAt d p).active.find? (fun x => x.id == id) = some r)
    (hs : (memIfAt d (ifKey p r.mem)).serving = some id) :
    completeReq d p id = serveIf (setMemIf (setMem d p { memAt d p with active := (memAt d p).active.filter fun r => r.id != id })
      (ifKey p r.mem) { memIfAt d (ifKey p r.mem) with serving := none }) p r.mem := by
  have still : serveIf d p r.mem = d := by simp [serveIf, hs]
  simp [completeReq, hr, still, hs]

theorem completeReq_served {d : Device} {p id : Nat} {r : MemReq} (hr : (memAt d p).active.find? (fun x => x.id == id) = some r)
    (hs : (memIfAt d (ifKey p r.mem)).serving = some id) :
    memAt (completeReq d p id) p = { memAt d p with active := (memAt d p).active.filter fun r => r.id != id } ∧
    (∀ q, q ≠ p → memAt (completeReq d p id) q = memAt d q) ∧ Keeps [.mems, .ifs] noReg d (completeReq d p id) := by
  have served := keeps_serveIf (setMemIf (setMem d p { memAt d p with active := (memAt d p).active.filter fun r => r.id != id })
    (ifKey p r.mem) { memIfAt d (ifKey p r.mem) with serving := none }) p r.mem
  have mem := served.memAt (by simp)
  rw [completeReq_of_serving hr hs]
  exact ⟨by simp [mem], fun q hq => by simp [mem, hq.symm], Keeps.trans (by simp) (served.mono (by simp) fun _ _ h => h)⟩

theorem completeReq_of_idle {d : Device} {p id : Nat}
    (h : ∀ r ∈ (memAt d p).active, r.id = id → (memIfAt d (ifKey p r.mem)).serving ≠ some id ∧
      ((memIfAt d (ifKey p r.mem)).serving.isSome = true ∨ d.mono < (memIfAt d (ifKey p r.mem)).burstTill)) :
    completeReq d p id = d := by
  cases hr : (memAt d p).active.find? fun x => x.id == id with
  | none => simp [completeReq, hr]
  | some r =>
    obtain ⟨ne, busy⟩ := h r (List.mem_of_find?_eq_some hr) (by simpa using List.find?_some hr)
    have still : serveIf d p r.mem = d := by
      rcases busy with b | b <;> simp [serveIf, b]
    simp [completeReq, hr, still, ne]

/-- The die where nothing waits for the credits that return: its interfaces and ranks go on. -/
def goesOn (d : Device) (p : Nat) : Device := refreshIdle (serveAll (setMem d p (memAt d p)) p) p

theorem keeps_goesOn (d : Device) (p : Nat) : Keeps [.mems, .ifs] noReg d (goesOn d p) :=
  (keeps_setMem d p (memAt d p) (by simp)).trans
    (((keeps_serveAll _ p).trans (keeps_refreshIdle _ p)).mono (by simp) fun _ _ h => h)

theorem memAt_goesOn (d : Device) (p q : Nat) : memAt (goesOn d p) q = memAt d q := by
  rw [goesOn, ((keeps_serveAll _ p).trans (keeps_refreshIdle _ p)).memAt (by simp), memAt_setMem]
  split
  · next h => rw [h]
  · rfl

/-- Credits that return where nothing waits end drain mode at 80 shared free, and no more. -/
theorem creditsBack_of_none_waiting {d : Device} {p : Nat} (hw : (memAt d p).waiting = []) :
    ((memAt d p).draining = none → creditsBack d p = goesOn d p) ∧
    ∀ t, (memAt d p).draining = some t →
      creditsBack d p = if 80 ≤ sharedFree (memAt d p) then drainLeave (goesOn d p) p t else goesOn d p := by
  have none : serveWaiting (memAt d p) (sortBy (creditKey d.mono (memAt d p)) (memAt d p).waiting) = memAt d p := by
    rw [hw]
    rfl
  have mem : memAt (refreshIdle (serveAll (setMem d p (memAt d p)) p) p) p = memAt d p := memAt_goesOn d p p
  refine ⟨fun h => ?_, fun t h => ?_⟩
  · simp only [creditsBack, none, mem, h]
    rfl
  · simp only [creditsBack, none, mem, h]
    rfl

/-- The end of drain mode, timed. -/
def drainOver (d : Device) (p t : Nat) : Device :=
  setN (setMem d p { memAt d p with draining := none }) (0x3030 + 0x100 * p) 4
    (2 ^ 31 + min (max (regN d (0x3030 + 0x100 * p) 4 % 2 ^ 31) (d.mono - t)) (2 ^ 31 - 1))

theorem drainLeave_eq (d : Device) (p t : Nat) : drainLeave d p t =
    if 10000 < d.mono - t then raise (drainOver d p t) (p + 2) 27 (0x3030 + 0x100 * p) else drainOver d p t := by
  simp only [drainLeave, drainOver, pobj, dieNo_eq, modMem_eq, regs_setMem]

/-- The register of a die's longest drain, and the counters of events. -/
def drainReg (p : Nat) : Nat → Nat → Prop := fun x i => eventReg x i ∨ (x = 0x3030 + 0x100 * p ∧ i = 4)

theorem drainLeave_reads (d : Device) {p : Nat} (hp : p < 6) (t : Nat) :
    (∀ q, memAt (drainLeave d p t) q = if p = q then { memAt d p with draining := none } else memAt d q) ∧
    regN (drainLeave d p t) (0x3030 + 0x100 * p) 4 =
      2 ^ 31 + min (max (regN d (0x3030 + 0x100 * p) 4 % 2 ^ 31) (d.mono - t)) (2 ^ 31 - 1) ∧
    (10000 < d.mono - t → Noted d (drainLeave d p t) (p + 2) 27 (0x3030 + 0x100 * p)) ∧
    Keeps (.mems :: .ifs :: eventParts) (drainReg p) d (drainLeave d p t) := by
  have noted := keeps_raise (ps := eventParts) (rs := eventReg) (drainOver d p t) (p + 2) 27 (0x3030 + 0x100 * p) (by omega)
    (fun _ h => h) (fun _ _ h => h)
  have free : ¬ eventReg (0x3030 + 0x100 * p) 4 := by
    simp only [eventReg]
    omega
  have first : Keeps (.mems :: .ifs :: eventParts) (drainReg p) d (drainOver d p t) := by
    refine (keeps_setN_iff (by decide) (Or.inr ⟨rfl, rfl⟩)).mpr ?_
    simp
  rw [drainLeave_eq]
  refine ⟨fun q => ?_, ?_, fun slow => ?_, ?_⟩
  · simp [drainOver]
  · simp only [regs_ite, noted.regN (show 4 < 256 by decide) free, ite_self]
    simp [drainOver]
  · rw [if_pos slow]
    exact noted_raise_of (by simp [drainOver]) (by simp [drainOver]) _ _
  · simp only [keeps_ite]
    exact ⟨fun _ => first.trans (noted.mono (by decide) fun _ _ h => Or.inl h), fun _ => first⟩

/-- Credits that return where nothing waits leave the requests as they are. -/
theorem creditsBack_keeps_requests {d : Device} {p : Nat} (hp : p < 6) (hw : (memAt d p).waiting = []) :
    (memAt (creditsBack d p) p).active = (memAt d p).active ∧ (∀ q, q ≠ p → memAt (creditsBack d p) q = memAt d q) ∧
    Keeps (.mems :: .ifs :: eventParts) (drainReg p) d (creditsBack d p) := by
  have before := (keeps_goesOn d p).mono (qs := .mems :: .ifs :: eventParts) (ts := drainReg p) (by decide) fun _ _ h => h.elim
  have on : (memAt (goesOn d p) p).active = (memAt d p).active ∧ (∀ q, q ≠ p → memAt (goesOn d p) q = memAt d q) ∧
      Keeps (.mems :: .ifs :: eventParts) (drainReg p) d (goesOn d p) :=
    ⟨by rw [memAt_goesOn], fun q _ => memAt_goesOn d p q, before⟩
  cases ht : (memAt d p).draining with
  | none =>
    rw [(creditsBack_of_none_waiting hw).1 ht]
    exact on
  | some t =>
    obtain ⟨mem, -, -, frame⟩ := drainLeave_reads (goesOn d p) hp t
    rw [(creditsBack_of_none_waiting hw).2 t ht]
    split
    · exact ⟨by simp [mem, memAt_goesOn], fun q hq => by simp [mem, memAt_goesOn, hq.symm], before.trans frame⟩
    · exact on

theorem drainEndOp_of_up {d : Device} {p id : Nat} (hu : pixUp d p = true) :
    drainEndOp d p [id] = creditsBack (completeReq d p id) p := by
  simp [drainEndOp, hu]

/-- Settles O29. -/
theorem memoryRequestsTakeAndReturnCredits : Obligations.MemoryRequestsTakeAndReturnCredits := by
  refine ⟨fun dt s d p port mq m addr u r hd hu hp hq hf hs hr => ?_, fun dt s d p id u r hd hu hp hr hl hdue => ?_,
    fun dt s d p id u r t left hd hu hp hw ht hr hs hleft => ?_, fun dt s d p id hd hp hw h => ?_⟩
  · refine does_of_act (f := (memRequestOp · p port mq m addr)) rfl hd ?_
    clear hd
    subst hr hu
    have mem := fun q => memAt_memRequestOp (addr := addr) hp hq hf hs q
    obtain ⟨next, active, waiting⟩ := requestedAt_reads d p (MemReq.mk (memAt d p).nextReq port mq m addr d.mono false false)
    obtain ⟨number, placed⟩ := requested_spec (memAt d p) (r := MemReq.mk (memAt d p).nextReq port mq m addr d.mono false false) rfl
    refine ⟨?_, ?_, fun q hq' => ?_, keeps_settled (keeps_memRequestOp hp hq hf hs)⟩
    · rw [memAt_settle, mem, if_pos rfl, next, number]
    · rw [memAt_settle, mem, if_pos rfl, active, waiting]
      exact placed
    · rw [memAt_settle, mem, if_neg hq'.symm]
  · refine does_of_act (f := (requestLateOp · p id)) rfl hd ?_
    clear hd
    subst hu
    simp only [requestLateOp_of_due hp hr hl hdue]
    refine ⟨by simp [Counted, regN_bumpBy], fun x hx hi => ?_, by simp, fun q hq => by simp [hq.symm], ?_⟩
    · have mine : x ∈ ((memAt d p).active ++ (memAt d p).waiting).map (markLate id) := by simpa using hx
      obtain ⟨y, -, rfl⟩ := List.mem_map.mp mine
      by_cases h : y.id = id
      · simp [markLate, h]
      · simp [markLate, h] at hi
    · exact keeps_settled ((keeps_setMem d p _ (by simp)).trans (keeps_bumpBy _ _ _ _ (by decide) ⟨rfl, rfl⟩))
  · refine does_of_act (f := (drainEndOp · p [id])) rfl hd ?_
    clear hd
    subst hu hleft
    simp only [drainEndOp_of_up hp]
    obtain ⟨own, others, first⟩ := completeReq_served hr hs
    generalize completeReq d p id = y at *
    have after := (first.trans ((keeps_goesOn y p).mono (fun _ h => h) fun _ _ h => h)).mono (qs := .mems :: .ifs :: eventParts)
      (ts := drainReg p) (by decide) fun _ _ h => h.elim
    have reg := (first.trans (keeps_goesOn y p)).regN (i := 0x3030 + 0x100 * p.val) (show 4 < 256 by decide) (fun h => h)
    have note := (first.trans (keeps_goesOn y p)).regT (i := 0x2600 + (p.val + 2)) (show 8 < 256 by decide) (fun h => h)
    have ring := (first.trans (keeps_goesOn y p)).ringAt (by simp) (p.val + 2)
    have mono := (first.trans (keeps_goesOn y p)).mono_eq (by simp)
    have mem : ∀ q, memAt (goesOn y p) q = memAt y q := memAt_goesOn y p
    have waiting : (memAt y p).waiting = [] := by rw [own, hw]
    have draining : (memAt y p).draining = some t := by rw [own, ht]
    have room : 80 ≤ sharedFree (memAt y p) ↔ (((memAt d p).active.filter fun x => x.id != id).filter (·.shared)).length + 80 ≤ 320 := by
      simp only [own, sharedFree, sharedUsed, sharedPool]
      omega
    obtain ⟨leaves, timed, slow, frame⟩ := drainLeave_reads (goesOn y p) p.isLt t
    rw [(creditsBack_of_none_waiting waiting).2 t draining]
    simp only [← room]
    by_cases free : 80 ≤ sharedFree (memAt y p)
    · simp only [if_pos free]
      refine ⟨?_, ⟨?_, ?_, fun long => ?_⟩, fun q hq => ?_, keeps_settled (after.trans frame)⟩
      · rw [memAt_settle, leaves, if_pos rfl, mem, own]
      · rw [memAt_settle, leaves, if_pos rfl]
      · rw [regN_settle _ _ _ (by decide), timed, reg, mono]
      · have noted := slow (by rwa [mono])
        rw [Noted, ring, note] at noted
        exact noted_settle.mpr noted
      · rw [memAt_settle, leaves, if_neg hq.symm, mem, others q hq]
    · simp only [if_neg free]
      refine ⟨?_, ?_, fun q hq => ?_, keeps_settled after⟩
      · rw [memAt_settle, mem, own]
      · rw [memAt_settle, mem, draining]
      · rw [memAt_settle, mem, others q hq]
  · refine does_of_act (f := (drainEndOp · p [id])) rfl hd ?_
    clear hd
    simp only [drainEndOp_of_up hp, completeReq_of_idle h]
    obtain ⟨active, others, frame⟩ := creditsBack_keeps_requests p.isLt hw
    exact ⟨active, others, keeps_settled frame⟩

end Sys2Proof
end

section
/-! PROOFS. Descriptors (R209): what an entry that leaves its queue, and one whose descriptor fails, leave behind. -/

namespace Sys2Proof

open Machine Safety

/-- A die's record stands while its ring is as it was. -/
theorem recorded_of_ring {d x e : Device} {k code unit : Nat} (h : Recorded d x k code unit) (hr : ringAt e k = ringAt x k) :
    Recorded d e k code unit := by
  rwa [Recorded, hr]

/-! ### The entry leaves -/

/-- An entry has left queue q of die k. -/
def dequeued (d : Device) (k q : Nat) : Device :=
  setQueue d (queueKey k) { queueAt d (queueKey k) with
    fill := tset 0 (queueAt d (queueKey k)).fill q (tget (queueAt d (queueKey k)).fill q 0 - 1) }

/-- It has left and its descriptor has failed. -/
def failedOut (d : Device) (k q : Nat) : Device := descBad (dequeued d k q) k

section
variable {d : Device} {k q : Nat} {desc : List Byte}

theorem queueDequeueOp_of_good (hk : dieUp d k = true) (hq : q < queueCount k) (he : queueEmpty d k q = false)
    (hg : descGood desc = true) : queueDequeueOp d k q desc = dequeued d k q := by
  simp only [queueDequeueOp, hk, he, hg, Nat.not_le.mpr hq, Bool.not_true, decide_false, Bool.or_self, Bool.false_eq_true, if_false,
    if_true]
  rfl

theorem queueDequeueOp_of_nothing (h : dieUp d k = false ∨ queueCount k ≤ q ∨ queueEmpty d k q = true) :
    queueDequeueOp d k q desc = d := by
  rcases h with h | h | h <;> simp [queueDequeueOp, h]

theorem queueDequeueOp_of_bad (hk : dieUp d k = true) (hq : q < queueCount k) (he : queueEmpty d k q = false)
    (hg : descGood desc = false) :
    queueDequeueOp d k q desc = if k < 2 then descLostCtl (failedOut d k q) k q else descLost (failedOut d k q) (k - 2) q := by
  simp only [queueDequeueOp, hk, he, hg, Nat.not_le.mpr hq, Bool.not_true, decide_false, Bool.or_self, Bool.false_eq_true, if_false]
  rfl

/-- The failures of a pixel die's queues are counted, and those of every die recorded. -/
def descReg (k : Nat) : Nat → Nat → Prop := fun x i => eventReg x i ∨ (2 ≤ k ∧ x = 0x3030 + 0x100 * (k - 2) ∧ i = 2)

/-- The unit of a failure's record. -/
def descUnit (k : Nat) : Nat := if k < 2 then 0 else 0x3030 + 0x100 * (k - 2)

theorem descBad_eq (x : Device) (k : Nat) :
    descBad x k = raise (if k < 2 then x else bumpBy x (0x3030 + 0x100 * (k - 2)) 2 1) k 26 (descUnit k) := by
  simp only [descBad, descUnit]
  split <;> rfl

theorem keeps_descBad (x : Device) (hk : k < 8) : Keeps eventParts (descReg k) x (descBad x k) := by
  rw [descBad_eq]
  refine (keeps_raise_iff hk (by simp) (by simp) (by simp) (by simp) fun _ _ h => Or.inl h).mpr ?_
  split
  · exact keeps_self
  · exact keeps_bumpBy _ _ _ _ (by decide) (Or.inr ⟨by omega, rfl, rfl⟩)

theorem recorded_descBad (x : Device) : Recorded x (descBad x k) k 26 (descUnit k) := by
  rw [descBad_eq]
  refine recorded_raise_of ?_ _ (by decide)
  split <;> simp

theorem counted_descBad (x : Device) (hk : k < 8) (h2 : 2 ≤ k) : Counted x (descBad x k) (0x3030 + 0x100 * (k - 2)) 2 1 := by
  have free : ¬ eventReg (0x3030 + 0x100 * (k - 2)) 2 := by
    simp only [eventReg]
    omega
  have noted := keeps_raise (ps := eventParts) (rs := eventReg) (bumpBy x (0x3030 + 0x100 * (k - 2)) 2 1) k 26 (descUnit k) hk
    (fun _ h => h) (fun _ _ h => h)
  rw [descBad_eq, if_neg (by omega), Counted, noted.regN (by decide) free, regN_bumpBy _ _ (by decide) (by decide)]
  simp

theorem queueAt_failedOut (hk : k < 8) (j : Nat) : queueAt (failedOut d k q) j = queueAt (dequeued d k q) j :=
  (keeps_descBad _ hk).queueAt (by decide) j

theorem keeps_failedOut (hk : k < 8) : Keeps (.queues :: eventParts) (descReg k) d (failedOut d k q) :=
  (keeps_setQueue d _ _ (by simp)).trans ((keeps_descBad _ hk).mono (by decide) fun _ _ h => h)

theorem recorded_failedOut : Recorded d (failedOut d k q) k 26 (descUnit k) := recorded_descBad (dequeued d k q)

theorem counted_failedOut (hk : k < 8) (h2 : 2 ≤ k) : Counted d (failedOut d k q) (0x3030 + 0x100 * (k - 2)) 2 1 :=
  counted_descBad (dequeued d k q) hk h2

end

/-! ### What an entry that fails costs -/

/-- What scan fetch asks for next depends on the head's scan, the die and the time. -/
theorem nextFetch_congr {d e : Device} {p h : Nat} (hs : scanAt e h = scanAt d h) (hp : pixAt e p = pixAt d p) (hm : e.mono = d.mono)
    (w : Nat) : nextFetch e p h w = nextFetch d p h w := by
  have begun : ∀ j L, stripBegun e p h w j L = stripBegun d p h w j L := fun j L => by
    simp only [stripBegun, planDone, hs, hp, hm]
  have next : ∀ S, layerNext e p h w S = layerNext d p h w S := fun S => by
    funext L
    simp only [layerNext, begun, hs]
  simp only [nextFetch, next, hs]

theorem keeps_scanLoss (d : Device) (p h : Nat) : Keeps [.scans] noReg d (scanLoss d p h) := by
  simp only [scanLoss]
  split
  · exact keeps_self
  · split <;> simp

theorem keeps_writebackLoss (d : Device) (p : Nat) :
    Keeps [.wbs] (fun x i => x = 0x3060 + 0x100 * p ∧ i = 0x0A) d (writebackLoss d p) := by
  simp only [writebackLoss, keeps_ite, keeps_self, implies_true, and_true]
  exact fun _ => (keeps_setWb d p _ (by simp)).trans (keeps_bumpBy _ _ _ _ (by decide) ⟨rfl, rfl⟩)

/-- The strip of a layer whose next tile is t is not fetched. -/
def stripLost (S : Scan) (f : Frame) (t : Nat) (L : ScanLayer) : ScanLayer :=
  { L with dropped := L.dropped ++ L.wanted.filter fun u => outstanding L u && tileStrip S L f u == tileStrip S L f t }

/-- What a scan's layer loses: nothing where it shows no frame. -/
def layerLost (S : Scan) (t : Nat) (L : ScanLayer) : ScanLayer := match L.frame with
  | none => L
  | some f => stripLost S f t L

theorem scanLoss_of_next {d : Device} {p h w n t : Nat} {S : Scan} (hw : w < 3) (hn : ∀ v, v < w → nextFetch d p h v = none)
    (hf : nextFetch d p h w = some (n, t)) (hS : scanPick (scanAt d h) w = some S) :
    scanLoss d p h = setScan d h (scanPut (scanAt d h) w (onLayer S n (layerLost S t))) := by
  have first : ([0, 1, 2].findSome? fun w => (nextFetch d p h w).map fun e => (w, e)) = some (w, n, t) := by
    rcases eq_of_lt_three hw with rfl | rfl | rfl
    · simp [hf]
    · simp [hn 0 (by decide), hf]
    · simp [hn 0 (by decide), hn 1 (by decide), hf]
  simp only [scanLoss, first, hS]
  rfl

@[simp] theorem scanPick_scanPut (x : HeadScan) {w : Nat} (hw : w < 3) (S : Scan) : scanPick (scanPut x w S) w = some S := by
  rcases eq_of_lt_three hw with rfl | rfl | rfl <;> rfl

/-- The layer of that number is the one changed. -/
theorem mem_onLayer {S : Scan} {n : Nat} {L : ScanLayer} (f : ScanLayer → ScanLayer)
    (h : S.layers.find? (fun L => L.n == n) = some L) : f L ∈ (onLayer S n f).layers := by
  have own : L.n = n := by simpa using List.find?_some h
  exact List.mem_map.mpr ⟨L, List.mem_of_find?_eq_some h, by simp [own]⟩

theorem writebackLoss_of_capture {d : Device} {p : Nat} (hw : wbOn d p = true) (hs : (wbAt d p).spoiled = false) :
    writebackLoss d p = bumpBy (setWb d p { wbAt d p with spoiled := true }) (0x3060 + 0x100 * p) 0x0A 1 := by
  simp [writebackLoss, hw, hs, pobj]

/-- A loop does what another does where their rounds agree on what the loop keeps. -/
theorem forEach_congr_of {α : Type} {f g : Device → α → Device} {l : List α} (I : Device → Prop)
    (h : ∀ d x, x ∈ l → I d → f d x = g d x ∧ I (g d x)) {d : Device} (hd : I d) : forEach d l f = forEach d l g := by
  induction l generalizing d with
  | nil => rfl
  | cons x l ih =>
    obtain ⟨e, hi⟩ := h d x (by simp) hd
    rw [forEach_cons, forEach_cons, e]
    exact ih (fun d y hy => h d y (by simp [hy])) hi

/-- The streams of an input are read from subindices that no count changes. -/
theorem camStreams_congr {d e : Device} {i : Nat} (h : ∀ k, k < 4 → camCfg e i (0x20 + 8 * k) = camCfg d i (0x20 + 8 * k)) :
    camStreams e i = camStreams d i :=
  List.filter_congr fun k hk => by rw [h k (List.mem_range.mp hk)]

theorem mem_camStreams_lt {d : Device} {i c : Nat} (h : c ∈ camStreams d i) : c < 4 ∧ streamSource d i c < 512 := by
  simpa [camStreams, streamSource] using h

/-- The streams of an input that count a discarded frame. -/
def countedStreams (d x : Device) (i : Nat) : Device :=
  forEach x (camStreams d i) fun x k =>
    if srcEnabled d (streamSource d i k) then bumpBy x (srcLive (streamSource d i k)) 6 1 else x

theorem pipelineLoss_of_service {d : Device} {j i start : Nat} {l : List Nat} (h : (pipeAt d j).service = some (i, start, l)) :
    pipelineLoss d j = countedStreams d (dropJob d i start) i := by
  simp only [pipelineLoss, h]
  refine forEach_congr_of (fun x => (∀ k, k < 4 → camCfg x i (0x20 + 8 * k) = camCfg d i (0x20 + 8 * k)) ∧
    ∀ s, srcEnabled x s = srcEnabled d s) (fun x k hk hI => ?_) ⟨fun _ _ => rfl, fun _ => rfl⟩
  obtain ⟨cams, on⟩ := hI
  have source : streamSource x i k = streamSource d i k := cams k (mem_camStreams_lt hk).1
  refine ⟨by rw [source, on]; rfl, ?_⟩
  split
  · refine ⟨fun m hm => ?_, fun s => ?_⟩
    · rw [← cams m hm]
      exact (reg_bumpBy_of_ne x 1 (by decide) (by omega) (by omega)).2.1
    · rw [← on s]
      simp [srcEnabled, srcFrc]
  · exact ⟨cams, on⟩

theorem keeps_countedStreams (d x : Device) (i : Nat) :
    Keeps [] (fun y j => j = 6 ∧ ∃ c ∈ camStreams d i, y = srcLive (streamSource d i c)) x (countedStreams d x i) := by
  refine keeps_forEach _ _ (fun x c hc => ?_) x
  split
  · exact keeps_bumpBy _ _ _ _ (by decide) ⟨rfl, c, hc, rfl⟩
  · exact keeps_self

theorem keeps_pipelineLoss (d : Device) (j : Nat) : Keeps [.cams] (fun y i => i = 6 ∧ 0x15200 ≤ y) d (pipelineLoss d j) := by
  cases h : (pipeAt d j).service with
  | none => simp [pipelineLoss, h]
  | some e =>
    rw [pipelineLoss_of_service h]
    refine Keeps.trans (by simp [dropJob]) ((keeps_countedStreams d _ _).mono (by simp) fun y i h => ?_)
    obtain ⟨rfl, c, -, rfl⟩ := h
    exact ⟨rfl, by simp [srcLive]⟩

/-- The item at the front of a Spur queue that is lost leaves it. -/
theorem spurLoss_of_cons {d : Device} {p q u : Nat} {x : SpurItem} {rest : List SpurItem} (hu : u = if q < 40 then p else spurFrom p (q % 4))
    (hx : spurOutOf d u (q % 4) = x :: rest) :
    spurLoss d p q = oweItem (setQueue d u { queueAt d u with spurOut := tset [] (queueAt d u).spurOut (q % 4) rest }) x := by
  subst hu
  simp only [spurLoss, hx]
  cases x <;> rfl

theorem keeps_spurLoss (d : Device) (p q : Nat) : Keeps [.queues, .srcs] noReg d (spurLoss d p q) := by
  cases hx : spurOutOf d (if q < 40 then p else spurFrom p (q % 4)) (q % 4) with
  | nil => simp [spurLoss, hx]
  | cons x rest =>
    rw [spurLoss_of_cons rfl hx]
    exact Keeps.trans (by simp) ((keeps_oweItem _ x).mono (by simp) fun _ _ h => h)

theorem keeps_spoilOpen (d : Device) (l : List Nat) : Keeps [.srcs, .fresh] noReg d (spoilOpen d l) := by
  simp only [spoilOpen]
  split
  · exact keeps_self
  · exact (keeps_fresh d _ (by simp)).trans ((keeps_unitLost _ _ _ _ _).mono (by simp) fun _ _ h => h)

theorem keeps_dropFlight (d : Device) (p q i : Nat) : Keeps [.srcs, .queues] noReg d (dropFlight d p q i) := by
  simp only [dropFlight]
  split
  · exact keeps_self
  · exact ((keeps_unitLost _ _ _ _ _).mono (by simp) fun _ _ h => h).trans (keeps_setQueue _ _ _ (by simp))

/-- The parts that a memory request's loss may change. -/
def requestParts : List Part := .mems :: .ifs :: .queues :: .scans :: .wbs :: .cams :: .srcs :: .fresh :: eventParts

/-- What a request's class loses. -/
def classLoss (d : Device) (p mq port : Nat) : Device :=
  if mq = 0 then scanLoss d p (4 * p + port % 4)
  else if mq = 1 then writebackLoss d p
  else if mq = 2 then pipelineLoss d (2 * p + (port - 4) % 2)
  else if mq = 3 then (match [40, 42, 41, 43].find? fun q => spurOutOf d (spurFrom p (q - 40)) (q - 40) != [] with
    | some q => spurLoss d p q
    | none => d)
  else spoilOpen d ((namedSources d).filter fun s => srcOwner d s == p && (srcUnit d s p).opn.isSome)

/-- The registers of a class's loss. -/
def lossReg (p : Nat) : Nat → Nat → Prop := fun y i => (y = 0x3060 + 0x100 * p ∧ i = 0x0A) ∨ (i = 6 ∧ 0x15200 ≤ y)

theorem keeps_classLoss (d : Device) (p mq port : Nat) :
    Keeps [.queues, .scans, .wbs, .cams, .srcs, .fresh] (lossReg p) d (classLoss d p mq port) := by
  simp only [classLoss, keeps_ite]
  refine ⟨fun _ => (keeps_scanLoss _ _ _).mono (by simp) fun _ _ h => h.elim, fun _ => ⟨fun _ =>
    (keeps_writebackLoss _ _).mono (by simp) fun _ _ h => Or.inl h, fun _ => ⟨fun _ =>
    (keeps_pipelineLoss _ _).mono (by simp) fun _ _ h => Or.inr h, fun _ => ⟨fun _ => ?_, fun _ =>
    (keeps_spoilOpen _ _).mono (by simp) fun _ _ h => h.elim⟩⟩⟩⟩
  split
  · exact (keeps_spurLoss _ _ _).mono (by simp) fun _ _ h => h.elim
  · exact keeps_self

theorem requestLoss_of_find {d : Device} {p mq : Nat} {r : MemReq} (h : (memAt d p).active.find? (fun x => x.mq == mq) = some r) :
    requestLoss d p mq = classLoss (memQueueMark (creditsBack
      (modMemIf (setMem d p { memAt d p with active := (memAt d p).active.filter fun x => x.id != r.id }) (ifKey p r.mem)
        fun x => if x.serving = some r.id then { x with serving := none } else x) p) p mq) p mq r.port := by
  simp only [requestLoss, h, classLoss, modMem_eq] <;>
    (generalize memQueueMark (creditsBack _ p) p mq = x
     rfl)

/-- A request that is lost leaves the active ones, and its class loses what it was for. -/
theorem requestLoss_reads {d : Device} {p mq : Nat} {r : MemReq} (hp : p < 6) (hw : (memAt d p).waiting = [])
    (h : (memAt d p).active.find? (fun x => x.mq == mq) = some r) :
    (memAt (requestLoss d p mq) p).active = (memAt d p).active.filter (fun x => x.id != r.id) ∧
    (∀ j, j ≠ p → memAt (requestLoss d p mq) j = memAt d j) ∧
    Keeps requestParts (fun y i => drainReg p y i ∨ lossReg p y i) d (requestLoss d p mq) := by
  rw [requestLoss_of_find h]
  generalize hx : modMemIf (setMem d p { memAt d p with active := (memAt d p).active.filter fun x => x.id != r.id }) (ifKey p r.mem)
        (fun x => if x.serving = some r.id then { x with serving := none } else x) = x
  have mem : ∀ j, memAt x j = if p = j then { memAt d p with active := (memAt d p).active.filter fun x => x.id != r.id } else memAt d j :=
    fun j => by rw [← hx]; simp
  have first : Keeps [.mems, .ifs] noReg d x := by
    rw [← hx]
    simp
  obtain ⟨active, others, credits⟩ := creditsBack_keeps_requests (d := x) hp (by rw [mem, if_pos rfl]; exact hw)
  have marked := keeps_memQueueMark (creditsBack x p) p mq
  have lost := keeps_classLoss (memQueueMark (creditsBack x p) p mq) p mq r.port
  refine ⟨?_, fun j hj => ?_, ?_⟩
  · rw [lost.memAt (by simp), marked.memAt (by simp), active, mem, if_pos rfl]
  · rw [lost.memAt (by simp), marked.memAt (by simp), others j hj, mem, if_neg hj.symm]
  · exact (first.mono (by decide) fun _ _ h => h.elim).trans ((credits.mono (by decide) fun _ _ h => Or.inl h).trans
      ((marked.mono (by decide) fun _ _ h => h.elim).trans (lost.mono (by decide) fun _ _ h => Or.inr h)))

/-- An entry that its sender sends again waits apart, and a control message leaves its queue. -/
theorem entryHeld_reads (d : Device) (k q : Nat) :
    (∃ held, tget (queueAt (entryHeld d k q) (queueKey k)).failed q [] = tget (queueAt d (queueKey k)).failed q [] ++ [(d.mono, held)] ∧
      ∀ p m rest, ctlDest k q = some p → (queueAt d p).ctl = m :: rest → (queueAt (entryHeld d k q) p).ctl = rest ∧ held = some m) ∧
    Keeps [.queues] noReg d (entryHeld d k q) := by
  cases hd : ctlDest k q with
  | none => exact ⟨⟨none, by simp [entryHeld, hd]⟩, by simp [entryHeld, hd]⟩
  | some p =>
    cases hc : (queueAt d p).ctl with
    | nil =>
      refine ⟨⟨none, by simp [entryHeld, hd, hc], fun p' m rest hp h => ?_⟩, by simp [entryHeld, hd, hc]⟩
      cases hp
      rw [hc] at h
      cases h
    | cons m rest =>
      refine ⟨⟨some m, ?_, fun p' m' rest' hp h => ?_⟩, by simp [entryHeld, hd, hc]⟩
      · by_cases same : p = queueKey k
        · subst same
          simp [entryHeld, hd, hc]
        · simp [entryHeld, hd, hc, same]
      · cases hp
        rw [hc] at h
        cases h
        by_cases same : queueKey k = p
        · subst same
          simp [entryHeld, hd, hc]
        · simp [entryHeld, hd, hc, same]

/-- A pixel die's entry whose unit was on its way is discarded whole, and its credit is free. -/
theorem dropFlight_of_flight {d : Device} {p q i s : Nat} {idx : List Nat} (h : (tget (queueAt d p).flight q [])[i]? = some (s, idx)) :
    dropFlight d p q i = modQueue (unitLost d p s idx tdel) p fun u =>
      { u with credits := tset 0 u.credits q (tget u.credits q 0 - 1)
               fill := tset 0 u.fill q (min (tget u.credits q 0 - 1) (tget u.fill q 0))
               flight := tset [] u.flight q ((tget u.flight q []).eraseIdx i) } := by
  simp only [dropFlight, h]

/-! ### Each class's entry -/

section
variable {d : Device} {k q : Nat} {desc : List Byte}

/-- Where the entry failed its queues are as before, but for its place. -/
theorem queueAt_failedOut_eq (hk : k < 8) (j : Nat) : queueAt (failedOut d k q) j =
    { queueAt d j with fill := if queueKey k = j then tset 0 (queueAt d j).fill q (tget (queueAt d j).fill q 0 - 1) else (queueAt d j).fill } := by
  rw [queueAt_failedOut hk, dequeued, queueAt_setQueue]
  split
  · next h => rw [h]
  · rfl

theorem spurOutOf_failedOut (hk : k < 8) (p j : Nat) : spurOutOf (failedOut d k q) p j = spurOutOf d p j := by
  rw [spurOutOf, queueAt_failedOut_eq hk, spurOutOf]

/-- A control, touch or event entry that fails is held for its one resend. -/
theorem queueDequeueOp_of_held (hk : dieUp d k = true) (hq : q < queueCount k) (he : queueEmpty d k q = false)
    (hg : descGood desc = false) (hc : if k < 2 then q ≠ 0 ∧ q ≠ 2 ∧ (q < 6 ∨ 12 ≤ q) else 49 ≤ q) :
    queueDequeueOp d k q desc = entryHeld (failedOut d k q) k q := by
  rw [queueDequeueOp_of_bad hk hq he hg]
  split
  · next h =>
    rw [if_pos h] at hc
    obtain ⟨h0, h2, hr⟩ := hc
    rw [descLostCtl, if_neg (by omega), if_neg (by omega)]
  · next h =>
    rw [if_neg h] at hc
    simp only [descLost, show ¬ q < 16 by omega, show ¬ q < 24 by omega, show ¬ q < 32 by omega, show ¬ q < 36 by omega,
      show ¬ q < 44 by omega, show ¬ q < 49 by omega, if_false, show k - 2 + 2 = k by omega]

/-- What is held is the message that waited, to be sent again. -/
theorem entryHeld_failedOut (hk : k < 8) :
    (∃ held, tget (queueAt (entryHeld (failedOut d k q) k q) (queueKey k)).failed q [] =
        tget (queueAt d (queueKey k)).failed q [] ++ [(d.mono, held)] ∧
      ∀ p m rest, ctlDest k q = some p → (queueAt d p).ctl = m :: rest →
        (queueAt (entryHeld (failedOut d k q) k q) p).ctl = rest ∧ held = some m) ∧
    Keeps [.queues] noReg (failedOut d k q) (entryHeld (failedOut d k q) k q) := by
  have h := entryHeld_reads (failedOut d k q) k q
  have mono : (failedOut d k q).mono = d.mono := (keeps_failedOut hk).mono_eq (by decide)
  simp only [queueAt_failedOut_eq hk, mono] at h
  exact h

theorem descRegOf {p : Nat} (hp : k = p + 2) {x i : Nat} (h : descReg k x i) :
    eventReg x i ∨ (x = 0x3030 + 0x100 * p ∧ i = 2) :=
  h.imp_right fun ⟨_, hx, hi⟩ => ⟨by rw [hx, hp]; simp, hi⟩

/-- The bits of the statement for a pixel die: its number, its queues and the unit of its records. -/
theorem pixelEntry {p : Nat} (hp : k = p + 2) (hk8 : k < 8) : p < 6 ∧ ¬ k < 2 ∧ k - 2 = p ∧ descUnit k = 0x3030 + 0x100 * p := by
  subst hp
  exact ⟨by omega, by omega, by omega, if_neg (by omega)⟩

end

section
variable {d : Device} {k q p : Nat} {desc : List Byte}

theorem queueDequeueOp_of_pixel (hp : k = p + 2) (hk : dieUp d k = true) (hq : q < 64) (he : queueEmpty d k q = false)
    (hg : descGood desc = false) : queueDequeueOp d k q desc = descLost (failedOut d k q) p q := by
  have count : q < queueCount k := by simpa [queueCount, show ¬ k < 2 by omega] using hq
  rw [queueDequeueOp_of_bad hk count he hg, if_neg (by omega), hp]
  rfl

/-- Neither scan, capture nor pipeline queues are ever empty here. -/
theorem queueEmpty_of_held (hp : k = p + 2) (h : 16 ≤ q) (h' : q < 36) : queueEmpty d k q = false := by
  simp only [queueEmpty, show ¬ k < 2 by omega, show ¬ q < 16 by omega, show ¬(36 ≤ q ∧ q < 40) by omega,
    show ¬(40 ≤ q ∧ q < 44) by omega, show ¬(44 ≤ q ∧ q < 52) by omega, show ¬(q = 52 ∨ q = 53) by omega, if_false]

theorem dequeue_scan (hp : k = p + 2) (hk8 : k < 8) (hk : dieUp d k = true) (hg : descGood desc = false) (h24 : 24 ≤ q) (h32 : q < 32)
    {h w n t : Nat} {S : Scan} {L : ScanLayer} {f : Frame} (hh : h = 4 * p + (q - 24) / 2) (hw : w < 3)
    (hn : ∀ v, v < w → nextFetch d p h v = none) (hf : nextFetch d p h w = some (n, t)) (hS : scanPick (scanAt d h) w = some S)
    (hL : S.layers.find? (fun L => L.n == n) = some L) (hF : L.frame = some f) :
    (∃ T M, scanPick (scanAt (queueDequeueOp d k q desc) h) w = some T ∧ M ∈ T.layers ∧ M.n = n ∧ M.verified = L.verified ∧
      ∀ i ∈ L.wanted, outstanding L i = true → tileStrip S L f i = tileStrip S L f t → i ∈ M.dropped) ∧
    Recorded d (queueDequeueOp d k q desc) k 26 (0x3030 + 0x100 * p) ∧
    (∀ j, j ≠ h → scanAt (queueDequeueOp d k q desc) j = scanAt d j) ∧
    Keeps (.scans :: .queues :: eventParts) (fun x i => eventReg x i ∨ (x = 0x3030 + 0x100 * p ∧ i = 2)) d (queueDequeueOp d k q desc) := by
  obtain ⟨-, -, -, unit⟩ := pixelEntry hp hk8
  have failed := keeps_failedOut (d := d) (q := q) hk8
  have scan : ∀ j, scanAt (failedOut d k q) j = scanAt d j := failed.scanAt (by decide)
  have next : ∀ v, nextFetch (failedOut d k q) p h v = nextFetch d p h v :=
    nextFetch_congr (scan h) (failed.pixAt (by decide) p) (failed.mono_eq (by decide))
  have own : L.n = n := by simpa using List.find?_some hL
  have lost : queueDequeueOp d k q desc =
      setScan (failedOut d k q) h (scanPut (scanAt d h) w (onLayer S n (layerLost S t))) := by
    rw [queueDequeueOp_of_pixel hp hk (by omega) (queueEmpty_of_held hp (by omega) (by omega)) hg]
    simp only [descLost, show ¬ q < 16 by omega, show ¬ q < 24 by omega, h32, if_false, if_true, ← hh]
    rw [scanLoss_of_next hw (fun v hv => (next v).trans (hn v hv)) ((next w).trans hf) (by rw [scan]; exact hS), scan]
  rw [lost]
  refine ⟨⟨onLayer S n (layerLost S t), layerLost S t L, by simp [hw], mem_onLayer _ hL, ?_, ?_, fun i hi ho hs => ?_⟩, ?_, fun j hj => by simp [hj.symm, scan], ?_⟩
  · simp [layerLost, hF, stripLost, own]
  · simp [layerLost, hF, stripLost]
  · simp [layerLost, hF, stripLost, hi, ho, hs]
  · rw [← unit]
    exact recorded_of_ring (recorded_failedOut (q := q)) (by simp)
  · rw [keeps_setScan_iff (by simp)]
    exact failed.mono (by decide) fun _ _ h => descRegOf hp h

theorem dequeue_writeback (hp : k = p + 2) (hk8 : k < 8) (hk : dieUp d k = true) (hg : descGood desc = false) (h32 : 32 ≤ q) (h36 : q < 36)
    (hw : wbOn d p = true) (hs : (wbAt d p).spoiled = false) :
    wbAt (queueDequeueOp d k q desc) p = { wbAt d p with spoiled := true } ∧
    Counted d (queueDequeueOp d k q desc) (0x3060 + 0x100 * p) 0x0A 1 ∧
    Recorded d (queueDequeueOp d k q desc) k 26 (0x3030 + 0x100 * p) ∧
    Keeps (.wbs :: .queues :: eventParts)
      (fun x i => eventReg x i ∨ (x = 0x3030 + 0x100 * p ∧ i = 2) ∨ (x = 0x3060 + 0x100 * p ∧ i = 0x0A)) d
      (queueDequeueOp d k q desc) := by
  obtain ⟨-, -, -, unit⟩ := pixelEntry hp hk8
  have failed := keeps_failedOut (d := d) (q := q) hk8
  have wb : ∀ j, wbAt (failedOut d k q) j = wbAt d j := failed.wbAt (by decide)
  have count : regN (failedOut d k q) (0x3060 + 0x100 * p) 0x0A = regN d (0x3060 + 0x100 * p) 0x0A :=
    failed.regN (by decide) fun h => by
      simp only [descReg, eventReg] at h
      omega
  have on : wbOn (failedOut d k q) p = true := by
    rw [← hw]
    simp only [wbOn, wbForce, frcN, failed.frc (show 1 < 256 by decide) (by decide)]
  have lost : queueDequeueOp d k q desc =
      bumpBy (setWb (failedOut d k q) p { wbAt d p with spoiled := true }) (0x3060 + 0x100 * p) 0x0A 1 := by
    rw [queueDequeueOp_of_pixel hp hk (by omega) (queueEmpty_of_held hp (by omega) h36) hg]
    simp only [descLost, show ¬ q < 16 by omega, show ¬ q < 24 by omega, show ¬ q < 32 by omega, h36, if_false, if_true]
    rw [writebackLoss_of_capture on (by rw [wb, hs]), wb]
  rw [lost]
  refine ⟨by simp, by simp [Counted, regN_bumpBy, count], ?_, ?_⟩
  · rw [← unit]
    exact recorded_of_ring (recorded_failedOut (q := q)) (by simp)
  · refine Keeps.trans ?_ (keeps_bumpBy _ _ _ _ (by decide) (Or.inr (Or.inr ⟨rfl, rfl⟩)))
    rw [keeps_setWb_iff (by simp)]
    exact failed.mono (by decide) fun _ _ h => (descRegOf hp h).imp_right Or.inl

theorem dequeue_pipeline (hp : k = p + 2) (hk8 : k < 8) (hk : dieUp d k = true) (hg : descGood desc = false) (h16 : 16 ≤ q) (h24 : q < 24)
    {i start : Nat} {l : List Nat} (hs : (pipeAt d (2 * p + (q - 16) / 4)).service = some (i, start, l)) :
    (camAt (queueDequeueOp d k q desc) i).jobs = (camAt d i).jobs.filter (fun j => j.start != start) ∧
    Recorded d (queueDequeueOp d k q desc) k 26 (0x3030 + 0x100 * p) ∧
    (∀ c, camStreams d i = [c] → srcEnabled d (streamSource d i c) = true →
      Counted d (queueDequeueOp d k q desc) (srcLive (streamSource d i c)) 6 1) ∧
    Keeps (.cams :: .queues :: eventParts)
      (fun x j => eventReg x j ∨ (x = 0x3030 + 0x100 * p ∧ j = 2) ∨ (j = 6 ∧ ∃ c ∈ camStreams d i, x = srcLive (streamSource d i c)))
      d (queueDequeueOp d k q desc) := by
  obtain ⟨-, -, -, unit⟩ := pixelEntry hp hk8
  have failed := keeps_failedOut (d := d) (q := q) hk8
  have stream : ∀ c, c < 4 → camCfg (failedOut d k q) i (0x20 + 8 * c) = camCfg d i (0x20 + 8 * c) := fun c hc =>
    failed.regN (by omega) fun h => by
      simp only [descReg, eventReg] at h
      omega
  have streams : camStreams (failedOut d k q) i = camStreams d i := camStreams_congr stream
  have on : ∀ s, srcEnabled (failedOut d k q) s = srcEnabled d s := fun s => by
    simp only [srcEnabled, srcFrc, frcN, failed.frc (show 2 < 256 by decide) (by decide)]
  have lost : queueDequeueOp d k q desc = countedStreams (failedOut d k q) (dropJob (failedOut d k q) i start) i := by
    rw [queueDequeueOp_of_pixel hp hk (by omega) (queueEmpty_of_held hp h16 (by omega)) hg]
    simp only [descLost, show ¬ q < 16 by omega, h24, if_false, if_true]
    exact pipelineLoss_of_service (by rw [failed.pipeAt (by decide), hs])
  have counts := keeps_countedStreams (failedOut d k q) (dropJob (failedOut d k q) i start) i
  rw [lost]
  refine ⟨?_, ?_, fun c hc he => ?_, ?_⟩
  · rw [counts.camAt (by simp)]
    simp [dropJob, failed.camAt (by decide) i]
  · rw [← unit]
    exact recorded_of_ring (recorded_failedOut (q := q)) ((counts.ringAt (by simp) k).trans (by simp [dropJob]))
  · have hc4 : c < 4 := (mem_camStreams_lt (d := d) (i := i) (by simp [hc])).1
    have source : streamSource (failedOut d k q) i c = streamSource d i c := stream c hc4
    have before : regN (failedOut d k q) (srcLive (streamSource d i c)) 6 = regN d (srcLive (streamSource d i c)) 6 :=
      failed.regN (by decide) fun h => by
        simp only [descReg, eventReg] at h
        omega
    simp [countedStreams, streams, hc, on, source, he, Counted, regN_bumpBy, dropJob, before]
  · refine (failed.mono (by decide) fun _ _ h => (descRegOf hp h).imp_right Or.inl).trans
      (Keeps.trans (b := dropJob (failedOut d k q) i start) (by simp [dropJob]) (counts.mono (by simp) fun x j h => ?_))
    obtain ⟨rfl, c, hc, rfl⟩ := h
    have hc4 := (mem_camStreams_lt hc).1
    exact Or.inr (Or.inr ⟨rfl, c, streams ▸ hc, congrArg srcLive (stream c hc4)⟩)

end

section
variable {d : Device} {k q p : Nat} {desc : List Byte}

theorem mem_owed_owe (d : Device) (s dest i : Nat) :
    (dest, i) ∈ (srcUnit (owe d s dest [i]) s (srcOwner d s)).owed := by
  simp only [owe, modSrcUnit, modSrc_eq, srcUnit, srcAt_setSrc, if_true, List.map_cons, List.map_nil, List.mem_append]
  by_cases h : (dest, i) ∈ (srcAt d (srcKey s (srcOwner d s))).owed
  · exact Or.inl h
  · exact Or.inr (by simp [h])

theorem dequeue_spur (hp : k = p + 2) (hk8 : k < 8) (hk : dieUp d k = true) (hg : descGood desc = false) (h36 : 36 ≤ q) (h44 : q < 44)
    {u : Nat} {x : SpurItem} {rest : List SpurItem} (hu : u = (if q < 40 then p else spurFrom p (q % 4)))
    (hx : spurOutOf d u (q % 4) = x :: rest) :
    spurOutOf (queueDequeueOp d k q desc) u (q % 4) = rest ∧
    (∀ src dest i sl, x = .tile src dest i sl → (dest, i) ∈ (srcUnit (queueDequeueOp d k q desc) src (srcOwner d src)).owed) ∧
    Recorded d (queueDequeueOp d k q desc) k 26 (0x3030 + 0x100 * p) ∧
    Keeps (.srcs :: .queues :: eventParts) (fun y i => eventReg y i ∨ (y = 0x3030 + 0x100 * p ∧ i = 2)) d (queueDequeueOp d k q desc) := by
  obtain ⟨-, low, back, unit⟩ := pixelEntry hp hk8
  have failed := keeps_failedOut (d := d) (q := q) hk8
  have out : spurOutOf (failedOut d k q) u (q % 4) = x :: rest := (spurOutOf_failedOut hk8 u (q % 4)).trans hx
  have waits : queueEmpty d k q = false := by
    by_cases far : q < 40
    · have item : spurOutOf d p (q - 36) = x :: rest := by
        rw [← hx, hu, if_pos far, show q - 36 = q % 4 by omega]
      simp [queueEmpty, low, show ¬ q < 16 by omega, h36, far, back, item]
    · have item : spurOutOf d (spurFrom p (q - 40)) (q - 40) = x :: rest := by
        rw [← hx, hu, if_neg far, show q - 40 = q % 4 by omega]
      simp [queueEmpty, low, show ¬ q < 16 by omega, far, show 40 ≤ q by omega, h44, back, item]
  have lost : queueDequeueOp d k q desc = oweItem (setQueue (failedOut d k q) u
      { queueAt (failedOut d k q) u with spurOut := tset [] (queueAt (failedOut d k q) u).spurOut (q % 4) rest }) x := by
    rw [queueDequeueOp_of_pixel hp hk (by omega) waits hg]
    simp only [descLost, show ¬ q < 16 by omega, show ¬ q < 24 by omega, show ¬ q < 32 by omega, show ¬ q < 36 by omega, h44, if_false,
      if_true]
    exact spurLoss_of_cons hu out
  rw [lost]
  generalize hy : setQueue (failedOut d k q) u
      { queueAt (failedOut d k q) u with spurOut := tset [] (queueAt (failedOut d k q) u).spurOut (q % 4) rest } = y
  have first : Keeps [.queues] noReg (failedOut d k q) y := by
    rw [← hy]
    exact keeps_setQueue _ _ _ (by simp)
  have owed := keeps_oweItem y x
  refine ⟨?_, fun src dest i sl e => ?_, ?_, ?_⟩
  · rw [spurOutOf, owed.queueAt (by simp), ← hy]
    simp
  · subst e
    have owner : srcOwner y src = srcOwner d src := by
      refine (first.regN (by decide) id).trans (failed.regN (by decide) fun h => ?_)
      simp only [descReg, eventReg] at h
      omega
    rw [← owner]
    exact mem_owed_owe y src dest i
  · rw [← unit]
    exact recorded_of_ring (recorded_failedOut (q := q)) ((owed.ringAt (by simp) k).trans (first.ringAt (by simp) k))
  · exact (failed.mono (by decide) fun _ _ h => descRegOf hp h).trans ((first.mono (by simp) fun _ _ h => h.elim).trans
      (owed.mono (by simp) fun _ _ h => h.elim))

theorem dequeue_ingress (hp : k = p + 2) (hk8 : k < 8) (hk : dieUp d k = true) (hg : descGood desc = false) (h16 : q < 16)
    (hf : tget (queueAt d p).fill q 0 ≠ 0) {src : Nat} {idx : List Nat} {x : OpenFrame}
    (hi : (tget (queueAt d p).flight q [])[iqUsed d p q - tget (queueAt d p).fill q 0]? = some (src, idx))
    (hle : tget (queueAt d p).fill q 0 ≤ iqUsed d p q) (hx : (srcUnit d src p).opn = some x) :
    iqUsed (queueDequeueOp d k q desc) p q + 1 = iqUsed d p q ∧
    (∃ y, (srcUnit (queueDequeueOp d k q desc) src p).opn = some y ∧ y.seq = x.seq ∧ y.spoiled = true) ∧
    Recorded d (queueDequeueOp d k q desc) k 26 (0x3030 + 0x100 * p) ∧
    (∀ j, j ≠ srcKey src p → srcAt (queueDequeueOp d k q desc) j = srcAt d j) ∧
    Keeps (.srcs :: .queues :: eventParts) (fun y i => eventReg y i ∨ (y = 0x3030 + 0x100 * p ∧ i = 2)) d (queueDequeueOp d k q desc) := by
  obtain ⟨-, low, back, unit⟩ := pixelEntry hp hk8
  have failed := keeps_failedOut (d := d) (q := q) hk8
  have key : queueKey k = p := by simp [queueKey, low, back]
  have srcs : ∀ j, srcAt (failedOut d k q) j = srcAt d j := failed.srcAt (by decide)
  have place : iqUsed (failedOut d k q) p q - 1 - tget (queueAt (failedOut d k q) p).fill q 0 =
      iqUsed d p q - tget (queueAt d p).fill q 0 := by
    simp only [iqUsed, queueAt_failedOut_eq hk8, key, if_true, tget_tset] at hle ⊢
    omega
  have lost := dropFlight_of_flight (d := failedOut d k q) (p := p) (q := q)
    (i := iqUsed (failedOut d k q) p q - 1 - tget (queueAt (failedOut d k q) p).fill q 0)
    (s := src) (idx := idx) (by rw [place, queueAt_failedOut_eq hk8]; exact hi)
  have waits : queueEmpty d k q = false := by simp [queueEmpty, low, h16, back, hf]
  rw [queueDequeueOp_of_pixel hp hk (by omega) waits hg, descLost, if_pos h16]
  have drops := keeps_dropFlight (failedOut d k q) p q (iqUsed (failedOut d k q) p q - 1 - tget (queueAt (failedOut d k q) p).fill q 0)
  refine ⟨?_, ?_, ?_, fun j hj => ?_, ?_⟩
  · have credits : tget (queueAt (unitLost (failedOut d k q) p src idx tdel) p).credits q 0 = iqUsed d p q := by
      simp [unitLost, modSrcUnit, queueAt_failedOut_eq hk8, iqUsed]
    rw [lost, iqUsed, modQueue_eq, queueAt_setQueue, if_pos rfl]
    simp only [tget_tset, if_true, credits]
    omega
  · rw [lost]
    have open_ : (srcAt d (srcKey src p)).opn = some x := hx
    simp [unitLost, modSrcUnit, srcUnit, srcs, open_]
  · rw [← unit]
    exact recorded_of_ring (recorded_failedOut (q := q)) (drops.ringAt (by simp) k)
  · rw [lost]
    simp [unitLost, modSrcUnit, srcs, hj.symm]
  · exact (failed.mono (by decide) fun _ _ h => descRegOf hp h).trans (drops.mono (by simp) fun _ _ h => h.elim)

theorem dequeue_memory (hp : k = p + 2) (hk8 : k < 8) (hk : dieUp d k = true) (hg : descGood desc = false) (h44 : 44 ≤ q) (h49 : q < 49)
    (hw : (memAt d p).waiting = []) {r : MemReq} (hr : (memAt d p).active.find? (fun x => x.mq == q - 44) = some r) :
    (memAt (queueDequeueOp d k q desc) p).active = (memAt d p).active.filter (fun x => x.id != r.id) ∧
    Counted d (queueDequeueOp d k q desc) (0x3030 + 0x100 * p) 2 1 ∧
    (∀ j, j ≠ p → memAt (queueDequeueOp d k q desc) j = memAt d j) ∧
    Keeps (.mems :: .ifs :: .queues :: .scans :: .wbs :: .cams :: .srcs :: .fresh :: eventParts) anyReg d (queueDequeueOp d k q desc) := by
  obtain ⟨p6, low, back, unit⟩ := pixelEntry hp hk8
  have failed := keeps_failedOut (d := d) (q := q) hk8
  have mem : ∀ j, memAt (failedOut d k q) j = memAt d j := failed.memAt (by decide)
  have waits : queueEmpty d k q = false := by
    have some_ : (memAt d p).active.any (fun x => x.mq == q - 44) = true :=
      List.any_eq_true.mpr ⟨r, List.mem_of_find?_eq_some hr, List.find?_some (p := fun x : MemReq => x.mq == q - 44) hr⟩
    simp [queueEmpty, low, show ¬ q < 16 by omega, show ¬ q < 40 by omega, show ¬ q < 44 by omega, h44, show q < 52 by omega, back,
      some_, hw]
  have lost : queueDequeueOp d k q desc = requestLoss (failedOut d k q) p (q - 44) := by
    rw [queueDequeueOp_of_pixel hp hk (by omega) waits hg]
    simp only [descLost, show ¬ q < 16 by omega, show ¬ q < 24 by omega, show ¬ q < 32 by omega, show ¬ q < 36 by omega,
      show ¬ q < 44 by omega, h49, if_false, if_true]
  obtain ⟨active, others, frame⟩ := requestLoss_reads (d := failedOut d k q) (mq := q - 44) p6 (by rw [mem, hw]) (by rw [mem, hr])
  have count := counted_failedOut (d := d) (q := q) hk8 (by omega)
  rw [lost]
  refine ⟨by rw [active, mem], ?_, fun j hj => by rw [others j hj, mem], ?_⟩
  · rw [back] at count
    rw [Counted, frame.regN (by decide) (fun h => ?_), count]
    simp only [drainReg, lossReg, eventReg] at h
    omega
  · exact (failed.mono (by decide) fun _ _ _ => trivial).trans (frame.mono (fun _ h => h) fun _ _ _ => trivial)

theorem dequeue_control (hk2 : k < 2) (hk : dieUp d k = true) (hg : descGood desc = false)
    (hq : q = 0 ∨ q = 2 ∨ (6 ≤ q ∧ q < 12)) :
    Recorded d (queueDequeueOp d k q desc) k 26 0 ∧
    (queueAt (queueDequeueOp d k q desc) (queueKey k)).failed = (queueAt d (queueKey k)).failed ∧
    Keeps (.srcs :: .queues :: .fresh :: eventParts) eventReg d (queueDequeueOp d k q desc) := by
  have hk8 : k < 8 := by omega
  have failed := keeps_failedOut (d := d) (q := q) hk8
  have key : queueKey k = 6 + k := by simp [queueKey, hk2]
  have unit : descUnit k = 0 := by simp [descUnit, hk2]
  have count : q < queueCount k := by
    simp only [queueCount, if_pos hk2]
    omega
  have lost : queueDequeueOp d k q desc = descLostCtl (failedOut d k q) k q := by
    rw [queueDequeueOp_of_bad hk count (by simp [queueEmpty, hk2]) hg, if_pos hk2]
  have effect : Keeps [.srcs, .queues, .fresh] noReg (failedOut d k q) (descLostCtl (failedOut d k q) k q) ∧
      (queueAt (descLostCtl (failedOut d k q) k q) (6 + k)).failed = (queueAt (failedOut d k q) (6 + k)).failed := by
    simp only [descLostCtl]
    split
    · exact ⟨(keeps_spoilOpen _ _).mono (by simp) fun _ _ h => h, by rw [(keeps_spoilOpen _ _).queueAt (by simp)]⟩
    · rw [if_pos (by omega)]
      split
      · next i _ =>
        refine ⟨(keeps_dropFlight _ _ _ _).mono (by simp) fun _ _ h => h, ?_⟩
        simp only [dropFlight]
        split
        · rfl
        · rw [modQueue_eq, queueAt_setQueue, if_neg (by omega), (keeps_unitLost _ _ _ _ _).queueAt (by simp)]
      · exact ⟨keeps_self, rfl⟩
  rw [lost]
  refine ⟨?_, ?_, ?_⟩
  · rw [← unit]
    exact recorded_of_ring (recorded_failedOut (q := q)) (effect.1.ringAt (by simp) k)
  · rw [key, effect.2, queueAt_failedOut_eq hk8]
  · exact (failed.mono (by decide) fun _ _ h => h.resolve_right fun h => by omega).trans
      (effect.1.mono (by decide) fun _ _ h => h.elim)

end

/-! ### The one resend -/

section
variable {d : Device} {k q : Nat} {desc : List Byte} {t : Nat} {held : Option CtlMsg} {rest : List (Nat × Option CtlMsg)}

/-- The entry that waited apart has been taken up again. -/
def resent (d : Device) (k q : Nat) (rest : List (Nat × Option CtlMsg)) : Device :=
  setQueue d (queueKey k) { queueAt d (queueKey k) with failed := tset [] (queueAt d (queueKey k)).failed q rest }

/-- The control message that waited with it joins its queue. -/
def rejoins (d : Device) (k q : Nat) (held : Option CtlMsg) : Device := match ctlDest k q, held with
  | some p, some m => modQueue d p fun u => { u with ctl := u.ctl ++ [m] }
  | _, _ => d

theorem descriptorResendOp_of_nothing
    (h : dieUp d k = false ∨ ∀ x ∈ (tget (queueAt d (queueKey k)).failed q []).head?, d.mono < x.1 + 50000) :
    descriptorResendOp d k q desc = d := by
  simp only [descriptorResendOp]
  split
  · rfl
  · next t held rest hx =>
    rcases h with h | h
    · simp [h]
    · simp [h (t, held) (by simp [hx])]

theorem descriptorResendOp_of_good (hk : dieUp d k = true) (hx : tget (queueAt d (queueKey k)).failed q [] = (t, held) :: rest)
    (ht : t + 50000 ≤ d.mono) (hg : descGood desc = true) :
    descriptorResendOp d k q desc = rejoins (resent d k q rest) k q held := by
  simp only [descriptorResendOp, hx, hk, Nat.not_lt.mpr ht, hg, Bool.not_true, decide_false, Bool.or_self, Bool.false_eq_true, if_false]
  rfl

theorem descriptorResendOp_of_bad (hk : dieUp d k = true) (hx : tget (queueAt d (queueKey k)).failed q [] = (t, held) :: rest)
    (ht : t + 50000 ≤ d.mono) (hg : descGood desc = false) :
    descriptorResendOp d k q desc = entryDropped (descBad (resent d k q rest) k) k q := by
  simp only [descriptorResendOp, hx, hk, Nat.not_lt.mpr ht, hg, Bool.not_true, Bool.not_false, decide_false, Bool.or_self, Bool.false_eq_true,
    if_false, if_true]
  rfl

theorem rejoins_resent (d : Device) (k q : Nat) (rest : List (Nat × Option CtlMsg)) (held : Option CtlMsg) :
    tget (queueAt (rejoins (resent d k q rest) k q held) (queueKey k)).failed q [] = rest ∧
    (∀ j, (queueAt (rejoins (resent d k q rest) k q held) j).ctl = match ctlDest k q, held with
      | some p, some m => if j = p then (queueAt d j).ctl ++ [m] else (queueAt d j).ctl
      | _, _ => (queueAt d j).ctl) ∧
    Keeps [.queues] noReg d (rejoins (resent d k q rest) k q held) := by
  have ctl : ∀ j, (queueAt (resent d k q rest) j).ctl = (queueAt d j).ctl := fun j => by
    rw [resent, queueAt_setQueue]
    split
    · next h => rw [h]
    · rfl
  have failed : tget (queueAt (resent d k q rest) (queueKey k)).failed q [] = rest := by simp [resent]
  have frame : Keeps [.queues] noReg d (resent d k q rest) := keeps_setQueue _ _ _ (by simp)
  have quiet : ∀ e, e = resent d k q rest → tget (queueAt e (queueKey k)).failed q [] = rest ∧
      (∀ j, (queueAt e j).ctl = (queueAt d j).ctl) ∧ Keeps [.queues] noReg d e := by
    rintro e rfl
    exact ⟨failed, ctl, frame⟩
  cases hd : ctlDest k q with
  | none => simpa [rejoins, hd] using quiet _ rfl
  | some p =>
    cases held with
    | none => simpa [rejoins, hd] using quiet _ rfl
    | some m =>
      simp only [rejoins, hd, modQueue_eq]
      refine ⟨?_, fun j => ?_, (keeps_setQueue_iff (by simp)).mpr frame⟩
      · rw [queueAt_setQueue]
        split
        · next h =>
          subst h
          exact failed
        · exact failed
      · rw [queueAt_setQueue]
        by_cases h : j = p
        · subst h
          simp [ctl]
        · rw [if_neg (Ne.symm h), ctl, if_neg h]

/-- A second failure drops the entry. -/
theorem entryDropped_resent (hk8 : k < 8) (d : Device) (q : Nat) (rest : List (Nat × Option CtlMsg)) :
    let e := entryDropped (descBad (resent d k q rest) k) k q
    tget (queueAt e (queueKey k)).failed q [] = rest ∧ (∀ j, (queueAt e j).ctl = (queueAt d j).ctl) ∧
    (2 ≤ k → Counted d e (0x3030 + 0x100 * (k - 2)) 2 1) ∧
    (2 ≤ k → (q = 60 ∨ q = 61) → (linkAt e (2 * (k - 2) + (q - 60))).spoiled = true) ∧
    Recorded d e k 26 (descUnit k) ∧ Keeps (.queues :: .links :: eventParts) (descReg k) d e := by
  have bad := keeps_descBad (resent d k q rest) hk8
  have first : Keeps [.queues] noReg d (resent d k q rest) := keeps_setQueue _ _ _ (by simp)
  have drop : Keeps [.links] noReg (descBad (resent d k q rest) k) (entryDropped (descBad (resent d k q rest) k) k q) := by
    simp [entryDropped]
  have queue : ∀ j, queueAt (entryDropped (descBad (resent d k q rest) k) k q) j = queueAt (resent d k q rest) j := fun j => by
    rw [drop.queueAt (by simp), bad.queueAt (by decide)]
  refine ⟨?_, fun j => ?_, fun h2 => ?_, fun h2 h => ?_, ?_, ?_⟩
  · rw [queue]
    simp [resent]
  · rw [queue, resent, queueAt_setQueue]
    split
    · next h => rw [h]
    · rfl
  · have free : ¬ noReg (0x3030 + 0x100 * (k - 2)) 2 := fun h => h
    rw [Counted, drop.regN (by decide) free, counted_descBad (resent d k q rest) hk8 h2, first.regN (by decide) free]
  · rw [entryDropped, if_pos ⟨h2, h⟩]
    simp
  · exact recorded_of_ring (recorded_descBad (resent d k q rest)) (drop.ringAt (by simp) k)
  · exact (first.mono (by decide) fun _ _ h => h.elim).trans ((bad.mono (by decide) fun _ _ h => h).trans
      (drop.mono (by decide) fun _ _ h => h.elim))

end

/-- Settles O30, class by class. -/
theorem descriptorsAreCheckedAndResentOnce : Obligations.DescriptorsAreCheckedAndResentOnce := by
  refine ⟨fun dt s d k q desc u hd hk hq he hu hg => ?_, fun dt s d k q desc hd h => ?_, fun dt s d k q desc hd hk hq he hg hc => ?_,
    fun dt s d k q desc p h w n t S L f hd hk hg hp h24 h32 hh hw hn hf hS hL hF => ?_,
    fun dt s d k q desc p hd hk hg hp h32 h36 hw hs => ?_, fun dt s d k q desc p i start l hd hk hg hp h16 h24 hs => ?_,
    fun dt s d k q desc p u x rest hd hk hg hp h36 h44 hu hx => ?_,
    fun dt s d k q desc p src idx x hd hk hg hp h16 hf hi hle hx => ?_, fun dt s d k q desc p r hd hk hg hp h44 h49 hw hr => ?_,
    fun dt s d k q desc hd hk hg hk2 hq => ?_, fun dt s d k q desc t held rest hd hk hx ht hg => ?_,
    fun dt s d k q desc t held rest hd hk hx ht hg => ?_, fun dt s d k q desc hd h => ?_⟩
  · refine does_of_act (f := (queueDequeueOp · k q desc)) rfl hd ?_
    clear hd
    subst hu
    simp only [queueDequeueOp_of_good hk hq he hg]
    exact ⟨by simp [dequeued], fun j hj => by simp [dequeued, hj.symm], by simp [dequeued]⟩
  · refine does_of_act (f := (queueDequeueOp · k q desc)) rfl hd ?_
    clear hd
    simp only [queueDequeueOp_of_nothing h]
    simp
  · refine does_of_act (f := (queueDequeueOp · k q desc)) rfl hd ?_
    clear hd
    simp only [queueDequeueOp_of_held hk hq he hg hc]
    obtain ⟨waits, frame⟩ := entryHeld_failedOut (d := d) (q := q) k.isLt
    have failed := keeps_failedOut (d := d) (q := q) k.isLt
    refine ⟨waits, fun h2 => ?_, recorded_settle.mpr (recorded_of_ring (recorded_failedOut (q := q)) (frame.ringAt (by simp) k)),
      keeps_settled ((failed.mono (fun _ h => h) fun _ _ h => h.imp_right fun h => h.2).trans (frame.mono (by simp) fun _ _ h => h.elim))⟩
    rw [Counted, regN_settle _ _ _ (by decide), frame.regN (by decide) fun h => h, counted_failedOut k.isLt h2]
  · refine does_of_act (f := (queueDequeueOp · k q desc)) rfl hd ?_
    obtain ⟨lost, recorded, others, frame⟩ := dequeue_scan hp k.isLt hk hg h24 h32 hh hw hn hf hS hL hF
    exact ⟨lost, recorded, others, keeps_settled frame⟩
  · refine does_of_act (f := (queueDequeueOp · k q desc)) rfl hd ?_
    obtain ⟨lost, counted, recorded, frame⟩ := dequeue_writeback hp k.isLt hk hg h32 h36 hw hs
    exact ⟨lost, by rw [Counted, regN_settle _ _ _ (by decide), counted], recorded, keeps_settled frame⟩
  · refine does_of_act (f := (queueDequeueOp · k q desc)) rfl hd ?_
    obtain ⟨lost, recorded, counted, frame⟩ := dequeue_pipeline hp k.isLt hk hg h16 h24 hs
    exact ⟨lost, recorded, fun c hc he => by rw [Counted, regN_settle _ _ _ (by decide), counted c hc he], keeps_settled frame⟩
  · refine does_of_act (f := (queueDequeueOp · k q desc)) rfl hd ?_
    obtain ⟨lost, owed, recorded, frame⟩ := dequeue_spur hp k.isLt hk hg h36 h44 hu hx
    exact ⟨lost, owed, recorded, keeps_settled frame⟩
  · refine does_of_act (f := (queueDequeueOp · k q desc)) rfl hd ?_
    obtain ⟨lost, spoiled, recorded, others, frame⟩ := dequeue_ingress hp k.isLt hk hg h16 hf hi hle hx
    exact ⟨lost, spoiled, recorded, others, keeps_settled frame⟩
  · refine does_of_act (f := (queueDequeueOp · k q desc)) rfl hd ?_
    obtain ⟨lost, counted, others, frame⟩ := dequeue_memory hp k.isLt hk hg h44 h49 hw hr
    exact ⟨lost, by rw [Counted, regN_settle _ _ _ (by decide), counted], others, keeps_settled frame⟩
  · refine does_of_act (f := (queueDequeueOp · k q desc)) rfl hd ?_
    obtain ⟨recorded, failed, frame⟩ := dequeue_control hk2 hk hg hq
    exact ⟨recorded, failed, keeps_settled frame⟩
  · refine does_of_act (f := (descriptorResendOp · k q desc)) rfl hd ?_
    clear hd
    simp only [descriptorResendOp_of_good hk hx ht hg]
    obtain ⟨left, ctl, frame⟩ := rejoins_resent d k q rest held
    exact ⟨left, fun j => ctl j, keeps_settled frame⟩
  · refine does_of_act (f := (descriptorResendOp · k q desc)) rfl hd ?_
    clear hd
    simp only [descriptorResendOp_of_bad hk hx ht hg]
    obtain ⟨left, ctl, counted, spoiled, recorded, frame⟩ := entryDropped_resent k.isLt d q rest
    refine ⟨left, ctl, fun h2 => by rw [Counted, regN_settle _ _ _ (by decide), counted h2], spoiled, recorded, keeps_settled ?_⟩
    exact frame.mono (fun _ h => h) fun _ _ h => h.imp_right fun h => h.2
  · refine does_of_act (f := (descriptorResendOp · k q desc)) rfl hd ?_
    clear hd
    simp only [descriptorResendOp_of_nothing h]
    simp

end Sys2Proof
end

section
/-! PROOFS. Touch: bring-up, frame slots and samples, and the reports that leave the ring (R243 to R268). -/

namespace Sys2Proof

open Machine Safety

/-! ### Bring-up (R247) -/

section
variable {d : Device} {k : Nat}

theorem touchFailed_of_ok (h : bringFailed (linkAt d k) d.mono = false) : touchFailed d k = d := by simp [touchFailed, h]

theorem touchHeard_of_ok (h : bringFailed (linkAt d k) d.mono = false) :
    touchHeard d k = setLink d k { linkAt d k with lastUp := d.mono } := by
  rw [touchHeard, touchFailed_of_ok h]
  rfl

/-- A step of bring-up has not failed while its time runs. -/
theorem bringFailed_of_intime {u : TouchUnit} {now : Nat} (h : now ≤ u.stepAt + bringLimit u.step) : bringFailed u now = false := by
  have : ¬ u.stepAt + bringLimit u.step < now := by omega
  simp [bringFailed, this]

theorem up_of_step {u : TouchUnit} (h0 : u.step ≠ 0) (h11 : u.step < 11) : ¬ (u.step = 0 ∨ 11 ≤ u.step) := by omega

theorem touchSend_eq (x : Device) (cmd : Nat) (payload : List Byte) :
    touchSend x k cmd payload =
      { x with tx := x.tx ++ [⟨6 + k, 7, cmd, beBytes 1 cmd ++ beBytes 1 payload.length ++ payload ++
        beBytes 2 (crc16 (beBytes 1 cmd ++ beBytes 1 payload.length ++ payload))⟩] } := by
  have h : ¬ (6 + k < 4 ∧ !ctlUp x (ctlOfPort (6 + k))) := by omega
  simp only [touchSend, send, if_neg h]

theorem keeps_touchSend {ps : List Part} {rs : Nat → Nat → Prop} (x : Device) (cmd : Nat) (payload : List Byte) (h : Part.tx ∈ ps) :
    Keeps ps rs x (touchSend x k cmd payload) := keeps_send x _ _ _ _ h

theorem touchStep_eq (x : Device) (n : Nat) : touchStep x k n = setLink x k { linkAt x k with step := n, stepAt := x.mono } := rfl

theorem bringUp_idle (hs : (linkAt d k).step ≠ 0) (hl : (linkAt d k).step < 11) (hf : bringFailed (linkAt d k) d.mono = false) :
    (linkAt (touchIdleOp d k) k).lastUp = d.mono ∧
    (if (linkAt d k).step = 1 then
       (linkAt (touchIdleOp d k) k).step = 2 ∧ (linkAt (touchIdleOp d k) k).stepAt = d.mono ∧
       (touchIdleOp d k).tx = d.tx ++ [Msg.mk (6 + k) 7 2 ([2, 0] ++ beBytes 2 (crc16 [2, 0]))]
     else (linkAt (touchIdleOp d k) k).step = (linkAt d k).step ∧ (touchIdleOp d k).tx = d.tx) ∧
    (∀ j, j ≠ k → linkAt (touchIdleOp d k) j = linkAt d j) ∧ Keeps [.links, .tx] noReg d (touchIdleOp d k) := by
  have hb : ([2, 0] : List Byte) = beBytes 1 2 ++ beBytes 1 ([] : List Byte).length ++ [] := by decide
  by_cases h1 : (linkAt d k).step = 1
  · have e : touchIdleOp d k =
        touchSend (setLink d k { linkAt d k with lastUp := d.mono, step := 2, stepAt := d.mono }) k 2 [] := by
      simp [touchIdleOp, touchHeard_of_ok hf, h1, hf, touchStep_eq]
    rw [e, touchSend_eq]
    refine ⟨?_, ?_, ?_, ?_⟩
    · simp [linkAt]
    · rw [if_pos h1, hb]
      simp [linkAt]
    · intro j hj
      simp [linkAt, hj.symm]
    · exact (keeps_setLink d k _ (by simp)).trans (keeps_tx _ _ (by simp))
  · have e : touchIdleOp d k = setLink d k { linkAt d k with lastUp := d.mono } := by
      simp [touchIdleOp, up_of_step hs hl, touchHeard_of_ok hf, h1]
    rw [e]
    refine ⟨by simp, by simp [h1], fun j hj => by simp [hj.symm], keeps_setLink d k _ (by simp)⟩

theorem bringLimit_eq (n : Nat) : bringLimit n = if n = 1 then 10000000 else if n = 2 then 100000 else 1000000 := rfl

/-- TOUCH_LINK_DOWN is said once. -/
theorem touchDownSaid_reads (hk : k < 12) :
    linkAt (touchDownSaid d k) k = { linkAt d k with downSaid := true } ∧
    (∀ j, j ≠ k → linkAt (touchDownSaid d k) j = linkAt d j) ∧
    (if (linkAt d k).downSaid = true then (touchDownSaid d k).rings = d.rings
     else Recorded d (touchDownSaid d k) (k / 2 + 2) 38 (0x5800 + k)) ∧
    Keeps (.links :: eventParts) eventReg d (touchDownSaid d k) := by
  by_cases h : (linkAt d k).downSaid = true
  · have e : touchDownSaid d k = d := by simp [touchDownSaid, h]
    rw [e]
    refine ⟨?_, fun _ _ => rfl, by simp [h], keeps_self⟩
    rw [← h]
  · have e : touchDownSaid d k = raise (setLink d k { linkAt d k with downSaid := true }) (k / 2 + 2) 38 (0x5800 + k) := by
      simp [touchDownSaid, h, modLink, touchDie, dieOfLink, touchCfg]
    rw [e, if_neg h]
    refine ⟨by simp, fun j hj => by simp [hj.symm], recorded_raise_of (by simp) _ (by decide), ?_⟩
    exact (keeps_setLink d k _ (by simp)).trans (keeps_raise _ _ _ _ (by omega) (by decide) (fun _ _ h => h))

theorem keeps_touchStart {ps : List Part} {rs : Nat → Nat → Prop} (x : Device) (said : Bool) (h : Part.links ∈ ps) :
    Keeps ps rs x (touchStart x k said) := keeps_setLink x k _ h

theorem linkAt_touchStart (x : Device) (said : Bool) : linkAt (touchStart x k said) k =
    { TouchUnit.reset with step := 1, since := x.mono, stepAt := x.mono, downSaid := said, lastUp := x.mono
                           frameNo := (linkAt x k).frameNo, cfg := touchCfgNow x k
                           carrier := firstCarrier (pickN 0x5800 (touchCfgNow x k) 5) } := by
  simp [touchStart, modLink]

theorem linkAt_touchStart_of_ne (x : Device) (said : Bool) {j : Nat} (h : j ≠ k) : linkAt (touchStart x k said) j = linkAt x j := by
  simp [touchStart, modLink, h.symm]

theorem bringUp_retry (hk : k < 12) (h1 : 1 ≤ (linkAt d k).step) (h3 : (linkAt d k).step ≤ 3)
    (ht : (linkAt d k).stepAt + bringLimit (linkAt d k).step < d.mono) :
    (linkAt (touchRetryOp d k) k).downSaid = true ∧
    (if (linkAt d k).since + 100000000 ≤ d.mono then
       (linkAt (touchRetryOp d k) k).step = 1 ∧ (linkAt (touchRetryOp d k) k).since = d.mono ∧
       (linkAt (touchRetryOp d k) k).stepAt = d.mono ∧ (linkAt (touchRetryOp d k) k).acked = []
     else linkAt (touchRetryOp d k) k = { linkAt d k with downSaid := true }) ∧
    (if (linkAt d k).downSaid = true then (touchRetryOp d k).rings = d.rings
     else Recorded d (touchRetryOp d k) (k / 2 + 2) 38 (0x5800 + k)) ∧
    (∀ j, j ≠ k → linkAt (touchRetryOp d k) j = linkAt d j) ∧ Keeps (.links :: eventParts) eventReg d (touchRetryOp d k) := by
  have hf : bringFailed (linkAt d k) d.mono = true := by simp [bringFailed, h1, h3, ht]
  obtain ⟨hl, hj, hr, hkeep⟩ := touchDownSaid_reads (d := d) hk
  have hm : (touchDownSaid d k).mono = d.mono := hkeep.mono_eq (by decide)
  by_cases hs : (linkAt d k).since + 100000000 ≤ d.mono
  · have e : touchRetryOp d k = touchStart (touchDownSaid d k) k true := by simp [touchRetryOp, touchFailed, hf, hs, hm]
    have hring : (touchRetryOp d k).rings = (touchDownSaid d k).rings := by rw [e]; rfl
    rw [Recorded, ringAt, hring, ← ringAt, ← Recorded, e, linkAt_touchStart, if_pos hs]
    exact ⟨rfl, ⟨rfl, hm, hm, rfl⟩, hr, fun j h => (linkAt_touchStart_of_ne _ _ h).trans (hj j h),
      hkeep.trans (keeps_touchStart _ _ (by simp))⟩
  · have e : touchRetryOp d k = touchDownSaid d k := by simp [touchRetryOp, touchFailed, hf, hs, hm]
    rw [e, if_neg hs, hl]
    exact ⟨rfl, rfl, hr, hj, hkeep⟩

/-- The registers in which IDENT's maxima show. -/
def identReg (k i s : Nat) : Prop := i = 0x5840 + k ∧ (s = 2 ∨ s = 3)

/-- IDENT's maxima noted. -/
def identified (d : Device) (k ver rows cols part : Nat) : Device :=
  setN (setN d (0x5840 + k) 2 (2 ^ 63 + (ver % 256) * 2 ^ 48 + (rows % 256) * 2 ^ 40 + part % 2 ^ 32)) (0x5840 + k) 3 (0x8000 + cols % 512)

theorem regN_identified (ver rows cols part : Nat) :
    regN (identified d k ver rows cols part) (0x5840 + k) 2 = 2 ^ 63 + (ver % 256) * 2 ^ 48 + (rows % 256) * 2 ^ 40 + part % 2 ^ 32 ∧
    regN (identified d k ver rows cols part) (0x5840 + k) 3 = 0x8000 + cols % 512 := by
  simp [identified]

theorem keeps_identified {ps : List Part} (ver rows cols part : Nat) :
    Keeps ps (identReg k) d (identified d k ver rows cols part) := by
  exact (keeps_setN d _ _ _ (by decide) ⟨rfl, .inl rfl⟩).trans (keeps_setN _ _ _ _ (by decide) ⟨rfl, .inr rfl⟩)

theorem tx_writeReg (x : Device) (addr v : Nat) : (writeReg x k addr v).tx.length = x.tx.length + 1 := by
  rw [writeReg, touchSend_eq]
  simp

/-- The four registers of the front-end that IDENT's answer is followed by. -/
def frontSet (d : Device) (k : Nat) (u : TouchUnit) : Device :=
  writeReg (writeReg (writeReg (writeReg d k 1 (tc u 2)) k 2 (tc u 3)) k 3 (tc u 0x13)) k 4 (tc u 0x14)

theorem keeps_frontSet (x : Device) (u : TouchUnit) : Keeps [.tx] noReg x (frontSet x k u) :=
  (((keeps_touchSend x _ _ (by simp)).trans (keeps_touchSend _ _ _ (by simp))).trans (keeps_touchSend _ _ _ (by simp))).trans
    (keeps_touchSend _ _ _ (by simp))

theorem tx_frontSet (x : Device) (u : TouchUnit) : (frontSet x k u).tx.length = x.tx.length + 4 := by
  simp only [frontSet, tx_writeReg]

theorem touchIdentOp_of_fit {ver rows cols part : Nat} (h2 : (linkAt d k).step = 2) (hf : bringFailed (linkAt d k) d.mono = false)
    (hfit : ver = 1 ∧ tc (linkAt d k) 2 ≤ rows ∧ tc (linkAt d k) 3 ≤ cols) :
    touchIdentOp d k ver rows cols part = frontSet (setLink (identified (setLink d k { linkAt d k with lastUp := d.mono }) k ver rows cols part) k
      { linkAt d k with lastUp := d.mono, step := 3, stepAt := d.mono }) k (linkAt d k) := by
  have hn : ¬ (ver ≠ 1 ∨ rows < tc (linkAt d k) 2 ∨ cols < tc (linkAt d k) 3) := by omega
  simp only [touchIdentOp, touchHeard_of_ok hf]
  rw [if_neg (by omega), if_neg (by simp [h2, hf]), if_neg hn, touchStep_eq]
  simp [identified, frontSet, touchStat]

theorem touchIdentOp_of_unfit {ver rows cols part : Nat} (h2 : (linkAt d k).step = 2) (hf : bringFailed (linkAt d k) d.mono = false)
    (hfit : ¬ (ver = 1 ∧ tc (linkAt d k) 2 ≤ rows ∧ tc (linkAt d k) 3 ≤ cols)) :
    touchIdentOp d k ver rows cols part = setLink (identified (setLink d k { linkAt d k with lastUp := d.mono }) k ver rows cols part) k
      { linkAt d k with lastUp := d.mono, step := 11, stepAt := d.mono } := by
  have hn : ver ≠ 1 ∨ rows < tc (linkAt d k) 2 ∨ cols < tc (linkAt d k) 3 := by omega
  simp only [touchIdentOp, touchHeard_of_ok hf]
  rw [if_neg (by omega), if_neg (by simp [h2, hf]), if_pos hn, touchStep_eq]
  simp [identified, touchStat]

theorem touchAckOp_of_wait {addr : Nat} (h3 : (linkAt d k).step = 3) (hf : bringFailed (linkAt d k) d.mono = false)
    (h1 : 1 ≤ addr) (h4 : addr ≤ 4) (l : List Nat) (hl : l = ((linkAt d k).acked ++ [addr]).eraseDups) :
    touchAckOp d k addr = setLink d k (if l.length = 4 then { linkAt d k with lastUp := d.mono, acked := l, step := 4, stepAt := d.mono }
      else { linkAt d k with lastUp := d.mono, acked := l }) := by
  subst hl
  simp only [touchAckOp, touchHeard_of_ok hf]
  rw [if_neg (by omega), if_neg (by simp [h3, hf]; omega)]
  split <;> simp [modLink, touchStep_eq]

theorem touchRegOp_of_up {addr v : Nat} (hs : (linkAt d k).step ≠ 0) (hl : (linkAt d k).step < 11)
    (hf : bringFailed (linkAt d k) d.mono = false) :
    touchRegOp d k addr v = setLink d k { linkAt d k with lastUp := d.mono, front := tput (linkAt d k).front addr v } := by
  simp only [touchRegOp, touchHeard_of_ok hf]
  rw [if_neg (by omega)]
  simp [modLink]

end

/-- Settles O31, clause by clause along bring-up's steps. -/
theorem touchBringUpAdvances : Obligations.TouchBringUpAdvances := by
  unfold Obligations.TouchBringUpAdvances
  refine ⟨?idle, ?retry, ?ident, ?ack, ?front⟩
  case idle =>
    intro dt s d k u hd hu h0 h11 hf
    refine does_of_act (f := fun d => touchIdleOp d k) rfl hd ?_
    subst hu
    simpa only [linkAt_settle, keeps_settle_iff, settle_tx] using bringUp_idle h0 h11 hf
  case retry =>
    intro dt s d k u hd hu h1 h3 ht
    refine does_of_act (f := fun d => touchRetryOp d k) rfl hd ?_
    subst hu
    simpa only [linkAt_settle, keeps_settle_iff, recorded_settle, settle_rings] using bringUp_retry k.isLt h1 h3 ht
  case ident =>
    intro dt s d k ver rows cols part u hd hu h2 ht
    refine does_of_act (f := fun d => touchIdentOp d k ver rows cols part) rfl hd ?_
    subst hu
    have hf : bringFailed (linkAt d k) d.mono = false := bringFailed_of_intime (by rw [bringLimit_eq, h2]; exact ht)
    obtain ⟨r2, r3⟩ := regN_identified (d := setLink d k { linkAt d k with lastUp := d.mono }) (k := k) ver rows cols part
    have noted : Keeps [.links] (identReg k) d (identified (setLink d k { linkAt d k with lastUp := d.mono }) k ver rows cols part) :=
      (keeps_setLink d k _ (by simp)).trans (keeps_identified ver rows cols part)
    have htx := noted.tx_eq (by simp)
    have hother : ∀ j : Nat, j ≠ k → linkAt (identified (setLink d k { linkAt d k with lastUp := d.mono }) k ver rows cols part) j = linkAt d j := by
      intro j hj
      simp [identified, hj.symm]
    by_cases hfit : ver = 1 ∧ tc (linkAt d k) 2 ≤ rows ∧ tc (linkAt d k) 3 ≤ cols
    · simp only [touchIdentOp_of_fit h2 hf hfit, if_pos hfit, linkAt_settle, keeps_settle_iff, regN_settle _ _ _ (show 2 < 256 by decide),
        regN_settle _ _ _ (show 3 < 256 by decide)]
      generalize identified (setLink d k { linkAt d k with lastUp := d.mono }) k ver rows cols part = x at *
      have sent := keeps_frontSet (k := k) (setLink x k { linkAt d k with lastUp := d.mono, step := 3, stepAt := d.mono }) (linkAt d k)
      refine ⟨?_, ⟨?_, ?_, ?_⟩, ?_, ?_, ?_, ?_⟩
      · simp [sent.linkAt (by simp)]
      · simp [sent.linkAt (by simp)]
      · simp [sent.linkAt (by simp)]
      · exact (tx_frontSet _ _).trans (congrArg (·.length + 4) htx)
      · rw [sent.regN (by decide) id]; simpa using r2
      · rw [sent.regN (by decide) id]; simpa using r3
      · intro j hj
        rw [sent.linkAt (by simp)]
        simpa [hj.symm] using hother j hj
      · exact (noted.mono (by simp) (fun _ _ h => h)).trans ((keeps_setLink x k _ (by simp)).trans (sent.mono (by simp) (fun _ _ h => h.elim)))
    · simp only [touchIdentOp_of_unfit h2 hf hfit, if_neg hfit, linkAt_settle, keeps_settle_iff, regN_settle _ _ _ (show 2 < 256 by decide),
        regN_settle _ _ _ (show 3 < 256 by decide)]
      generalize identified (setLink d k { linkAt d k with lastUp := d.mono }) k ver rows cols part = x at *
      refine ⟨by simp, ⟨by simp, htx⟩, by simpa using r2, by simpa using r3, ?_, ?_⟩
      · intro j hj
        simpa [hj.symm] using hother j hj
      · exact (noted.mono (by simp) (fun _ _ h => h)).trans (keeps_setLink x k _ (by simp))
  case ack =>
    intro dt s d k addr u hd hu h3 ht h1 h4
    refine does_of_act (f := fun d => touchAckOp d k addr) rfl hd ?_
    subst hu
    have hf : bringFailed (linkAt d k) d.mono = false := bringFailed_of_intime (by rw [bringLimit_eq, h3]; exact ht)
    simp only [touchAckOp_of_wait h3 hf h1 h4 _ rfl, linkAt_settle, keeps_settle_iff]
    refine ⟨?_, ?_, ?_, fun j hj => by simp [hj.symm], keeps_setLink d _ _ (by simp)⟩ <;>
      split <;> simp_all
  case front =>
    intro dt s d k addr v u hd hu h0 h11 hf
    refine does_of_act (f := fun d => touchRegOp d k addr v) rfl hd ?_
    subst hu
    simp only [touchRegOp_of_up h0 h11 hf, linkAt_settle, keeps_settle_iff]
    exact ⟨by simp, by simp, by simp, fun j hj => by simp [hj.symm], keeps_setLink d _ _ (by simp)⟩

/-! ### Frame slots (R252, R268) -/

/-- Link 0 was disabled and enabled again since its last slot: the next slot still stops it and starts its bring-up anew. -/
def disabledSinceSlot : Device := { Device.reset with
  mono := 100000, force := [(regKey 0x5800 1, .num 1)], regs := [(regKey 0x5800 1, .num 1)],
  pix := [(0, { PixelDie.reset with out := true })], links := [(0, { TouchUnit.reset with step := 10, off := true })] }

theorem disabledSinceSlot_slotAt : (linkAt (touchSlotOp disabledSinceSlot 0) 0).slotAt ≠ disabledSinceSlot.mono := by decide +kernel

/-- Refutes O32: a slot of a link that was disabled since the last one starts no frame, even where the link is enabled again. -/
theorem not_touchFramesStartFillAndSpoil : ¬ Obligations.TouchFramesStartFillAndSpoil := by
  intro h
  obtain ⟨slot, -⟩ := h
  have does := of_does_at (f := (touchSlotOp · 0)) rfl
    (slot 0 { pending := [], dev := disabledSinceSlot } disabledSinceSlot 0 _ (elapse_zero _).symm rfl (by decide) (by decide) (by decide)
      rfl (.inl rfl) rfl rfl rfl rfl rfl (by decide) (by decide))
  obtain ⟨-, slotAt, -⟩ := does
  exact disabledSinceSlot_slotAt slotAt

/-! ### Messages to sessions, and the audit record of one that closes (R323, R327, R357) -/

theorem supDie_lt (d : Device) : supDie d < 2 := by
  unfold supDie activeCtl
  split
  · simp
  · split
    · simp
    · simp only [Option.getD_none]
      split <;> omega

theorem supDie_lt_eight (d : Device) : supDie d < 8 := Nat.lt_trans (supDie_lt d) (by decide)

/-- The parts that an audit record changes, within a list. -/
structure AuditIn (ps : List Part) : Prop where
  audit : Part.audit ∈ ps
  awaiting : Part.awaiting ∈ ps
  events : ∀ p ∈ eventParts, p ∈ ps

theorem auditIn_auditParts : AuditIn auditParts := ⟨by decide, by decide, by decide⟩

section
variable {ps : List Part} {rs : Nat → Nat → Prop}

theorem keeps_auditPush (d : Device) (kind session roles target : Nat) (detail : List Byte) (h : AuditIn ps) :
    Keeps ps rs d (auditPush d kind session roles target detail) :=
  ⟨fun p hp => by
    cases p with
    | audit => exact absurd h.audit hp
    | awaiting => exact absurd h.awaiting hp
    | force | record => exact fun _ _ _ => rfl
    | memory => exact fun _ => rfl
    | _ => rfl, fun _ _ _ _ => rfl⟩

theorem keeps_auditAdd (d : Device) (kind session roles target : Nat) (detail : List Byte) (h : AuditIn ps)
    (hr : ∀ i s, eventReg i s → rs i s) : Keeps ps rs d (auditAdd d kind session roles target detail) := by
  have pushed := keeps_auditPush (rs := rs) d kind session roles target detail h
  dsimp only [auditAdd]
  split
  · exact pushed
  · split
    · exact ((pushed.trans (keeps_audit _ _ h.audit)).trans (keeps_auditPush _ _ _ _ _ _ h)).trans
        (keeps_raise _ _ _ _ (supDie_lt_eight _) h.events hr)
    · exact ((pushed.trans (keeps_audit _ _ h.audit)).trans (keeps_auditPush _ _ _ _ _ _ h)).trans
        (keeps_raise _ _ _ _ (supDie_lt_eight _) h.events hr)

theorem keeps_setSess (d : Device) (k : Nat) (v : Session) (h : Part.sup ∈ ps) : Keeps ps rs d (setSess d k v) := keeps_sup d _ h

theorem keeps_layers (d : Device) (v : Table LayerUnit) (h : Part.layers ∈ ps) : Keeps ps rs d { d with layers := v } :=
  ⟨fun p hp => by cases p <;> simp_all [Same, memByte, Machine.frc], fun _ _ _ _ => rfl⟩

/-- The parts that a message to sessions changes, within a list. -/
structure PushIn (ps : List Part) : Prop extends AuditIn ps where
  layers : Part.layers ∈ ps

theorem pushIn_pushParts : PushIn pushParts := ⟨⟨by decide, by decide, by decide⟩, by decide⟩

theorem PushIn.tx (h : PushIn ps) : Part.tx ∈ ps := h.events _ (by decide)
theorem PushIn.sup (h : PushIn ps) : Part.sup ∈ ps := h.events _ (by decide)

theorem keeps_closeSession (d : Device) {k : Nat} (hk : k < 8) (reason : Nat) (h : PushIn ps) (hr : ∀ i s, pushReg i s → rs i s) :
    Keeps ps rs d (closeSession d k reason) := by
  have hev : ∀ i s, eventReg i s → rs i s := fun i s he => hr i s (.inl he)
  have h27 : ∀ s, rs 0x2700 s := fun s => hr _ s (.inr (.inl rfl))
  have h203 : ∀ s, rs (0x2030 + k) s := fun s => hr _ s (.inr (.inr ⟨by omega, by omega⟩))
  unfold closeSession
  split
  · exact keeps_self
  · exact (((((((keeps_auditAdd d _ _ _ _ _ h.toAuditIn hev).trans (keeps_layers _ _ h.layers)).trans
      (keeps_setN _ _ _ _ (by omega) (h27 _))).trans (keeps_setN _ _ _ _ (by omega) (h27 _))).trans (keeps_setSess _ _ _ h.sup)).trans
      (keeps_setN _ _ _ _ (by decide) (h203 _)))).trans (keeps_raiseD _ _ _ _ _ (supDie_lt_eight _) h.events hev)

theorem keeps_dxpMessage (d : Device) {k : Nat} (hk : k < 8) (port kind op sub idx status : Nat) (payload : List Byte) (h : PushIn ps)
    (hr : ∀ i s, pushReg i s → rs i s) : Keeps ps rs d (dxpMessage d k port kind op sub idx status payload) := by
  unfold dxpMessage
  split
  · exact keeps_self
  · have sent := (keeps_setSess (ps := ps) (rs := rs) d k { sessAt d k with counter := (sessAt d k).counter + 1 } h.sup).trans
      (keeps_send _ port kind k (dxpSealed (sessAt d k).keys (dxpHeader k ((sessAt d k).counter + 1) op sub idx payload.length status)
        ((sessAt d k).counter + 1) payload) h.tx)
    dsimp only
    split
    · exact sent.trans (keeps_closeSession _ hk 4 h hr)
    · exact sent

theorem keeps_dxpPushAll (d : Device) (op : Nat) (payload : List Byte) (p : Device → Nat → Bool) (h : PushIn ps)
    (hr : ∀ i s, pushReg i s → rs i s) : Keeps ps rs d (dxpPushAll d op payload p) := by
  refine keeps_forEach _ _ (fun x k hk => ?_) _
  split
  · exact keeps_dxpMessage x (List.mem_range.mp hk) _ _ _ _ _ _ _ h hr
  · exact keeps_self

end

/-! ### Reports (R258, R262 to R266) -/

/-- What the delivery of a report may change. -/
def reportParts : List Part := .tracks :: .audit :: .awaiting :: .layers :: eventParts

/-- Registers that the delivery of a report may change: the sessions', and the count of reports lost. -/
def deliveryReg (k : Nat) : Nat → Nat → Prop := fun i s => pushReg i s ∨ (i = 0x5840 + k ∧ s = 0x15)

theorem pushIn_reportParts : PushIn reportParts := ⟨⟨by decide, by decide, by decide⟩, by decide⟩

section
variable {d : Device} {k : Nat}

/-- Delivery empties what waits and leaves the rest of every link's track. -/
theorem deliverTouches_reads (d : Device) (k : Nat) :
    (∃ w, trackAt (deliverTouches d k) k = { trackAt d k with waiting := w }) ∧
    (∀ j, j ≠ k → trackAt (deliverTouches d k) j = trackAt d j) ∧ Keeps reportParts pushReg d (deliverTouches d k) := by
  have pushed : ∀ (x : Device) (a b : List Byte) (p : Device → Nat → Bool) (c : Prop) [Decidable c],
      Keeps pushParts pushReg x (if c then dxpPushAll x 0xC2 a p else dxpPushAll (dxpPushAll x 0xC2 a p) 0xC2 b p) := by
    intro x a b p c _
    have first := keeps_dxpPushAll x 0xC2 a p pushIn_pushParts (fun _ _ h => h)
    split
    · exact first
    · exact first.trans (keeps_dxpPushAll _ 0xC2 b p pushIn_pushParts (fun _ _ h => h))
  dsimp only [deliverTouches]
  split
  · exact ⟨⟨(trackAt d k).waiting, rfl⟩, fun _ _ => rfl, keeps_self⟩
  · have sent := pushed (setTrack d k { trackAt d k with waiting := 0 })
      ((((trackAt d k).ring.drop ((trackAt d k).ring.length - (trackAt d k).waiting)).take 40).flatten)
      ((((trackAt d k).ring.drop ((trackAt d k).ring.length - (trackAt d k).waiting)).drop 40).flatten)
      (fun d i => touchSubscribed d i k) (((trackAt d k).ring.drop ((trackAt d k).ring.length - (trackAt d k).waiting)).length ≤ 40)
    refine ⟨⟨0, ?_⟩, fun j hj => ?_, ?_⟩
    · exact (sent.trackAt (by decide) k).trans (by simp)
    · exact (sent.trackAt (by decide) j).trans (by simp [hj.symm])
    · exact (keeps_setTrack d k _ (by decide)).trans (sent.mono (by decide) (fun _ _ h => h))

/-- A device whose link k's ring took report b. -/
def ringed (d : Device) (k : Nat) (b : List Byte) : Device :=
  modTrack d k fun t =>
    { t with ring := (t.ring ++ [b]).drop ((t.ring ++ [b]).length - 64), waiting := min 64 (t.waiting + 1) }

theorem ringReport_eq (b : List Byte) : ringReport d k b =
    if 64 ≤ (trackAt (deliverTouches d k) k).waiting then
      raise (bumpBy (deliverTouches (ringed (deliverTouches d k) k b) k) (0x5840 + k) 0x15 1) (touchDie k) 44 (touchCfg k)
    else deliverTouches (ringed (deliverTouches d k) k b) k := by
  unfold ringReport
  simp only [decide_eq_true_eq]
  rfl

theorem trackAt_ringed (b : List Byte) : trackAt (ringed d k b) k = { trackAt d k with
    ring := ((trackAt d k).ring ++ [b]).drop (((trackAt d k).ring ++ [b]).length - 64)
    waiting := min 64 ((trackAt d k).waiting + 1) } := by
  simp [ringed, modTrack]

theorem getLast?_ringed (l : List (List Byte)) (b : List Byte) : ((l ++ [b]).drop ((l ++ [b]).length - 64)).getLast? = some b := by
  rw [List.getLast?_drop, if_neg (by rw [List.length_append, List.length_singleton]; omega), List.getLast?_append]
  rfl

/-- A report stands last in its link's ring; nothing else of the tracks changes but what waits. -/
theorem ringReport_reads (hk : k < 12) (b : List Byte) :
    (trackAt (ringReport d k b) k).reports = (trackAt d k).reports ∧ (trackAt (ringReport d k b) k).seq = (trackAt d k).seq ∧
    (trackAt (ringReport d k b) k).touches = (trackAt d k).touches ∧ (trackAt (ringReport d k b) k).ring.getLast? = some b ∧
    (∀ j, j ≠ k → trackAt (ringReport d k b) j = trackAt d j) ∧ Keeps reportParts (deliveryReg k) d (ringReport d k b) := by
  obtain ⟨⟨w, hw⟩, other, kept⟩ := deliverTouches_reads d k
  obtain ⟨⟨v, hv⟩, other', kept'⟩ := deliverTouches_reads (ringed (deliverTouches d k) k b) k
  have hx : Keeps [] (deliveryReg k) (deliverTouches (ringed (deliverTouches d k) k b) k)
      (bumpBy (deliverTouches (ringed (deliverTouches d k) k b) k) (0x5840 + k) 0x15 1) :=
    keeps_bumpBy _ _ _ _ (by decide) (.inr ⟨rfl, rfl⟩)
  have ended : ∃ e, e = ringReport d k b ∧ trackAt e k = trackAt (deliverTouches (ringed (deliverTouches d k) k b) k) k ∧
      (∀ j, j ≠ k → trackAt e j = trackAt (deliverTouches (ringed (deliverTouches d k) k b) k) j) ∧
      Keeps eventParts (deliveryReg k) (deliverTouches (ringed (deliverTouches d k) k b) k) e := by
    refine ⟨_, rfl, ?_⟩
    rw [ringReport_eq]
    split
    · exact ⟨by simp, fun j _ => by simp, (hx.mono (by simp) (fun _ _ h => h)).trans
        (keeps_raise _ _ _ _ (by simp [touchDie, dieOfLink]; omega) (fun _ h => h) (fun _ _ h => .inl (.inl h)))⟩
    · exact ⟨rfl, fun _ _ => rfl, keeps_self⟩
  obtain ⟨e, he, hke, hje, hkeep⟩ := ended
  rw [← he, hke, hv, trackAt_ringed, hw]
  refine ⟨rfl, rfl, rfl, getLast?_ringed _ b, fun j hj => ?_, ?_⟩
  · rw [hje j hj, other' j hj, ← other j hj]
    simp [ringed, modTrack, hj.symm]
  · have put : Keeps reportParts (deliveryReg k) (deliverTouches d k) (ringed (deliverTouches d k) k b) := keeps_setTrack _ _ _ (by decide)
    exact (((kept.mono (fun _ h => h) (fun _ _ h => .inl h)).trans put).trans (kept'.mono (fun _ h => h) (fun _ _ h => .inl h))).trans
      (hkeep.mono (by decide) (fun _ _ h => h))

end

section
variable {d : Device} {k : Nat}

/-- Link k's oldest report taken out, numbered and counted. -/
def released (d : Device) (k : Nat) (rest : List Report) (seq : Nat) (downs : Table Nat) : Device :=
  bumpBy (modTrack d k fun t => { t with reports := rest, seq := seq, downs := downs }) (0x5840 + k) 0x12 1

theorem reportBytes_seq (x : Device) (seq : Nat) (r : Report) (m : Option PaneMap) (cell cause down : Nat)
    (shown : Option (Nat × Option Nat × Nat)) : (reportBytes x k seq r m cell cause down shown).take 2 = beBytes 2 seq := by
  simp only [reportBytes, List.append_assoc]
  rw [List.take_append_of_le_length (by simp), List.take_of_length_le (by simp)]

/-- A report whose block is final: what enters the ring begins with its number, and is ACTIONABLE only over a frame. -/
theorem touchReleaseOp_of_final {r : Report} {rest : List Report} (hr : (trackAt d k).reports = r :: rest)
    (hp : pixUp d (dieOfLink k) = true) (hm : ∀ m, frameShown d k r = some m → mapFinal d (tc (linkAt d k) 0x0C) m r.y = true) :
    ∃ b downs cause, touchReleaseOp d k = ringReport (if cause = 1 then
        released d k rest (if (trackAt d k).seq + 1 = 65536 then 1 else (trackAt d k).seq + 1) downs
        else bumpBy (released d k rest (if (trackAt d k).seq + 1 = 65536 then 1 else (trackAt d k).seq + 1) downs) (0x5840 + k) 0x13 1) k b ∧
      b.take 2 = beBytes 2 (if (trackAt d k).seq + 1 = 65536 then 1 else (trackAt d k).seq + 1) ∧
      (frameShown d k r = none → cause ≠ 1) := by
  have final : ((frameShown d k r).map fun m => mapFinal d (tc (linkAt d k) 0x0C) m r.y) ≠ some false := by
    cases h : frameShown d k r with
    | none => simp
    | some m => simp [hm m h]
  have go : ¬ ((!pixUp d (dieOfLink k) || (frameShown d k r).map (fun m => mapFinal d (tc (linkAt d k) 0x0C) m r.y) == some false) = true) := by
    simp [hp, final]
  unfold touchReleaseOp
  rw [hr]
  simp only [if_neg go]
  refine ⟨_, _, _, rfl, reportBytes_seq _ _ _ _ _ _ _ _, fun h => ?_⟩
  simp only [h, touchCause]
  split <;> simp

theorem release_reads (hk : k < 12) {r : Report} {rest : List Report} (hr : (trackAt d k).reports = r :: rest)
    (hp : pixUp d (dieOfLink k) = true) (hm : ∀ m, frameShown d k r = some m → mapFinal d (tc (linkAt d k) 0x0C) m r.y = true) (seq : Nat)
    (hseq : seq = if (trackAt d k).seq + 1 = 65536 then 1 else (trackAt d k).seq + 1) :
    (trackAt (touchReleaseOp d k) k).reports = rest ∧ (trackAt (touchReleaseOp d k) k).seq = seq ∧
    Counted d (touchReleaseOp d k) (0x5840 + k) 0x12 1 ∧
    (frameShown d k r = none → Counted d (touchReleaseOp d k) (0x5840 + k) 0x13 1) ∧
    (∃ b, (trackAt (touchReleaseOp d k) k).ring.getLast? = some b ∧ b.take 2 = beBytes 2 seq) ∧
    (trackAt (touchReleaseOp d k) k).touches = (trackAt d k).touches ∧
    (∀ j, j ≠ k → trackAt (touchReleaseOp d k) j = trackAt d j) ∧ Keeps reportParts anyReg d (touchReleaseOp d k) := by
  obtain ⟨b, downs, cause, he, hb, hcause⟩ := touchReleaseOp_of_final hr hp hm
  rw [← hseq] at he hb
  have untouched : ∀ s, s ≠ 0x15 → ¬ deliveryReg k (0x5840 + k) s := by
    intro s hs h
    simp only [deliveryReg, pushReg, eventReg] at h
    omega
  have hx : ∃ x, x = (if cause = 1 then released d k rest seq downs else bumpBy (released d k rest seq downs) (0x5840 + k) 0x13 1) ∧
      trackAt x k = { trackAt d k with reports := rest, seq := seq, downs := downs } ∧ (∀ j, j ≠ k → trackAt x j = trackAt d j) ∧
      Counted d x (0x5840 + k) 0x12 1 ∧ (cause ≠ 1 → Counted d x (0x5840 + k) 0x13 1) ∧ Keeps [.tracks] anyReg d x := by
    refine ⟨_, rfl, ?_⟩
    have kept : Keeps [.tracks] anyReg d (released d k rest seq downs) :=
      (keeps_setTrack d k _ (by simp)).trans (keeps_bumpBy _ _ _ _ (by decide) trivial)
    split
    · next h1 =>
      exact ⟨by simp [released, modTrack], fun j hj => by simp [released, modTrack, hj.symm],
        by simp [Counted, released, modTrack, regN_bumpBy], fun h => absurd h1 h, kept⟩
    · exact ⟨by simp [released, modTrack], fun j hj => by simp [released, modTrack, hj.symm],
        by simp [Counted, released, modTrack, regN_bumpBy], fun _ => by simp [Counted, released, modTrack, regN_bumpBy],
        kept.trans (keeps_bumpBy _ _ _ _ (by decide) trivial)⟩
  obtain ⟨x, hxe, hxk, hxj, hx12, hx13, hxkeep⟩ := hx
  rw [he, ← hxe]
  obtain ⟨hreports, hsq, htouches, hring, hother, hkeep⟩ := ringReport_reads (d := x) hk b
  rw [hxk] at hreports hsq htouches
  refine ⟨hreports, hsq, ?_, fun h => ?_, ⟨b, hring, hb⟩, htouches, fun j hj => (hother j hj).trans (hxj j hj), ?_⟩
  · rw [Counted, hkeep.regN (by decide) (untouched _ (by decide))]
    exact hx12
  · rw [Counted, hkeep.regN (by decide) (untouched _ (by decide))]
    exact hx13 (hcause h)
  · exact (hxkeep.mono (by decide) (fun _ _ h => h)).trans (hkeep.mono (fun _ h => h) (fun _ _ _ => trivial))

end

section
variable {d : Device} {k : Nat}

theorem addReport_eq (r : Report) : addReport d k r = setTrack d k { trackAt d k with reports := (trackAt d k).reports ++ [r] } := rfl

theorem reportOf_congr {e : Device} (ht : (trackAt e k).film = (trackAt d k).film) (hl : linkAt e k = linkAt d k) (event : Nat) (t : Touch)
    (x y sample : Nat) : reportOf e k event t x y sample = reportOf d k event t x y sample := by
  simp only [reportOf, touchFlags, ht, hl]

/-- A CANCEL of every touch of link k. -/
def cancelled (d : Device) (k : Nat) (l : List Touch) : Device :=
  forEach d l fun d t => addReport d k (reportOf d k 4 t t.x t.y t.sample)

theorem keeps_cancelled (l : List Touch) : Keeps [.tracks] noReg d (cancelled d k l) :=
  keeps_forEach _ _ (fun x _ _ => keeps_setTrack x k _ (by simp)) d

theorem trackAt_cancelled (l : List Touch) : trackAt (cancelled d k l) k =
    { trackAt d k with reports := (trackAt d k).reports ++ l.map fun t => reportOf d k 4 t t.x t.y t.sample } := by
  induction l generalizing d with
  | nil => simp [cancelled]
  | cons t l ih =>
    have step : cancelled d k (t :: l) = cancelled (addReport d k (reportOf d k 4 t t.x t.y t.sample)) k l := rfl
    have flags : ∀ (u : Touch) (r : Report), reportOf (addReport d k r) k 4 u u.x u.y u.sample = reportOf d k 4 u u.x u.y u.sample :=
      fun u r => reportOf_congr (by simp [addReport_eq]) (by simp [addReport_eq]) _ _ _ _ _
    rw [step, ih]
    simp only [flags]
    simp [addReport_eq]

theorem trackAt_cancelled_of_ne (l : List Touch) {j : Nat} (h : j ≠ k) : trackAt (cancelled d k l) j = trackAt d j := by
  induction l generalizing d with
  | nil => rfl
  | cons t l ih =>
    exact (ih (d := addReport d k (reportOf d k 4 t t.x t.y t.sample))).trans (by simp [addReport_eq, h.symm])

theorem touchLost_eq : touchLost d k =
    touchStart (modTrack (touchDownSaid (cancelled d k (trackAt d k).touches) k) k touchEnd) k true := rfl

/-- A lost link is announced once, its touches are cancelled, and bring-up begins again (R248). -/
theorem touchLost_reads (hk : k < 12) :
    (linkAt (touchLost d k) k).step = 1 ∧ (linkAt (touchLost d k) k).downSaid = true ∧ (trackAt (touchLost d k) k).touches = [] ∧
    (trackAt (touchLost d k) k).reports =
      (trackAt d k).reports ++ (trackAt d k).touches.map (fun t => reportOf d k 4 t t.x t.y t.sample) ∧
    (if (linkAt d k).downSaid = true then (touchLost d k).rings = d.rings
     else Recorded d (touchLost d k) (k / 2 + 2) 38 (0x5800 + k)) ∧
    (∀ j, j ≠ k → linkAt (touchLost d k) j = linkAt d j ∧ trackAt (touchLost d k) j = trackAt d j) ∧
    Keeps (.links :: .tracks :: eventParts) eventReg d (touchLost d k) := by
  have hc := keeps_cancelled (d := d) (k := k) (trackAt d k).touches
  have htrack := trackAt_cancelled (d := d) (k := k) (trackAt d k).touches
  have hother : ∀ j, j ≠ k → _ := fun j => trackAt_cancelled_of_ne (d := d) (k := k) (trackAt d k).touches (j := j)
  rw [touchLost_eq]
  generalize cancelled d k (trackAt d k).touches = x at *
  have hlink : linkAt x k = linkAt d k := hc.linkAt (by simp) k
  obtain ⟨hl, hj, hr, hkeep⟩ := touchDownSaid_reads (d := x) hk
  have hxt : ∀ j, trackAt (touchDownSaid x k) j = trackAt x j := hkeep.trackAt (by decide)
  have rings : (touchStart (modTrack (touchDownSaid x k) k touchEnd) k true).rings = (touchDownSaid x k).rings := rfl
  rw [hlink, hc.rings_eq (by simp), ← rings] at hr
  have hring : ∀ e, Recorded x e (k / 2 + 2) 38 (0x5800 + k) ↔ Recorded d e (k / 2 + 2) 38 (0x5800 + k) := by
    intro e
    rw [Recorded, Recorded, hc.ringAt (by simp)]
  refine ⟨by rw [linkAt_touchStart], by rw [linkAt_touchStart], ?_, ?_, ?_, ?_, ?_⟩
  · simp [touchStart, modLink, modTrack, touchEnd, TrackUnit.reset]
  · simp [touchStart, modLink, modTrack, touchEnd, hxt, htrack]
  · by_cases h : (linkAt d k).downSaid = true
    · rw [if_pos h] at hr ⊢
      exact hr
    · rw [if_neg h] at hr ⊢
      exact (hring _).mp hr
  · intro j h
    refine ⟨?_, ?_⟩
    · rw [linkAt_touchStart_of_ne _ _ h]
      simp [modTrack, hj j h, hc.linkAt (by simp) j]
    · simp [touchStart, modLink, modTrack, h.symm, hxt, hother j h]
  · exact ((hc.mono (by decide) (fun _ _ h => h.elim)).trans (hkeep.mono (by decide) (fun _ _ h => h))).trans
      ((keeps_setTrack _ _ _ (by decide)).trans (keeps_touchStart _ _ (by decide)))

/-- A touch held to its limit, as it rests. -/
def heldTouch (t : Touch) : Touch := { t with persistent := true, lastX := t.x, lastY := t.y, lastReport := t.sample }

/-- Link k with a touch of identifier `id` at rest. -/
def atRest (d : Device) (k id : Nat) (t : Touch) : Device :=
  setTrack d k { trackAt d k with
    reports := (trackAt d k).reports ++ [reportOf d k 2 (heldTouch t) t.x t.y t.sample]
    touches := (trackAt d k).touches.map fun y => if y.id = id then heldTouch t else y }

theorem touchHoldOp_of_due {id : Nat} {t : Touch} (h : (trackAt d k).touches.find? (fun t => t.id == id) = some t)
    (hp : t.persistent = false) (ht : t.born + tc (linkAt d k) 9 * 1000000000 ≤ d.mono) :
    touchHoldOp d k id = raise (bumpBy (atRest d k id t) (0x5840 + k) 0x14 1) (k / 2 + 2) 42 (0x5800 + k) := by
  have hn : ¬ (t.persistent = true ∨ d.mono < t.born + tc (linkAt d k) 9 * 1000000000) := by
    simp only [hp, Bool.false_eq_true, false_or]
    omega
  simp only [touchHoldOp, h, if_neg hn]
  simp [atRest, addReport_eq, modTrack, heldTouch, touchDie, dieOfLink, touchCfg, touchStat]

theorem flags_held (t : Touch) : (reportOf d k 2 (heldTouch t) t.x t.y t.sample).flags % 2 = 1 := by
  have odd : ∀ a b c : Bool, (0x80 + (if true then 1 else 0) + (if a then 2 else 0) + (if b then 4 else 0) + (if c then 8 else 0)) % 2 = 1 := by
    decide
  exact odd t.degraded (trackAt d k).film (linkAt d k).charger

end

/-- Settles O33: the layer's readings of each command, at the device its time leaves. -/
theorem touchReportsAreReleasedAndCancelled : Obligations.TouchReportsAreReleasedAndCancelled := by
  unfold Obligations.TouchReportsAreReleasedAndCancelled
  refine ⟨?release, ?lost, ?hold⟩
  case release =>
    intro dt s d k r rest seq hd hr hp hm hseq
    refine does_of_act (f := fun d => touchReleaseOp d k) rfl hd ?_
    obtain ⟨h1, h2, h3, h4, h5, h6, h7, h8⟩ := release_reads k.isLt hr hp hm seq hseq
    refine ⟨h1, h2, ?_, fun h => ?_, h5, h6, h7, keeps_settle_iff.mpr h8⟩
    · rw [Counted, regN_settle _ _ _ (by decide)]; exact h3
    · rw [Counted, regN_settle _ _ _ (by decide)]; exact h4 h
  case lost =>
    intro dt s d k u hd hu h4 h10 ht
    refine does_of_act (f := fun d => touchTimeoutOp d k) rfl hd ?_
    subst hu
    have e : touchTimeoutOp d k = touchLost d k := by simp [touchTimeoutOp, slotsRun, h4, h10, ht]
    rw [e]
    simpa only [linkAt_settle, trackAt_settle, keeps_settle_iff, recorded_settle, settle_rings] using touchLost_reads k.isLt
  case hold =>
    intro dt s d k id t hd h hp ht
    refine does_of_act (f := fun d => touchHoldOp d k id) rfl hd ?_
    rw [touchHoldOp_of_due h hp ht]
    have noted : Noted d (raise (bumpBy (atRest d k id t) (0x5840 + k) 0x14 1) (k / 2 + 2) 42 (0x5800 + k)) (k / 2 + 2) 42 (0x5800 + k) :=
      noted_raise_of (by simp [atRest]) (by simp [atRest, regT]) 42 _
    have kept := keeps_raise (ps := eventParts) (rs := eventReg) (bumpBy (atRest d k id t) (0x5840 + k) 0x14 1) (k / 2 + 2) 42 (0x5800 + k)
      (by omega) (fun _ h => h) (fun _ _ h => h)
    generalize raise (bumpBy (atRest d k id t) (0x5840 + k) 0x14 1) (k / 2 + 2) 42 (0x5800 + k) = e at *
    have htrack : ∀ j, trackAt e j = trackAt (atRest d k id t) j := fun j => (kept.trackAt (by decide) j).trans (by simp)
    have hself : trackAt e k = _ := (htrack k).trans ((trackAt_setTrack _ _ _ _).trans (if_pos rfl))
    simp only [trackAt_settle, keeps_settle_iff, noted_settle, Counted, regN_settle _ _ _ (show 0x14 < 256 by decide)]
    rw [hself]
    refine ⟨?_, by simp, ⟨_, rfl, rfl, ?_, rfl, rfl, flags_held t⟩, ?_, noted, fun j hj => ?_, ?_⟩
    · intro y hy hid
      obtain ⟨z, -, hz⟩ := List.mem_map.mp hy
      split at hz
      · rw [← hz]; rfl
      · next hne => rw [hz] at hne; exact absurd hid hne
    · have := List.find?_some h
      exact eq_of_beq this
    · rw [kept.regN (by decide) (by simp only [eventReg]; omega)]
      simp [regN_bumpBy, atRest]
    · rw [htrack]
      simp [atRest, hj.symm]
    · exact ((keeps_setTrack d k _ (by decide)).trans (keeps_bumpBy _ _ _ _ (by decide) (.inr ⟨rfl, rfl⟩))).trans
        (kept.mono (by decide) (fun _ _ h => .inl h))

end Sys2Proof
end

section
/-! PROOFS. Heads: link training, hot plug, launch and lines, and the tiles that scan fetch brings (R32, R179 to R200). -/

namespace Sys2Proof

open Machine Safety

/-! ### Link training (R184, R185, R191) -/

/-- Head 0's output froze three times within a minute: its pipe's reset leaves it down for good, and no training begins. -/
def frozenThrice : Device := { Device.reset with
  force := [(regKey 0x4800 2, .num 4), (regKey 0x4800 3, .num 4), (regKey 0x4800 4, .num 1), (regKey 0x4800 5, .num 1), (regKey 0x4800 6, .num 8)],
  heads := [(0, { HeadUnit.reset with link := .frozen 5, caps := some ⟨0x14, 4, 4, true, true, [], true⟩ })],
  scans := [(0, { HeadScan.reset with frozenTimes := [5, 5, 5] })] }

theorem frozenThrice_trains : sinkSuits (headForce frozenThrice 0) (headAt frozenThrice 0).caps = true ∧
    trainOrder frozenThrice (headForce frozenThrice 0) ≠ [] := by decide +kernel

theorem frozenThrice_latched : (headAt (pipeResetOp frozenThrice 0) 0).link = .latched := by decide +kernel

/-- Refutes O20: the reset of a head's pipe trains the link again only where its output has not frozen for the third time. -/
theorem not_linkTrainingBeginsAndEnds : ¬ Obligations.LinkTrainingBeginsAndEnds := by
  intro h
  obtain ⟨-, -, -, -, pipe⟩ := h
  have does := of_does_at (f := (pipeResetOp · 0)) rfl
    (pipe 0 { pending := [], dev := frozenThrice } frozenThrice 0 _ 5 (elapse_zero _).symm rfl rfl frozenThrice_trains.1 frozenThrice_trains.2)
  obtain ⟨link, -⟩ := does
  rw [if_neg (by decide)] at link
  exact absurd (frozenThrice_latched.symm.trans link) (by decide)

/-! ### Hot plug (R186) -/

section
variable {d e : Device} {h : Nat}

theorem headForce_congr (hf : e.force = d.force) : headForce e h = headForce d h := by rw [headForce, hf, headForce]

theorem trainOrder_congr (hr : regN e 0x2110 1 = regN d 0x2110 1) (v : Table Val) : trainOrder e v = trainOrder d v := by
  have carries : linkCarries e v = linkCarries d v := by
    funext rate lanes
    unfold linkCarries dotMilli tickRate
    rw [hr]
  simp only [trainOrder, carries]

/-- A head whose sink suits and whose timing a setting carries is trained. -/
theorem beginTraining_of_suited (first : List (Nat × Nat)) (hs : sinkSuits (headForce d h) (headAt d h).caps = true)
    (ht : trainOrder d (headForce d h) ≠ []) : beginTraining d h first =
      setHead d h { headAt d h with link := .training, tries := first ++ trainOrder d (headForce d h), trained := none } := by
  have hn : (!sinkSuits (headForce d h) (headAt d h).caps || first ++ trainOrder d (headForce d h) == []) = false := by
    simp [hs, ht]
  simp only [beginTraining, hn, Bool.false_eq_true, if_false]
  rfl

theorem keeps_trainFailed (hh : h < 24) (d : Device) :
    Keeps (.heads :: eventParts) (fun x r => eventReg x r ∨ (x = 0x4880 + h ∧ (r = 0x0D ∨ r = 0x0E))) d (trainFailed d h) := by
  have hk : headDie h < 8 := by simp only [headDie, dieNo_eq, dieOfHead]; omega
  dsimp only [trainFailed]
  have first := ((keeps_setHead (rs := fun x r => eventReg x r ∨ (x = 0x4880 + h ∧ (r = 0x0D ∨ r = 0x0E))) (ps := .heads :: eventParts) d h
    { headAt d h with link := .failed, tries := [], trained := none, dropped := false, retryAt := d.mono + 1000000000 } (by decide)).trans
    (keeps_bump _ (headStat h) 0x0E (by decide) (.inr ⟨rfl, .inr rfl⟩))).trans
    (keeps_raise _ (headDie h) 19 (headUnitIdx h) hk (by decide) (fun _ _ h => .inl h))
  split
  · exact (first.trans (keeps_bump _ _ _ (by decide) (.inr ⟨rfl, .inl rfl⟩))).trans (keeps_raise _ _ _ _ hk (by decide) (fun _ _ h => .inl h))
  · exact first

theorem headAt_trainFailed_of_ne {j : Nat} (hj : j ≠ h) : headAt (trainFailed d h) j = headAt d j := by
  dsimp only [trainFailed]
  split <;> simp [modHead, hj.symm]

theorem keeps_beginTraining (hh : h < 24) (d : Device) (first : List (Nat × Nat)) :
    Keeps (.heads :: eventParts) (fun x r => eventReg x r ∨ (x = 0x4880 + h ∧ (r = 0x0D ∨ r = 0x0E))) d (beginTraining d h first) := by
  dsimp only [beginTraining]
  split
  · exact keeps_trainFailed hh d
  · exact keeps_setHead _ _ _ (by decide)

theorem headAt_beginTraining_of_ne (first : List (Nat × Nat)) {j : Nat} (hj : j ≠ h) :
    headAt (beginTraining d h first) j = headAt d j := by
  dsimp only [beginTraining]
  split
  · exact headAt_trainFailed_of_ne hj
  · simp [modHead, hj.symm]

/-- The head as `linkOff` leaves it, but for its link. -/
def unlinked (u : HeadUnit) (l : LinkPhase) : HeadUnit :=
  { u with link := l, trained := none, payloads := [false, false, false, false], rising := [] }

/-- Head h unplugged: it sends nothing and the loss is counted. -/
def unplugged (d : Device) (h : Nat) : Device :=
  bumpBy (setScan (setHead d h (unlinked { headAt d h with hpd := 1, caps := none } .waitHpd)) h
    { scanAt d h with sent := false, out := [[], [], [], []] }) (0x4880 + h) 0x0D 1

theorem unplugged_reads (d : Device) (h : Nat) :
    (∀ j, headAt (unplugged d h) j = if h = j then unlinked { headAt d h with hpd := 1, caps := none } .waitHpd else headAt d j) ∧
    (∀ j, scanAt (unplugged d h) j = if h = j then { scanAt d h with sent := false, out := [[], [], [], []] } else scanAt d j) ∧
    Counted d (unplugged d h) (0x4880 + h) 0x0D 1 ∧ Keeps [.heads, .scans] (fun y r => y = 0x4880 + h ∧ r = 0x0D) d (unplugged d h) :=
  ⟨fun j => by simp [unplugged], fun j => by simp [unplugged], by simp [Counted, unplugged, regN_bumpBy],
    ((keeps_setHead d h _ (by simp)).trans (keeps_setScan _ _ _ (by simp))).trans (keeps_bumpBy _ _ _ _ (by decide) ⟨rfl, rfl⟩)⟩

theorem hpdLowOp_of_up (hp : pixUp d (dieOfHead h) = true) (hh : (headAt d h).hpd = 2) (hl : (headAt d h).link = .up) :
    hpdLowOp d h = raise (unplugged d h) (h / 4 + 2) 20 (0x4800 + h) := by
  rw [dieOfHead] at hp
  simp [hpdLowOp, hp, hh, hl, linkOff, modHead, modScan, unlinked, headStat, headDie, headUnitIdx, dieOfHead, unplugged]

/-- A head whose sink was read at a high HPD. -/
def sinkRead (d : Device) (h : Nat) (caps : SinkCaps) : HeadUnit := { headAt d h with hpd := 2, caps := some caps }

theorem hpdHighOp_of_suited (caps : SinkCaps) (hp : pixUp d (dieOfHead h) = true) (hs : sinkSuits (headForce d h) (some caps) = true)
    (ht : trainOrder d (headForce d h) ≠ []) : hpdHighOp d h caps = setHead d h (
      if (headAt d h).link = .waitHpd ∧ (headAt d h).running = true then
        { sinkRead d h caps with link := .training, tries := trainOrder d (headForce d h), trained := none }
      else sinkRead d h caps) := by
  have hf : headForce (setHead d h (sinkRead d h caps)) h = headForce d h := headForce_congr rfl
  have ho : ∀ v, trainOrder (setHead d h (sinkRead d h caps)) v = trainOrder d v := trainOrder_congr rfl
  have hu : headAt (setHead d h (sinkRead d h caps)) h = sinkRead d h caps := by simp
  have go := beginTraining_of_suited (d := setHead d h (sinkRead d h caps)) (h := h) [] (by rw [hf, hu]; exact hs)
    (by rw [hf, ho]; exact ht)
  rw [hf, ho, hu, setHead_setHead] at go
  have e : hpdHighOp d h caps = if (headAt (setHead d h (sinkRead d h caps)) h).link = .waitHpd ∧
      (headAt (setHead d h (sinkRead d h caps)) h).running = true then beginTraining (setHead d h (sinkRead d h caps)) h []
      else setHead d h (sinkRead d h caps) := by
    simp only [hpdHighOp, hp, Bool.not_true, Bool.false_eq_true, if_false]
    rfl
  rw [e, hu, go]
  by_cases hc : (headAt d h).link = .waitHpd ∧ (headAt d h).running = true
  · exact (if_pos hc).trans (congrArg (setHead d h) (if_pos hc).symm)
  · exact (if_neg hc).trans (congrArg (setHead d h) (if_neg hc).symm)

/-- A head whose sink lost its lock stops sending before it trains again. -/
def unlocked (d : Device) (h : Nat) : Device :=
  setScan (setHead d h { unlinked (headAt d h) (headAt d h).link with dropped := true }) h
    { scanAt d h with sent := false, out := [[], [], [], []] }

theorem irqHpdOp_of_lossOfLock (hp : pixUp d (dieOfHead h) = true) (hl : (headAt d h).link = .up) :
    irqHpdOp d h .lossOfLock = beginTraining (unlocked d h) h (headAt d h).trained.toList := by
  simp only [irqHpdOp, hp, hl]
  simp [linkOff, modHead, modScan, unlocked, unlinked, setHead, setScan, headAt, scanAt]

/-- A head whose stream k lost its sink. -/
def payloadLost (d : Device) (h : Nat) (k : Nat) : HeadUnit := { headAt d h with
  payloads := (headAt d h).payloads.set k false
  rising := (headAt d h).rising.filter (· != k)
  caps := setPort (headAt d h).caps (mstPort (headForce d h) k) false }

theorem irqHpdOp_of_sinkRemoved (k : StreamNo) (hp : pixUp d (dieOfHead h) = true) (hl : (headAt d h).link = .up)
    (hm : hv (headForce d h) 4 = 2) (hk : (headAt d h).payloads.getD k false = true) :
    irqHpdOp d h (.sinkRemoved k) =
      modHead (raise (setHead d h (payloadLost d h k)) (h / 4 + 2) 21 (0x4800 + h)) h fun u => { u with
        fallen := u.fallen ++ [(k.val, (ringAt (raise (setHead d h (payloadLost d h k)) (h / 4 + 2) 21 (0x4800 + h)) (h / 4 + 2)).last)] } := by
  have go : ¬ ((headAt d h).link ≠ .up ∨ (!pixUp d (dieOfHead h)) = true) := by simp [hp, hl]
  simp only [irqHpdOp, if_neg go, hm, hk]
  simp [modHead, headDie, dieOfHead, headUnitIdx, payloadLost]

theorem irqHpdOp_of_sinkAdded (k : StreamNo) (hp : pixUp d (dieOfHead h) = true) (hl : (headAt d h).link = .up)
    (hm : hv (headForce d h) 4 = 2) (h5 : k.val < hv (headForce d h) 5) (hk : (headAt d h).payloads.getD k false = false) :
    irqHpdOp d h (.sinkAdded k) = setHead d h { headAt d h with
      rising := ((headAt d h).rising ++ [k.val]).eraseDups
      caps := setPort (headAt d h).caps (mstPort (headForce d h) k) true } := by
  have go : ¬ ((headAt d h).link ≠ .up ∨ (!pixUp d (dieOfHead h)) = true) := by simp [hp, hl]
  simp only [irqHpdOp, if_neg go, hm, hk, h5]
  simp [modHead]

/-- What an interrupt of a head's sink leaves alone, whatever it says. -/
theorem keeps_irqHpdOp (hh : h < 24) (ev : IrqKind) :
    Keeps (.heads :: .scans :: eventParts) (fun x r => eventReg x r ∨ (x = 0x4880 + h ∧ (r = 0x0D ∨ r = 0x0E))) d (irqHpdOp d h ev) ∧
    ∀ j, j ≠ h → headAt (irqHpdOp d h ev) j = headAt d j ∧ scanAt (irqHpdOp d h ev) j = scanAt d j := by
  have hk : headDie h < 8 := by simp only [headDie, dieNo_eq, dieOfHead]; omega
  by_cases go : (headAt d h).link ≠ .up ∨ (!pixUp d (dieOfHead h)) = true
  · have e : irqHpdOp d h ev = d := by simp only [irqHpdOp, if_pos go]
    rw [e]
    exact ⟨keeps_self, fun _ _ => ⟨rfl, rfl⟩⟩
  · have hl : (headAt d h).link = .up := Classical.not_not.mp fun hn => go (.inl hn)
    have hp : pixUp d (dieOfHead h) = true := by
      cases hp : pixUp d (dieOfHead h)
      · exact absurd (.inr (by rw [hp]; rfl)) go
      · rfl
    cases ev with
    | lossOfLock =>
      rw [irqHpdOp_of_lossOfLock hp hl]
      have begun := keeps_beginTraining hh (unlocked d h) (headAt d h).trained.toList
      have off : Keeps (.heads :: .scans :: eventParts) (fun x r => eventReg x r ∨ (x = 0x4880 + h ∧ (r = 0x0D ∨ r = 0x0E))) d (unlocked d h) :=
        (keeps_setHead d h _ (by decide)).trans (keeps_setScan _ h _ (by decide))
      refine ⟨off.trans (begun.mono (by decide) (fun _ _ h => h)), fun j hj => ⟨?_, ?_⟩⟩
      · rw [headAt_beginTraining_of_ne _ hj]
        simp [unlocked, hj.symm]
      · rw [begun.scanAt (by decide)]
        simp [unlocked, hj.symm]
    | sinkRemoved k =>
      simp only [irqHpdOp, if_neg go]
      split
      · refine ⟨?_, fun j hj => by simp [modHead, hj.symm]⟩
        exact ((keeps_setHead d h _ (by decide)).trans (keeps_raise _ _ _ _ hk (by decide) (fun _ _ h => .inl h))).trans
          (keeps_setHead _ _ _ (by decide))
      · exact ⟨keeps_self, fun _ _ => ⟨rfl, rfl⟩⟩
    | sinkAdded k =>
      simp only [irqHpdOp, if_neg go]
      split
      · exact ⟨keeps_setHead d h _ (by decide), fun j hj => by simp [modHead, hj.symm]⟩
      · exact ⟨keeps_self, fun _ _ => ⟨rfl, rfl⟩⟩

end

/-- Settles O21: the link's equation at each event of HPD. -/
theorem hotPlugEventsMoveTheLink : Obligations.HotPlugEventsMoveTheLink := by
  unfold Obligations.HotPlugEventsMoveTheLink
  refine ⟨?low, ?high, ?irq⟩
  case low =>
    intro dt s d h hd hp hh hl
    refine does_of_act (f := fun d => hpdLowOp d h) rfl hd ?_
    rw [hpdLowOp_of_up hp hh hl]
    obtain ⟨hhead, hscan, hcount, before⟩ := unplugged_reads d h
    have recorded : Recorded d (raise (unplugged d h) (h / 4 + 2) 20 (0x4800 + h)) (h / 4 + 2) 20 (0x4800 + h) :=
      recorded_raise_of (before.ringAt (by decide) _) _ (by decide)
    have kept := keeps_raise (ps := eventParts) (rs := eventReg) (unplugged d h) (h / 4 + 2) 20 (0x4800 + h) (by omega)
      (fun _ h => h) (fun _ _ h => h)
    generalize raise (unplugged d h) (h / 4 + 2) 20 (0x4800 + h) = e at *
    simp only [headAt_settle, scanAt_settle, keeps_settle_iff, recorded_settle, Counted, regN_settle _ _ _ (show 0x0D < 256 by decide),
      kept.headAt (by decide), kept.scanAt (by decide), hhead, hscan, if_true]
    refine ⟨rfl, rfl, rfl, rfl, trivial, ?_, recorded, fun j hj => by simp [hj.symm], ?_⟩
    · rw [kept.regN (by decide) (by simp only [eventReg]; omega)]
      exact hcount
    · exact (before.mono (by decide) (fun _ _ h => .inr h)).trans (kept.mono (by decide) (fun _ _ h => .inl h))
  case high =>
    intro dt s d h caps v hd hv hp hs ht
    subst hv
    refine does_of_act (f := fun d => hpdHighOp d h caps) rfl hd ?_
    simp only [hpdHighOp_of_suited caps hp hs ht, headAt_settle, keeps_settle_iff, headAt_setHead, if_true]
    refine ⟨?_, ?_, ?_, fun j hj => by simp [hj.symm], keeps_setHead d _ _ (by simp)⟩
    · split <;> rfl
    · split <;> rfl
    · split
      · exact ⟨rfl, rfl⟩
      · rfl
  case irq =>
    intro dt s d h ev v hd hv hp hl hlen
    subst hv
    refine does_of_act (f := fun d => irqHpdOp d h ev) rfl hd ?_
    obtain ⟨kept, other⟩ := keeps_irqHpdOp (d := d) h.isLt ev
    refine ⟨?_, fun j hj => other j hj, keeps_settle_iff.mpr kept⟩
    clear kept other
    cases ev with
    | lossOfLock =>
      intro hs ht
      have hf : headForce (unlocked d h) h = headForce d h := headForce_congr rfl
      have ho : ∀ v, trainOrder (unlocked d h) v = trainOrder d v := trainOrder_congr rfl
      have go := beginTraining_of_suited (d := unlocked d h) (h := h) (headAt d h).trained.toList
        (by rw [hf]; simpa [unlocked, unlinked] using hs) (by rw [hf, ho]; exact ht)
      simp only [headAt_settle, scanAt_settle, irqHpdOp_of_lossOfLock hp hl, go, hf, ho]
      simp [unlocked]
    | sinkRemoved k =>
      intro hm hk
      have recorded : Recorded d (raise (setHead d h (payloadLost d h k)) (h / 4 + 2) 21 (0x4800 + h)) (h / 4 + 2) 21 (0x4800 + h) :=
        recorded_raise_of (by simp) _ (by decide)
      have kept : headAt (raise (setHead d h (payloadLost d h k)) (h / 4 + 2) 21 (0x4800 + h)) h = payloadLost d h k := by simp
      simp only [headAt_settle, recorded_settle, irqHpdOp_of_sinkRemoved k hp hl hm hk]
      generalize raise (setHead d h (payloadLost d h k)) (h / 4 + 2) 21 (0x4800 + h) = x at *
      refine ⟨?_, ?_, recorded_of_ring recorded (by simp [modHead])⟩
      · simp [modHead, kept, payloadLost]
      · simp [modHead, kept, payloadLost, hl]
    | sinkAdded k =>
      intro hm h5 hk
      simp only [headAt_settle, irqHpdOp_of_sinkAdded k hp hl hm h5 hk]
      simp [hl, List.mem_eraseDups]

/-! ### Tiles that scan fetch brings (R32, R73, R200) -/

theorem findSome?_of_only {α β : Type} {f : α → Option β} {l : List α} {a : α} {b : β} (ha : a ∈ l) (hb : f a = some b)
    (hn : ∀ x ∈ l, x ≠ a → f x = none) : l.findSome? f = some b := by
  induction l with
  | nil => simp at ha
  | cons x r ih =>
    by_cases hx : x = a
    · simp [hx, hb]
    · have ha' : a ∈ r := (List.mem_cons.mp ha).resolve_left fun h => hx h.symm
      rw [List.findSome?_cons, hn x (by simp) hx]
      exact ih ha' fun y hy => hn y (by simp [hy])

section
variable {d : Device} {p h n tile : Nat} {w : Nat} {S : Scan} {L : ScanLayer} {f : Frame} {sl : Slot}

theorem damageWanted_nil (d : Device) (p h w n tile : Nat) : damageWanted d p h w n tile [] [] = d := by
  simp only [damageWanted]
  split
  · rfl
  · simp

/-- The head and frame whose turn a fetch is: the only one that asks for the tile. -/
theorem fetchFor_of_only {n : Nat} {w : Fin 3} (hh : dieOfHead h = p) (hf : nextFetch d p h w = some (n, tile))
    (only : ∀ (j : Nat) (v : Fin 3), dieOfHead j = p → (v = 0 ↔ w = 0) → (j ≠ h ∨ v ≠ w) → nextFetch d p j v ≠ some (n, tile)) :
    (((List.range 4).map (4 * p + ·)).findSome? fun j =>
      (if decide (w ≠ 0) = true then [1, 2] else [0]).findSome? fun v =>
        if nextFetch d p j v == some (n, tile) then some (j, v) else none) = some (h, w.val) := by
  have none_of : ∀ (j : Nat) (v : Fin 3), dieOfHead j = p → (v = 0 ↔ w = 0) → (j ≠ h ∨ v ≠ w) →
      (if nextFetch d p j v == some (n, tile) then some (j, v.val) else none) = none := fun j v hj h0 hne =>
    if_neg fun hb => only j v hj h0 hne (eq_of_beq hb)
  have some_of : (if nextFetch d p h w == some (n, tile) then some (h, w.val) else none) = some (h, w.val) :=
    if_pos (by rw [hf]; exact beq_self_eq_true _)
  have heads : ∀ j, j ∈ (List.range 4).map (4 * p + ·) ↔ dieOfHead j = p := by
    intro j
    simp only [List.mem_map, List.mem_range, dieOfHead]
    exact ⟨fun ⟨i, hi, hj⟩ => by omega, fun hj => ⟨j % 4, by omega, by omega⟩⟩
  have frames : ∀ v, v ∈ (if decide (w ≠ 0) = true then [1, 2] else [0]) ↔ ∃ u : Fin 3, u.val = v ∧ (u = 0 ↔ w = 0) := by
    intro v
    by_cases hw : w = 0
    · simp only [hw, ne_eq, not_true_eq_false, decide_false, Bool.false_eq_true, if_false, List.mem_singleton, iff_true]
      exact ⟨fun h => ⟨0, h.symm, rfl⟩, fun ⟨u, hu, h0⟩ => by rw [← hu, h0]; rfl⟩
    · simp only [hw, ne_eq, not_false_eq_true, decide_true, if_true, List.mem_cons, List.not_mem_nil, or_false, iff_false]
      exact ⟨fun h => h.elim (fun h => ⟨1, h.symm, by decide⟩) fun h => ⟨2, h.symm, by decide⟩, fun ⟨u, hu, h0⟩ => by omega⟩
  refine findSome?_of_only ((heads h).mpr hh) ?_ fun j hj hne => ?_
  · refine findSome?_of_only ((frames w).mpr ⟨w, rfl, Iff.rfl⟩) some_of fun v hv hne => ?_
    obtain ⟨u, rfl, hu⟩ := (frames v).mp hv
    exact none_of h u hh hu (.inr fun h => hne (congrArg Fin.val h))
  · refine List.findSome?_eq_none_iff.mpr fun v hv => ?_
    obtain ⟨u, rfl, hu⟩ := (frames v).mp hv
    exact none_of j u ((heads j).mp hj) hu (.inl hne)

theorem tileFetchOp_of_only {n : Nat} {w : Fin 3} {hf pf : List Nat} (hp : pixUp d (dieOfLayer n) = true) (hh : dieOfHead h = dieOfLayer n)
    (hf' : nextFetch d (dieOfLayer n) h w = some (n, tile))
    (only : ∀ (j : Nat) (v : Fin 3), dieOfHead j = dieOfLayer n → (v = 0 ↔ w = 0) → (j ≠ h ∨ v ≠ w) →
      nextFetch d (dieOfLayer n) j v ≠ some (n, tile)) :
    tileFetchOp d n (decide (w ≠ 0)) tile ⟨hf, false⟩ ⟨pf, false⟩ = fetchInto d (dieOfLayer n) h w n tile hf pf := by
  have found := fetchFor_of_only hh hf' only
  simp only [tileFetchOp, found, hp, Bool.not_true, Bool.false_eq_true, if_false, onWay, inSlot, damageWanted_nil]

/-- A tile as it arrives over its interfaces. -/
def arrived (d : Device) (p : Nat) (sl : Slot) (hf pf : List Nat) : Slot :=
  { sl with hdr := flipBits (readSlot d p sl).1 hf, payload := flipBytes (readSlot d p sl).2 pf }

/-- What the verification of an arrived tile finds. -/
def arrivalKind (d : Device) (p : Nat) (f : Frame) (sl : Slot) (tile : Nat) (hf pf : List Nat) : Nat :=
  verifyTile f.source f.width f.height tile (arrived d p sl hf pf).hdr (arrived d p sl hf pf).payload

/-- A layer of a frame with a tile kept, and with a tile failed. -/
def keepTile (tile : Nat) (sl : Slot) (L : ScanLayer) : ScanLayer := { L with verified := tput L.verified tile sl }
def failTile (e : Nat × Nat × Nat) (L : ScanLayer) : ScanLayer := { L with failed := L.failed ++ [e] }

theorem fetchInto_of_slot {hf pf : List Nat} (hS : scanPick (scanAt d h) w = some S) (hL : S.layers.find? (fun L => L.n == n) = some L)
    (hF : L.frame = some f) (hsl : tfind f.tiles tile = some sl) : fetchInto d p h w n tile hf pf =
      if arrivalKind d p f sl tile hf pf = 0 then
        setScan (setN d (0x4100 + n) 0x0C ((regN d (0x4100 + n) 0x0C + 1) % 2 ^ 32)) h
          (scanPut (scanAt d h) w (onLayer S n (keepTile tile (arrived d p sl hf pf))))
      else tileFailed (setScan d h (scanPut (scanAt d h) w (onLayer S n
        (failTile (tile, arrivalKind d p f sl tile hf pf, 0))))) n f.source tile (arrivalKind d p f sl tile hf pf) := by
  simp only [fetchInto, hS, hL, hF, hsl]
  rfl

/-- A tile that fails is counted, posted and reported, whatever its frame. -/
theorem tileFailed_reads (hn : n < 192) (x : Device) (s tile kind : Nat) :
    (layerAt (tileFailed x n s tile kind) n).posted = true ∧ Counted x (tileFailed x n s tile kind) (0x4100 + n) 0x0B 1 ∧
    Noted x (tileFailed x n s tile kind) (n / 32 + 2) 2 (0x4000 + n) ∧
    Keeps (.layers :: eventParts) (fun i r => eventReg i r ∨ (i = 0x4100 + n ∧ r = 0x0B)) x (tileFailed x n s tile kind) := by
  have e : tileFailed x n s tile kind = raiseFull (setLayer (bumpBy x (0x4100 + n) 0x0B 1) n { layerAt x n with posted := true })
      (n / 32 + 2) 2 (sevOf 2) (0x4000 + n) 1 [s, tile, kind] (some s) := by
    simp [tileFailed, raiseSrc, modLayer, dieOfLayer]
  have kept := keeps_raiseFull (ps := eventParts) (rs := eventReg) (setLayer (bumpBy x (0x4100 + n) 0x0B 1) n { layerAt x n with posted := true })
    (n / 32 + 2) 2 (sevOf 2) (0x4000 + n) 1 [s, tile, kind] (some s) (by omega) (fun _ h => h) (fun _ _ h => h)
  have noted : Noted x (tileFailed x n s tile kind) (n / 32 + 2) 2 (0x4000 + n) := by
    rw [e]
    exact noted_raiseFull_of (by simp) (by simp [regT]) _ _ _ _ _ _
  rw [← e] at kept
  refine ⟨?_, ?_, noted, ?_⟩
  · rw [kept.layerAt (by decide)]; simp
  · rw [Counted, kept.regN (by decide) (by simp only [eventReg]; omega)]
    simp [regN_bumpBy]
  · exact ((keeps_bumpBy x _ _ _ (by decide) (.inr ⟨rfl, rfl⟩)).trans (keeps_setLayer _ _ _ (by decide))).trans
      (kept.mono (by decide) (fun _ _ h => .inl h))

end

/-- Settles O23: the fetch goes to the one frame that asks for the tile, and its two outcomes are read off the slot's arrival. -/
theorem fetchedTilesAreVerified : Obligations.FetchedTilesAreVerified := by
  intro dt s d n tile hf pf h w S L f sl kind hd hp hh hS hnext only hL hF hsl hkind
  refine does_of_act (f := fun d => tileFetchOp d n (decide (w ≠ 0)) tile ⟨hf, false⟩ ⟨pf, false⟩) rfl hd ?_
  replace hkind : kind = arrivalKind d (dieOfLayer n) f sl tile hf pf := hkind
  rw [tileFetchOp_of_only hp hh hnext only, fetchInto_of_slot hS hL hF hsl, ← hkind]
  have own : L.n = n := by simpa using List.find?_some hL
  by_cases hk : kind = 0
  · rw [if_pos hk]
    simp only [if_pos hk, regN_settle _ _ _ (show 0x0C < 256 by decide), scanAt_settle, keeps_settle_iff]
    refine ⟨⟨by simp, rfl, ?_⟩, fun j hj => by simp [hj.symm], ?_⟩
    · refine ⟨onLayer S n (keepTile tile (arrived d (dieOfLayer n) sl hf pf)), keepTile tile (arrived d (dieOfLayer n) sl hf pf) L,
        by simp [scanPick_scanPut _ w.isLt], mem_onLayer _ hL, own, ?_⟩
      simp [keepTile, arrived]
    · exact (keeps_setN d _ _ _ (by decide) (.inr ⟨rfl, .inr rfl⟩)).trans (keeps_setScan _ _ _ (by decide))
  · rw [if_neg hk]
    obtain ⟨posted, counted, noted, kept⟩ := tileFailed_reads n.isLt (setScan d h (scanPut (scanAt d h) w (onLayer S n
        (failTile (tile, kind, 0))))) f.source tile kind
    have hscan := kept.scanAt (by decide)
    generalize tileFailed _ n f.source tile kind = e at *
    simp only [if_neg hk, layerAt_settle, Counted, regN_settle _ _ _ (show 0x0B < 256 by decide), scanAt_settle, keeps_settle_iff, noted_settle,
      hscan]
    refine ⟨⟨posted, ?_, ?_, ?_⟩, fun j hj => by simp [hj.symm], ?_⟩
    · simpa [Counted] using counted
    · simpa [Noted, regT] using noted
    · exact ⟨onLayer S n (failTile (tile, kind, 0)), failTile (tile, kind, 0) L, by simp [scanPick_scanPut _ w.isLt], mem_onLayer _ hL, own,
        by simp [failTile]⟩
    · exact (keeps_setScan d h _ (by decide)).trans (kept.mono (by decide) (fun _ _ h => h.imp id fun h => ⟨h.1, .inl h.2⟩))

end Sys2Proof
end

section
/-! PROOFS. Sources: what publication and what is sent over the Spur ring leave alone, and the datagrams, packets and items that bring
tiles (R83 to R114, R473). -/

namespace Sys2Proof

open Machine Safety

/-! ### Items of the Spur links (R108 to R111) -/

/-- A frame of one tile. -/
def oneTile : Frame := ⟨0, 1, 0, frameSignature [(0, ⟨0, 0, [], 0, 0⟩)], 0, false, false, 0, 16, 16, 1, 2, 0, 0, []⟩

/-- Die P0 holds the one tile of a frame with its VALID clear as the frame's publish record arrives from P5. -/
def invalidHeld : Device := { Device.reset with
  force := [(regKey 0x5000 2, .num 1)], regs := [(regKey 0x5000 3, .num 5)],
  pix := [(0, { PixelDie.reset with out := true }), (5, { PixelDie.reset with out := true })],
  srcs := [(srcKey 0 0, { SrcUnit.reset with present := true, held := [(0, ⟨0, 0, [], 0, 0⟩)] })],
  queues := [(5, { QueueUnit.reset with spurOut := [(0, [.publish 0 0 oneTile])] })] }

theorem invalidHeld_frame : (srcUnit (spurPublishOp invalidHeld 0 0) 0 0).frame = none := by decide +kernel

/-- Refutes O16: a replica publishes no frame of which it holds a tile with VALID clear, which the clause does not ask for. -/
theorem not_spurCarriesTilesFramesAndStatus : ¬ Obligations.SpurCarriesTilesFramesAndStatus := by
  intro h
  obtain ⟨-, -, publish, -⟩ := h
  have does := of_does_at (f := (spurPublishOp · 0 0)) rfl
    (publish 0 { pending := [], dev := invalidHeld } invalidHeld 0 0 0 _ [] (elapse_zero _).symm rfl (by decide) (by decide) (.inl rfl)
      (by decide) (by decide) (by decide) (by decide) rfl)
  obtain ⟨-, ⟨g, frame, -⟩, -⟩ := does
  exact absurd (invalidHeld_frame.symm.trans frame) (by simp)

/-! ### Export (R108, R109, R112) -/

/-- The register in which the sending of a source leaves its last drop. -/
def exportReg (s : Nat) : Nat → Nat → Prop := fun i r => i = srcLive s ∧ r = 0x0A

/-- What the sending of a source over the Spur ring may change: tiles owed, items queued with their descriptors, and the source's last drop code. -/
structure Exported (s : Nat) (d e : Device) : Prop where
  kept : Keeps [.queues, .mems, .srcs] (exportReg s) d e
  units : ∀ j, ∃ l, srcAt e j = { srcAt d j with owed := l }
  credits : ∀ p, (queueAt e p).credits = (queueAt d p).credits

namespace Exported
variable {s : Nat} {d e f : Device}

theorem refl (s : Nat) (d : Device) : Exported s d d := ⟨keeps_self, fun j => ⟨(srcAt d j).owed, rfl⟩, fun _ => rfl⟩

theorem trans (h : Exported s d e) (g : Exported s e f) : Exported s d f :=
  ⟨h.kept.trans g.kept, fun j => by
    obtain ⟨l, hl⟩ := h.units j
    obtain ⟨m, hm⟩ := g.units j
    exact ⟨m, by rw [hm, hl]⟩, fun p => (g.credits p).trans (h.credits p)⟩

/-- A change of one source unit's debts. -/
theorem of_setSrc (d : Device) (j : Nat) (l : List (Nat × Nat)) : Exported s d (setSrc d j { srcAt d j with owed := l }) :=
  ⟨keeps_setSrc d j _ (by simp), fun i => by
    by_cases h : j = i
    · exact ⟨l, by simp [h]⟩
    · exact ⟨(srcAt d i).owed, by simp [h]⟩, fun p => by simp⟩

/-- A change of one die's queues that leaves the credits. -/
theorem of_setQueue (d : Device) (k : Nat) (v : QueueUnit) (h : v.credits = (queueAt d k).credits) : Exported s d (setQueue d k v) :=
  ⟨keeps_setQueue d k v (by simp), fun i => ⟨(srcAt d i).owed, by simp⟩, fun p => by
    by_cases hp : k = p
    · simp [← hp, h]
    · simp [hp]⟩

theorem of_modQueue (d : Device) (k : Nat) (f : QueueUnit → QueueUnit) (h : ∀ u, (f u).credits = u.credits) : Exported s d (modQueue d k f) :=
  of_setQueue d k _ (h _)

theorem of_setMem (d : Device) (k : Nat) (v : MemUnit) : Exported s d (setMem d k v) :=
  ⟨keeps_setMem d k v (by simp), fun i => ⟨(srcAt d i).owed, by simp⟩, fun p => by simp⟩

theorem of_code (d : Device) (n : Nat) : Exported s d (setN d (srcLive s) 0x0A n) :=
  ⟨keeps_setN d _ _ n (by decide) ⟨rfl, rfl⟩, fun i => ⟨(srcAt d i).owed, by simp⟩, fun p => by simp⟩

theorem forEach {α : Type} (l : List α) (f : Device → α → Device) (h : ∀ d x, x ∈ l → Exported s d (f d x)) (d : Device) :
    Exported s d (Machine.forEach d l f) := by
  induction l generalizing d with
  | nil => exact refl s d
  | cons x r ih => exact (h d x (by simp)).trans (ih (fun d y hy => h d y (by simp [hy])) (f d x))

end Exported

theorem exported_owe (d : Device) (s t dest : Nat) (l : List Nat) : Exported s d (owe d t dest l) := Exported.of_setSrc d _ _

theorem exported_descTake (d : Device) (s p q n : Nat) : Exported s d (descTake d p q n) := by
  have loop : ∀ (l : List Nat) (f : Device → MemUnit × Nat) (x : Device), Exported s x (l.foldl (fun d _ =>
      modQueue (setMem d p (f d).1) p fun u => { u with descs := tput u.descs q (tget u.descs q [] ++ [(f d).2]) }) x) := by
    intro l f x
    induction l generalizing x with
    | nil => exact Exported.refl s x
    | cons y r ih => exact ((Exported.of_setMem x p _).trans (Exported.of_setQueue _ p _ (by simp))).trans (ih _)
  unfold descTake
  split
  · exact Exported.refl s d
  · refine Exported.trans (Exported.of_modQueue d p _ ?_) (loop (List.range n) (fun x => placeSlot (ifsPlacing d p) 2 (memAt x p)) _)
    exact fun _ => rfl

theorem exported_spurPut (d : Device) (s p k : Nat) (l : List SpurItem) : Exported s d (spurPut d p k l) := by
  have owed : ∀ (l : List SpurItem) (x : Device), Exported s x (l.foldl oweItem x) := by
    intro l x
    induction l generalizing x with
    | nil => exact Exported.refl s x
    | cons y r ih =>
      refine Exported.trans ?_ (ih _)
      cases y with
      | tile t dest i sl => exact exported_owe x s t dest [i]
      | _ => exact Exported.refl s x
  dsimp only [spurPut]
  split
  · exact Exported.refl s d
  · generalize (if k < 2 then (p + 1) % 6 else (p + 5) % 6) = next
    split
    · exact (exported_descTake d s p _ _).trans (Exported.of_modQueue _ p _ fun _ => rfl)
    · exact owed l d

theorem exported_spurOvertaken (d : Device) (s o q k : Nat) : Exported s d (spurOvertaken d s o q k) := by
  dsimp only [spurOvertaken]
  split
  · have taken := fun l => Exported.of_setQueue (s := s) d o { queueAt d o with spurOut := tput (queueAt d o).spurOut k l } rfl
    split
    · exact taken _
    · exact ((taken _).trans (exported_owe _ s s q _)).trans (Exported.of_code _ 15)
  · exact Exported.refl s d

theorem exported_spurSend (d : Device) (s o q : Nat) (f : Frame) (idx : List Nat) (rec_ : Bool) :
    Exported s d (spurSend d s o q f idx rec_) := by
  dsimp only [spurSend]
  split
  · exact exported_owe d s s q idx
  · split
    · exact (exported_owe d s s q idx).trans (Exported.of_code _ 16)
    · exact ((exported_spurOvertaken d s o q _).trans (Exported.of_setSrc _ _ _)).trans (exported_spurPut _ s o _ _)

theorem exported_spurRecord (d : Device) (s o q : Nat) (f : Frame) : Exported s d (spurRecord d s o q f) := by
  dsimp only [spurRecord]
  split
  · exact Exported.refl s d
  · split
    · exact Exported.of_code d 16
    · exact exported_spurPut d s o _ _

theorem exported_spurHome (d : Device) (s p : Nat) : Exported s d (spurHome d p) := by
  dsimp only [spurHome]
  split
  · exact Exported.refl s d
  · exact Exported.of_setQueue d p _ rfl

theorem exported_exportFrame (d : Device) (s o : Nat) (f : Frame) (written : List Nat) (reseal : Bool) :
    Exported s d (exportFrame d s o f written reseal) := by
  refine (exported_spurHome d s o).trans (Exported.forEach _ _ (fun x q _ => ?_) _)
  split
  · exact exported_spurRecord x s o q f
  · exact exported_spurSend x s o q f _ true

/-! ### Slots and publication (R71, R98, R219) -/

/-- A slot is taken with the tile as given, or memory is left as it was. -/
theorem allocSlot_cases (d : Device) (p : Nat) (hdr : BitVec 128) (payload : List Byte) :
    allocSlot d p hdr payload = (d, none) ∨
    ∃ v n i j, allocSlot d p hdr payload = (setMem d p v, some { num := n, hdr := hdr, payload := payload, hif := i, pif := j }) := by
  unfold allocSlot
  split
  · exact .inl rfl
  · dsimp only
    split
    · exact .inl rfl
    · exact .inr ⟨_, _, _, _, rfl⟩

theorem allocSlot_of_room {d : Device} {p : Nat} (hdr : BitVec 128) (payload : List Byte) (hi : ifsPlacing d p ≠ [])
    (hr : bytesInUse d p + 256 * 2 ^ 20 + 16 + payload.length ≤ dieCapacity d p * 2 ^ 20) :
    ∃ v n i j, allocSlot d p hdr payload = (setMem d p v, some { num := n, hdr := hdr, payload := payload, hif := i, pif := j }) := by
  unfold allocSlot
  split
  · next h => exact absurd h hi
  · rw [if_neg (by omega)]
    exact ⟨_, _, _, _, rfl⟩

/-- What the taking of slots may change: the memory, and where it is full the events that say so. -/
def allocParts : List Part := .mems :: .limits :: eventParts

theorem keeps_memExhausted {p : Nat} (hp : p < 6) (d : Device) : Keeps allocParts eventReg d (memExhausted d p) :=
  (keeps_setMem (ps := allocParts) (rs := eventReg) d p { memAt d p with exhausted := (memAt d p).exhausted + 1 } (by decide)).trans
    (keeps_raiseLimited _ _ _ _ _ _ _ _ (by simp; omega) (by decide) (by decide) (fun _ _ h => h))

theorem allocTiles_reads {p : Nat} (hp : p < 6) (l : List (Nat × BitVec 128 × List Byte)) (d : Device) :
    Keeps allocParts eventReg d (allocTiles d p l).1 ∧ ((allocTiles d p l).2.isSome = true → Keeps [.mems] noReg d (allocTiles d p l).1) := by
  induction l generalizing d with
  | nil => exact ⟨keeps_self, fun _ => keeps_self⟩
  | cons t r ih =>
    obtain ⟨i, h, b⟩ := t
    unfold allocTiles
    rcases allocSlot_cases d p h b with e | ⟨v, n, hi, pi, e⟩
    · simp only [e]
      exact ⟨keeps_memExhausted hp d, fun h => by simp at h⟩
    · simp only [e]
      obtain ⟨ih, some_ih⟩ := ih (setMem d p v)
      cases hr : allocTiles (setMem d p v) p r with
      | mk x o =>
        rw [hr] at ih some_ih
        cases o with
        | none => exact ⟨(keeps_setMem d p v (by decide)).trans ih, fun h => by simp at h⟩
        | some u => exact ⟨(keeps_setMem d p v (by decide)).trans ih, fun h => (keeps_setMem d p v (by simp)).trans (some_ih rfl)⟩

/-- A frame as a die publishes it. -/
def publishedFrame (d : Device) (s p : Nat) (f : Frame) : Frame := { f with
  published := (pixAt d p).tb2.ns
  expired := oldAtPublication (pixAt d p) (srcCfg d s 7) f.capture
  base := srcCfg d s 7
  recNum := (placeSlot (ifsPlacing d p) 1 (memAt d p)).1.alloc
  recIf := (placeSlot (ifsPlacing d p) 1 (memAt d p)).2 }

theorem publishOn_reads (d : Device) (s p : Nat) (f : Frame) (written : List Nat) :
    (srcUnit (publishOn d s p f written) s p).frame = some (publishedFrame d s p f) ∧
    (srcUnit (publishOn d s p f written) s p).opn = (srcUnit d s p).opn ∧
    (srcUnit (publishOn d s p f written) s p).lastSignal = (srcUnit d s p).lastSignal ∧
    (∀ j, j ≠ srcKey s p → srcAt (publishOn d s p f written) j = srcAt d j) ∧
    Keeps [.mems, .srcs] noReg d (publishOn d s p f written) := by
  unfold publishOn allocRecord
  refine ⟨by simp [srcUnit, modSrcUnit, modSrc, publishedFrame], by simp [srcUnit, modSrcUnit, modSrc], by simp [srcUnit, modSrcUnit, modSrc],
    fun j hj => by simp [modSrcUnit, modSrc, hj.symm], ?_⟩
  exact (keeps_setMem d p _ (by simp)).trans (keeps_setSrc _ _ _ (by simp))

/-- The registers of a source's live status. -/
def liveReg (s : Nat) : Nat → Nat → Prop := fun i _ => i = srcLive s

theorem keeps_live (d : Device) (s : Nat) {r : Nat} (hr : r < 256) (n : Nat) : Keeps [] (liveReg s) d (setN d (srcLive s) r n) :=
  keeps_setN d _ _ n hr rfl

theorem keeps_srcBump (d : Device) (s : Nat) {r : Nat} (hr : r < 256) (n : Nat) : Keeps [] (liveReg s) d (srcBump d s r n) :=
  keeps_bumpBy d _ _ n hr rfl

/-- The status of a source shows a frame published. -/
def statusShown (d : Device) (s : Nat) (f : Frame) : Device :=
  srcBump (setN (setN (setN d (srcLive s) 2 (2 ^ 31 + f.seq)) (srcLive s) 3 (2 ^ 63 + f.capture)) (srcLive s) 4 (2 ^ 63 + f.signature)) s 5 1

theorem publish_eq (d : Device) (s o : Nat) (f : Frame) (written : List Nat) (reseal : Bool) : publish d s o f written reseal =
    exportFrame (statusShown (publishOn d s o f written) s f) s o
      ((srcUnit (statusShown (publishOn d s o f written) s f) s o).frame.getD f) written reseal := rfl

theorem statusShown_reads (d : Device) (s : Nat) (f : Frame) :
    (∀ j, srcAt (statusShown d s f) j = srcAt d j) ∧ Keeps [] (liveReg s) d (statusShown d s f) ∧
    regN (statusShown d s f) (srcLive s) 2 = 2 ^ 31 + f.seq ∧ regN (statusShown d s f) (srcLive s) 3 = 2 ^ 63 + f.capture ∧
    regN (statusShown d s f) (srcLive s) 4 = 2 ^ 63 + f.signature ∧ Counted d (statusShown d s f) (srcLive s) 5 1 ∧
    regN (statusShown d s f) (srcLive s) 7 = regN d (srcLive s) 7 := by
  refine ⟨fun j => by simp [statusShown, srcBump], ?_, by simp [statusShown, srcBump], by simp [statusShown, srcBump],
    by simp [statusShown, srcBump], by simp [statusShown, srcBump, Counted, regN_bumpBy], by simp [statusShown, srcBump]⟩
  exact (((keeps_live d s (show 2 < 256 by decide) _).trans (keeps_live _ s (show 3 < 256 by decide) _)).trans
    (keeps_live _ s (show 4 < 256 by decide) _)).trans (keeps_srcBump _ s (show 5 < 256 by decide) _)

/-- The owner's publication: its frame, its status and its count; the rest is what the Spur ring takes. -/
theorem publish_reads (d : Device) (s o : Nat) (f : Frame) (written : List Nat) (reseal : Bool) :
    (srcUnit (publish d s o f written reseal) s o).frame = some (publishedFrame d s o f) ∧
    (srcUnit (publish d s o f written reseal) s o).opn = (srcUnit d s o).opn ∧
    (srcUnit (publish d s o f written reseal) s o).lastSignal = (srcUnit d s o).lastSignal ∧
    regN (publish d s o f written reseal) (srcLive s) 2 = 2 ^ 31 + f.seq ∧
    regN (publish d s o f written reseal) (srcLive s) 3 = 2 ^ 63 + f.capture ∧
    regN (publish d s o f written reseal) (srcLive s) 4 = 2 ^ 63 + f.signature ∧
    Counted d (publish d s o f written reseal) (srcLive s) 5 1 ∧
    regN (publish d s o f written reseal) (srcLive s) 7 = regN d (srcLive s) 7 ∧
    (∀ p, (queueAt (publish d s o f written reseal) p).credits = (queueAt d p).credits) ∧
    Keeps [.queues, .mems, .srcs] (liveReg s) d (publish d s o f written reseal) := by
  obtain ⟨frame, opn, lastSignal, -, kept⟩ := publishOn_reads d s o f written
  rw [publish_eq]
  generalize publishOn d s o f written = x at *
  obtain ⟨hunit, hkeep, h2, h3, h4, h5, h7⟩ := statusShown_reads x s f
  generalize statusShown x s f = y at *
  obtain ⟨ekept, units, credits⟩ := exported_exportFrame y s o ((srcUnit y s o).frame.getD f) written reseal
  generalize exportFrame y s o ((srcUnit y s o).frame.getD f) written reseal = e at *
  obtain ⟨l, hl⟩ := units (srcKey s o)
  have hsrc : srcUnit e s o = { srcUnit x s o with owed := l } := by rw [srcUnit, hl, hunit]; rfl
  have hreg : ∀ r, r < 256 → r ≠ 0x0A → regN e (srcLive s) r = regN y (srcLive s) r := fun r hr h => ekept.regN hr fun h' => h h'.2
  rw [hsrc]
  refine ⟨frame, opn, lastSignal, ?_, ?_, ?_, ?_, ?_, fun p => ?_, ?_⟩
  · rw [hreg 2 (by decide) (by decide), h2]
  · rw [hreg 3 (by decide) (by decide), h3]
  · rw [hreg 4 (by decide) (by decide), h4]
  · rw [Counted, hreg 5 (by decide) (by decide), ← kept.regN (by decide) id]
    exact h5
  · rw [hreg 7 (by decide) (by decide), h7, kept.regN (by decide) id]
  · rw [credits, hkeep.queueAt (by simp), kept.queueAt (by simp)]
  · exact ((kept.mono (by simp) (fun _ _ h => h.elim)).trans (hkeep.mono (by simp) (fun _ _ h => h))).trans
      (ekept.mono (by simp) (fun _ _ h => h.1))

/-! ### Datagrams accepted (R88, R91, R97) -/

theorem keeps_descTake (d : Device) (p q n : Nat) : Keeps [.queues, .mems] noReg d (descTake d p q n) := by
  have loop : ∀ (l : List Nat) (f : Device → MemUnit × Nat) (x : Device), Keeps [.queues, .mems] noReg x (l.foldl (fun d _ =>
      modQueue (setMem d p (f d).1) p fun u => { u with descs := tput u.descs q (tget u.descs q [] ++ [(f d).2]) }) x) := by
    intro l f x
    induction l generalizing x with
    | nil => exact keeps_self
    | cons y r ih => exact ((keeps_setMem x p _ (by simp)).trans (keeps_setQueue _ p _ (by simp))).trans (ih _)
  unfold descTake
  split
  · exact keeps_self
  · exact Keeps.trans (keeps_setQueue d p _ (by simp)) (loop (List.range n) (fun x => placeSlot (ifsPlacing d p) 2 (memAt x p)) _)

section
variable {d : Device} {s o c seq : Nat}

theorem keeps_iqTake (d : Device) (p q s : Nat) (idx : List Nat) : Keeps [.queues, .mems] noReg d (iqTake d p q s idx) :=
  (keeps_descTake d p q 1).trans (keeps_setQueue _ p _ (by simp))

theorem credits_iqTake (d : Device) (p q s : Nat) (idx : List Nat) :
    (queueAt (iqTake d p q s idx) p).credits = tset 0 (queueAt d p).credits q (iqUsed d p q + 1) := by
  have h := (exported_descTake d s p q 1).credits p
  simp [iqTake, fillMark, h, iqUsed]

/-- An accepted datagram is counted, takes a credit and is the source's signal. -/
theorem tppAccept_reads (d : Device) (s o c : Nat) (idx : List Nat) :
    srcUnit (tppAccept d s o c idx) s o =
      { srcUnit d s o with lastSignal := d.mono, state := if (srcUnit d s o).frame.isSome then 3 else 2 } ∧
    Counted d (tppAccept d s o c idx) (srcLive s) 7 1 ∧
    (queueAt (tppAccept d s o c idx) o).credits = tset 0 (queueAt d o).credits (ingressQueue d s c) (iqUsed d o (ingressQueue d s c) + 1) ∧
    (∀ r, r < 256 → r ≠ 7 → regN (tppAccept d s o c idx) (srcLive s) r = regN d (srcLive s) r) ∧
    Keeps [.srcs, .queues, .mems] (liveReg s) d (tppAccept d s o c idx) := by
  have taken := keeps_iqTake d o (ingressQueue d s c) s idx
  have credits := credits_iqTake d o (ingressQueue d s c) s idx
  unfold tppAccept
  generalize iqTake d o (ingressQueue d s c) s idx = x at *
  have hunit : ∀ j, srcAt x j = srcAt d j := taken.srcAt (by simp)
  have hmono : x.mono = d.mono := taken.mono_eq (by simp)
  have hreg : ∀ r, r < 256 → regN x (srcLive s) r = regN d (srcLive s) r := fun r hr => taken.regN hr id
  refine ⟨?_, ?_, ?_, fun r hr h => ?_, ?_⟩
  · simp only [srcSignal, srcUnit, modSrcUnit, modSrc, srcBump, hmono, bumpBy_fields, units_bumpBy, srcAt_setSrc, if_true]
    rw [hunit]
    rfl
  · simp [srcSignal, modSrcUnit, modSrc, srcBump, Counted, regN_bumpBy, hreg]
  · simpa [srcSignal, modSrcUnit, modSrc, srcBump] using credits
  · rw [← hreg r hr]
    simp [srcSignal, modSrcUnit, modSrc, srcBump, hr, Ne.symm h]
  · exact ((taken.mono (by simp) (fun _ _ h => h.elim)).trans ((keeps_srcBump x s (by decide) 1).mono (by simp) (fun _ _ h => h))).trans
      (keeps_setSrc _ _ _ (by simp))

theorem tppTaken_of {e : Device} {idx : List Nat} (hc : regN e (srcLive s) 7 = regN (tppAccept d s o c idx) (srcLive s) 7)
    (hl : (srcUnit e s o).lastSignal = (srcUnit (tppAccept d s o c idx) s o).lastSignal)
    (hq : (queueAt e o).credits = (queueAt (tppAccept d s o c idx) o).credits) : TppTaken d e s o (ingressQueue d s c) := by
  obtain ⟨unit, counted, credits, -, -⟩ := tppAccept_reads d s o c idx
  refine ⟨?_, ?_, ?_⟩
  · rw [Counted, hc]; exact counted
  · rw [hl, unit]
  · rw [iqUsed, hq, credits, tget_tset, if_pos rfl]

/-- The open frame is of the datagram's sequence and kind. -/
theorem tppOpen_reads {reseal : Bool} (hm : ∀ x, (srcUnit d s o).opn = some x → x.seq = seq → x.reseal = reseal) :
    (∃ x, (srcUnit (tppOpen d s o seq reseal) s o).opn = some x ∧ x.seq = seq ∧ x.reseal = reseal) ∧
    (srcUnit (tppOpen d s o seq reseal) s o).frame = (srcUnit d s o).frame ∧
    (srcUnit (tppOpen d s o seq reseal) s o).lastSignal = (srcUnit d s o).lastSignal ∧
    regN (tppOpen d s o seq reseal) (srcLive s) 7 = regN d (srcLive s) 7 ∧
    Keeps [.srcs] (liveReg s) d (tppOpen d s o seq reseal) := by
  dsimp only [tppOpen]
  split
  · next x hx =>
    split
    · next h => exact ⟨⟨x, hx, h, hm x hx h⟩, rfl, rfl, rfl, keeps_self⟩
    · refine ⟨⟨_, by simp [srcBump, srcUnit, modSrcUnit, modSrc]; rfl, rfl, rfl⟩, by simp [srcBump, srcUnit, modSrcUnit, modSrc],
        by simp [srcBump, srcUnit, modSrcUnit, modSrc], by simp [srcBump, modSrcUnit, modSrc], ?_⟩
      exact (keeps_setSrc d _ _ (by simp)).trans ((keeps_srcBump _ s (by decide) 1).mono (by simp) (fun _ _ h => h))
  · refine ⟨⟨_, by simp [srcUnit, modSrcUnit, modSrc]; rfl, rfl, rfl⟩, by simp [srcUnit, modSrcUnit, modSrc],
      by simp [srcUnit, modSrcUnit, modSrc], by simp [modSrcUnit, modSrc], keeps_setSrc d _ _ (by simp)⟩

end

/-! ### Keepalives, reseals and datagrams without a source (R88, R92, R100) -/

section
variable {d : Device} {port : Nat} {peer : Endpoint} {h : TppHeader} {s o c : Nat}

theorem firstOf_zero {l : List Nat} (hl : ∀ x ∈ l, x = 0) : firstOf l = 0 := by
  have e : l.find? (· != 0) = none := List.find?_eq_none.mpr fun x hx => by simp [hl x hx]
  rw [firstOf, e]

theorem firstOf_two {a b : Nat} (ha : a = 0) (hb : b = 0) : firstOf [a, b] = 0 := firstOf_zero (by simp [ha, hb])
theorem firstOf_three {a b x : Nat} (ha : a = 0) (hb : b = 0) (hx : x = 0) : firstOf [a, b, x] = 0 := firstOf_zero (by simp [ha, hb, hx])
theorem firstOf_four {a b x y : Nat} (ha : a = 0) (hb : b = 0) (hx : x = 0) (hy : y = 0) : firstOf [a, b, x, y] = 0 :=
  firstOf_zero (by simp [ha, hb, hx, hy])
theorem firstOf_five {a b x y z : Nat} (ha : a = 0) (hb : b = 0) (hx : x = 0) (hy : y = 0) (hz : z = 0) : firstOf [a, b, x, y, z] = 0 :=
  firstOf_zero (by simp [ha, hb, hx, hy, hz])

/-- A credit is given by an owner die that takes units. -/
theorem owner_of_credit (h : tppFull d s c = 0) : srcOwner d s < 6 ∧ sinkOwner d s = some (srcOwner d s) := by
  dsimp only [tppFull] at h
  split at h
  · next hc => exact ⟨hc.1, if_pos ⟨hc.1, hc.2.1⟩⟩
  · simp at h

theorem not_liveReg_cfg (s r : Nat) : ¬ liveReg s (0x5000 + s) r := by
  simp only [liveReg, srcLive]
  omega

theorem srcCfg_of_live {ps : List Part} {e : Device} (hk : Keeps ps (liveReg s) d e) {r : Nat} (hr : r < 256) : srcCfg e s r = srcCfg d s r :=
  hk.regN hr (not_liveReg_cfg s r)

/-- The source unit of an accepted keepalive in its state. -/
def kept (d : Device) (s o c st : Nat) : Device :=
  if st = 2 then modSrcUnit (tppAccept d s o c []) s o fun u => { u with state := 5 } else tppAccept d s o c []

theorem kept_reads (d : Device) (s o c st : Nat) :
    TppTaken d (kept d s o c st) s o (ingressQueue d s c) ∧
    (srcUnit (kept d s o c st) s o).state = (if st = 2 then 5 else if (srcUnit d s o).frame.isSome then 3 else 2) ∧
    (srcUnit (kept d s o c st) s o).frame = (srcUnit d s o).frame ∧
    Keeps [.srcs, .queues, .mems] (liveReg s) d (kept d s o c st) := by
  obtain ⟨unit, -, -, -, keeps⟩ := tppAccept_reads d s o c []
  unfold kept
  split
  · refine ⟨tppTaken_of (idx := []) ?_ ?_ ?_, ?_, ?_, keeps.trans (keeps_setSrc _ _ _ (by simp))⟩
    · simp [modSrcUnit, modSrc]
    · simp [srcUnit, modSrcUnit, modSrc]
    · simp [modSrcUnit, modSrc]
    · simp [srcUnit, modSrcUnit, modSrc]
    · rw [← show (srcUnit (tppAccept d s o c []) s o).frame = (srcUnit d s o).frame by rw [unit]]
      simp [srcUnit, modSrcUnit, modSrc]
  · exact ⟨tppTaken_of rfl rfl rfl, by rw [unit], by rw [unit], keeps⟩

theorem keepaliveOffset_congr {ps : List Part} {e : Device} (hk : Keeps ps (liveReg s) d e) (hp : Part.pix ∉ ps) (time : Nat) :
    keepaliveOffset e s o time = keepaliveOffset d s o time := by
  unfold keepaliveOffset
  rw [hk.pixAt hp, srcCfg_of_live hk (by decide)]

theorem tppKeepaliveOp_of_accepted {time st : Nat} (hs : s = tppSource h) (ho : o = srcOwner d s) (hc : c = ctlOfPort port)
    (hport : hostPort d port = true) (hform : tppForm d h 4 st = 0) (hal : tppAllowed d h peer = 0) (hfull : tppFull d s c = 0) :
    tppKeepaliveOp d port peer h time st =
      if (copyOf (pixAt d o) (srcCfg d s 7 - 1)).loaded = true ∧ srcFrc d s 8 * 1000 < (keepaliveOffset d s o time).natAbs then
        raiseD (kept d s o c st) (o + 2) 7 (0x5000 + s) [wordI16 (Int.tdiv (keepaliveOffset d s o time) 1000)]
      else kept d s o c st := by
  obtain ⟨-, -, -, keeps⟩ := kept_reads d s o c st
  have h7 : srcCfg (kept d s o c st) s 7 = srcCfg d s 7 := srcCfg_of_live keeps (by decide)
  have h8 : srcFrc (kept d s o c st) s 8 = srcFrc d s 8 := by
    unfold srcFrc frcN
    rw [keeps.frc (by decide) (by simp)]
  have hoff := keepaliveOffset_congr (o := o) keeps (by simp) time
  have e : tppKeepaliveOp d port peer h time st =
      if (copyOf (pixAt (kept d s o c st) o) (srcCfg (kept d s o c st) s 7 - 1)).loaded = true ∧
        srcFrc (kept d s o c st) s 8 * 1000 < (keepaliveOffset (kept d s o c st) s o time).natAbs then
        raiseD (kept d s o c st) (o + 2) 7 (0x5000 + s) [wordI16 (Int.tdiv (keepaliveOffset (kept d s o c st) s o time) 1000)]
      else kept d s o c st := by
    subst hs hc ho
    simp only [tppKeepaliveOp, hport, firstOf_three hform hal hfull, Bool.not_true, Bool.false_eq_true, if_false, ne_eq, not_true_eq_false,
      dieNo_eq]
    rfl
  rw [e, hoff, h7, h8, keeps.pixAt (by simp)]

theorem keepalive_reads {time st : Nat} (hs : s = tppSource h) (ho : o = srcOwner d s) (hc : c = ctlOfPort port)
    (hport : hostPort d port = true) (hform : tppForm d h 4 st = 0) (hal : tppAllowed d h peer = 0) (hfull : tppFull d s c = 0) (e : Device)
    (he : e = tppKeepaliveOp d port peer h time st) :
    TppTaken d e s o (ingressQueue d s c) ∧
    (srcUnit e s o).state = (if st = 2 then 5 else if (srcUnit d s o).frame.isSome then 3 else 2) ∧
    (srcUnit e s o).frame = (srcUnit d s o).frame ∧
    ((copyOf (pixAt d o) (srcCfg d s 7 - 1)).loaded = true → srcFrc d s 8 * 1000 < (keepaliveOffset d s o time).natAbs →
      Noted d e (o + 2) 7 (0x5000 + s)) ∧
    Keeps (.srcs :: .queues :: .mems :: eventParts) (srcReg s) d e := by
  obtain ⟨taken, state, frame, keeps⟩ := kept_reads d s o c st
  have ho6 : o < 6 := ho ▸ (owner_of_credit hfull).1
  rw [tppKeepaliveOp_of_accepted hs ho hc hport hform hal hfull] at he
  have wide : Keeps (.srcs :: .queues :: .mems :: eventParts) (srcReg s) d (kept d s o c st) := keeps.mono (by simp) (fun _ _ h => .inr h)
  by_cases hcond : (copyOf (pixAt d o) (srcCfg d s 7 - 1)).loaded = true ∧ srcFrc d s 8 * 1000 < (keepaliveOffset d s o time).natAbs
  · rw [if_pos hcond] at he
    generalize wordI16 (Int.tdiv (keepaliveOffset d s o time) 1000) = w at he
    have noted : Noted d e (o + 2) 7 (0x5000 + s) := by
      rw [he]
      refine noted_raiseD_of (keeps.ringAt (by simp) _) ?_ 7 _ _
      refine keeps.regT (by decide) ?_
      simp only [liveReg, srcLive]
      omega
    have raised := keeps_raiseD (ps := eventParts) (rs := eventReg) (kept d s o c st) (o + 2) 7 (0x5000 + s) [w] (by omega)
      (fun _ h => h) (fun _ _ h => h)
    rw [← he] at raised
    have hunit : srcUnit e s o = srcUnit (kept d s o c st) s o := raised.srcAt (by decide) _
    rw [hunit]
    obtain ⟨t1, t2, t3⟩ := taken
    refine ⟨⟨?_, ?_, ?_⟩, state, frame, fun _ _ => noted, wide.trans (raised.mono (by decide) (fun _ _ h => .inl h))⟩
    · rw [Counted, raised.regN (by decide) (by simp only [eventReg, srcLive]; omega)]
      exact t1
    · rw [hunit]; exact t2
    · rw [iqUsed, raised.queueAt (by decide)]; exact t3
  · rw [if_neg hcond] at he
    subst he
    exact ⟨taken, state, frame, fun h1 h2 => absurd ⟨h1, h2⟩ hcond, wide⟩

end

section
variable {d : Device} {port : Nat} {peer : Endpoint} {h : TppHeader} {s o c : Nat}

/-- The registers that a drop of a source's unit or tile writes. -/
def dropReg (s : Nat) : Nat → Nat → Prop := fun i r => i = srcLive s ∧ (r = 8 ∨ r = 9 ∨ r = 0x0A)

theorem keeps_srcDrop {ps : List Part} (d : Device) (s code : Nat) : Keeps ps (dropReg s) d (srcDrop d s code) := by
  have noted : Keeps ps (dropReg s) d (setN d (srcLive s) 0x0A code) := keeps_setN d _ _ _ (by decide) ⟨rfl, .inr (.inr rfl)⟩
  unfold srcDrop
  split
  · exact keeps_self
  · dsimp only
    split
    · exact noted.trans (keeps_bumpBy _ _ _ _ (by decide) ⟨rfl, .inr (.inl rfl)⟩)
    · split
      · exact noted.trans (keeps_bumpBy _ _ _ _ (by decide) ⟨rfl, .inl rfl⟩)
      · exact noted

theorem barred_congr {ps : List Part} {rs : Nat → Nat → Prop} {e : Device} (hk : Keeps ps rs d e) (hr : Part.rules ∉ ps) (hl : Part.layout ∉ ps)
    (k master : Nat) (write : Bool) : barred e k master write = barred d k master write := by
  unfold barred accessAddr
  rw [hk.ruleCopyAt hr, hk.layout_eq hl]

/-- An open frame of the datagram's sequence is of its kind. -/
theorem opn_of_match {op seq : Nat} (hm : tppFrameMismatch d s op seq = false) (ho : sinkOwner d s = some o) {x : OpenFrame}
    (hx : (srcUnit d s o).opn = some x) (hseq : x.seq = seq) : x.reseal = (op == 2) := by
  dsimp only [tppFrameMismatch] at hm
  rw [ho] at hm
  simp only [hx, hseq, BEq.rfl, Bool.true_and, Bool.or_eq_false_iff] at hm
  simpa using hm.2

/-- A header that R69 takes. -/
def HeaderTaken (s : Nat) (t : BitVec 128) : Prop :=
  hdrGood t = true ∧ hdrValid t = true ∧ hdrOrigin t = true ∧ hdrRsvd t = 0 ∧ hdrSource t = s

/-- From `d` to `e` a reseal's open frame only gains. -/
structure Resealing (s o : Nat) (d e : Device) : Prop where
  opn : ∀ y, (srcUnit d s o).opn = some y → ∃ z, (srcUnit e s o).opn = some z ∧ z.seq = y.seq ∧ z.reseal = y.reseal ∧
    ∀ i ∈ y.covered, i ∈ z.covered
  frame : (srcUnit e s o).frame = (srcUnit d s o).frame
  lastSignal : (srcUnit e s o).lastSignal = (srcUnit d s o).lastSignal
  kept : Keeps [.srcs] (dropReg s) d e

theorem Resealing.trans {e f : Device} (a : Resealing s o d e) (b : Resealing s o e f) : Resealing s o d f where
  opn y hy := by
    obtain ⟨z, hz, hseq, hre, hcov⟩ := a.opn y hy
    obtain ⟨w, hw, hseq', hre', hcov'⟩ := b.opn z hz
    exact ⟨w, hw, hseq'.trans hseq, hre'.trans hre, fun i hi => hcov' i (hcov i hi)⟩
  frame := b.frame.trans a.frame
  lastSignal := b.lastSignal.trans a.lastSignal
  kept := a.kept.trans b.kept

/-- Why a header of a reseal is dropped, 0 when it is not. -/
def resealDrop (s : Nat) (t : BitVec 128) : Nat :=
  if !hdrGood t then 8 else if !hdrValid t || !hdrOrigin t || hdrRsvd t != 0 then 9 else if hdrSource t != s then 10 else 0

theorem resealDrop_of_taken {t : BitVec 128} (h : HeaderTaken s t) : resealDrop s t = 0 := by
  obtain ⟨hg, hv, ho, hr, hs⟩ := h
  simp [resealDrop, hg, hv, ho, hr, hs]

/-- A reseal's open frame with tile i covered. -/
def coverTile (i : Nat) (differ : OpenFrame → List Nat) (x : OpenFrame) : OpenFrame :=
  { x with covered := if x.covered.contains i then x.covered else x.covered ++ [i], differ := differ x }

theorem tppResealTile_eq (d : Device) (s o : Nat) (t : Nat × BitVec 128) : ∃ differ, tppResealTile d s o t =
    if resealDrop s t.2 ≠ 0 then srcDrop d s (resealDrop s t.2)
    else setSrc d (srcKey s o) { srcUnit d s o with opn := (srcUnit d s o).opn.map (coverTile t.1 differ) } :=
  ⟨_, rfl⟩

/-- One header of a reseal: its tile is covered, or dropped alone. -/
theorem tppResealTile_reads (d : Device) (s o : Nat) (t : Nat × BitVec 128) : Resealing s o d (tppResealTile d s o t) ∧
    (HeaderTaken s t.2 → ∀ z, (srcUnit (tppResealTile d s o t) s o).opn = some z → t.1 ∈ z.covered) := by
  obtain ⟨differ, e⟩ := tppResealTile_eq d s o t
  rw [e]
  split
  · next hwhy =>
    have kept := keeps_srcDrop (ps := []) d s (resealDrop s t.2)
    have unit : srcUnit (srcDrop d s (resealDrop s t.2)) s o = srcUnit d s o := kept.srcAt (by simp) _
    exact ⟨⟨fun y hy => ⟨y, by rw [unit, hy], rfl, rfl, fun _ hi => hi⟩, by rw [unit], by rw [unit], kept.mono (by simp) (fun _ _ h => h)⟩,
      fun ht => absurd (resealDrop_of_taken ht) hwhy⟩
  · have unit : srcUnit (setSrc d (srcKey s o) { srcUnit d s o with opn := (srcUnit d s o).opn.map (coverTile t.1 differ) }) s o =
        { srcUnit d s o with opn := (srcUnit d s o).opn.map (coverTile t.1 differ) } := by simp [srcUnit]
    rw [unit]
    refine ⟨⟨fun y hy => ⟨coverTile t.1 differ y, by rw [unit, hy]; rfl, rfl, rfl, fun i hi => ?_⟩, by rw [unit], by rw [unit],
      keeps_setSrc d _ _ (by simp)⟩, fun _ z hz => ?_⟩
    · dsimp only [coverTile]
      split
      · exact hi
      · exact List.mem_append_left _ hi
    · obtain ⟨y, -, rfl⟩ := Option.map_eq_some_iff.mp hz
      dsimp only [coverTile]
      split
      · next h => exact List.contains_iff_mem.mp h
      · simp

theorem tppResealTiles_reads (tiles : List (Nat × BitVec 128)) (d : Device) : Resealing s o d (forEach d tiles fun d t => tppResealTile d s o t) ∧
    (∀ y, (srcUnit d s o).opn = some y → ∀ z, (srcUnit (forEach d tiles fun d t => tppResealTile d s o t) s o).opn = some z →
      ∀ t ∈ tiles, HeaderTaken s t.2 → t.1 ∈ z.covered) := by
  induction tiles generalizing d with
  | nil => exact ⟨⟨fun y hy => ⟨y, hy, rfl, rfl, fun _ h => h⟩, rfl, rfl, keeps_self⟩, fun _ _ _ _ _ ht => by simp at ht⟩
  | cons t r ih =>
    obtain ⟨one, good⟩ := tppResealTile_reads d s o t
    obtain ⟨rest, all⟩ := ih (tppResealTile d s o t)
    refine ⟨one.trans rest, fun y hy z hz u hu hh => ?_⟩
    obtain ⟨w, hw, -, -, -⟩ := one.opn y hy
    rcases List.mem_cons.mp hu with rfl | hu
    · obtain ⟨z', hz', -, -, hcov⟩ := rest.opn w hw
      have : z' = z := Option.some.inj (hz'.symm.trans hz)
      exact this ▸ hcov _ (good hh w hw)
    · exact all w hw z hz u hu hh

theorem tppResealOp_of_accepted {tiles : List (Nat × BitVec 128)} (hs : s = tppSource h) (ho : o = srcOwner d s) (hc : c = ctlOfPort port)
    (hport : hostPort d port = true) (hform : tppForm d h 2 1 = 0) (hal : tppAllowed d h peer = 0) (hi : tppIndices d s (tiles.map (·.1)) = 0)
    (hm : tppFrameMismatch d s 2 h.seq = false) (hfull : tppFull d s c = 0)
    (hb : barred (tppOpen (tppAccept d s o c (tiles.map (·.1))) s o h.seq true) (o + 2) 4 true = false) :
    tppResealOp d port peer h tiles =
      forEach (tppOpen (tppAccept d s o c (tiles.map (·.1))) s o h.seq true) tiles fun d t => tppResealTile d s o t := by
  subst hs hc ho
  simp only [tppResealOp, hport, hm, firstOf_five hform hal hi rfl hfull, Bool.not_true, Bool.false_eq_true, if_false, ne_eq,
    not_true_eq_false, dieNo_eq, hb]

theorem reseal_reads {tiles : List (Nat × BitVec 128)} (hs : s = tppSource h) (ho : o = srcOwner d s) (hc : c = ctlOfPort port)
    (hport : hostPort d port = true) (hform : tppForm d h 2 1 = 0) (hal : tppAllowed d h peer = 0) (hi : tppIndices d s (tiles.map (·.1)) = 0)
    (hm : tppFrameMismatch d s 2 h.seq = false) (hfull : tppFull d s c = 0) (hb : barred d (o + 2) 4 true = false) (e : Device)
    (he : e = tppResealOp d port peer h tiles) :
    TppTaken d e s o (ingressQueue d s c) ∧
    (∃ x, (srcUnit e s o).opn = some x ∧ x.seq = h.seq ∧ x.reseal = true ∧ ∀ t ∈ tiles, HeaderTaken s t.2 → t.1 ∈ x.covered) ∧
    (srcUnit e s o).frame = (srcUnit d s o).frame ∧ e.rings = d.rings ∧ Keeps [.srcs, .queues, .mems] (liveReg s) d e := by
  have hown : sinkOwner d s = some o := ho ▸ (owner_of_credit hfull).2
  obtain ⟨unit, -, -, -, accepted⟩ := tppAccept_reads d s o c (tiles.map (·.1))
  obtain ⟨⟨x, hx, hseq, hre⟩, frame, signal, h7, opened⟩ := tppOpen_reads (d := tppAccept d s o c (tiles.map (·.1))) (s := s) (o := o)
    (seq := h.seq) (reseal := true) (fun y hy hyseq => opn_of_match hm hown (by rw [unit] at hy; exact hy) hyseq)
  rw [unit] at frame
  have wide := accepted.trans (opened.mono (by simp) (fun _ _ h => h))
  rw [tppResealOp_of_accepted hs ho hc hport hform hal hi hm hfull (by rw [barred_congr wide (by simp) (by simp)]; exact hb)] at he
  obtain ⟨⟨gains, frame', signal', kept⟩, all⟩ := tppResealTiles_reads (s := s) (o := o) tiles (tppOpen (tppAccept d s o c (tiles.map (·.1))) s o h.seq true)
  obtain ⟨z, hz, hzseq, hzre, -⟩ := gains x hx
  have covered := all x hx z hz
  rw [← he] at frame' signal' kept hz
  refine ⟨tppTaken_of (idx := tiles.map (·.1)) ?_ ?_ ?_, ⟨z, hz, hzseq.trans hseq, hzre.trans hre, covered⟩, frame'.trans frame, ?_, ?_⟩
  · rw [kept.regN (by decide) (fun h => absurd h.2 (by decide)), h7]
  · rw [signal', signal]
  · rw [kept.queueAt (by simp), opened.queueAt (by simp)]
  · rw [kept.rings_eq (by simp), opened.rings_eq (by simp), accepted.rings_eq (by simp)]
  · exact wide.trans (kept.mono (by simp) (fun _ _ h => h.1))

/-- A datagram without a source is counted, and reported at most once per second per port. -/
theorem unattributedOp_eq (hport : hostPort d port = true) : unattributedOp d port =
    if (tfind d.unattr port).isSome ∧ d.mono < (tget d.unattr port (0, 0)).1 + 1000000000 then
      { d with unattr := tput d.unattr port ((tget d.unattr port (0, 0)).1, (tget d.unattr port (0, 0)).2 + 1) }
    else raiseFull { d with unattr := tput d.unattr port (d.mono, 0) } (ctlOfPort port) 6 1 0 ((tget d.unattr port (0, 0)).2 + 1)
      [word16 ((tget d.unattr port (0, 0)).2 + 1)] none := by
  simp only [unattributedOp, hport, Bool.not_true, Bool.false_eq_true, if_false]

end

theorem keeps_unattr {ps : List Part} {rs : Nat → Nat → Prop} (d : Device) (v : Table (Nat × Nat)) (h : Part.unattr ∈ ps) :
    Keeps ps rs d { d with unattr := v } :=
  ⟨fun p hp => by cases p <;> simp_all [Same, memByte, Machine.frc], fun _ _ _ _ => rfl⟩

/-- Settles O13: each datagram accepted, then its own part. -/
theorem tppResealKeepaliveAndUnattributed : Obligations.TppResealKeepaliveAndUnattributed := by
  unfold Obligations.TppResealKeepaliveAndUnattributed
  refine ⟨?reseal, ?keepalive, ?unattributed⟩
  case reseal =>
    intro dt st d port peer h tiles s o c hd hs ho hc hport hform hal hi hm hfull hb
    refine does_of_act (f := fun d => tppResealOp d port peer h tiles) rfl hd ?_
    obtain ⟨⟨t1, t2, t3⟩, ⟨x, hx, hseq, hre, hcov⟩, frame, rings, kept⟩ := reseal_reads hs ho hc hport hform hal hi hm hfull hb _ rfl
    refine ⟨⟨?_, t2, t3⟩, ⟨x, hx, hseq, hre, fun t ht h1 h2 h3 h4 h5 => hcov t ht ⟨h1, h2, h3, h4, h5⟩⟩, frame, rings, keeps_settle_iff.mpr kept⟩
    rw [Counted, regN_settle _ _ _ (by decide)]
    exact t1
  case keepalive =>
    intro dt st d port peer h time state s o c hd hs ho hc hport hform hal hfull
    refine does_of_act (f := fun d => tppKeepaliveOp d port peer h time state) rfl hd ?_
    obtain ⟨⟨t1, t2, t3⟩, hst, frame, noted, kept⟩ := keepalive_reads hs ho hc hport hform hal hfull _ rfl
    refine ⟨⟨?_, t2, t3⟩, hst, frame, noted, keeps_settle_iff.mpr kept⟩
    rw [Counted, regN_settle _ _ _ (by decide)]
    exact t1
  case unattributed =>
    intro dt st d port hd hport
    refine does_of_act (f := fun d => unattributedOp d port) rfl hd ?_
    rw [unattributedOp_eq hport]
    by_cases hc : (tfind d.unattr port).isSome ∧ d.mono < (tget d.unattr port (0, 0)).1 + 1000000000
    · rw [if_pos hc, if_pos hc]
      exact ⟨⟨by simp, rfl⟩, keeps_settle_iff.mpr (keeps_unattr d _ (by decide))⟩
    · rw [if_neg hc, if_neg hc]
      have alone := keeps_unattr (ps := [.unattr]) (rs := noReg) d (tput d.unattr port (d.mono, 0)) (by decide)
      have quiet := keeps_unattr (ps := .unattr :: eventParts) (rs := eventReg) d (tput d.unattr port (d.mono, 0)) (by decide)
      have raised := keeps_raiseFull (ps := eventParts) (rs := eventReg) { d with unattr := tput d.unattr port (d.mono, 0) } (ctlOfPort port) 6 1 0
        ((tget d.unattr port (0, 0)).2 + 1) [word16 ((tget d.unattr port (0, 0)).2 + 1)] none (by simp only [ctlOfPort]; omega) (fun _ h => h)
        (fun _ _ h => h)
      have noted : Noted d (raiseFull { d with unattr := tput d.unattr port (d.mono, 0) } (ctlOfPort port) 6 1 0
        ((tget d.unattr port (0, 0)).2 + 1) [word16 ((tget d.unattr port (0, 0)).2 + 1)] none) (ctlOfPort port) 6 0 :=
        noted_raiseFull_of (alone.ringAt (by decide) _) (alone.regT (by decide) id) 6 1 0 _ _ none
      generalize raiseFull _ _ _ _ _ _ _ _ = e at *
      refine ⟨⟨?_, noted⟩, keeps_settle_iff.mpr (quiet.trans (raised.mono (by decide) (fun _ _ h => h)))⟩
      rw [settle_unattr, raised.unattr_eq (by decide)]
      simp

/-! ### The end of a frame (R21, R64, R98) -/

section
variable {d : Device} {port : Nat} {peer : Endpoint} {h : TppHeader} {s o c : Nat} {fc : FrameClose} {x : OpenFrame}

theorem tppEndOfFrameOp_of_update (hs : s = tppSource h) (ho : o = srcOwner d s) (hc : c = ctlOfPort port) (hport : hostPort d port = true)
    (hform : tppForm d h 3 1 = 0) (hal : tppAllowed d h peer = 0) (hfull : tppFull d s c = 0) (hb : barred d (o + 2) 4 true = false)
    (hx : (srcUnit d s o).opn = some x) (hseq : x.seq = h.seq) (hre : x.reseal = false) (hcount : fc.count ≠ 0) :
    tppEndOfFrameOp d port peer h fc = closeUpdate (tppAccept d s o c []) s o x fc := by
  have hown : sinkOwner d s = some o := ho ▸ (owner_of_credit hfull).2
  obtain ⟨unit, -, -, -, accepted⟩ := tppAccept_reads d s o c []
  have hb' : barred (tppAccept d s o c []) (o + 2) 4 true = false := by
    rw [barred_congr accepted (by simp) (by simp)]
    exact hb
  have hx' : (srcUnit (tppAccept d s o c []) s o).opn = some x := by rw [unit]; exact hx
  have hfits : closeFits d s h.seq fc.count = true := by simp [closeFits, hown, hx, hseq, hre, hcount]
  subst hs hc ho
  simp only [tppEndOfFrameOp, hport, hfits, if_true, firstOf_four hform hal rfl hfull, Bool.not_true, Bool.false_eq_true, if_false, ne_eq,
    not_true_eq_false, dieNo_eq, hb', hx', hre]

/-- The source unit with its open frame closed. -/
def closed (d : Device) (s o : Nat) : Device := modSrcUnit d s o fun u => { u with opn := none, lost := [] }

theorem closed_reads (d : Device) (s o : Nat) : (srcUnit (closed d s o) s o).opn = none ∧ (srcUnit (closed d s o) s o).frame = (srcUnit d s o).frame ∧
    (srcUnit (closed d s o) s o).lastSignal = (srcUnit d s o).lastSignal ∧ Keeps [.srcs] noReg d (closed d s o) :=
  ⟨by simp [closed, srcUnit, modSrcUnit, modSrc], by simp [closed, srcUnit, modSrcUnit, modSrc], by simp [closed, srcUnit, modSrcUnit, modSrc],
    keeps_setSrc d _ _ (by simp)⟩

theorem closeUpdate_of_whole (hlen : x.got.length = fc.count) (hsp : x.spoiled = false)
    (hgrid : (overlay (frameTiles (srcUnit d s o).frame) x.got).length = srcGrid d s)
    (hsig : frameSignature (overlay (frameTiles (srcUnit d s o).frame) x.got) = fc.signature) :
    closeUpdate d s o x fc = publish (closed d s o) s o
      (mkFrame (closed d s o) s x.seq fc.capture (overlay (frameTiles (srcUnit d s o).frame) x.got)) (x.got.map (·.1)) false := by
  simp only [closeUpdate, hlen, hsp, hgrid, hsig, ne_eq, not_true_eq_false, if_false, Bool.false_eq_true, false_or]
  rfl

theorem closeUpdate_of_count (hlen : x.got.length ≠ fc.count) : ∃ detail, closeUpdate d s o x fc = srcReject d s o 4 detail :=
  ⟨_, if_pos hlen⟩

theorem srcReject_eq (d : Device) (s o code : Nat) (detail : List Nat) : srcReject d s o code detail =
    raiseFull (srcBump (closed d s o) s 6 1) (o + 2) code (sevOf code) (0x5000 + s) 1 detail (some s) := rfl

/-- A frame that is not published is freed, counted and reported. -/
theorem srcReject_reads (ho : o < 6) (d : Device) (s code : Nat) (detail : List Nat) :
    (srcUnit (srcReject d s o code detail) s o).opn = none ∧
    (srcUnit (srcReject d s o code detail) s o).frame = (srcUnit d s o).frame ∧
    (srcUnit (srcReject d s o code detail) s o).lastSignal = (srcUnit d s o).lastSignal ∧
    Counted d (srcReject d s o code detail) (srcLive s) 6 1 ∧ regN (srcReject d s o code detail) (srcLive s) 7 = regN d (srcLive s) 7 ∧
    Noted d (srcReject d s o code detail) (o + 2) code (0x5000 + s) ∧
    Keeps (.srcs :: eventParts) (srcReg s) d (srcReject d s o code detail) := by
  obtain ⟨opn, frame, signal, kept⟩ := closed_reads d s o
  have counted := keeps_srcBump (closed d s o) s (show 6 < 256 by decide) 1
  have six : Counted d (srcBump (closed d s o) s 6 1) (srcLive s) 6 1 := by
    rw [Counted, ← kept.regN (by decide) id]
    simp [srcBump, regN_bumpBy]
  have seven : regN (srcBump (closed d s o) s 6 1) (srcLive s) 7 = regN d (srcLive s) 7 := by
    rw [← kept.regN (by decide) id]
    simp [srcBump]
  rw [srcReject_eq]
  have hring : ringAt (srcBump (closed d s o) s 6 1) (o + 2) = ringAt d (o + 2) := (counted.ringAt (by simp) _).trans (kept.ringAt (by simp) _)
  have hnote : regT (srcBump (closed d s o) s 6 1) (0x2600 + (o + 2)) 8 = regT d (0x2600 + (o + 2)) 8 :=
    (counted.regT (by decide) (by simp only [liveReg, srcLive]; omega)).trans (kept.regT (by decide) id)
  have noted := noted_raiseFull_of hring hnote code (sevOf code) (0x5000 + s) 1 detail (some s)
  generalize srcBump (closed d s o) s 6 1 = y at *
  have raised := keeps_raiseFull (ps := eventParts) (rs := eventReg) y (o + 2) code (sevOf code) (0x5000 + s) 1 detail (some s) (by omega)
    (fun _ h => h) (fun _ _ h => h)
  generalize raiseFull y (o + 2) code (sevOf code) (0x5000 + s) 1 detail (some s) = e at *
  have unit : srcUnit e s o = srcUnit (closed d s o) s o := (raised.srcAt (by decide) _).trans (counted.srcAt (by simp) _)
  have live : ∀ r, r < 256 → regN e (srcLive s) r = regN y (srcLive s) r := fun r hr =>
    raised.regN hr (by simp only [eventReg, srcLive]; omega)
  rw [unit]
  refine ⟨opn, frame, signal, ?_, ?_, noted, ?_⟩
  · rw [Counted, live 6 (by decide)]; exact six
  · rw [live 7 (by decide), seven]
  · exact ((kept.mono (by simp) (fun _ _ h => h.elim)).trans (counted.mono (by simp) (fun _ _ h => .inr h))).trans
      (raised.mono (by decide) (fun _ _ h => .inl h))

theorem tppTaken_after {e : Device} {ps : List Part} {rs : Nat → Nat → Prop} (hk : Keeps ps rs (tppAccept d s o c []) e) (hq : Part.queues ∉ ps)
    (hc : regN e (srcLive s) 7 = regN (tppAccept d s o c []) (srcLive s) 7)
    (hl : (srcUnit e s o).lastSignal = (srcUnit (tppAccept d s o c []) s o).lastSignal) : TppTaken d e s o (ingressQueue d s c) :=
  tppTaken_of hc hl (by rw [hk.queueAt hq])

theorem rejected_reads (ho : o < 6) (detail : List Nat) (e : Device) (he : e = srcReject (tppAccept d s o c []) s o 4 detail) :
    TppTaken d e s o (ingressQueue d s c) ∧ Counted d e (srcLive s) 6 1 ∧ (srcUnit e s o).opn = none ∧
    (srcUnit e s o).frame = (srcUnit d s o).frame ∧ Noted d e (o + 2) 4 (0x5000 + s) ∧ Keeps tppParts (srcReg s) d e := by
  obtain ⟨unit, -, -, live, accepted⟩ := tppAccept_reads d s o c []
  obtain ⟨opn, frame, signal, six, seven, noted, kept⟩ := srcReject_reads ho (tppAccept d s o c []) s 4 detail
  rw [← he] at opn frame signal six seven noted kept
  refine ⟨tppTaken_after kept (by decide) seven signal, ?_, opn, frame.trans (by rw [unit]), ?_, ?_⟩
  · rw [Counted, ← live 6 (by decide) (by decide)]; exact six
  · rw [Noted, ← accepted.ringAt (by simp), ← accepted.regT (i := 0x2600 + (o + 2)) (by decide) (by simp only [liveReg, srcLive]; omega)]
    exact noted
  · exact (accepted.mono (by decide) (fun _ _ h => .inr h)).trans (kept.mono (by decide) (fun _ _ h => h))

theorem published_reads (hgrid : (overlay (frameTiles (srcUnit d s o).frame) x.got).length = srcGrid d s)
    (hsig : frameSignature (overlay (frameTiles (srcUnit d s o).frame) x.got) = fc.signature) (hlen : x.got.length = fc.count)
    (hsp : x.spoiled = false) (e : Device) (he : e = closeUpdate (tppAccept d s o c []) s o x fc) :
    TppTaken d e s o (ingressQueue d s c) ∧ Counted d e (srcLive s) 5 1 ∧ (srcUnit e s o).opn = none ∧
    regN e (srcLive s) 2 = 2 ^ 31 + x.seq ∧ regN e (srcLive s) 3 = 2 ^ 63 + fc.capture ∧ regN e (srcLive s) 4 = 2 ^ 63 + fc.signature ∧
    (∃ f, (srcUnit e s o).frame = some f ∧ f.seq = x.seq ∧ f.capture = fc.capture ∧ f.signature = fc.signature ∧
      f.tiles = overlay (frameTiles (srcUnit d s o).frame) x.got ∧ f.published = (pixAt d o).tb2.ns ∧
      f.expired = oldAtPublication (pixAt d o) (srcCfg d s 7) fc.capture) ∧
    e.rings = d.rings ∧ Keeps tppParts (srcReg s) d e := by
  obtain ⟨unit, -, -, live, accepted⟩ := tppAccept_reads d s o c []
  have hframe : (srcUnit (tppAccept d s o c []) s o).frame = (srcUnit d s o).frame := by rw [unit]
  have grid : srcGrid (tppAccept d s o c []) s = srcGrid d s := by
    unfold srcGrid srcW srcH
    rw [srcCfg_of_live accepted (by decide), srcCfg_of_live accepted (by decide)]
  rw [closeUpdate_of_whole hlen hsp (by rw [hframe, hgrid, grid]) (by rw [hframe, hsig]), hframe] at he
  obtain ⟨copn, cframe, csignal, ckept⟩ := closed_reads (tppAccept d s o c []) s o
  have hpix : pixAt (closed (tppAccept d s o c []) s o) o = pixAt d o := (ckept.pixAt (by simp) o).trans (accepted.pixAt (by simp) o)
  have hcfg : srcCfg (closed (tppAccept d s o c []) s o) s 7 = srcCfg d s 7 :=
    (ckept.regN (by decide) id).trans (srcCfg_of_live accepted (by decide))
  obtain ⟨frame, opn, signal, r2, r3, r4, five, seven, credits, kept⟩ := publish_reads (closed (tppAccept d s o c []) s o) s o
    (mkFrame (closed (tppAccept d s o c []) s o) s x.seq fc.capture (overlay (frameTiles (srcUnit d s o).frame) x.got)) (x.got.map (·.1)) false
  rw [← he] at frame opn signal r2 r3 r4 five seven credits kept
  refine ⟨tppTaken_of (idx := []) ?_ (signal.trans csignal) ?_, ?_, opn.trans copn, r2, r3, ?_, ⟨_, frame, rfl, rfl, hsig, rfl, ?_, ?_⟩, ?_, ?_⟩
  · rw [seven, ckept.regN (by decide) id]
  · rw [credits, ckept.queueAt (by simp)]
  · rw [Counted, ← live 5 (by decide) (by decide), ← ckept.regN (by decide) id]; exact five
  · rw [r4, ← hsig]; rfl
  · rw [publishedFrame, hpix]
  · rw [publishedFrame, hpix, hcfg]; rfl
  · rw [kept.rings_eq (by simp), ckept.rings_eq (by simp), accepted.rings_eq (by simp)]
  · exact ((accepted.mono (by decide) (fun _ _ h => .inr h)).trans (ckept.mono (by decide) (fun _ _ h => h.elim))).trans
      (kept.mono (by decide) (fun _ _ h => .inr h))

end

/-- Settles O12: the datagram accepted, then the frame published or freed. -/
theorem tppEndOfFramePublishesOrRejects : Obligations.TppEndOfFramePublishesOrRejects := by
  unfold Obligations.TppEndOfFramePublishesOrRejects
  refine ⟨?whole, ?count⟩
  case whole =>
    intro dt st d port peer h fc x s o c hd hs ho hc hport hform hal hfull hb hx hseq hre hcount hlen hsp hgrid hsig
    refine does_of_act (f := fun d => tppEndOfFrameOp d port peer h fc) rfl hd ?_
    obtain ⟨⟨t1, t2, t3⟩, five, opn, r2, r3, r4, frame, rings, kept⟩ := published_reads hgrid hsig hlen hsp _
      (tppEndOfFrameOp_of_update hs ho hc hport hform hal hfull hb hx hseq hre hcount)
    rw [hseq] at r2 frame
    refine ⟨⟨?_, t2, t3⟩, ?_, opn, ?_, ?_, ?_, frame, rings, keeps_settle_iff.mpr kept⟩
    · rw [Counted, regN_settle _ _ _ (by decide)]; exact t1
    · rw [Counted, regN_settle _ _ _ (by decide)]; exact five
    · rw [regN_settle _ _ _ (by decide)]; exact r2
    · rw [regN_settle _ _ _ (by decide)]; exact r3
    · rw [regN_settle _ _ _ (by decide)]; exact r4
  case count =>
    intro dt st d port peer h fc x s o c hd hs ho hc hport hform hal hfull hb hx hseq hre hcount hlen
    refine does_of_act (f := fun d => tppEndOfFrameOp d port peer h fc) rfl hd ?_
    obtain ⟨detail, hrej⟩ := closeUpdate_of_count (d := tppAccept d s o c []) (s := s) (o := o) hlen
    obtain ⟨⟨t1, t2, t3⟩, six, opn, frame, noted, kept⟩ := rejected_reads (ho ▸ (owner_of_credit hfull).1) detail _
      ((tppEndOfFrameOp_of_update hs ho hc hport hform hal hfull hb hx hseq hre hcount).trans hrej)
    refine ⟨⟨?_, t2, t3⟩, ?_, opn, frame, noted, keeps_settle_iff.mpr kept⟩
    · rw [Counted, regN_settle _ _ _ (by decide)]; exact t1
    · rw [Counted, regN_settle _ _ _ (by decide)]; exact six

/-! ### Updates (R69, R71, R91, R96, R97) -/

/-- Registers that the storing of an update's tiles may write. -/
def storeReg (s : Nat) : Nat → Nat → Prop := fun i r => eventReg i r ∨ dropReg s i r

/-- From `d` to `e` an update's tiles are stored or dropped: its open frame stays open, the frame shown is the same. -/
structure Storing (s o : Nat) (d e : Device) : Prop where
  opn : ∀ y, (srcUnit d s o).opn = some y → ∃ z, (srcUnit e s o).opn = some z ∧ z.seq = y.seq ∧ z.reseal = y.reseal
  frame : (srcUnit e s o).frame = (srcUnit d s o).frame
  lastSignal : (srcUnit e s o).lastSignal = (srcUnit d s o).lastSignal
  kept : Keeps (.srcs :: allocParts) (storeReg s) d e

namespace Storing
variable {s o : Nat} {d e f : Device}

theorem refl (s o : Nat) (d : Device) : Storing s o d d := ⟨fun y hy => ⟨y, hy, rfl, rfl⟩, rfl, rfl, keeps_self⟩

theorem trans (a : Storing s o d e) (b : Storing s o e f) : Storing s o d f where
  opn y hy := by
    obtain ⟨z, hz, hseq, hre⟩ := a.opn y hy
    obtain ⟨w, hw, hseq', hre'⟩ := b.opn z hz
    exact ⟨w, hw, hseq'.trans hseq, hre'.trans hre⟩
  frame := b.frame.trans a.frame
  lastSignal := b.lastSignal.trans a.lastSignal
  kept := a.kept.trans b.kept

theorem of_keeps {ps : List Part} {rs : Nat → Nat → Prop} (h : Keeps ps rs d e) (hs : Part.srcs ∉ ps) (hp : ∀ p ∈ ps, p ∈ Part.srcs :: allocParts)
    (hr : ∀ i r, rs i r → storeReg s i r) : Storing s o d e :=
  have unit : srcUnit e s o = srcUnit d s o := h.srcAt hs _
  ⟨fun y hy => ⟨y, by rw [unit, hy], rfl, rfl⟩, by rw [unit], by rw [unit], h.mono hp hr⟩

/-- A change of a unit that leaves its frames. -/
theorem of_modSrcUnit (d : Device) (t p : Nat) (f : SrcUnit → SrcUnit)
    (hf : ∀ u, (f u).opn = u.opn ∧ (f u).frame = u.frame ∧ (f u).lastSignal = u.lastSignal) : Storing s o d (modSrcUnit d t p f) := by
  have unit : (srcUnit (modSrcUnit d t p f) s o).opn = (srcUnit d s o).opn ∧ (srcUnit (modSrcUnit d t p f) s o).frame = (srcUnit d s o).frame ∧
      (srcUnit (modSrcUnit d t p f) s o).lastSignal = (srcUnit d s o).lastSignal := by
    by_cases h : srcKey t p = srcKey s o
    · simp [srcUnit, modSrcUnit, modSrc, h, hf]
    · simp [srcUnit, modSrcUnit, modSrc, h]
  exact ⟨fun y hy => ⟨y, by rw [unit.1, hy], rfl, rfl⟩, unit.2.1, unit.2.2, keeps_setSrc d _ _ (by decide)⟩

end Storing

section
variable {d : Device} {s o seq : Nat}

theorem storing_noteLost (d : Device) (s o t seq : Nat) (idx : List Nat) : Storing s o d (noteLost d t seq idx) := by
  unfold noteLost
  split
  · exact Storing.refl s o d
  · exact Storing.of_modSrcUnit d t _ _ fun _ => ⟨rfl, rfl, rfl⟩

theorem storing_tppTile (d : Device) (s o seq : Nat) (t : TppTile) : Storing s o d (tppTile d s seq t) := by
  dsimp only [tppTile]
  split
  · exact (Storing.of_keeps (keeps_srcDrop (ps := []) d s _) (by simp) (by simp) (fun _ _ h => .inr h)).trans (storing_noteLost _ s o s seq _)
  · exact Storing.refl s o d

theorem storing_tppTiles (tiles : List TppTile) (d : Device) : Storing s o d (forEach d tiles fun d t => tppTile d s seq t) := by
  induction tiles generalizing d with
  | nil => exact Storing.refl s o d
  | cons t r ih => exact (storing_tppTile d s o seq t).trans (ih _)

/-- The tiles of an update that R69 takes, with their places. -/
def goodTiles (d : Device) (s : Nat) (tiles : List TppTile) : List TppTile := tiles.filter fun t => tileDrop s (srcCfg d s 4) t == 0
def tileSlots (tiles : List TppTile) : List (Nat × BitVec 128 × List Byte) := tiles.map fun t => (t.index, t.hdr, t.payload)

theorem tppStore_of_none {x : Device} {tiles : List TppTile} (h : allocTiles d o (tileSlots (goodTiles d s tiles)) = (x, none)) :
    tppStore d s o seq tiles = noteLost x s seq ((goodTiles d s tiles).map (·.index)) := by
  have h' : allocTiles d o ((tiles.filter fun t => tileDrop s (srcCfg d s 4) t == 0).map fun t => (t.index, t.hdr, t.payload)) = (x, none) := h
  simp only [tppStore, h']
  rfl

/-- An open frame with the tiles that were stored in it. -/
def storedIn (t : Table Slot) (x : OpenFrame) : OpenFrame := { x with got := overlay x.got t }

theorem tppStore_of_some {x : Device} {t : Table Slot} {tiles : List TppTile} (h : allocTiles d o (tileSlots (goodTiles d s tiles)) = (x, some t)) :
    tppStore d s o seq tiles = setSrc x (srcKey s o) { srcUnit x s o with opn := (srcUnit x s o).opn.map (storedIn t) } := by
  have h' : allocTiles d o ((tiles.filter fun t => tileDrop s (srcCfg d s 4) t == 0).map fun t => (t.index, t.hdr, t.payload)) = (x, some t) := h
  simp only [tppStore, h']
  rfl

theorem storing_tppStore (ho : o < 6) (d : Device) (tiles : List TppTile) : Storing s o d (tppStore d s o seq tiles) := by
  obtain ⟨kept, -⟩ := allocTiles_reads ho (tileSlots (goodTiles d s tiles)) d
  cases h : allocTiles d o (tileSlots (goodTiles d s tiles)) with
  | mk x t =>
    rw [h] at kept
    have alloc : Storing s o d x := Storing.of_keeps kept (by decide) (by decide) (fun _ _ h => .inl h)
    cases t with
    | none =>
      rw [tppStore_of_none h]
      exact alloc.trans (storing_noteLost x s o s seq _)
    | some t =>
      rw [tppStore_of_some h]
      have unit : srcUnit (setSrc x (srcKey s o) { srcUnit x s o with opn := (srcUnit x s o).opn.map (storedIn t) }) s o =
        { srcUnit x s o with opn := (srcUnit x s o).opn.map (storedIn t) } := by simp [srcUnit]
      exact alloc.trans ⟨fun y hy => ⟨storedIn t y, by rw [unit, hy]; rfl, rfl, rfl⟩, by rw [unit], by rw [unit], keeps_setSrc x _ _ (by decide)⟩

end

section
variable {d : Device} {port : Nat} {peer : Endpoint} {h : TppHeader} {tiles : List TppTile} {s o c : Nat}

/-- An update accepted, with its frame open. -/
theorem opening_reads {seq : Nat} {idx : List Nat} (hm : tppFrameMismatch d s 1 seq = false) (hown : sinkOwner d s = some o) (g : Device)
    (hg : g = tppOpen (tppAccept d s o c idx) s o seq false) :
    (∃ x, (srcUnit g s o).opn = some x ∧ x.seq = seq ∧ x.reseal = false) ∧ (srcUnit g s o).frame = (srcUnit d s o).frame ∧
    TppTaken d g s o (ingressQueue d s c) ∧ Keeps [.srcs, .queues, .mems] (liveReg s) d g := by
  obtain ⟨unit, -, -, -, accepted⟩ := tppAccept_reads d s o c idx
  obtain ⟨open', frame, signal, h7, opened⟩ := tppOpen_reads (d := tppAccept d s o c idx) (s := s) (o := o)
    (seq := seq) (reseal := false) (fun y hy hyseq => opn_of_match hm hown (by rw [unit] at hy; exact hy) hyseq)
  rw [← hg] at open' frame signal h7 opened
  rw [unit] at frame
  exact ⟨open', frame, tppTaken_of h7 signal (congrArg QueueUnit.credits (opened.queueAt (by simp) o)),
    accepted.trans (opened.mono (by simp) fun _ _ h => h)⟩

/-- The tiles of an update stored or dropped, after its frame is open. -/
theorem storing_reads {e g : Device} {seq : Nat} {q : Nat} (open' : ∃ x, (srcUnit g s o).opn = some x ∧ x.seq = seq ∧ x.reseal = false)
    (frame : (srcUnit g s o).frame = (srcUnit d s o).frame) (taken : TppTaken d g s o q) (kept : Keeps tppParts (srcReg s) d g)
    (h : Storing s o g e) :
    (∃ x, (srcUnit e s o).opn = some x ∧ x.seq = seq ∧ x.reseal = false) ∧
    (srcUnit e s o).frame = (srcUnit d s o).frame ∧ TppTaken d e s o q ∧ Keeps tppParts (srcReg s) d e := by
  obtain ⟨x, hx, hseq, hre⟩ := open'
  obtain ⟨t1, t2, t3⟩ := taken
  obtain ⟨z, hz, hzseq, hzre⟩ := h.opn x hx
  refine ⟨⟨z, hz, hzseq.trans hseq, hzre.trans hre⟩, h.frame.trans frame, ⟨?_, h.lastSignal.trans t2, ?_⟩, ?_⟩
  · rw [Counted, h.kept.regN (by decide) (by simp only [storeReg, dropReg, eventReg, srcLive]; omega)]
    exact t1
  · rw [iqUsed, h.kept.queueAt (by decide)]
    exact t3
  · exact kept.trans (h.kept.mono (by decide) fun _ _ h => h.imp id fun h => h.1)

/-- An update accepted, its frame open and the tiles that R69 drops counted. -/
def updateOpened (d : Device) (s o c seq : Nat) (tiles : List TppTile) : Device :=
  forEach (tppOpen (tppAccept d s o c (tiles.map (·.index))) s o seq false) tiles fun d t => tppTile d s seq t

theorem updateOpened_reads {seq : Nat} (hm : tppFrameMismatch d s 1 seq = false) (hown : sinkOwner d s = some o) :
    (∃ x, (srcUnit (updateOpened d s o c seq tiles) s o).opn = some x ∧ x.seq = seq ∧ x.reseal = false) ∧
    (srcUnit (updateOpened d s o c seq tiles) s o).frame = (srcUnit d s o).frame ∧
    TppTaken d (updateOpened d s o c seq tiles) s o (ingressQueue d s c) ∧ Keeps tppParts (srcReg s) d (updateOpened d s o c seq tiles) := by
  obtain ⟨open', frame, taken, kept⟩ := opening_reads (c := c) (idx := tiles.map (·.index)) hm hown _ rfl
  exact storing_reads open' frame taken (kept.mono (by decide) fun _ _ h => .inr h) (storing_tppTiles tiles _)

theorem tppTileUpdateOp_of_accepted (hs : s = tppSource h) (ho : o = srcOwner d s) (hc : c = ctlOfPort port) (hport : hostPort d port = true)
    (hform : tppForm d h 1 1 = 0) (hal : tppAllowed d h peer = 0) (hi : tppIndices d s (tiles.map (·.index)) = 0)
    (hfit : ∀ t ∈ tiles, hdrSeq t.hdr = h.seq ∧ hdrLast t.hdr = isLast (srcW d s) (srcH d s) t.index)
    (hm : tppFrameMismatch d s 1 h.seq = false) (hfull : tppFull d s c = 0) (hb : barred d (o + 2) 4 true = false) :
    tppTileUpdateOp d port peer h tiles = tppStore (updateOpened d s o c h.seq tiles) s o h.seq tiles := by
  have hown : sinkOwner d s = some o := ho ▸ (owner_of_credit hfull).2
  obtain ⟨-, -, -, kept⟩ := updateOpened_reads (c := c) (tiles := tiles) hm hown
  have hb' : barred (updateOpened d s o c h.seq tiles) (o + 2) 4 true = false := by
    rw [barred_congr kept (by decide) (by decide)]
    exact hb
  have hfield : (tiles.any fun t => hdrSeq t.hdr != h.seq || hdrLast t.hdr != isLast (srcW d s) (srcH d s) t.index) = false := by
    refine List.any_eq_false.mpr fun t ht => ?_
    simp [(hfit t ht).1, (hfit t ht).2]
  subst hs hc ho
  unfold updateOpened at hb' ⊢
  simp only [tppTileUpdateOp, hport, hfield, hm, Bool.or_self, firstOf_five hform hal hi rfl hfull, Bool.not_true, Bool.false_eq_true, if_false,
    ne_eq, not_true_eq_false, dieNo_eq, hb']

theorem update_reads (hs : s = tppSource h) (ho : o = srcOwner d s) (hc : c = ctlOfPort port) (hport : hostPort d port = true)
    (hform : tppForm d h 1 1 = 0) (hal : tppAllowed d h peer = 0) (hi : tppIndices d s (tiles.map (·.index)) = 0)
    (hfit : ∀ t ∈ tiles, hdrSeq t.hdr = h.seq ∧ hdrLast t.hdr = isLast (srcW d s) (srcH d s) t.index)
    (hm : tppFrameMismatch d s 1 h.seq = false) (hfull : tppFull d s c = 0) (hb : barred d (o + 2) 4 true = false) (e : Device)
    (he : e = tppTileUpdateOp d port peer h tiles) :
    (∃ x, (srcUnit e s o).opn = some x ∧ x.seq = h.seq ∧ x.reseal = false) ∧ (srcUnit e s o).frame = (srcUnit d s o).frame ∧
    TppTaken d e s o (ingressQueue d s c) ∧ Keeps tppParts (srcReg s) d e := by
  obtain ⟨ho6, hown⟩ := owner_of_credit hfull
  obtain ⟨open', frame, taken, kept⟩ := updateOpened_reads (c := c) (tiles := tiles) hm (ho ▸ hown)
  rw [tppTileUpdateOp_of_accepted hs ho hc hport hform hal hi hfit hm hfull hb] at he
  exact storing_reads open' frame taken kept (he ▸ storing_tppStore (ho ▸ ho6) _ tiles)

theorem ifsPlacing_congr {ps : List Part} {rs : Nat → Nat → Prop} {e : Device} (h : Keeps ps rs d e) (hp : Part.ifs ∉ ps) (p : Nat) :
    ifsPlacing e p = ifsPlacing d p := by
  simp only [ifsPlacing, h.memIfAt hp]

theorem dieCapacity_congr {ps : List Part} {rs : Nat → Nat → Prop} {e : Device} (h : Keeps ps rs d e) (hp : Part.ifs ∉ ps) (p : Nat) :
    dieCapacity e p = dieCapacity d p := by
  simp only [dieCapacity, ifsPlacing_congr h hp, h.memIfAt hp]

theorem got_tppOpen_of_none {seq : Nat} {reseal : Bool} (h : (srcUnit d s o).opn = none) :
    ∃ x, (srcUnit (tppOpen d s o seq reseal) s o).opn = some x ∧ x.got = [] := by
  simp only [tppOpen, h]
  exact ⟨_, by simp [srcUnit, modSrcUnit, modSrc]; rfl, rfl⟩

/-- A good tile with room is the one tile of the frame that its update opens. -/
theorem singleTile_reads {t : TppTile} (hs : s = tppSource h) (ho : o = srcOwner d s) (hc : c = ctlOfPort port) (hport : hostPort d port = true)
    (hform : tppForm d h 1 1 = 0) (hal : tppAllowed d h peer = 0) (hi : tppIndices d s [t.index] = 0)
    (hseq : hdrSeq t.hdr = h.seq) (hlast : hdrLast t.hdr = isLast (srcW d s) (srcH d s) t.index)
    (hm : tppFrameMismatch d s 1 h.seq = false) (hfull : tppFull d s c = 0) (hb : barred d (o + 2) 4 true = false)
    (hopn : (srcUnit d s o).opn = none) (hgood : tileDrop s (srcCfg d s 4) t = 0) (hplace : ifsPlacing d o ≠ [])
    (hroom : bytesInUse (tppOpen (tppAccept d s o c [t.index]) s o h.seq false) o + 256 * 2 ^ 20 + 16 + t.payload.length ≤
      dieCapacity d o * 2 ^ 20) (e : Device) (he : e = tppTileUpdateOp d port peer h [t]) :
    (∃ x sl, (srcUnit e s o).opn = some x ∧ x.got = [(t.index, sl)] ∧ sl.hdr = t.hdr ∧ sl.payload = t.payload) ∧ e.rings = d.rings := by
  rw [tppTileUpdateOp_of_accepted (tiles := [t]) hs ho hc hport hform hal hi (by simp [hseq, hlast]) hm hfull hb] at he
  obtain ⟨unit, -, -, -, accepted⟩ := tppAccept_reads d s o c [t.index]
  obtain ⟨-, -, -, kept⟩ := opening_reads (c := c) (idx := [t.index]) hm (ho ▸ (owner_of_credit hfull).2) _ rfl
  have got : ∃ x, (srcUnit (tppOpen (tppAccept d s o c [t.index]) s o h.seq false) s o).opn = some x ∧ x.got = [] :=
    got_tppOpen_of_none (by rw [unit]; exact hopn)
  have opened : updateOpened d s o c h.seq [t] = tppOpen (tppAccept d s o c [t.index]) s o h.seq false := by
    simp only [updateOpened, forEach_cons, forEach_nil, tppTile, List.map_cons, List.map_nil, srcCfg_of_live kept (show 4 < 256 by decide), hgood, ne_eq,
      not_true_eq_false, if_false]
  rw [opened] at he
  generalize tppOpen (tppAccept d s o c [t.index]) s o h.seq false = g at *
  have good : goodTiles g s [t] = [t] := by simp [goodTiles, srcCfg_of_live kept (show 4 < 256 by decide), hgood]
  have ifs : ifsPlacing g o = ifsPlacing d o := ifsPlacing_congr kept (by simp) o
  obtain ⟨v, n, i, j, hslot⟩ := allocSlot_of_room (d := g) (p := o) t.hdr t.payload (by rw [ifs]; exact hplace) (by
    rw [dieCapacity_congr kept (by simp)]; exact hroom)
  rw [tppStore_of_some (x := setMem g o v) (t := [(t.index, { num := n, hdr := t.hdr, payload := t.payload, hif := i, pif := j })])
    (by simp only [good, tileSlots, List.map_cons, List.map_nil, allocTiles, hslot]; rfl)] at he
  obtain ⟨x, hx, hgot⟩ := got
  refine ⟨⟨storedIn [(t.index, { num := n, hdr := t.hdr, payload := t.payload, hif := i, pif := j })] x,
    { num := n, hdr := t.hdr, payload := t.payload, hif := i, pif := j }, ?_, ?_, rfl, rfl⟩, ?_⟩
  · rw [he]
    simp [srcUnit] at hx ⊢
    simp [hx]
  · simp [storedIn, hgot, overlay, tput]
  · rw [he]; exact kept.rings_eq (by simp)

end

/-- Settles O11: the update is accepted and its frame opened, then its tiles are stored. -/
theorem tppUpdateFillsItsOpenFrame : Obligations.TppUpdateFillsItsOpenFrame := by
  unfold Obligations.TppUpdateFillsItsOpenFrame
  refine ⟨?accepted, ?single⟩
  case accepted =>
    intro dt st d port peer h tiles s o c hd hs ho hc hport hform hal hi hfit hm hfull hb
    refine does_of_act (f := fun d => tppTileUpdateOp d port peer h tiles) rfl hd ?_
    obtain ⟨open', frame, ⟨t1, t2, t3⟩, kept⟩ := update_reads hs ho hc hport hform hal hi hfit hm hfull hb _ rfl
    refine ⟨⟨?_, t2, t3⟩, open', frame, keeps_settle_iff.mpr kept⟩
    rw [Counted, regN_settle _ _ _ (by decide)]
    exact t1
  case single =>
    intro dt st d g port peer h t s o c hd hg hs ho hc hport hform hal hi hseq hlast hm hfull hb hopn hgood hplace hroom
    subst hg
    refine does_of_act (f := fun d => tppTileUpdateOp d port peer h [t]) rfl hd ?_
    obtain ⟨got, rings⟩ := singleTile_reads hs ho hc hport hform hal hi hseq hlast hm hfull hb hopn hgood hplace hroom _ rfl
    exact ⟨got, rings⟩

end Sys2Proof
end

section
/-! PROOFS. ST 2110 streams, signal loss, credits and test patterns: packets filling frames, frames ending, and the ticks that
publish patterns (R88, R103 to R107, R210, R473). -/

namespace Sys2Proof

open Machine Safety

/-! ### Packets of a stream (R103, R104) -/

section
variable {d : Device} {s path c : Nat} {k : RtpPacket}

/-- From `d` to `e` bands of a stream's frame are sealed and forwarded: which packets were seen, and when, stays. -/
structure Sealing (s : Nat) (d e : Device) : Prop where
  timestamp : (st2110At e s).timestamp = (st2110At d s).timestamp
  seen : (st2110At e s).seen = (st2110At d s).seen
  marker : (st2110At e s).marker = (st2110At d s).marker
  kept : Keeps (.st2110 :: tppParts) (storeReg s) d e

namespace Sealing
variable {e f : Device}

theorem refl (s : Nat) (d : Device) : Sealing s d d := ⟨rfl, rfl, rfl, keeps_self⟩

theorem trans (a : Sealing s d e) (b : Sealing s e f) : Sealing s d f :=
  ⟨b.timestamp.trans a.timestamp, b.seen.trans a.seen, b.marker.trans a.marker, a.kept.trans b.kept⟩

theorem of_keeps (h : Keeps tppParts (storeReg s) d e) : Sealing s d e :=
  have unit : st2110At e s = st2110At d s := h.st2110At (by decide) _
  ⟨by rw [unit], by rw [unit], by rw [unit], h.mono (by decide) fun _ _ h => h⟩

end Sealing

theorem not_storeReg_cfg (s r : Nat) : ¬ storeReg s (0x5000 + s) r := by
  simp only [storeReg, dropReg, eventReg, srcLive]
  omega

theorem srcOwner_of_store {ps : List Part} {e : Device} (h : Keeps ps (storeReg s) d e) : srcOwner e s = srcOwner d s :=
  h.regN (by decide) (not_storeReg_cfg s _)

theorem keeps_forwardUnit (hb : barred d (srcOwner d s + 2) 4 true = false) (tiles : List (Nat × BitVec 128 × List Byte)) :
    Keeps tppParts (storeReg s) d (forwardUnit d s c tiles) := by
  dsimp only [forwardUnit]
  split
  · exact keeps_srcDrop (ps := tppParts) d s 7 |>.mono (fun _ h => h) fun _ _ h => .inr h
  · next hfull =>
    rw [dieNo_eq, hb, if_neg Bool.false_ne_true]
    obtain ⟨alloc, -⟩ := allocTiles_reads (owner_of_credit (Classical.not_not.mp hfull)).1 tiles
      (iqTake d (srcOwner d s) (ingressQueue d s c) s (tiles.map (·.1)))
    have taken := (keeps_iqTake d (srcOwner d s) (ingressQueue d s c) s (tiles.map (·.1))).mono (qs := tppParts) (ts := storeReg s)
      (by decide) (fun _ _ h => h.elim)
    have both := taken.trans (alloc.mono (by decide) fun _ _ h => .inl h)
    split
    · next x h => rw [h] at both; exact both
    · next x t h => rw [h] at both; exact both.trans (keeps_setSrc _ _ _ (by decide))

theorem sealing_forwardUnits (chunks : List (List (Nat × BitVec 128 × List Byte))) (hb : barred d (srcOwner d s + 2) 4 true = false) :
    Sealing s d (forEach d chunks fun d t => forwardUnit d s c t) := by
  induction chunks generalizing d with
  | nil => exact Sealing.refl s d
  | cons t r ih =>
    have one := keeps_forwardUnit (c := c) hb t
    refine (Sealing.of_keeps one).trans (ih ?_)
    rw [srcOwner_of_store one, barred_congr one (by decide) (by decide)]
    exact hb

theorem sealing_modSt2110 (d : Device) (f : St2110Unit → St2110Unit)
    (hf : (f (st2110At d s)).timestamp = (st2110At d s).timestamp ∧ (f (st2110At d s)).seen = (st2110At d s).seen ∧
      (f (st2110At d s)).marker = (st2110At d s).marker) : Sealing s d (modSt2110 d s f) := by
  obtain ⟨timestamp, seen, marker⟩ := hf
  exact ⟨by simp [modSt2110, timestamp], by simp [modSt2110, seen], by simp [modSt2110, marker], keeps_setSt2110 d _ _ (by decide)⟩

theorem sealing_sealBand (hb : barred d (srcOwner d s + 2) 4 true = false) (b arrival : Nat) : Sealing s d (sealBand d s c b arrival) := by
  dsimp only [sealBand]
  exact (sealing_modSt2110 d _ ⟨rfl, rfl, rfl⟩).trans (sealing_forwardUnits _ hb)

/-- One band that a packet touched is sealed where it is full. -/
def touchBand (s c arrival : Nat) (d : Device) (b : Nat) : Device :=
  if !(st2110At d s).bands.contains b && bandFull (srcW d s) (srcH d s) b (st2110At d s).words then sealBand d s c b arrival else d

theorem sealing_touchBand (hb : barred d (srcOwner d s + 2) 4 true = false) (arrival b : Nat) : Sealing s d (touchBand s c arrival d b) := by
  unfold touchBand
  split
  · exact sealing_sealBand hb b arrival
  · exact Sealing.refl s d

theorem sealing_touchBands (arrival : Nat) (bands : List Nat) (hb : barred d (srcOwner d s + 2) 4 true = false) :
    Sealing s d (forEach d bands (touchBand s c arrival)) := by
  induction bands generalizing d with
  | nil => exact Sealing.refl s d
  | cons b r ih =>
    have one := sealing_touchBand (c := c) hb arrival b
    refine one.trans (ih ?_)
    rw [srcOwner_of_store one.kept, barred_congr one.kept (by decide) (by decide)]
    exact hb

/-- The stream's unit with a packet's rows in place. -/
def placedIn (d : Device) (s : Nat) (k : RtpPacket) (arrival : Nat) (u : St2110Unit) : St2110Unit :=
  { u with timestamp := some k.timestamp, seen := u.seen ++ [k.extSeqHi * 65536 + k.seq],
           words := k.rows.foldl (fun t r => if u.bands.contains (r.row / 16) then t else placeRow (srcW d s) t r.row r.first (rowWords d s r)) u.words,
           marker := if k.marker then some (d.mono, arrival) else u.marker }

theorem rtpPlace_eq (d : Device) (s : Nat) (k : RtpPacket) (arrival : Nat) : rtpPlace d s k arrival =
    forEach (modSt2110 d s (placedIn d s k arrival)) ((k.rows.map fun r => r.row / 16).eraseDups) (touchBand s (st2110Ctl d s) arrival) := rfl

/-- The packet's place is noted once. -/
theorem rtpPlace_reads (hb : barred d (srcOwner d s + 2) 4 true = false) (k : RtpPacket) (arrival : Nat) :
    (st2110At (rtpPlace d s k arrival) s).seen = (st2110At d s).seen ++ [k.extSeqHi * 65536 + k.seq] ∧
    (st2110At (rtpPlace d s k arrival) s).timestamp = some k.timestamp ∧
    (k.marker = true → ((st2110At (rtpPlace d s k arrival) s).marker.map (·.1)) = some d.mono) ∧
    regN (rtpPlace d s k arrival) (srcLive s) 7 = regN d (srcLive s) 7 ∧
    Keeps (.st2110 :: tppParts) (srcReg s) d (rtpPlace d s k arrival) := by
  have placed : Keeps (.st2110 :: tppParts) (storeReg s) d (modSt2110 d s (placedIn d s k arrival)) := keeps_setSt2110 d _ _ (by decide)
  obtain ⟨timestamp, seen, marker, kept⟩ := sealing_touchBands (c := st2110Ctl d s) arrival ((k.rows.map fun r => r.row / 16).eraseDups)
    (d := modSt2110 d s (placedIn d s k arrival)) (s := s) hb
  rw [← rtpPlace_eq] at timestamp seen marker kept
  have all := placed.trans kept
  refine ⟨?_, ?_, fun hk => ?_, all.regN (by decide) ?_, all.mono (fun _ h => h) fun _ _ h => h.imp id fun h => h.1⟩
  · rw [seen]; simp [modSt2110, placedIn]
  · rw [timestamp]; simp [modSt2110, placedIn]
  · rw [marker]; simp [modSt2110, placedIn, hk]
  · simp only [storeReg, dropReg, eventReg, srcLive]; omega

/-- A path that brings a packet is heard, before a report. -/
def pathMarked (d : Device) (s path : Nat) : Device :=
  setSt2110 d s { st2110At d s with lastPath := (st2110At d s).lastPath.set path d.mono, downPath := (st2110At d s).downPath.set path false }

theorem pathHeard_eq (d : Device) (s path : Nat) : pathHeard d s path =
    if (st2110At d s).downPath.getD path false then raiseD (pathMarked d s path) (st2110Ctl (pathMarked d s path) s) 9 (0x5000 + s) [path]
    else pathMarked d s path := rfl

/-- What was assembled of a stream stays when a path is heard. -/
theorem pathHeard_reads (hc : srcCfg d s 0x11 < 4) :
    (st2110At (pathHeard d s path) s).timestamp = (st2110At d s).timestamp ∧ (st2110At (pathHeard d s path) s).seen = (st2110At d s).seen ∧
    (st2110At (pathHeard d s path) s).lateTs = (st2110At d s).lateTs ∧ Keeps (.st2110 :: eventParts) eventReg d (pathHeard d s path) := by
  have marked : Keeps (.st2110 :: eventParts) eventReg d (pathMarked d s path) := keeps_setSt2110 d _ _ (by decide)
  have hctl : st2110Ctl (pathMarked d s path) s < 8 := by
    rw [st2110Ctl, show srcCfg (pathMarked d s path) s 0x11 = srcCfg d s 0x11 from rfl]
    omega
  have same : (st2110At (pathMarked d s path) s).timestamp = (st2110At d s).timestamp ∧
      (st2110At (pathMarked d s path) s).seen = (st2110At d s).seen ∧ (st2110At (pathMarked d s path) s).lateTs = (st2110At d s).lateTs := by
    simp [pathMarked]
  rw [pathHeard_eq]
  split
  · have noted := keeps_raiseD (ps := eventParts) (rs := eventReg) (pathMarked d s path) _ 9 (0x5000 + s) [path] hctl
      (fun _ h => h) (fun _ _ h => h)
    have unit := noted.st2110At (by decide) s
    obtain ⟨timestamp, seen, lateTs⟩ := same
    refine ⟨?_, ?_, ?_, marked.trans (noted.mono (by simp +contextual) fun _ _ h => h)⟩
    · rw [unit, timestamp]
    · rw [unit, seen]
    · rw [unit, lateTs]
  · exact ⟨same.1, same.2.1, same.2.2, marked⟩

/-- A packet of good form is counted and its signal noted. -/
def packetCounted (d : Device) (s : Nat) : Device :=
  match liveOwner (srcBump d s 7 1) s with
  | some o => srcSignal (srcBump d s 7 1) s o
  | none => srcBump d s 7 1

theorem packetCounted_reads (d : Device) (s : Nat) :
    Counted d (packetCounted d s) (srcLive s) 7 1 ∧ Keeps [.srcs] (liveReg s) d (packetCounted d s) := by
  have counted := keeps_srcBump d s (show 7 < 256 by decide) 1
  have seven : Counted d (srcBump d s 7 1) (srcLive s) 7 1 := by
    rw [Counted]
    simp [srcBump, regN_bumpBy]
  unfold packetCounted
  split
  · exact ⟨seven, (counted.mono (by simp) fun _ _ h => h).trans (keeps_setSrc _ _ _ (by simp))⟩
  · exact ⟨seven, counted.mono (by simp) fun _ _ h => h⟩

theorem rtpBadForm_congr {e : Device} (hk : Keeps (.st2110 :: eventParts) eventReg d e)
    (ht : (st2110At e s).timestamp = (st2110At d s).timestamp) (hl : (st2110At e s).lateTs = (st2110At d s).lateTs) (k : RtpPacket) :
    rtpBadForm e s k = rtpBadForm d s k := by
  have cfg (r : Nat) (hr : r < 256) : srcCfg e s r = srcCfg d s r := hk.regN hr (by simp only [eventReg]; omega)
  have w : srcW e s = srcW d s := cfg 5 (by decide)
  have h : srcH e s = srcH d s := cfg 6 (by decide)
  have size : streamSizeOk e s = streamSizeOk d s := by unfold streamSizeOk; rw [w, h, cfg 0x18 (by decide)]
  have fast : streamFast e s k.timestamp = streamFast d s k.timestamp := by dsimp only [streamFast]; rw [w, h, ht, hl]
  have words : rowWords e s = rowWords d s := by funext r; unfold rowWords; rw [cfg 0x18 (by decide)]
  unfold rtpBadForm
  rw [size, fast, words, w, h]

theorem rtpNewFrame_of_same {ts ext : Nat} (h : (st2110At d s).timestamp = none ∨ (st2110At d s).timestamp = some ts) :
    rtpNewFrame d s ts ext = d := by
  obtain h | h := h
  · simp only [rtpNewFrame, h]
  · simp only [rtpNewFrame, h, if_true]

theorem rtpAccept_of_form {path : Nat} {k : RtpPacket} (hpay : k.payloadType = srcCfg d s 0x17) (hform : rtpBadForm d s k = false)
    (hlate : k.timestamp ∉ (st2110At d s).lateTs) (hc : srcCfg d s 0x11 < 4)
    (hts : (st2110At d s).timestamp = none ∨ (st2110At d s).timestamp = some k.timestamp) : ∃ arrival, rtpAccept d s path k =
      if (st2110At d s).seen.contains (k.extSeqHi * 65536 + k.seq) then pathHeard d s path
      else rtpPlace (packetCounted (pathHeard d s path) s) s k arrival := by
  obtain ⟨timestamp, seen, lateTs, kept⟩ := pathHeard_reads (d := d) (s := s) (path := path) hc
  have cfg : srcCfg (pathHeard d s path) s 0x17 = srcCfg d s 0x17 := kept.regN (by decide) (by simp only [eventReg]; omega)
  have form := rtpBadForm_congr kept timestamp lateTs k
  refine ⟨(baseOf (ctlAt (pathHeard d s path) (st2110Ctl (pathHeard d s path) s)) (srcCfg (pathHeard d s path) s 7 - 1)).ns, ?_⟩
  dsimp only [rtpAccept]
  rw [rtpNewFrame_of_same (by rw [timestamp]; exact hts), cfg, if_neg (Classical.not_not.mpr hpay), lateTs, form, hform, seen,
    if_neg (by simpa using hlate), if_neg Bool.false_ne_true] <;> rfl

/-- A packet that passes the checks is placed once. -/
theorem rtpAccept_reads {path ext : Nat} {k : RtpPacket} (hb : barred d (srcOwner d s + 2) 4 true = false) (hpay : k.payloadType = srcCfg d s 0x17)
    (hform : rtpBadForm d s k = false) (hlate : k.timestamp ∉ (st2110At d s).lateTs) (hc : srcCfg d s 0x11 < 4)
    (hts : (st2110At d s).timestamp = none ∨ (st2110At d s).timestamp = some k.timestamp) (hext : ext = k.extSeqHi * 65536 + k.seq)
    (e : Device) (he : e = rtpAccept d s path k) :
    (if ext ∈ (st2110At d s).seen then (st2110At e s).seen = (st2110At d s).seen ∧ regN e (srcLive s) 7 = regN d (srcLive s) 7
     else (st2110At e s).seen = (st2110At d s).seen ++ [ext] ∧ (st2110At e s).timestamp = some k.timestamp ∧
       Counted d e (srcLive s) 7 1 ∧ (k.marker = true → ((st2110At e s).marker.map (·.1)) = some d.mono)) ∧
    Keeps (.st2110 :: tppParts) (srcReg s) d e := by
  subst hext
  obtain ⟨-, seen, -, heard⟩ := pathHeard_reads (d := d) (s := s) (path := path) hc
  obtain ⟨arrival, hr⟩ := rtpAccept_of_form (path := path) hpay hform hlate hc hts
  have seven : regN (pathHeard d s path) (srcLive s) 7 = regN d (srcLive s) 7 :=
    heard.regN (by decide) (by simp only [eventReg, srcLive]; omega)
  have wide : Keeps (.st2110 :: tppParts) (srcReg s) d (pathHeard d s path) := heard.mono (by decide) fun _ _ h => .inl h
  by_cases hseen : k.extSeqHi * 65536 + k.seq ∈ (st2110At d s).seen
  · rw [if_pos (List.contains_iff_mem.mpr hseen)] at hr
    rw [if_pos hseen, he, hr]
    exact ⟨⟨seen, seven⟩, wide⟩
  · rw [if_neg (by simpa using hseen)] at hr
    rw [if_neg hseen]
    obtain ⟨counted, ckept⟩ := packetCounted_reads (pathHeard d s path) s
    have all := wide.trans (ckept.mono (by decide) fun _ _ h => .inr h)
    have owner : srcOwner (pathHeard d s path) s = srcOwner d s := heard.regN (by decide) (by simp only [eventReg]; omega)
    have owner' : srcOwner (packetCounted (pathHeard d s path) s) s = srcOwner (pathHeard d s path) s := srcCfg_of_live ckept (by decide)
    obtain ⟨pseen, pts, pmarker, pseven, pkept⟩ := rtpPlace_reads (d := packetCounted (pathHeard d s path) s) (s := s) (by
      rw [owner', owner, barred_congr all (by decide) (by decide)]; exact hb) k arrival
    rw [← hr, ← he] at pseen pts pmarker pseven pkept
    refine ⟨⟨?_, pts, ?_, fun hk => ?_⟩, all.trans pkept⟩
    · rw [pseen, ckept.st2110At (by simp), seen]
    · rw [Counted, pseven, ← seven]; exact counted
    · rw [pmarker hk, all.mono_eq (by decide)]

/-! ### Frames of a stream (R104, R105) -/

theorem mergeWaitEndOp_eq {t arr : Nat} (hm : (st2110At d s).marker = some (t, arr))
    (hw : rtpComplete d s = true ∨ t + srcCfg d s 0x19 * 1000000 ≤ d.mono) : mergeWaitEndOp d s = rtpWaitEnd d s := by
  simp only [mergeWaitEndOp, hm, hw, if_true]

/-- A complete frame of a stream as its record. -/
def recordOf (s : Nat) (u : St2110Unit) (ts arr : Nat) : FrameRec :=
  FrameRec.mk s ((u.count + 1) % 65536) (rtpCapture ts arr) (signatureOf (u.crcs.map (·.2)))

/-- The stream's unit with a complete frame recorded. -/
def recordedIn (s : Nat) (u : St2110Unit) (ts arr : Nat) (v : St2110Unit) : St2110Unit :=
  { rtpClosed v with count := u.count + 1, records := v.records ++ [recordOf s u ts arr] }

theorem rtpWaitEnd_eq {t arr ts : Nat} (hm : (st2110At d s).marker = some (t, arr)) (hts : (st2110At d s).timestamp = some ts) :
    rtpWaitEnd d s = if rtpComplete d s then modSt2110 d s (recordedIn s (st2110At d s) ts arr)
      else rtpDiscard d s (maxOf (st2110At d s).seen) := by
  simp only [rtpWaitEnd, hm, hts] <;> rfl

theorem rtpClosed_reads {u : St2110Unit} {ts : Nat} (h : u.timestamp = some ts) :
    (rtpClosed u).timestamp = none ∧ (rtpClosed u).marker = none ∧ ts ∈ (rtpClosed u).lateTs := by
  simp [rtpClosed, h]

/-- The wait's end leaves a record, or counts what is missing. -/
theorem rtpWaitEnd_reads {t arr ts : Nat} (hm : (st2110At d s).marker = some (t, arr)) (hts : (st2110At d s).timestamp = some ts) (e : Device)
    (he : e = rtpWaitEnd d s) :
    (st2110At e s).timestamp = none ∧ (st2110At e s).marker = none ∧ ts ∈ (st2110At e s).lateTs ∧
    (if rtpComplete d s = true then
       (st2110At e s).count = (st2110At d s).count + 1 ∧ (st2110At e s).records = (st2110At d s).records ++ [recordOf s (st2110At d s) ts arr]
     else (st2110At e s).records = (st2110At d s).records ∧ Counted d e (srcLive s) 6 1 ∧
       Counted d e (srcLive s) 0x0D (rtpMissing (st2110At d s) (maxOf (st2110At d s).seen))) ∧
    Keeps [.st2110] (fun i r => i = srcLive s ∧ (r = 6 ∨ r = 0x0D)) d e := by
  obtain ⟨timestamp, marker, late⟩ := rtpClosed_reads hts
  rw [rtpWaitEnd_eq hm hts] at he
  by_cases hc : rtpComplete d s = true
  · rw [if_pos hc] at he
    have unit : st2110At e s = recordedIn s (st2110At d s) ts arr (st2110At d s) := by rw [he]; simp [modSt2110]
    rw [unit, if_pos hc, he]
    exact ⟨timestamp, marker, late, ⟨rfl, rfl⟩, keeps_setSt2110 d _ _ (by simp)⟩
  · rw [if_neg hc] at he
    have unit : st2110At e s = rtpClosed (st2110At d s) := by rw [he]; simp [rtpDiscard, srcBump]
    rw [unit, if_neg hc, he]
    refine ⟨timestamp, marker, late, ⟨rfl, ?_, ?_⟩, ?_⟩
    · rw [Counted]; simp [rtpDiscard, srcBump, regN_bumpBy]
    · rw [Counted]; simp [rtpDiscard, srcBump, regN_bumpBy]
    · unfold rtpDiscard srcBump
      exact (keeps_setSt2110 d _ _ (by simp)).trans ((keeps_bumpBy _ _ _ _ (by decide) ⟨rfl, .inl rfl⟩).trans
        (keeps_bumpBy _ _ _ _ (by decide) ⟨rfl, .inr rfl⟩))

/-- The owner's unit without the tiles that a record named. -/
def claimed (d : Device) (s o seq : Nat) : Device :=
  modSrcUnit d s o fun u => { u with held := u.held.filter fun e => !(hdrSeq e.2.hdr == seq) }

/-- The stream's unit without its first record. -/
def recordTaken (d : Device) (s : Nat) (rest : List FrameRec) : Device := modSt2110 d s fun u => { u with records := rest }

/-- The tiles held of a frame. -/
def heldOf (d : Device) (s o seq : Nat) : Table Slot := (srcUnit d s o).held.filter fun e => hdrSeq e.2.hdr == seq

theorem frameRecordOp_eq {r : FrameRec} {rest : List FrameRec} {o : Nat} (hr : (st2110At d s).records = r :: rest)
    (ho : liveOwner d s = some o) (hen : srcEnabled d s = true) : ∃ detail, frameRecordOp d s =
      if (heldOf d s o r.seq).length = srcGrid d s ∧ frameSignature (heldOf d s o r.seq) = r.signature ∧
          (heldOf d s o r.seq).all (fun e => hdrValid e.2.hdr) = true then
        publish (claimed (recordTaken d s rest) s o r.seq) s o (mkFrame d s r.seq r.capture (heldOf d s o r.seq)) ((heldOf d s o r.seq).map (·.1)) false
      else srcReject (claimed (recordTaken d s rest) s o r.seq) s o 4 detail := by
  refine ⟨[0xFFFF, if (heldOf d s o r.seq).length = srcGrid d s then 0
    else wordI16 (Int.ofNat (srcGrid d s) - Int.ofNat (heldOf d s o r.seq).length)], ?_⟩
  have owner : liveOwner (modSt2110 d s fun u => { u with records := rest }) s = some o := ho
  have enabled : srcEnabled (modSt2110 d s fun u => { u with records := rest }) s = true := hen
  simp only [frameRecordOp, hr, owner, enabled, true_and]
  rfl

theorem noted_of_keeps {ps : List Part} {rs : Nat → Nat → Prop} {x e : Device} {j code unit : Nat} (h : Keeps ps rs d x)
    (hp : Part.rings ∉ ps) (hr : ¬ rs (0x2600 + j) 8) (hn : Noted x e j code unit) : Noted d e j code unit := by
  rwa [Noted, h.ringAt hp, h.regT (by decide) hr] at hn

theorem claimed_reads (d : Device) (s o seq : Nat) (rest : List FrameRec) :
    (srcUnit (claimed (recordTaken d s rest) s o seq) s o).frame = (srcUnit d s o).frame ∧
    (st2110At (claimed (recordTaken d s rest) s o seq) s).records = rest ∧
    Keeps [.st2110, .srcs] noReg d (claimed (recordTaken d s rest) s o seq) := by
  refine ⟨?_, ?_, (keeps_setSt2110 d _ _ (by simp)).trans (keeps_setSrc _ _ _ (by simp))⟩
  · simp [claimed, recordTaken, srcUnit, modSrcUnit, modSrc, modSt2110]
  · simp [claimed, recordTaken, modSrcUnit, modSrc, modSt2110]

/-- A record whose tiles agree is published on the owner die. -/
theorem recordPublished_reads {r : FrameRec} {rest : List FrameRec} {o : Nat} {held : Table Slot} {written : List Nat} (e : Device)
    (he : e = publish (claimed (recordTaken d s rest) s o r.seq) s o (mkFrame d s r.seq r.capture held) written false) :
    (st2110At e s).records = rest ∧
    (∃ f, (srcUnit e s o).frame = some f ∧ f.seq = r.seq ∧ f.capture = r.capture ∧ f.tiles = held) ∧ Counted d e (srcLive s) 5 1 ∧
    Keeps (.st2110 :: tppParts) (srcReg s) d e := by
  obtain ⟨-, records, kept⟩ := claimed_reads d s o r.seq rest
  obtain ⟨frame, -, -, -, -, -, five, -, -, published⟩ := publish_reads (claimed (recordTaken d s rest) s o r.seq) s o
    (mkFrame d s r.seq r.capture held) written false
  rw [← he] at frame five published
  refine ⟨?_, ⟨_, frame, rfl, rfl, rfl⟩, ?_, ?_⟩
  · rw [published.st2110At (by simp), records]
  · rw [Counted, ← kept.regN (by decide) id]; exact five
  · exact (kept.mono (by decide) fun _ _ h => h.elim).trans (published.mono (by decide) fun _ _ h => .inr h)

/-- A record whose tiles disagree is counted and reported. -/
theorem recordRejected_reads {r : FrameRec} {rest : List FrameRec} {o : Nat} {detail : List Nat} (ho : o < 6) (e : Device)
    (he : e = srcReject (claimed (recordTaken d s rest) s o r.seq) s o 4 detail) :
    (st2110At e s).records = rest ∧ (srcUnit e s o).frame = (srcUnit d s o).frame ∧ Counted d e (srcLive s) 6 1 ∧
    Noted d e (o + 2) 4 (0x5000 + s) ∧ Keeps (.st2110 :: tppParts) (srcReg s) d e := by
  obtain ⟨frame, records, kept⟩ := claimed_reads d s o r.seq rest
  obtain ⟨-, frame', -, six, -, noted, rejected⟩ := srcReject_reads ho (claimed (recordTaken d s rest) s o r.seq) s 4 detail
  rw [← he] at frame' six noted rejected
  refine ⟨?_, frame'.trans frame, ?_, noted_of_keeps kept (by simp) id noted, ?_⟩
  · rw [rejected.st2110At (by decide), records]
  · rw [Counted, ← kept.regN (by decide) id]; exact six
  · exact (kept.mono (by decide) fun _ _ h => h.elim).trans (rejected.mono (by decide) fun _ _ h => h)

/-- A protected path that fell silent is reported once. -/
theorem pathSilence_reads (hen : srcEnabled d s = true) (hkind : srcCfg d s 1 = 2) (hprot : st2110Protected d s = true) (hc : srcCfg d s 0x11 < 4)
    (hup : ctlUp d (st2110Ctl d s) = true) {path : Nat} (hquiet : (st2110At d s).lastPath.getD path 0 + srcLossNs d s ≤ d.mono)
    (hother : d.mono < (st2110At d s).lastPath.getD (1 - path) 0 + srcLossNs d s) (hdown : (st2110At d s).downPath.getD path false = false)
    (e : Device) (he : e = pathSilenceOp d s path) :
    (st2110At e s).downPath = (st2110At d s).downPath.set path true ∧ Recorded d e (st2110Ctl d s) 8 (0x5000 + s) ∧
    Keeps (.st2110 :: eventParts) eventReg d e := by
  have hctl : st2110Ctl d s < 8 := by unfold st2110Ctl; omega
  have hop : pathSilenceOp d s path = raiseD (setSt2110 d s { st2110At d s with downPath := (st2110At d s).downPath.set path true })
      (st2110Ctl d s) 8 (0x5000 + s) [path] := by
    dsimp only [pathSilenceOp]
    exact if_pos ⟨hen, hkind, hprot, hup, by simpa using hquiet, by simpa using hother, by simpa using hdown⟩
  rw [hop] at he
  have marked : Keeps [.st2110] noReg d (setSt2110 d s { st2110At d s with downPath := (st2110At d s).downPath.set path true }) :=
    keeps_setSt2110 d _ _ (by simp)
  have unit : st2110At (setSt2110 d s { st2110At d s with downPath := (st2110At d s).downPath.set path true }) s =
    { st2110At d s with downPath := (st2110At d s).downPath.set path true } := by simp
  generalize setSt2110 d s { st2110At d s with downPath := (st2110At d s).downPath.set path true } = x at *
  have noted := keeps_raiseD (ps := eventParts) (rs := eventReg) x _ 8 (0x5000 + s) [path] hctl (fun _ h => h) (fun _ _ h => h)
  have recorded : Recorded d (raiseD x (st2110Ctl d s) 8 (0x5000 + s) [path]) (st2110Ctl d s) 8 (0x5000 + s) :=
    recorded_raiseFull_of (marked.ringAt (by simp) _) 8 _ _ 1 _ none (by decide)
  rw [← he] at noted recorded
  refine ⟨?_, recorded, (marked.mono (by simp) fun _ _ h => h.elim).trans (noted.mono (by simp +contextual) fun _ _ h => h)⟩
  rw [noted.st2110At (by decide), unit]

end

/-- Settles O14: a packet placed, a frame recorded, a record published or rejected, a path reported. -/
theorem st2110PacketsBecomeFrames : Obligations.St2110PacketsBecomeFrames := by
  unfold Obligations.St2110PacketsBecomeFrames
  refine ⟨?packet, ?waitEnd, ?frameRecord, ?silence⟩
  case packet =>
    intro dt st d port group udp k s path ext hd hport hb hroute hpay hform hlate hc hts hext
    refine does_of_act (f := fun d => rtpPacketOp d port group udp k) rfl hd ?_
    have hop : rtpPacketOp d port group udp k = rtpAccept d s path k := by
      simp only [rtpPacketOp, hport, hroute, Bool.not_true, Bool.false_eq_true, if_false]
    obtain ⟨placed, kept⟩ := rtpAccept_reads hb hpay hform hlate hc hts hext _ hop
    refine ⟨?_, keeps_settle_iff.mpr kept⟩
    split
    · next h =>
      rw [if_pos h, ← regN_settle _ _ _ (by decide)] at placed
      exact placed
    · next h =>
      rw [if_neg h, Counted, ← regN_settle _ _ _ (by decide)] at placed
      exact placed
  case waitEnd =>
    intro dt st d s u t arr ts hd hu hm hts hw
    subst hu
    refine does_of_act (f := fun d => mergeWaitEndOp d s) rfl hd ?_
    obtain ⟨timestamp, marker, late, outcome, kept⟩ := rtpWaitEnd_reads hm hts _ (mergeWaitEndOp_eq hm hw)
    refine ⟨timestamp, marker, late, ?_, keeps_settle_iff.mpr kept⟩
    split
    · next h => rw [if_pos h] at outcome; exact outcome
    · next h =>
      rw [if_neg h] at outcome
      obtain ⟨records, six, missing⟩ := outcome
      refine ⟨records, ?_, ?_⟩
      · rw [Counted, regN_settle _ _ _ (by decide)]; exact six
      · rw [Counted, regN_settle _ _ _ (by decide)]; exact missing
  case frameRecord =>
    intro dt st d s r rest o held hd hr ho hheld hen
    obtain rfl : held = heldOf d s o r.seq := hheld
    have ho6 : o < 6 := by
      unfold liveOwner at ho
      split at ho
      · next h => exact (Option.some.inj ho) ▸ h.1
      · cases ho
    refine does_of_act (f := fun d => frameRecordOp d s) rfl hd ?_
    obtain ⟨detail, hop⟩ := frameRecordOp_eq hr ho hen
    by_cases h : (heldOf d s o r.seq).length = srcGrid d s ∧ frameSignature (heldOf d s o r.seq) = r.signature ∧
      (heldOf d s o r.seq).all (fun e => hdrValid e.2.hdr) = true
    · rw [if_pos h] at hop
      obtain ⟨records, frame, five, kept⟩ := recordPublished_reads _ hop
      refine ⟨records, ?_, keeps_settle_iff.mpr kept⟩
      rw [if_pos h]
      refine ⟨frame, ?_⟩
      rw [Counted, regN_settle _ _ _ (by decide)]; exact five
    · rw [if_neg h] at hop
      obtain ⟨records, frame, six, noted, kept⟩ := recordRejected_reads ho6 _ hop
      refine ⟨records, ?_, keeps_settle_iff.mpr kept⟩
      rw [if_neg h]
      refine ⟨frame, ?_, noted⟩
      rw [Counted, regN_settle _ _ _ (by decide)]; exact six
  case silence =>
    intro dt st d s path hd hen hkind hprot hc hup hquiet hother hdown
    refine does_of_act (f := fun d => pathSilenceOp d s path) rfl hd ?_
    obtain ⟨down, recorded, kept⟩ := pathSilence_reads hen hkind hprot hc hup hquiet hother hdown _ rfl
    exact ⟨down, recorded_settle.mpr recorded, keeps_settle_iff.mpr kept⟩

/-! ### Signal, credits and patterns (R88, R210, R473) -/

section
variable {d : Device} {s p q n : Nat}

theorem signalLossOp_of_silent (hup : pixUp d p = true) (hpresent : (srcUnit d s p).present = true)
    (hst : (srcUnit d s p).state = 2 ∨ (srcUnit d s p).state = 3) (hlost : (srcUnit d s p).lastSignal + srcLossNs d s < d.mono)
    (hown : (srcUnit d s p).owner = false ∨ srcCfg d s 1 ≠ 5) :
    signalLossOp d s p = modSrcUnit d s p fun u => { u with state := 4 } := by
  have own : (!((srcUnit d s p).owner && srcCfg d s 1 == 5)) = true := by
    obtain h | h := hown
    · simp [h]
    · simp [h]
  exact if_pos ⟨hup, hpresent, hst, hlost, own⟩

/-- A served queue gives one credit back and holds the turn. -/
theorem iqServe_reads (granted : Table Nat) (h : iqUsed d p q ≠ 0) :
    iqUsed (iqServe d p q granted) p q + 1 = iqUsed d p q ∧ (queueAt (iqServe d p q granted) p).turn = q % 8 ∧
    tget (queueAt (iqServe d p q granted) p).lastIq (q % 8) 0 = q / 8 + 1 ∧
    (∀ r, r ≠ q → iqUsed (iqServe d p q granted) p r = iqUsed d p r) ∧
    (∀ j, j ≠ p → queueAt (iqServe d p q granted) j = queueAt d j) ∧ Keeps [.queues, .mems] noReg d (iqServe d p q granted) := by
  unfold iqUsed at h
  refine ⟨?_, ?_, ?_, fun r hr => ?_, fun j hj => ?_, ?_⟩
  · simp [iqServe, iqGive, iqUsed, modQueue, tget_tset]
    omega
  · simp [iqServe, modQueue]
  · simp [iqServe, modQueue, tget_tset]
  · simp [iqServe, iqGive, iqUsed, modQueue, tget_tset, hr.symm]
  · simp [iqServe, iqGive, modQueue, hj.symm]
  · exact (keeps_setQueue d p _ (by simp)).trans (keeps_setQueue _ p _ (by simp))

/-- A served queue, or one out of its turn. -/
theorem ingressUnitStoredOp_reads (h : iqUsed d p q ≠ 0) (e : Device) (he : e = ingressUnitStoredOp d p q) :
    (if (iqNext d p).map (·.1) = some q then
       iqUsed e p q + 1 = iqUsed d p q ∧ (queueAt e p).turn = q % 8 ∧ tget (queueAt e p).lastIq (q % 8) 0 = q / 8 + 1
     else queueAt e p = queueAt d p) ∧ (∀ r, r ≠ q → iqUsed e p r = iqUsed d p r) ∧
    (∀ j, j ≠ p → queueAt e j = queueAt d j) ∧ Keeps [.queues, .mems] noReg d e := by
  have idle (hi : e = d) : queueAt e p = queueAt d p ∧ (∀ r, r ≠ q → iqUsed e p r = iqUsed d p r) ∧
      (∀ j, j ≠ p → queueAt e j = queueAt d j) ∧ Keeps [.queues, .mems] noReg d e := by
    subst hi
    exact ⟨rfl, fun _ _ => rfl, fun _ _ => rfl, keeps_self⟩
  cases hn : iqNext d p with
  | none =>
    simp only [ingressUnitStoredOp, hn] at he
    simpa using idle he
  | some t =>
    obtain ⟨m, granted⟩ := t
    simp only [ingressUnitStoredOp, hn] at he
    by_cases hm : m = q
    · subst hm
      rw [Option.map_some, if_pos rfl]
      obtain ⟨used, turn, last, rest⟩ := iqServe_reads granted h
      rw [he, if_pos rfl]
      exact ⟨⟨used, turn, last⟩, rest⟩
    · simpa [hm] using idle (he.trans (if_neg hm))

/-- The tiles of a sealed frame with the pixels `px`. -/
def sealedTiles (d : Device) (s seq capture : Nat) (px : Nat → Nat → Px) : List (Nat × BitVec 128 × List Byte) :=
  (List.range (srcGrid d s)).map fun i =>
    (i, sealTile s seq capture (srcW d s) (srcH d s) i true (tilePayload (srcCfg d s 4) (srcW d s) (srcH d s) i px),
      tilePayload (srcCfg d s 4) (srcW d s) (srcH d s) i px)

/-- A sealed frame is published where its tiles have room. -/
theorem publishSealed_of_room {seq capture decl : Nat} {px : Nat → Nat → Px} (hp : p < 6)
    (hroom : (allocTiles d p (sealedTiles d s seq capture px)).2.isSome = true) :
    ∃ x f written, Keeps [.mems] noReg d x ∧ publishSealed d s p seq capture decl px = (publish x s p f written false, true) ∧
      f.seq = seq ∧ f.capture = capture := by
  obtain ⟨-, roomy⟩ := allocTiles_reads hp (sealedTiles d s seq capture px) d
  have kept := roomy hroom
  cases h : allocTiles d p (sealedTiles d s seq capture px) with
  | mk x t =>
    rw [h] at kept hroom
    obtain ⟨t, rfl⟩ := Option.isSome_iff_exists.mp hroom
    refine ⟨x, { mkFrame x s seq capture t with declUnc := decl }, t.map (·.1), kept, ?_, rfl, rfl⟩
    unfold sealedTiles srcGrid at h
    simp only [publishSealed, h]

/-- The tick's pattern is marked as begun. -/
def patternDue (d : Device) (p : Nat) : Device := modPix d p fun q => { q with intTick := q.ticks }

/-- The only source of a die publishes its pattern for the tick. -/
theorem intPatternOp_of_only (hup : pixUp d p = true) (htick : (pixAt d p).intTick < (pixAt d p).ticks) (hnamed : namedSources d = [s])
    (hown : srcOwner d s = p) (hkind : srcCfg d s 1 = 5) (hen : srcEnabled d s = true) : intPatternOp d p = intFrame (patternDue d p) p s := by
  have up : (pixAt d p).out = true := hup
  have named : namedSources (patternDue d p) = [s] := hnamed
  have mine : srcOwner (patternDue d p) s = p ∧ srcCfg (patternDue d p) s 1 = 5 ∧ srcEnabled (patternDue d p) s = true := ⟨hown, hkind, hen⟩
  dsimp only [intPatternOp]
  rw [if_neg (by simp only [up, Bool.not_true, Bool.false_eq_true, false_or]; omega)]
  unfold patternDue at named mine ⊢
  rw [named, forEach_cons, forEach_nil, if_pos mine]

theorem seq_withPublication (f : Frame) (published recNum recIf base : Nat) (expired : Bool) : ({ f with
    published := published, expired := expired, base := base, recNum := recNum, recIf := recIf } : Frame).seq = f.seq ∧ ({ f with
    published := published, expired := expired, base := base, recNum := recNum, recIf := recIf } : Frame).capture = f.capture := ⟨rfl, rfl⟩

theorem publishedFrame_named (d : Device) (s p : Nat) (f : Frame) :
    (publishedFrame d s p f).seq = f.seq ∧ (publishedFrame d s p f).capture = f.capture := by
  unfold publishedFrame
  exact seq_withPublication f _ _ _ _ _

theorem intFrame_reads (hp : p < 6) (hcount : tget (pixAt d p).intCount s 0 = n)
    (hroom : (allocTiles d p (sealedTiles d s ((n + 1) % 65536) (tickInTb2 (pixAt d p)) (intPixel (srcFrc d s 0x1A) (srcW d s) n))).2.isSome = true)
    (e : Device) (he : e = intFrame d p s) :
    (pixAt e p).intTick = (pixAt d p).intTick ∧ tget (pixAt e p).intCount s 0 = n + 1 ∧
    (∃ f, (srcUnit e s p).frame = some f ∧ f.seq = (n + 1) % 65536 ∧ f.capture = tickInTb2 (pixAt d p)) ∧
    Counted d e (srcLive s) 5 1 ∧ Keeps (.pix :: tppParts) (srcReg s) d e := by
  obtain ⟨x, f, written, room, hsealed, hseq, hcap⟩ := publishSealed_of_room (decl := srcFrc d s 8 * 1000) hp hroom
  have hop : intFrame d p s = modPix (publish x s p f written false) p fun q => { q with intCount := tput q.intCount s (n + 1) } := by
    dsimp only [intFrame]
    rw [hcount, hsealed]
    rfl
  obtain ⟨frame, -, -, -, -, -, five, -, -, published⟩ := publish_reads x s p f written false
  rw [hop] at he
  generalize publish x s p f written false = y at *
  have pix : pixAt y p = pixAt d p := (published.pixAt (by simp) p).trans (room.pixAt (by simp) p)
  have epix : pixAt e p = { pixAt y p with intCount := tput (pixAt y p).intCount s (n + 1) } := by rw [he]; simp [modPix]
  have all : Keeps (.pix :: tppParts) (srcReg s) d y :=
    (room.mono (by decide) fun _ _ h => h.elim).trans (published.mono (by decide) fun _ _ h => .inr h)
  refine ⟨by rw [epix, pix], by rw [epix]; simp [tget_eq], ⟨publishedFrame x s p f, ?_, (publishedFrame_named ..).1.trans hseq, (publishedFrame_named ..).2.trans hcap⟩, ?_, ?_⟩
  · rw [he]; exact frame
  · rw [Counted, ← room.regN (by decide) id, he]; exact five
  · rw [he]; exact all.trans (keeps_setPix _ _ _ (by simp))

end

/-- Settles O15: the signal lost, the queue served, the pattern published. -/
theorem signalLossCreditsAndTestPatterns : Obligations.SignalLossCreditsAndTestPatterns := by
  unfold Obligations.SignalLossCreditsAndTestPatterns
  refine ⟨?loss, ?credit, ?pattern⟩
  case loss =>
    intro dt st d s p hd hup hpresent hst hlost hown
    refine does_of_act (f := fun d => signalLossOp d s p) rfl hd ?_
    rw [signalLossOp_of_silent hup hpresent hst hlost hown]
    refine ⟨?_, fun j hj => ?_, keeps_settle_iff.mpr (keeps_setSrc d _ _ (by simp))⟩
    · simp [srcUnit, modSrcUnit, modSrc]
    · simp [modSrcUnit, modSrc, hj.symm]
  case credit =>
    intro dt st d p q hd hused
    refine does_of_act (f := fun d => ingressUnitStoredOp d p q) rfl hd ?_
    obtain ⟨served, others, dies, kept⟩ := ingressUnitStoredOp_reads hused _ rfl
    exact ⟨served, others, dies, keeps_settle_iff.mpr kept⟩
  case pattern =>
    intro dt st d g p s n tiles hd hg hup htick hnamed hown hkind hen hn htiles hroom
    obtain rfl : g = patternDue d p := hg
    have pix : pixAt (patternDue d p) p = { pixAt d p with intTick := (pixAt d p).ticks } := by simp [patternDue, modPix]
    have time : tickInTb2 (pixAt (patternDue d p) p) = tickInTb2 (pixAt d p) := by rw [pix]; rfl
    have sealed : tiles = sealedTiles (patternDue d p) s ((n + 1) % 65536) (tickInTb2 (pixAt (patternDue d p) p))
        (intPixel (srcFrc (patternDue d p) s 0x1A) (srcW (patternDue d p) s) n) := by rw [time]; exact htiles
    refine does_of_act (f := fun d => intPatternOp d p) rfl hd ?_
    obtain ⟨tick, count, frame, five, kept⟩ := intFrame_reads (n := n) p.isLt (by rw [pix]; exact hn.symm) (sealed ▸ hroom) _
      (intPatternOp_of_only hup htick hnamed hown hkind hen)
    have due : Keeps (.pix :: tppParts) (srcReg s) d (patternDue d p) := keeps_setPix d _ _ (by simp)
    rw [pix] at tick
    rw [time] at frame
    refine ⟨tick, count, frame, ?_, keeps_settle_iff.mpr (due.trans kept)⟩
    rw [Counted, regN_settle _ _ _ (by decide)]
    exact five

end Sys2Proof
end

section
/-! PROOFS. Camera ports, inputs and pipelines (R115 to R133): discarded frames, packets that no input takes, and the lines that a
pipeline takes in turn. -/

namespace Sys2Proof

open Machine Safety

/-! ### Inputs and the store of registers -/

theorem filterMap_tput_of_none {α β : Type} (f : Nat × α → Option β) (t : Table α) {k : Nat} (v : α) (h : ∀ w, f (k, w) = none) :
    (tput t k v).filterMap f = t.filterMap f := by
  induction t with
  | nil => simp [tput, h]
  | cons e r ih =>
    obtain ⟨j, a⟩ := e
    unfold tput
    split
    · simp [h]
    · split
      · next hj => subst hj; simp [h]
      · simp [List.filterMap_cons, ih]

theorem filterMap_tdel_of_none {α β : Type} (f : Nat × α → Option β) (t : Table α) {k : Nat} (h : ∀ w, f (k, w) = none) :
    (tdel t k).filterMap f = t.filterMap f := by
  induction t with
  | nil => rfl
  | cons e r ih =>
    obtain ⟨j, a⟩ := e
    unfold tdel at ih ⊢
    by_cases hj : j = k
    · subst hj; simp [h, ih]
    · simp [hj, List.filterMap_cons, ih]

theorem filterMap_tset_of_none {α β : Type} [DecidableEq α] (f : Nat × α → Option β) (dflt : α) (t : Table α) {k : Nat} (v : α)
    (h : ∀ w, f (k, w) = none) : (tset dflt t k v).filterMap f = t.filterMap f := by
  unfold tset
  split
  · exact filterMap_tdel_of_none f t h
  · exact filterMap_tput_of_none f t v h

/-- The input whose register an entry of the store is. -/
def inputOfKey (e : Nat × Val) : Option Nat :=
  if 0x5480 ≤ keyIdx e.1 ∧ keyIdx e.1 < 0x5500 then some (keyIdx e.1 - 0x5480) else none

theorem namedInputs_eq (d : Device) : namedInputs d = (d.regs.filterMap inputOfKey ++ d.cams.map (·.1)).eraseDups := rfl

theorem inputOfKey_storePut (t : Table Val) {o r : Nat} (v : Val) (ho : o < 0x5480) (hr : r < 256) :
    (storePut t o r v).filterMap inputOfKey = t.filterMap inputOfKey := by
  refine filterMap_tset_of_none _ _ _ _ fun w => ?_
  have key : keyIdx (regKey o r) = o := by simp only [keyIdx, regKey]; omega
  simp only [inputOfKey, key, ite_eq_right_iff]
  omega

/-! ### Packets that are counted (R115, R117) -/

section
variable {d : Device} {c i : Nat}

/-- The counter of corrected headers of a port. -/
def eccReg (c : Nat) : Nat → Nat → Prop := fun x r => x = 0x5400 + c ∧ r = 8

theorem counted_bump (d : Device) (o : Nat) {r : Nat} (hr : r < 256) : Counted d (bump d o r) o r 1 := by
  rw [Counted]
  simp [bump, regN_bumpBy, hr]

theorem keeps_bump {ps : List Part} {rs : Nat → Nat → Prop} (d : Device) (o : Nat) {r : Nat} (hr : r < 256) (h : rs o r) :
    Keeps ps rs d (bump d o r) := keeps_bumpBy d _ _ 1 hr h

theorem eccCorrected_reads {ps : List Part} (d : Device) (c : Nat) (fixed : Bool) :
    (fixed = true → Counted d (eccCorrected d c fixed) (0x5400 + c) 8 1) ∧ Keeps ps (eccReg c) d (eccCorrected d c fixed) := by
  unfold eccCorrected
  split
  · exact ⟨fun _ => counted_bump d _ (by decide), keeps_bump d _ (by decide) ⟨rfl, rfl⟩⟩
  · next h => exact ⟨fun hf => absurd hf h, keeps_self⟩

theorem csiIgnoredOp_reads {k : StrayPacket} (h : portLive d k.port = true) (e : Device) (he : e = csiIgnoredOp d k) :
    Counted d e (0x5400 + k.port) 0x0B 1 ∧ (k.eccFixed = true → Counted d e (0x5400 + k.port) 8 1) ∧
    (k.crcOk = false → Counted d e (0x5400 + k.port) 0x0A 1) ∧
    Keeps [] (fun x r => x = 0x5400 + k.port ∧ (r = 8 ∨ r = 0x0A ∨ r = 0x0B)) d e := by
  obtain ⟨ecc, kept⟩ := eccCorrected_reads (ps := []) d k.port k.eccFixed
  have hop : e = packetIgnored (crcCounted (eccCorrected d k.port k.eccFixed) k.port k.crcOk) k.port := he.trans (if_pos h)
  generalize eccCorrected d k.port k.eccFixed = x at *
  have crc : (k.crcOk = false → Counted x (crcCounted x k.port k.crcOk) (0x5400 + k.port) 0x0A 1) ∧
      Keeps [] (fun y r => y = 0x5400 + k.port ∧ r = 0x0A) x (crcCounted x k.port k.crcOk) := by
    unfold crcCounted
    split
    · next h => exact ⟨fun hf => by simp [h] at hf, keeps_self⟩
    · exact ⟨fun _ => counted_bump x _ (by decide), keeps_bump x _ (by decide) ⟨rfl, rfl⟩⟩
  obtain ⟨crc, checked⟩ := crc
  generalize crcCounted x k.port k.crcOk = y at *
  have ignored : Keeps [] (fun z r => z = 0x5400 + k.port ∧ r = 0x0B) y e := hop ▸ keeps_bump y _ (by decide) ⟨rfl, rfl⟩
  have seen : Counted y e (0x5400 + k.port) 0x0B 1 := hop ▸ counted_bump y _ (by decide)
  rw [Counted, checked.regN (by decide) (by simp), kept.regN (by decide) (by simp [eccReg])] at seen
  refine ⟨seen, fun hf => ?_, fun hf => ?_, ?_⟩
  · rw [Counted, ignored.regN (by decide) (by simp), checked.regN (by decide) (by simp)]
    exact ecc hf
  · have bad := crc hf
    rw [Counted, kept.regN (by decide) (by simp [eccReg])] at bad
    rw [Counted, ignored.regN (by decide) (by simp)]
    exact bad
  · exact ((kept.mono (by simp) fun _ _ h => ⟨h.1, .inl h.2⟩).trans (checked.mono (by simp) fun _ _ h => ⟨h.1, .inr (.inl h.2)⟩)).trans
      (ignored.mono (by simp) fun _ _ h => ⟨h.1, .inr (.inr h.2)⟩)

/-! ### Discarded frames (R117, R121) -/

theorem camDiscardEvent_eq (d : Device) (i reason : Nat) : ∃ due : Bool, camDiscardEvent d i reason =
    if due then raiseFull (modCam d i fun u => { u with lastEvent := some d.mono, discards := 0 }) (dieNo (dieOfPort (camPort d i))) 10 1
      (0x5480 + i) ((camAt d i).discards + 1) [reason, word16 ((camAt d i).discards + 1)] none
    else modCam d i fun u => { u with discards := (camAt d i).discards + 1 } := ⟨_, rfl⟩

/-- The report of a discarded frame leaves the frames of its input alone. -/
theorem camDiscardEvent_reads (hp : camPort d i < 12) (reason : Nat) :
    (camAt (camDiscardEvent d i reason) i).opened = (camAt d i).opened ∧ (camAt (camDiscardEvent d i reason) i).jobs = (camAt d i).jobs ∧
    (∀ j, j ≠ i → camAt (camDiscardEvent d i reason) j = camAt d j) ∧
    Keeps (.cams :: eventParts) eventReg d (camDiscardEvent d i reason) := by
  have marked (f : CamUnit → CamUnit) (hf : (f (camAt d i)).opened = (camAt d i).opened ∧ (f (camAt d i)).jobs = (camAt d i).jobs) :
      (camAt (modCam d i f) i).opened = (camAt d i).opened ∧ (camAt (modCam d i f) i).jobs = (camAt d i).jobs ∧
      (∀ j, j ≠ i → camAt (modCam d i f) j = camAt d j) ∧ Keeps [.cams] noReg d (modCam d i f) :=
    ⟨by simp [modCam, hf], by simp [modCam, hf], fun j hj => by simp [modCam, hj.symm], keeps_setCam d _ _ (by simp)⟩
  obtain ⟨due, hop⟩ := camDiscardEvent_eq d i reason
  rw [hop]
  split
  · obtain ⟨opened, jobs, others, kept⟩ := marked (fun u => { u with lastEvent := some d.mono, discards := 0 }) ⟨rfl, rfl⟩
    generalize modCam d i (fun u => { u with lastEvent := some d.mono, discards := 0 }) = x at *
    have noted := keeps_raiseFull (ps := eventParts) (rs := eventReg) x (dieNo (dieOfPort (camPort d i))) 10 1 (0x5480 + i)
      ((camAt d i).discards + 1) [reason, word16 ((camAt d i).discards + 1)] none (by simp only [dieNo, dieOfPort]; omega)
      (fun _ h => h) (fun _ _ h => h)
    generalize raiseFull x (dieNo (dieOfPort (camPort d i))) 10 1 (0x5480 + i)
      ((camAt d i).discards + 1) [reason, word16 ((camAt d i).discards + 1)] none = e at *
    refine ⟨?_, ?_, fun j hj => ?_, (kept.mono (by simp) fun _ _ h => h.elim).trans (noted.mono (by simp +contextual) fun _ _ h => h)⟩
    · rw [noted.camAt (by decide), opened]
    · rw [noted.camAt (by decide), jobs]
    · rw [noted.camAt (by decide), others j hj]
  · obtain ⟨opened, jobs, others, kept⟩ := marked (fun u => { u with discards := (camAt d i).discards + 1 }) ⟨rfl, rfl⟩
    exact ⟨opened, jobs, others, kept.mono (by simp) fun _ _ h => h.elim⟩

/-- The registers that the discard of a frame of an input writes. -/
def discardReg (i : Nat) : Nat → Nat → Prop := fun x r => x = 0x5480 + i ∧ (r = 0x44 ∨ r = 0x47)

theorem not_eventReg_cam (i r : Nat) : ¬ eventReg (0x5480 + i) r := by
  simp only [eventReg]
  omega

/-- A discarded frame is counted and its reason shown. -/
theorem camDiscarded_reads (hp : camPort d i < 12) (reason : Nat) :
    (camAt (camDiscarded d i reason) i).opened = (camAt d i).opened ∧ (camAt (camDiscarded d i reason) i).jobs = (camAt d i).jobs ∧
    (∀ j, j ≠ i → camAt (camDiscarded d i reason) j = camAt d j) ∧ Counted d (camDiscarded d i reason) (0x5480 + i) 0x44 1 ∧
    regN (camDiscarded d i reason) (0x5480 + i) 0x47 = reason ∧
    Keeps (.cams :: eventParts) (fun x r => eventReg x r ∨ discardReg i x r) d (camDiscarded d i reason) := by
  have shown : Keeps [] (discardReg i) d (setN (bump d (0x5480 + i) 0x44) (0x5480 + i) 0x47 reason) :=
    (keeps_bump d _ (by decide) ⟨rfl, .inl rfl⟩).trans (keeps_setN _ _ _ _ (by decide) ⟨rfl, .inr rfl⟩)
  have counted : Counted d (setN (bump d (0x5480 + i) 0x44) (0x5480 + i) 0x47 reason) (0x5480 + i) 0x44 1 := by
    rw [Counted]; simp [bump, regN_bumpBy]
  have why : regN (setN (bump d (0x5480 + i) 0x44) (0x5480 + i) 0x47 reason) (0x5480 + i) 0x47 = reason := by simp
  have port : camPort (setN (bump d (0x5480 + i) 0x44) (0x5480 + i) 0x47 reason) i = camPort d i :=
    shown.regN (by decide) (by simp [discardReg])
  unfold camDiscarded
  generalize setN (bump d (0x5480 + i) 0x44) (0x5480 + i) 0x47 reason = x at *
  obtain ⟨opened, jobs, others, kept⟩ := camDiscardEvent_reads (d := x) (i := i) (by omega) reason
  have cams (j : Nat) : camAt x j = camAt d j := shown.camAt (by simp) j
  refine ⟨by rw [opened, cams], by rw [jobs, cams], fun j hj => by rw [others j hj, cams], ?_, ?_,
    (shown.mono (by simp) fun _ _ h => .inr h).trans (kept.mono (by simp) fun _ _ h => .inl h)⟩
  · rw [Counted, kept.regN (by decide) (not_eventReg_cam i _)]; exact counted
  · rw [kept.regN (by decide) (not_eventReg_cam i _)]; exact why

/-- The open frame of an input is discarded. -/
theorem camDiscardOpen_of_opened (hp : camPort d i < 12) (ho : (camAt d i).opened = true) (reason : Nat) (e : Device)
    (he : e = camDiscardOpen d i reason) :
    (camAt e i).opened = false ∧ (∀ j ∈ (camAt e i).jobs, j.start ≠ (camAt d i).starts) ∧ (∀ j, j ≠ i → camAt e j = camAt d j) ∧
    Counted d e (0x5480 + i) 0x44 1 ∧ regN e (0x5480 + i) 0x47 = reason ∧
    Keeps (.cams :: eventParts) (fun x r => eventReg x r ∨ discardReg i x r) d e := by
  have hop : e = camDiscarded (modCam (dropJob d i (camAt d i).starts) i fun u => { u with opened := false, skipping := true }) i reason :=
    he.trans (if_pos ho)
  have dropped : Keeps [.cams] noReg d (modCam (dropJob d i (camAt d i).starts) i fun u => { u with opened := false, skipping := true }) :=
    (keeps_setCam d i _ (by simp)).trans (keeps_setCam _ i _ (by simp))
  have closed : (camAt (modCam (dropJob d i (camAt d i).starts) i fun u => { u with opened := false, skipping := true }) i).opened = false := by
    simp [modCam]
  have gone : ∀ j ∈ (camAt (modCam (dropJob d i (camAt d i).starts) i fun u => { u with opened := false, skipping := true }) i).jobs,
      j.start ≠ (camAt d i).starts := by simp [modCam, dropJob]
  have same (j : Nat) (hj : j ≠ i) :
      camAt (modCam (dropJob d i (camAt d i).starts) i fun u => { u with opened := false, skipping := true }) j = camAt d j := by
    simp [modCam, dropJob, hj.symm]
  generalize modCam (dropJob d i (camAt d i).starts) i (fun u => { u with opened := false, skipping := true }) = x at *
  obtain ⟨opened, jobs, others, counted, why, kept⟩ := camDiscarded_reads (d := x) (i := i)
    (by rw [camPort, camCfg, dropped.regN (by decide) id]; exact hp) reason
  rw [← hop] at opened jobs others counted why kept
  rw [Counted, dropped.regN (by decide) id] at counted
  exact ⟨opened.trans closed, by rw [jobs]; exact gone, fun j hj => (others j hj).trans (same j hj), counted, why,
    (dropped.mono (by simp) fun _ _ h => h.elim).trans kept⟩

theorem camDiscardOpen_of_closed (ho : (camAt d i).opened = false) (reason : Nat) : camDiscardOpen d i reason = d :=
  if_neg (by simp [ho])

end

section
variable {d : Device}

/-- The registers that the discard of frames of several inputs writes. -/
def discardsReg (l : List Nat) : Nat → Nat → Prop := fun x r => eventReg x r ∨ ∃ i ∈ l, discardReg i x r

theorem not_discardReg {i j : Nat} (h : j ≠ i) (r : Nat) : ¬ discardReg i (0x5480 + j) r := by
  simp only [discardReg]
  omega

/-- The open frame of an input is discarded, where it has one. -/
theorem camDiscardOpen_reads {i : Nat} (hp : camPort d i < 12) (reason : Nat) (e : Device) (he : e = camDiscardOpen d i reason) :
    (camAt e i).opened = false ∧ (∀ j, j ≠ i → camAt e j = camAt d j) ∧
    ((camAt d i).opened = true ∨ regN d (0x5480 + i) 0x47 = reason → regN e (0x5480 + i) 0x47 = reason) ∧
    Keeps (.cams :: eventParts) (fun x r => eventReg x r ∨ discardReg i x r) d e := by
  by_cases ho : (camAt d i).opened = true
  · obtain ⟨closed, -, others, -, why, kept⟩ := camDiscardOpen_of_opened hp ho reason e he
    exact ⟨closed, others, fun _ => why, kept⟩
  · rw [camDiscardOpen_of_closed (by simpa using ho)] at he
    subst he
    exact ⟨by simpa using ho, fun _ _ => rfl, fun h => h.resolve_left ho, keeps_self⟩

/-- The open frames of several inputs are discarded. -/
theorem camDiscardAll_reads (reason : Nat) (l : List Nat) (hp : ∀ i ∈ l, camPort d i < 12) (e : Device)
    (he : e = forEach d l fun d i => camDiscardOpen d i reason) :
    (∀ i ∈ l, (camAt e i).opened = false) ∧ (∀ j, j ∉ l → camAt e j = camAt d j) ∧
    (∀ i ∈ l, (camAt d i).opened = true ∨ regN d (0x5480 + i) 0x47 = reason → regN e (0x5480 + i) 0x47 = reason) ∧
    Keeps (.cams :: eventParts) (discardsReg l) d e := by
  induction l generalizing d with
  | nil => subst he; exact ⟨by simp, fun _ _ => rfl, by simp, keeps_self⟩
  | cons i l ih =>
    obtain ⟨closed, others, why, kept⟩ := camDiscardOpen_reads (hp i (by simp)) reason _ rfl
    generalize hx : camDiscardOpen d i reason = x at *
    have port (j : Nat) : camPort x j = camPort d j :=
      kept.regN (by decide) (by simp only [eventReg, discardReg]; omega)
    rw [forEach_cons, hx] at he
    obtain ⟨closed', others', why', kept'⟩ := ih (d := x) (fun j hj => by rw [port]; exact hp j (by simp [hj])) he
    have all : Keeps (.cams :: eventParts) (discardsReg (i :: l)) d e :=
      (kept.mono (by simp) fun _ _ h => h.imp id fun h => ⟨i, by simp, h⟩).trans (kept'.mono (by simp) fun _ _ h =>
        h.imp id fun ⟨j, hj, h⟩ => ⟨j, by simp [hj], h⟩)
    refine ⟨fun j hj => ?_, fun j hj => ?_, fun j hj h => ?_, all⟩
    · by_cases hl : j ∈ l
      · exact closed' j hl
      · obtain rfl := (List.mem_cons.mp hj).resolve_right hl
        rw [others' j hl, closed]
    · simp only [List.mem_cons, not_or] at hj
      rw [others' j hj.2, others j hj.1]
    · have first : (camAt x j).opened = true ∨ regN x (0x5480 + j) 0x47 = reason := by
        by_cases hji : j = i
        · exact .inr (hji ▸ why (hji ▸ h))
        · rw [others j hji, kept.regN (by decide) (not_or.mpr ⟨not_eventReg_cam j _, not_discardReg hji _⟩)]
          exact h
      by_cases hl : j ∈ l
      · exact why' j hl first
      · obtain rfl := (List.mem_cons.mp hj).resolve_right hl
        have unwritten : ¬ discardsReg l (0x5480 + j) 0x47 := by
          rintro (h | ⟨k, hk, h⟩)
          · exact not_eventReg_cam j _ h
          · exact not_discardReg (fun hjk : j = k => hl (hjk ▸ hk)) _ h
        rw [kept'.regN (by decide) unwritten]
        exact why h

end

/-- Settles O18: open frames discarded with their reason, stray packets counted, the lanes' state shown. -/
theorem csiErrorsDiscardAndAreCounted : Obligations.CsiErrorsDiscardAndAreCounted := by
  unfold Obligations.CsiErrorsDiscardAndAreCounted
  refine ⟨?header, ?ignored, ?gap, ?lanes⟩
  case header =>
    intro dt st d c hd hlive
    refine does_of_act (f := fun d => csiHeaderBadOp d c) rfl hd ?_
    have hop : csiHeaderBadOp d c = forEach (bump d (0x5400 + c) 9) (portInputs d c) fun d i => camDiscardOpen d i 5 :=
      if_neg (by simp [hlive])
    have bumped : Keeps [] (fun x r => x = 0x5400 + c.val ∧ r = 9) d (bump d (0x5400 + c) 9) := keeps_bump d _ (by decide) ⟨rfl, rfl⟩
    have counted : Counted d (bump d (0x5400 + c) 9) (0x5400 + c) 9 1 := counted_bump d _ (by decide)
    have port (i : Nat) : camPort (bump d (0x5400 + c) 9) i = camPort d i := bumped.regN (by decide) (by omega)
    generalize bump d (0x5400 + c) 9 = x at *
    obtain ⟨closed, -, why, kept⟩ := camDiscardAll_reads 5 (portInputs d c) (fun i hi => by
      have : camPort d i = c.val := by simpa using (List.mem_filter.mp hi).2 |> (Bool.and_eq_true_iff.mp ·) |>.2
      rw [port, this]
      omega) _ hop
    refine ⟨?_, closed, fun i hi ho => ?_, keeps_settle_iff.mpr ?_⟩
    · have unwritten : ¬ discardsReg (portInputs d c) (0x5400 + c) 9 := by
        rintro (h | ⟨k, -, h⟩)
        · simp only [eventReg] at h; omega
        · simp only [discardReg] at h; omega
      rw [Counted, regN_settle _ _ _ (by decide), kept.regN (by decide) unwritten]
      exact counted
    · rw [regN_settle _ _ _ (by decide)]
      exact why i hi (.inl (by rw [bumped.camAt (by simp)]; exact ho))
    · exact (bumped.mono (by simp) fun _ _ h => .inr (.inl h)).trans (kept.mono (by simp +contextual) fun _ _ h =>
        h.imp id fun ⟨i, hi, h⟩ => .inr ⟨i, hi, h⟩)
  case ignored =>
    intro dt st d k hd hlive
    refine does_of_act (f := fun d => csiIgnoredOp d k) rfl hd ?_
    obtain ⟨seen, ecc, crc, kept⟩ := csiIgnoredOp_reads hlive _ rfl
    refine ⟨?_, fun h => ?_, fun h => ?_, keeps_settle_iff.mpr kept⟩
    · rw [Counted, regN_settle _ _ _ (by decide)]; exact seen
    · rw [Counted, regN_settle _ _ _ (by decide)]; exact ecc h
    · rw [Counted, regN_settle _ _ _ (by decide)]; exact crc h
  case gap =>
    intro dt st d i hd ho hlate hport hlive
    refine does_of_act (f := fun d => csiGapOp d i) rfl hd ?_
    have hop : csiGapOp d i = modCam (camDiscardOpen d i 4) i fun u => { u with skipping := false } := if_pos ⟨ho, hlate, hlive⟩
    obtain ⟨closed, gone, -, counted, why, kept⟩ := camDiscardOpen_of_opened hport ho 4 _ rfl
    rw [hop]
    generalize camDiscardOpen d i 4 = x at *
    refine ⟨?_, ?_, ?_, ?_, ?_, keeps_settle_iff.mpr ?_⟩
    · simpa [modCam] using closed
    · simp [modCam]
    · rw [Counted, regN_settle _ _ _ (by decide)]; exact counted
    · rw [regN_settle _ _ _ (by decide)]; exact why
    · simpa [modCam] using gone
    · exact (kept.mono (by simp +contextual) fun _ _ h => h).trans (keeps_setCam _ _ _ (by simp))
  case lanes =>
    intro dt st d c l hd hlive
    refine does_of_act (f := fun d => portLinkOp d c l) rfl hd ?_
    have hop : portLinkOp d c l = setN d (0x5400 + c) 7 (portLinkCode l) := if_pos hlive
    rw [hop]
    refine ⟨?_, keeps_settle_iff.mpr (keeps_setN d _ _ _ (by decide) ⟨rfl, rfl⟩)⟩
    rw [regN_settle _ _ _ (by decide)]
    simp only [regN_setN _ _ _ _ _ _ (show 7 < 256 by decide) (show 7 < 256 by decide), and_self, if_true]
    cases l <;> rfl

/-! ### Lines of a pipeline (R130) -/

section
variable {d : Device} {j i : Nat}

theorem takeLine_jobs {jobs rest : List CamJob} {st : Nat} {l : List Nat} (h : takeLine jobs = some (st, l, rest)) :
    rest.map (·.done) = jobs.map (·.done) := by
  induction jobs generalizing st l rest with
  | nil => simp [takeLine] at h
  | cons x r ih =>
    unfold takeLine at h
    split at h
    · obtain ⟨-, -, rfl⟩ := Prod.mk.inj (Option.some.inj h) |>.imp id Prod.mk.inj
      rfl
    · obtain ⟨⟨st', l', rest'⟩, ht, heq⟩ := Option.map_eq_some_iff.mp h
      obtain ⟨-, -, rfl⟩ := Prod.mk.inj heq |>.imp id Prod.mk.inj
      simp [ih ht]

theorem pipeServe_of_busy {x : Nat × Nat × List Nat} (h : (pipeAt d j).service = some x) : pipeServe d j = d := by
  simp only [pipeServe, h]

theorem pipeServe_of_idle (h : (pipeAt d j).service = none) (hn : pipeNext d j = none) : pipeServe d j = d := by
  simp only [pipeServe, h, hn]

theorem pipeServe_of_next {st : Nat} {l : List Nat} {jobs : List CamJob} (h : (pipeAt d j).service = none) (hn : pipeNext d j = some i)
    (ht : takeLine (camAt d i).jobs = some (st, l, jobs)) :
    pipeServe d j = setPipe (modCam d i fun u => { u with jobs := jobs }) j { service := some (i, st, l) } := by
  simp only [pipeServe, h, hn, ht]

/-- A pipeline takes at most a line: of the inputs only waiting lines change. -/
theorem pipeServe_reads (d : Device) (j : Nat) :
    (∀ k, (camAt (pipeServe d j) k).jobs.map (·.done) = (camAt d k).jobs.map (·.done) ∧
      ∃ jobs, camAt (pipeServe d j) k = { camAt d k with jobs := jobs }) ∧
    Keeps [.cams, .pipes] noReg d (pipeServe d j) := by
  have idle : (∀ k, (camAt d k).jobs.map (·.done) = (camAt d k).jobs.map (·.done) ∧ ∃ jobs, camAt d k = { camAt d k with jobs := jobs }) ∧
      Keeps [.cams, .pipes] noReg d d := ⟨fun k => ⟨rfl, (camAt d k).jobs, rfl⟩, keeps_self⟩
  cases hs : (pipeAt d j).service with
  | some x => rw [pipeServe_of_busy hs]; exact idle
  | none =>
    cases hn : pipeNext d j with
    | none => rw [pipeServe_of_idle hs hn]; exact idle
    | some i =>
      cases ht : takeLine (camAt d i).jobs with
      | none =>
        have hop : pipeServe d j = d := by simp only [pipeServe, hs, hn, ht]
        rw [hop]; exact idle
      | some t =>
        obtain ⟨st, l, jobs⟩ := t
        rw [pipeServe_of_next hs hn ht]
        refine ⟨fun k => ?_, (keeps_setCam d i _ (by simp)).trans (keeps_setPipe _ j _ (by simp))⟩
        by_cases hk : i = k
        · subst hk
          exact ⟨by simp [modCam, takeLine_jobs ht], jobs, by simp [modCam]⟩
        · exact ⟨by simp [modCam, hk], (camAt d k).jobs, by simp [modCam, hk]⟩

theorem pipeNext_of_empty (h : ∀ k ∈ pipeInputs d j, camHeld (camAt d k) = 0) : pipeNext d j = none := by
  have none_waiting : (pipeInputs d j).filter (fun i => 0 < camHeld (camAt d i)) = [] :=
    List.filter_eq_nil_iff.mpr fun k hk => by simp [h k hk]
  unfold pipeNext
  rw [none_waiting]
  rfl

theorem camFinish_of_open {start : Nat} {x : CamJob} (hj : (camAt d i).jobs = [x]) (hs : x.start = start) (he : x.ended = false) :
    camFinish d i start = d := by
  simp only [camFinish, hj, List.find?_cons, hs, beq_self_eq_true, he]
  rfl

end

section
variable {d : Device} {j i start : Nat} {l : List Nat}

/-- A pipeline's line joins the processed lines of its frame. -/
def lineJoined (d : Device) (j i start : Nat) (l : List Nat) : Device :=
  modCam (setN (setPipe d j { service := none }) (0x5440 + j) 5 ((regN d (0x5440 + j) 5 + 1) % 2 ^ 31)) i fun u =>
    { u with jobs := u.jobs.map fun x => if x.start = start then { x with done := x.done ++ [l] } else x }

theorem lineDoneOp_of_service (hup : pixUp d (dieOfPipe j) = true) (hs : (pipeAt d j).service = some (i, start, l)) :
    lineDoneOp d j = pipeServe (camFinish (lineJoined d j i start l) i start) j := by
  simp only [lineDoneOp, hup, hs, Bool.not_true, Bool.false_eq_true, if_false]
  rfl

theorem lineDoneOp_of_idle (hup : pixUp d (dieOfPipe j) = true) (hs : (pipeAt d j).service = none) : lineDoneOp d j = pipeServe d j := by
  simp only [lineDoneOp, hup, hs, Bool.not_true, Bool.false_eq_true, if_false]

theorem lineJoined_reads (d : Device) (j i start : Nat) (l : List Nat) :
    (camAt (lineJoined d j i start l) i).jobs = (camAt d i).jobs.map (fun x => if x.start = start then { x with done := x.done ++ [l] } else x) ∧
    (∀ k, camHeld (camAt (lineJoined d j i start l) k) = camHeld (camAt d k)) ∧ (pipeAt (lineJoined d j i start l) j).service = none ∧
    regN (lineJoined d j i start l) (0x5440 + j) 5 = (regN d (0x5440 + j) 5 + 1) % 2 ^ 31 ∧
    Keeps [.cams, .pipes] (fun o r => o = 0x5440 + j ∧ r = 5) d (lineJoined d j i start l) := by
  refine ⟨by simp [lineJoined, modCam], fun k => ?_, by simp [lineJoined, modCam], by simp [lineJoined, modCam], ?_⟩
  · by_cases hk : i = k
    · subst hk
      simp only [lineJoined, modCam, camAt_setCam, if_true, camHeld, List.map_map]
      refine congrArg sumOf (List.map_congr_left fun x _ => ?_)
      simp only [Function.comp_apply]
      split <;> rfl
    · simp [lineJoined, modCam, hk]
  · exact ((keeps_setPipe d j _ (by simp)).trans (keeps_setN _ _ _ _ (by decide) ⟨rfl, rfl⟩)).trans (keeps_setCam _ i _ (by simp))

theorem mem_keys_of_tget {α : Type} {t : Table α} {k : Nat} {dflt : α} (h : tget t k dflt ≠ dflt) : k ∈ t.map (·.1) := by
  induction t with
  | nil => exact absurd rfl h
  | cons e r ih =>
    obtain ⟨m, a⟩ := e
    unfold tget at h
    split at h
    · next hm => simp [hm]
    · exact List.mem_cons_of_mem _ (ih h)

theorem mem_namedInputs_of_cams {e : Device} {v : CamUnit} {k : Nat} (hregs : e.regs.filterMap inputOfKey = d.regs.filterMap inputOfKey)
    (hcams : e.cams = tput d.cams i v) (hi : camAt d i ≠ CamUnit.reset) (hk : k ∈ namedInputs e) : k ∈ namedInputs d := by
  simp only [namedInputs_eq, hregs, hcams, List.mem_eraseDups, List.mem_append, List.mem_map] at hk ⊢
  refine hk.imp id fun ⟨⟨m, u⟩, hm, hmk⟩ => ?_
  obtain h | h := mem_tput d.cams i v _ hm
  · obtain ⟨rfl, -⟩ := Prod.mk.inj h
    have key := mem_keys_of_tget hi
    rw [List.mem_map] at key
    subst hmk
    exact key
  · exact ⟨(m, u), h, hmk⟩

/-- The joining of a line brings no input into being. -/
theorem mem_pipeInputs_lineJoined (hj : j < 12) (hi : (camAt d i).jobs ≠ []) {k : Nat}
    (hk : k ∈ pipeInputs (lineJoined d j i start l) j) : k ∈ pipeInputs d j := by
  have reset : camAt d i ≠ CamUnit.reset := fun h => hi (by rw [h]; rfl)
  have cfg (r : Nat) (hr : r < 256) : camCfg (lineJoined d j i start l) k r = camCfg d k r :=
    (lineJoined_reads d j i start l).2.2.2.2.regN hr (by omega)
  simp only [pipeInputs, List.mem_filter, camOn, cfg 1 (by decide), cfg 6 (by decide)] at hk ⊢
  refine ⟨?_, hk.2⟩
  exact mem_namedInputs_of_cams (inputOfKey_storePut d.regs _ (by omega) (by decide)) rfl reset hk.1

/-- A finished line joins its frame, and the pipeline takes the next. -/
theorem lineDone_reads {x : CamJob} (hj : j < 12) (hup : pixUp d (dieOfPipe j) = true) (hs : (pipeAt d j).service = some (i, start, l))
    (hx : (camAt d i).jobs = [x]) (hstart : x.start = start) (hend : x.ended = false) (e : Device) (he : e = lineDoneOp d j) :
    (camAt e i).jobs.map (·.done) = [x.done ++ [l]] ∧ regN e (0x5440 + j) 5 = (regN d (0x5440 + j) 5 + 1) % 2 ^ 31 ∧
    ((∀ k ∈ pipeInputs d j, camHeld (camAt d k) = 0) → (pipeAt e j).service = none) ∧
    Keeps [.cams, .pipes] (fun o r => o = 0x5440 + j ∧ r = 5) d e := by
  obtain ⟨jobs, held, free, count, kept⟩ := lineJoined_reads d j i start l
  have inputs {k : Nat} := mem_pipeInputs_lineJoined (d := d) (i := i) (start := start) (l := l) (k := k) hj (by simp [hx])
  rw [hx, List.map_cons, List.map_nil, if_pos hstart] at jobs
  rw [lineDoneOp_of_service hup hs, camFinish_of_open jobs hstart hend] at he
  generalize lineJoined d j i start l = g at *
  obtain ⟨cams, served⟩ := pipeServe_reads g j
  rw [← he] at cams served
  refine ⟨?_, ?_, fun h => ?_, kept.trans (served.mono (by simp) fun _ _ h => h.elim)⟩
  · rw [(cams i).1, jobs]; rfl
  · rw [served.regN (by decide) id, count]
  · rw [he, pipeServe_of_idle free (pipeNext_of_empty fun k hk => by rw [held]; exact h k (inputs hk)), free]

end

/-- Settles O19: the line joins its frame, then the next waiting line is taken. -/
theorem pipelineFinishesALineAndTakesTheNext : Obligations.PipelineFinishesALineAndTakesTheNext := by
  unfold Obligations.PipelineFinishesALineAndTakesTheNext
  refine ⟨?finished, ?idle⟩
  case finished =>
    intro dt st d j i start l x hd hup hs hx hstart hend
    refine does_of_act (f := fun d => lineDoneOp d j) rfl hd ?_
    obtain ⟨done, count, free, kept⟩ := lineDone_reads j.isLt hup hs hx hstart hend _ rfl
    exact ⟨done, (regN_settle _ _ _ (by decide)).trans count, free, keeps_settle_iff.mpr kept⟩
  case idle =>
    intro dt st d j i x l ls hd hup hs hn hx hl
    refine does_of_act (f := fun d => lineDoneOp d j) rfl hd ?_
    rw [lineDoneOp_of_idle hup hs, pipeServe_of_next hs hn (st := x.start) (l := l) (jobs := [{ x with lines := ls }])
      (by rw [hx]; simp only [takeLine, hl])]
    refine ⟨by simp, by simp, fun k hk => by simp [hk.symm], keeps_settle_iff.mpr ?_⟩
    exact (keeps_setCam d i _ (by simp)).trans (keeps_setPipe _ j _ (by simp))

/-! ### A misplaced input (R120 to R122)

Nothing keeps the number of an input of `Device.cams` below 128, so the object of an input can be the status of a source. The
publication of its first stream then moves the input to another port, and the second stream finds the memory of a die that the
package does not have exhausted: its event is counted in a register that the frame of the statement leaves out. -/

/-- An open frame of the input whose object is the status of source 0; its streams name sources 0 and 1. -/
def misplacedInput : Device := { Device.reset with
  pix := [(0, { PixelDie.reset with out := true })]
  regs := [(regKey 0x5000 3, .num 0), (regKey 0x5001 3, .num (2 ^ 30)), (regKey 0x5001 5, .num 16), (regKey 0x5001 6, .num 16),
    (regKey 0x5400 1, .num 1), (regKey 0x15200 1, .num 1), (regKey 0x15200 2, .num 0), (regKey 0x15200 0x20, .num 0),
    (regKey 0x15200 0x25, .num 1), (regKey 0x15200 0x28, .num 1), (regKey 0x15200 0x2D, .num 1)]
  force := [(regKey 0x5000 2, .num 1), (regKey 0x5001 2, .num 1)]
  cams := [(0xFD80, { CamUnit.reset with opened := true, jobs := [⟨0, 0, [], [], [], false, 0, false⟩] })] }

theorem camAtVc_misplacedInput : portLive misplacedInput 0 = true ∧ camAtVc misplacedInput 0 0 = some 0xFD80 ∧
    camCfg misplacedInput 0xFD80 8 = 0 := by decide +kernel

/-- The end of its frame counts an event of a die that is not there. -/
theorem regN_csiFrameEndOp_misplacedInput : regN (csiFrameEndOp misplacedInput 0 0 false) (0x2602 + 2 ^ 30) 9 = 1 ∧
    regN misplacedInput (0x2602 + 2 ^ 30) 9 = 0 := by decide +kernel

/-- Refutes O17: the end of `misplacedInput`'s frame writes a register outside the frame of the third clause. -/
theorem not_csiFramesOpenFillAndComplete : ¬ Obligations.CsiFramesOpenFillAndComplete := by
  unfold Obligations.CsiFramesOpenFillAndComplete
  rintro ⟨-, -, frameEnd⟩
  obtain ⟨live, vc, lines⟩ := camAtVc_misplacedInput
  obtain ⟨after, before⟩ := regN_csiFrameEndOp_misplacedInput
  obtain ⟨-, -, -, -, kept⟩ := of_does_at (f := (csiFrameEndOp · 0 0 false)) rfl
    (frameEnd 0 { pending := [], dev := misplacedInput } misplacedInput 0 0 false 0xFD80 (camAt misplacedInput 0xFD80)
      (elapse_zero _).symm rfl live vc rfl (by rw [lines]; exact Nat.zero_le _))
  have same := (keeps_settle_iff.mp kept).regN (i := 0x2602 + 2 ^ 30) (s := 9) (by decide) (by
    rintro (h | h | h | ⟨s, hs, h⟩)
    · simp only [eventReg] at h; omega
    · omega
    · exact absurd h.1 (by decide)
    · simp only [srcLive] at h; omega)
  rw [after, before] at same
  exact absurd same (by decide)

end Sys2Proof
end

section
/-! PROOFS. Statements whose frame a concrete device breaks: the close of a commit window, and accesses by the TAP. -/

namespace Sys2Proof

open Machine Safety

/-! ### Descriptors of a migrating interface (R209, R237)

The close lets an interface's migration go on, and with its surfaces the descriptors of the queues move to another interface.
The frame of the close has no queues. -/

/-- Die 1 at the instant of a close, with interface 0 migrating and a unit of ingress queue 0 whose descriptor lies on it. -/
def migratingDie : Device := { Device.reset with
  pix := [(0, { PixelDie.reset with out := true, tb1 := { TimeCopy.reset with loaded := true } }),
    (1, { PixelDie.reset with out := true, closes := 2, ticks := 2, tb1 := { TimeCopy.reset with ns := 16666000, loaded := true } })]
  ifs := [(ifKey 1 0, { MemIfUnit.reset with state := 4 }), (ifKey 1 1, { MemIfUnit.reset with state := 3 })]
  queues := [(1, { QueueUnit.reset with descs := [(0, [0])], flight := [(0, [(0, [])])] })] }

theorem closeDue_migratingDie : (pixAt migratingDie 1).tb1.loaded = true ∧
    aimTick migratingDie (pixAt migratingDie 1) ≤ (pixAt migratingDie 1).tb1.ns + regN migratingDie 0x2110 4 * 1000 ∧
    firstTicking migratingDie ≠ some 1 := by decide +kernel

theorem descs_closeOp_migratingDie : (queueAt (closeOp migratingDie 1) 1).descs = [(0, [1])] := by decide +kernel

/-- Refutes O24: the close of `migratingDie` moves a descriptor, and its frame keeps every queue. -/
theorem not_closeAndTickLatchVerdicts : ¬ Obligations.CloseAndTickLatchVerdicts := by
  unfold Obligations.CloseAndTickLatchVerdicts
  rintro ⟨-, close, -⟩
  obtain ⟨loaded, due, first⟩ := closeDue_migratingDie
  have kept := of_does_at (f := (closeOp · 1)) rfl
    (close 0 { pending := [], dev := migratingDie } migratingDie 1 (elapse_zero _).symm rfl loaded rfl due first)
  have same := (keeps_settle_iff.mp kept).queueAt (by decide) 1
  have moved := descs_closeOp_migratingDie
  rw [same] at moved
  exact absurd moved (by decide)

/-! ### A TAP access to a die that the package does not have (R341, R469)

The address of an access selects its die by bits that the statement leaves unbounded, and the denied access is counted in that
die's registers. -/

/-- A ninth die is out of reset, and the debug port is open. -/
def absentDie : Device := { Device.reset with
  pins := { Device.reset.pins with pwrgood := true, resetn := true }
  pix := [(6, { PixelDie.reset with out := true })]
  sup := { Sup.reset with dbg := { DebugUnit.reset with opened := true } } }

theorem ruleDecide_absentDie : ruleDecide (ruleCopyAt absentDie 8) 2 (8 * 2 ^ 44) 1 false = (false, none) := by decide +kernel

theorem regN_tapOp_absentDie : regN (tapOp absentDie (.access (8 * 2 ^ 44) 1 none)) 0x2608 9 = 1 ∧ regN absentDie 0x2608 9 = 0 := by
  decide +kernel

/-- Refutes O39: the denied access to `absentDie` writes a register outside the frame of the fourth clause. -/
theorem not_debugPortAndTapObeyTheRules : ¬ Obligations.DebugPortAndTapObeyTheRules := by
  unfold Obligations.DebugPortAndTapObeyTheRules
  rintro ⟨-, -, -, read, -⟩
  obtain ⟨-, -, kept⟩ := of_does_at (f := (tapOp · (.access (8 * 2 ^ 44) 1 none))) rfl
    (read 0 { pending := [], dev := absentDie } absentDie (8 * 2 ^ 44) 1 8 false none (elapse_zero _).symm rfl rfl (by decide) rfl rfl
      (by decide) ruleDecide_absentDie)
  have same := (keeps_settle_iff.mp kept).regN (i := 0x2608) (s := 9) (by decide) (by
    rintro (h | ⟨h, -⟩)
    · simp only [eventReg] at h; omega
    · omega)
  obtain ⟨after, before⟩ := regN_tapOp_absentDie
  rw [after, before] at same
  exact absurd same (by decide)

/-! ### A write that is logged, from CAN (R357)

A USDO write that is logged is answered once its record is programmed; the statement has it answered at once. -/

/-- Control die 0 is active by four tokens, both CAN ports are error active and OPERATIONAL, and Ethernet port 0 has an address. -/
def activeDie : Device := setN { Device.reset with
  ctls := [(0, { CtlDie.reset with out := true, role := 3 })]
  pix := (List.range 4).map fun p => (p, { PixelDie.reset with out := true, state := 1, token := 2 })
  can := { CanUnit.reset with nmt := 3, errs := [4, 4] } } 0x2020 5 1

/-- A write of the attestation nonce from CAN node 1. -/
def loggedWrite : Device × Nat := writeOp activeDie (.can 0 1) 0x2500 1 (.num 0)

theorem served_activeDie : served activeDie (.can 0 1) = true := by decide +kernel

/-- The answer of the refused and logged write is held. -/
theorem held_usdoDownloadOp_activeDie :
    (usdoDownloadOp activeDie 0 1 0x2500 1 (.num 0)).can.held.isEmpty = false ∧
    loggedWrite.1.can.held.isEmpty = true := by
  decide +kernel

/-- Refutes O50: the answer of a logged write from CAN is held, and the frame of the fifth clause keeps what is held. -/
theorem not_writesAreHeldAndSessionsClose : ¬ Obligations.WritesAreHeldAndSessionsClose := by
  unfold Obligations.WritesAreHeldAndSessionsClose
  rintro ⟨-, -, -, -, write, -⟩
  obtain ⟨-, kept⟩ := of_does_at (f := (usdoDownloadOp · 0 1 0x2500 1 (.num 0))) rfl
    (write 0 { pending := [], dev := activeDie } activeDie loggedWrite.1 0 1 0x2500 1 loggedWrite.2 (.num 0)
      (elapse_zero _).symm served_activeDie rfl)
  have same := (keeps_settle_iff.mp kept).can_eq (by decide)
  obtain ⟨after, before⟩ := held_usdoDownloadOp_activeDie
  rw [same, before] at after
  exact absurd after (by decide)

/-! ### A request while the standby is compared (R377)

A request is mirrored to the die that is compared; the statement's frames leave out the control dies. -/

/-- `activeDie` with session 0 open, and control die 1 compared as it shadows. -/
def comparedDie : Device := { activeDie with
  ctls := [(0, { CtlDie.reset with out := true, role := 3 }), (1, { CtlDie.reset with out := true, role := 5 })]
  sup := { Sup.reset with sessions := [(0, { Session.reset with state := 3, roles := 31 })] }
  cmp := { CompareUnit.reset with kind := 1, based := true } }

theorem newRequest_comparedDie : NewRequest comparedDie 0 0 1 :=
  ⟨by decide +kernel, ⟨by decide +kernel, by decide +kernel, by decide +kernel, by decide +kernel⟩, by decide +kernel, by decide⟩

def keepaliveOp (d : Device) : Device := dxpRequest d 0 default 0 1 7 0 0 0 fun d => (d, okReply [])

theorem mirrored_keepaliveOp_comparedDie :
    (ctlAt (keepaliveOp comparedDie) 1).mirrored.isEmpty = false ∧ (ctlAt comparedDie 1).mirrored.isEmpty = true := by
  decide +kernel

/-- Refutes O49: a keepalive of `comparedDie` is mirrored to control die 1, and its frame keeps the control dies. -/
theorem not_requestsAreExecutedAndAnswered : ¬ Obligations.RequestsAreExecutedAndAnswered := by
  unfold Obligations.RequestsAreExecutedAndAnswered
  rintro ⟨-, -, -, -, -, -, -, keepalive, -⟩
  obtain ⟨-, -, -, kept⟩ := of_does_at (f := keepaliveOp) rfl
    (keepalive 0 { pending := [], dev := comparedDie } comparedDie 0 default 0 1 (elapse_zero _).symm newRequest_comparedDie)
  have same := (keeps_settle_iff.mp kept).ctlAt (by decide) 1
  obtain ⟨after, before⟩ := mirrored_keepaliveOp_comparedDie
  rw [same, before] at after
  exact absurd after (by decide)

end Sys2Proof
end

section
/-! PROOFS. Requests while the standby is compared: what a request decides is mirrored to the die that is compared (R377), and the
frames of the statements about requests leave out the control dies. -/

namespace Sys2Proof
open Machine Safety

/-- Session 0 of `comparedDie`, which holds every role. -/
def opened : Requester := .session 0

/-- Whether a request of session 0 passes its checks, and is mirrored to control die 1. -/
def Mirrored (idx sub : Nat) (v : Val) : Prop :=
  writeCheck (touchSession comparedDie opened) opened noSigner idx sub v = 1 ∧
  (ctlAt (request comparedDie opened idx sub v) 1).mirrored.isEmpty = false

theorem served_comparedDie : served comparedDie opened = true := by decide +kernel

theorem Mirrored.allowed {idx sub : Nat} {v : Val} (h : Mirrored idx sub v) : Allowed comparedDie opened idx sub v :=
  ⟨served_comparedDie, h.1⟩

/-- No frame that keeps the control dies holds of a device to whose die 1 something was mirrored. -/
theorem not_keeps_of_mirrored {e : Device} {qs : List Part} {ts : Nat → Nat → Prop} (h : (ctlAt e 1).mirrored.isEmpty = false)
    (hq : .ctls ∉ qs) : ¬ Keeps qs ts comparedDie (settle e) := by
  intro kept
  rw [(keeps_settle_iff.mp kept).ctlAt hq 1] at h
  exact absurd h (by decide)

theorem mirrored_commitsCaptureWhatIsStaged : Mirrored 0x4900 9 (.num 1) := by unfold Mirrored; decide +kernel

/-- Refutes O52: the lock of guard plane 0 is mirrored to control die 1. -/
theorem not_commitsCaptureWhatIsStaged : ¬ Obligations.CommitsCaptureWhatIsStaged := by
  unfold Obligations.CommitsCaptureWhatIsStaged
  rintro ⟨-, -, -, lock, -⟩
  have h := mirrored_commitsCaptureWhatIsStaged
  obtain ⟨-, -, kept⟩ := of_does_at (f := (request · opened 0x4900 9 (.num 1))) rfl
    (lock 0 { pending := [], dev := comparedDie } comparedDie opened 0 (elapse_zero _).symm h.allowed)
  exact not_keeps_of_mirrored h.2 (by decide) kept

theorem mirrored_scenesLaunchAndCancel : Mirrored 0x4A00 4 (.num 3) := by unfold Mirrored; decide +kernel

/-- Refutes O53: the cancelling of scene 0 is mirrored to control die 1. -/
theorem not_scenesLaunchAndCancel : ¬ Obligations.ScenesLaunchAndCancel := by
  unfold Obligations.ScenesLaunchAndCancel
  rintro ⟨-, -, cancel⟩
  have h := mirrored_scenesLaunchAndCancel
  obtain ⟨-, -, -, -, kept⟩ := of_does_at (f := (request · opened 0x4A00 4 (.num 3))) rfl
    (cancel 0 { pending := [], dev := comparedDie } comparedDie opened 0 (elapse_zero _).symm h.allowed)
  exact not_keeps_of_mirrored h.2 (by decide) kept

theorem mirrored_inputsStartAndStop : Mirrored 0x5480 0x1C (.num 1) := by unfold Mirrored; decide +kernel

/-- Refutes O54: the commit of camera input 0 is mirrored to control die 1. -/
theorem not_inputsStartAndStop : ¬ Obligations.InputsStartAndStop := by
  unfold Obligations.InputsStartAndStop
  rintro ⟨-, -, -, -, -, -, commit, -⟩
  have h := mirrored_inputsStartAndStop
  obtain ⟨-, -, -, kept⟩ := of_does_at (f := (request · opened 0x5480 0x1C (.num 1))) rfl
    (commit 0 { pending := [], dev := comparedDie } comparedDie opened 0 (elapse_zero _).symm h.allowed)
  exact not_keeps_of_mirrored h.2 (by decide) kept

theorem mirrored_sessionsClaimCloseAndAcknowledge : Mirrored 0x2030 7 (.num 1) := by unfold Mirrored; decide +kernel

/-- Refutes O57: the claim of layer 1 is mirrored to control die 1. -/
theorem not_sessionsClaimCloseAndAcknowledge : ¬ Obligations.SessionsClaimCloseAndAcknowledge := by
  unfold Obligations.SessionsClaimCloseAndAcknowledge
  rintro ⟨claim, -⟩
  have h := mirrored_sessionsClaimCloseAndAcknowledge
  obtain ⟨-, -, kept⟩ := of_does_at (f := (request · opened 0x2030 7 (.num 1))) rfl
    (claim 0 { pending := [], dev := comparedDie } comparedDie opened 0 1 (elapse_zero _).symm h.allowed)
  exact not_keeps_of_mirrored h.2 (by decide) kept

theorem mirrored_redundancyCommandsRun : Mirrored 0x2300 0x0C (.num 2) := by unfold Mirrored; decide +kernel

/-- Refutes O59: the command for a handover is mirrored to control die 1. -/
theorem not_redundancyCommandsRun : ¬ Obligations.RedundancyCommandsRun := by
  unfold Obligations.RedundancyCommandsRun
  rintro ⟨-, handover, -⟩
  have h := mirrored_redundancyCommandsRun
  obtain ⟨-, -, -, kept⟩ := of_does_at (f := (request · opened 0x2300 0x0C (.num 2))) rfl
    (handover 0 { pending := [], dev := comparedDie } comparedDie opened (elapse_zero _).symm h.allowed)
  exact not_keeps_of_mirrored h.2 (by decide) kept

theorem mirrored_imageCommandsRun : Mirrored (mcObj 0) 6 (.num 2) := by unfold Mirrored; decide +kernel

/-- Refutes O60: the cancelling of a swap on pixel die 0 is mirrored to control die 1. -/
theorem not_imageCommandsRun : ¬ Obligations.ImageCommandsRun := by
  unfold Obligations.ImageCommandsRun
  rintro ⟨-, -, -, -, -, -, -, -, cancel, -⟩
  have h := mirrored_imageCommandsRun
  obtain ⟨-, -, -, kept⟩ := of_does_at (f := (request · opened (mcObj 0) 6 (.num 2))) rfl
    (cancel 0 { pending := [], dev := comparedDie } comparedDie opened 0 (elapse_zero _).symm h.allowed)
  exact not_keeps_of_mirrored h.2 (by decide) kept

theorem mirrored_refusedRequest : writeCheck (touchSession comparedDie opened) opened noSigner 0 0 (.num 1) = 2 ∧
    (ctlAt (request comparedDie opened 0 0 (.num 1)) 1).mirrored.isEmpty = false := by
  decide +kernel

/-- Refutes O56: the refusal of a write to an object that does not exist is mirrored to control die 1. -/
theorem not_writesStoreOrAreRefused : ¬ Obligations.WritesStoreOrAreRefused := by
  unfold Obligations.WritesStoreOrAreRefused
  rintro ⟨-, refused, -⟩
  obtain ⟨code, h⟩ := mirrored_refusedRequest
  obtain ⟨-, -, kept⟩ := of_does_at (f := (request · opened 0 0 (.num 1))) rfl
    (refused 0 { pending := [], dev := comparedDie } comparedDie 0 0 0 2 (.num 1) (elapse_zero _).symm served_comparedDie code (by decide))
  exact not_keeps_of_mirrored h (by decide) kept

end Sys2Proof
end

section
/-! PROOFS. The CAN side and timed telegrams (R288, R307 to R314, R326, R335, R437). -/

namespace Sys2Proof
open Machine Safety

/-! ### A session whose port is down (R326)

An EVENT message leaves by the port of its session, and nothing leaves by a port whose control die is in reset. -/

/-- Control die 1 is active by four tokens, control die 0 is in reset, and session 0, of a port of die 0, has an event to send. -/
def portDown : Device := { Device.reset with
  ctls := [(1, { CtlDie.reset with out := true, role := 3 })]
  pix := (List.range 4).map fun p => (p, { PixelDie.reset with out := true, state := 1, token := 3 })
  sup := { Sup.reset with sessions := [(0, { Session.reset with state := 3, events := [default] })] } }

theorem portDown_facts : sessOpen portDown 0 = true ∧ (activeCtl portDown).isSome = true ∧ (sessAt portDown 0).events ≠ [] ∧
    (sessAt portDown 0).counter + 1 < 0xFFFFFFF0 := by
  decide +kernel

theorem tx_eventSendOp_portDown : (eventSendOp portDown 0).tx = [] := by decide +kernel

/-- Refutes O47: nothing is sent on the port that is down. -/
theorem not_pdosTelegramsAndEventsAreSent : ¬ Obligations.PdosTelegramsAndEventsAreSent := by
  unfold Obligations.PdosTelegramsAndEventsAreSent
  rintro ⟨-, -, -, event⟩
  obtain ⟨isOpen, active, waits, room⟩ := portDown_facts
  obtain ⟨-, -, sent, -⟩ := of_does_at (f := (eventSendOp · 0)) rfl
    (event 0 { pending := [], dev := portDown } portDown 0 _ _ (elapse_zero _).symm rfl isOpen active waits room rfl)
  rw [show (settle (eventSendOp portDown 0)).tx = [] from tx_eventSendOp_portDown] at sent
  exact List.append_ne_nil_of_right_ne_nil _ (List.cons_ne_nil _ _) sent.symm

/-! ### NMT, heartbeat, EMCY and error states (R307 to R309, R314, R437) -/

/-- The tokens of both control dies together are at most six. -/
theorem tokensOf_disjoint (d : Device) : (tokensOf d 0).length + (tokensOf d 1).length ≤ 6 := by
  have apart : (tokensOf d 1).length ≤ ((List.range 6).filter fun p => !(pixUp d p && (pixAt d p).token == 0 + 2)).length := by
    rw [← List.countP_eq_length_filter, tokensOf, ← List.countP_eq_length_filter]
    refine List.countP_mono_left fun p _ h => ?_
    simp only [Bool.and_eq_true, beq_iff_eq] at h
    simp [h]
  calc (tokensOf d 0).length + (tokensOf d 1).length
    _ ≤ (tokensOf d 0).length + ((List.range 6).filter fun p => !(pixUp d p && (pixAt d p).token == 0 + 2)).length :=
      Nat.add_le_add_left apart _
    _ = (List.range 6).length := by
      rw [tokensOf, ← List.countP_eq_length_filter, ← List.countP_eq_length_filter, List.length_eq_countP_add_countP (fun p =>
        pixUp d p && (pixAt d p).token == 0 + 2) (l := List.range 6)]
      exact congrArg _ (List.countP_congr fun p _ => by simp)

theorem four_le_tokensOf {d : Device} {c : Nat} (h : isActive d c = true) : 4 ≤ (tokensOf d c).length := by
  simp only [isActive, Bool.and_eq_true, decide_eq_true_eq] at h
  exact h.2

/-- At most one control die is active. -/
theorem activeCtl_of_isActive {d : Device} {c : Nat} (hc : c < 2) (h : isActive d c = true) : activeCtl d = some c := by
  rcases eq_of_lt_two hc with rfl | rfl
  · simp [activeCtl, h]
  · have other : isActive d 0 = false := by
      refine Classical.byContradiction fun ha => ?_
      have := four_le_tokensOf (Bool.not_eq_false _ ▸ ha)
      have := four_le_tokensOf h
      have := tokensOf_disjoint d
      omega
    simp [activeCtl, h, other]

theorem nmtHeard_of_deaf {d : Device} {f : CanPort} {node : Nat}
    (h : canLive d f = false ∨ (activeCtl d ≠ some f.val ∧ peerPath d = false) ∨ (node ≠ 0 ∧ node ≠ d.can.nodes.getD f 0)) :
    nmtHeard d f node = false := by
  simp only [nmtHeard, canServed]
  obtain dead | ⟨other, noPath⟩ | ⟨all, own⟩ := h
  · simp [dead]
  · have : isActive d f = false := by
      refine Classical.byContradiction fun ha => ?_
      exact other (activeCtl_of_isActive f.isLt (by simpa using ha))
    simp [this, noPath]
  · have hall : (node == 0) = false := by simpa using all
    have hown : (node == d.can.nodes.getD f 0) = false := by simpa using own
    rw [hall, hown, Bool.or_false, Bool.and_false]

theorem nmtResetOp_of_heard {d : Device} {f node : Nat} (h : nmtHeard d f node = true) :
    nmtResetOp d f node = { d with can := { d.can with
      nmt := 3, nodes := [regN d 0x2010 1, regN d 0x2010 2], rates := (regN d 0x2010 3, regN d 0x2010 4),
      sentAt := [], sent := [], latched := [] } } := by
  rw [nmtResetOp, if_pos h, nmtSet, canReload]

theorem canHeartbeatOp_of_due {d : Device} {f : Nat} (live : canLive d f = true)
    (due : d.can.beatAt.getD f 0 + regN d 0x1017 0 * 1000000 ≤ d.mono) :
    canHeartbeatOp d f = { d with
      can := { d.can with beatAt := d.can.beatAt.set f d.mono }
      tx := d.tx ++ [Msg.mk (4 + f) 5 (0x700 + d.can.nodes.getD f 0) (beBytes 1 (nmtByte d.can.nmt))] } := by
  have live' : canLive { d with can := { d.can with beatAt := d.can.beatAt.set f d.mono } } f = true := live
  rw [canHeartbeatOp, if_pos ⟨live, due⟩, sendCanOn, if_pos live', send, if_neg (by omega)]

theorem keeps_can_tx {ps : List Part} {rs : Nat → Nat → Prop} (d : Device) (c : CanUnit) (l : List Msg) (hc : Part.can ∈ ps)
    (ht : Part.tx ∈ ps) : Keeps ps rs d { d with can := c, tx := l } :=
  (keeps_can d c hc).trans (keeps_tx { d with can := c } l ht)

theorem canErrorOp_of_up {d : Device} {f : Nat} (st : CanErr) (h : ctlUp d f = true) :
    canErrorOp d f st = if st = .busOff ∧ d.can.errs.getD f 0 ≠ 1 then
      bump { d with can := { d.can with errs := d.can.errs.set f (canErrCode st) } } 0x2010 8
    else { d with can := { d.can with errs := d.can.errs.set f (canErrCode st) } } := by
  simp only [canErrorOp, h, Bool.not_true, Bool.false_eq_true, if_false]

theorem canErrorOp_reads {d : Device} {f : Nat} (st : CanErr) (h : ctlUp d f = true) :
    (canErrorOp d f st).can = { d.can with errs := d.can.errs.set f (canErrCode st) } ∧
    (st = .busOff → d.can.errs.getD f 0 ≠ 1 → Counted d (canErrorOp d f st) 0x2010 8 1) ∧
    ((st ≠ .busOff ∨ d.can.errs.getD f 0 = 1) → regN (canErrorOp d f st) 0x2010 8 = regN d 0x2010 8) ∧
    Keeps [.can] (fun x i => x = 0x2010 ∧ i = 8) d (canErrorOp d f st) := by
  have set_ := keeps_can (ps := [.can]) (rs := fun x i => x = 0x2010 ∧ i = 8) d
    { d.can with errs := d.can.errs.set f (canErrCode st) } (by simp)
  rw [canErrorOp_of_up st h]
  split
  · next counts =>
    refine ⟨rfl, fun _ _ => counted_bump { d with can := _ } 0x2010 (by decide), fun no => ?_, set_.trans (keeps_bump _ _ (by decide) ⟨rfl, rfl⟩)⟩
    exact no.elim (fun off => absurd counts.1 off) (fun shown => absurd shown counts.2)
  · next counts => exact ⟨rfl, fun a b => absurd ⟨a, b⟩ counts, fun _ => rfl, set_⟩

theorem emcyInhibitEndOp_of_owed {d : Device} {r : EventRec} (h : d.can.waiting = some r) (on : emcyOn d = true)
    (free : emcyInhibited d = false) : emcyInhibitEndOp d = emcySend d r := by
  simp [emcyInhibitEndOp, h, on, free]

theorem can_emcySend (d : Device) (r : EventRec) :
    (emcySend d r).can = { d.can with emcyAt := some d.mono, waiting := none } := by
  have sent := keeps_sendCan (ps := [.tx]) (rs := noReg) d (regN d 0x1014 0 % 2048) (emcyBody d r) (by simp)
  simp only [emcySend, sent.can_eq (by simp), sent.mono_eq (by simp)]

theorem keeps_emcySend (d : Device) (r : EventRec) : Keeps [.can, .tx] noReg d (emcySend d r) :=
  (keeps_sendCan d (regN d 0x1014 0 % 2048) (emcyBody d r) (by simp)).trans (keeps_can _ _ (by simp))

/-- Settles O46: each clause is the equation of its command. -/
theorem canNodesObeyNmt : Obligations.CanNodesObeyNmt := by
  refine ⟨?nmt, ?deaf, ?reset, ?beat, ?emcy, ?error⟩
  case nmt =>
    intro dt s d f node hd heard
    refine ⟨does_of_act (f := (nmtStartOp · f node)) rfl hd ?_, does_of_act (f := (nmtPreOpOp · f node)) rfl hd ?_,
      does_of_act (f := (nmtStopOp · f node)) rfl hd ?_⟩
    · rw [nmtStartOp, if_pos heard]
      exact ⟨rfl, keeps_settled (keeps_can d _ (by simp))⟩
    · rw [nmtPreOpOp, if_pos heard]
      exact ⟨rfl, keeps_settled (keeps_can d _ (by simp))⟩
    · rw [nmtStopOp, if_pos heard]
      exact ⟨rfl, keeps_settled (keeps_can d _ (by simp))⟩
  case deaf =>
    intro dt s d f node i hd deaf mem
    have unheard := nmtHeard_of_deaf deaf
    have idle : ∀ g : Device → Device, g d = d → Keeps [] noReg d (settle (g d)) := fun g h => by
      rw [h]
      exact keeps_settled keeps_self
    simp only [List.mem_cons, List.not_mem_nil, or_false] at mem
    obtain rfl | rfl | rfl | rfl | rfl := mem
    · exact does_of_act (f := (nmtStartOp · f node)) rfl hd (idle _ (by simp [unheard]))
    · exact does_of_act (f := (nmtPreOpOp · f node)) rfl hd (idle _ (by simp [unheard]))
    · exact does_of_act (f := (nmtStopOp · f node)) rfl hd (idle _ (by simp [unheard]))
    · exact does_of_act (f := (nmtResetOp · f node)) rfl hd (idle _ (by simp [unheard]))
    · exact does_of_act (f := (nmtResetOp · f node)) rfl hd (idle _ (by simp [unheard]))
  case reset =>
    intro dt s d f node c hd heard hc
    have same : (settle (nmtResetOp d f node)).can = c ∧ Keeps [.can] noReg d (settle (nmtResetOp d f node)) := by
      rw [nmtResetOp_of_heard heard]
      exact ⟨hc.symm, keeps_settled (keeps_can d _ (by simp))⟩
    exact ⟨does_of_act (f := (nmtResetOp · f node)) rfl hd same, does_of_act (f := (nmtResetOp · f node)) rfl hd same⟩
  case beat =>
    intro dt s d f hd live due
    refine does_of_act (f := (canHeartbeatOp · f)) rfl hd ?_
    rw [canHeartbeatOp_of_due live due]
    exact ⟨rfl, rfl, keeps_settled (keeps_can_tx d _ _ (by simp) (by simp))⟩
  case emcy =>
    intro dt s d r hd owed on free
    refine does_of_act (f := emcyInhibitEndOp) rfl hd ?_
    rw [emcyInhibitEndOp_of_owed owed on free]
    exact ⟨can_emcySend d r, rfl, keeps_settled (keeps_emcySend d r)⟩
  case error =>
    intro dt s d f st hd up
    refine does_of_act (f := (canErrorOp · f st)) rfl hd ?_
    obtain ⟨can, counts, stays, kept⟩ := canErrorOp_reads st up
    exact ⟨can, fun a b => (regN_settle _ _ _ (by decide)).trans (counts a b), fun h => (regN_settle _ _ _ (by decide)).trans (stays h),
      keeps_settled kept⟩

end Sys2Proof
end

section
/-! PROOFS. Images of firmware and microcode (R349, R386 to R389): what the QSPI NOR of a control die holds after a change, and the
commands that stage, prove and fail an image. -/

namespace Sys2Proof
open Machine Safety

/-! ### What the NOR holds -/

/-- A flash that has been programmed, its bundle the factory's where none is stored. -/
def bundled (f : Flash) : Flash := if f.bundle = [] then { f with bundle := Config.factoryBundle } else f

theorem slotA_norOf (d : Device) (c : Nat) : (norOf d c).slotA ≠ 0 := by
  simp only [norOf]
  split <;> split <;> simp_all

theorem norOf_congr {d e : Device} {c : Nat} (h : ctlAt e c = ctlAt d c) : norOf e c = norOf d c := by
  rw [norOf, norOf, h]

theorem norOf_setCtl {d : Device} {c : Nat} {x : CtlDie} (h : x.flash.slotA ≠ 0) : norOf (setCtl d c x) c = bundled x.flash := by
  simp [norOf, bundled, h]

theorem setNor_eq (d : Device) (c : Nat) (f : Flash) : setNor d c f = setCtl d c { ctlAt d c with flash := f } := rfl

theorem norOf_setNor {d : Device} {c : Nat} {f : Flash} (h : f.slotA ≠ 0) : norOf (setNor d c f) c = bundled f := norOf_setCtl h

@[simp] theorem slotSt_bundled (f : Flash) (i : Nat) : slotSt (bundled f) i = slotSt f i := by
  rw [bundled]
  split <;> rfl
@[simp] theorem slotImg_bundled (f : Flash) (i : Nat) : slotImg (bundled f) i = slotImg f i := by
  rw [bundled]
  split <;> rfl
@[simp] theorem micro_bundled (f : Flash) : (bundled f).micro = f.micro := by
  rw [bundled]
  split <;> rfl
@[simp] theorem log_bundled (f : Flash) : (bundled f).log = f.log := by
  rw [bundled]
  split <;> rfl
@[simp] theorem used_bundled (f : Flash) : (bundled f).used = f.used := by
  rw [bundled]
  split <;> rfl

/-! ### A staged image reaches both dies (R386) -/

/-- The flash with an image staged in a slot. -/
def withStaged (f : Flash) (i : Nat) (img : List Byte) : Flash := putSlotSt (putSlotImg f i img) i 2

theorem slotA_withStaged {f : Flash} (h : f.slotA ≠ 0) (i : Nat) (img : List Byte) : (withStaged f i img).slotA ≠ 0 := by
  by_cases hi : i = 0 <;> simp [withStaged, putSlotSt, putSlotImg, hi, h]

theorem withStaged_reads (f : Flash) {i : Nat} (hi : i < 2) (img : List Byte) :
    slotSt (withStaged f i img) i = 2 ∧ slotImg (withStaged f i img) i = img ∧
    slotSt (withStaged f i img) (1 - i) = slotSt f (1 - i) ∧ slotImg (withStaged f i img) (1 - i) = slotImg f (1 - i) := by
  rcases eq_of_lt_two hi with rfl | rfl <;> exact ⟨rfl, rfl, rfl, rfl⟩

theorem freeSlot_lt (d : Device) (c : Nat) : freeSlot d c < 2 := by
  rw [freeSlot]
  split <;> omega

/-- Control die c as staging leaves it. -/
def stagedCtl (d : Device) (c : Nat) : CtlDie :=
  { ctlAt d c with flash := withStaged (norOf d c) (freeSlot d c) d.sup.fwImage }

theorem norOf_of_stagedCtl {d e : Device} {c : Nat} (h : ctlAt e c = stagedCtl d c) :
    norOf e c = bundled (withStaged (norOf d c) (freeSlot d c) d.sup.fwImage) := by
  have same : ctlAt e c = ctlAt (setNor d c (withStaged (norOf d c) (freeSlot d c) d.sup.fwImage)) c := by
    rw [h, setNor_eq, ctlAt_setCtl, if_pos rfl, stagedCtl]
  rw [norOf_congr same, norOf_setNor (slotA_withStaged (slotA_norOf d c) _ _)]

/-- One round of staging. -/
def stageRound (img : List Byte) (d : Device) (c : Nat) : Device :=
  modNor d c fun f => putSlotSt (putSlotImg f (freeSlot d c) img) (freeSlot d c) 2

theorem fwStagingDoneOp_of_active {d : Device} {a : Nat} (h : d.sup.fwState = 2) (ha : activeCtl d = some a) :
    fwStagingDoneOp d = setFwUpdate (forEach d [0, 1] (stageRound d.sup.fwImage)) 3 1 := by
  simp [fwStagingDoneOp, h, ha, stageRound]

theorem ctlAt_stageRound (img : List Byte) (d : Device) (c j : Nat) : ctlAt (stageRound img d c) j =
    if c = j then { ctlAt d c with flash := withStaged (norOf d c) (freeSlot d c) img } else ctlAt d j :=
  ctlAt_setCtl _ _ _ _

theorem keeps_stageRound (img : List Byte) (d : Device) (c : Nat) : Keeps [.ctls] noReg d (stageRound img d c) :=
  keeps_setCtl _ _ _ (by simp)

theorem ctlAt_staging (d : Device) {c : Nat} (hc : c < 2) :
    ctlAt (forEach d [0, 1] (stageRound d.sup.fwImage)) c = stagedCtl d c := by
  simp only [forEach_cons, forEach_nil, ctlAt_stageRound]
  rcases eq_of_lt_two hc with rfl | rfl
  · simp [stagedCtl]
  · have same : ctlAt (stageRound d.sup.fwImage d 0) 1 = ctlAt d 1 := by rw [ctlAt_stageRound, if_neg (by omega)]
    simp [stagedCtl, freeSlot, norOf_congr same, same]

theorem keeps_staging (d : Device) : Keeps [.ctls] noReg d (forEach d [0, 1] (stageRound d.sup.fwImage)) :=
  keeps_forEach _ _ (fun x c _ => keeps_stageRound _ x c) d

theorem keeps_setFwUpdate {ps : List Part} {rs : Nat → Nat → Prop} (d : Device) (st result : Nat) (h : Part.sup ∈ ps)
    (hr : rs 0x2520 9) : Keeps ps rs d (setFwUpdate d st result) :=
  (keeps_sup d _ h).trans (keeps_setN _ _ _ _ (by decide) hr)

theorem regN_setFwUpdate (d : Device) (st result : Nat) : regN (setFwUpdate d st result) 0x2520 9 = result := by
  simp [setFwUpdate]

/-! ### Microcode on probation (R388, R389) -/

/-- Both banks as the end of probation leaves them. -/
def proven (u : McUnit) : McUnit := { mcSetState (mcSetState u u.running 3) (1 - u.running) 5 with probation := 0 }

theorem proven_reads (u : McUnit) : mcState (proven u) u.running = 3 ∧ mcState (proven u) (1 - u.running) = 5 ∧
    (proven u).probation = 0 ∧ (proven u).running = u.running := by
  by_cases h : u.running = 0
  · simp [proven, mcState, mcSetState, h]
  · by_cases h1 : 1 - u.running = 0
    · simp [proven, mcState, mcSetState, h, h1]
    · omega

theorem probationEndOp_of_proven {d : Device} {p : Nat} (h : (mcAt d p).probation = 1) (hf : (mcAt d p).fault = false) :
    probationEndOp d p = setMc (mcStore d p (mcRunning (mcAt d p))) p (proven (mcAt d p)) := by
  simp [probationEndOp, h, hf, proven]

/-- The flash with a microcode image under a key. -/
def withMicro (f : Flash) (key : Nat) (b : List Byte) : Flash := { f with micro := tput f.micro key b }

theorem ctlAt_mcStore (d : Device) (key : Nat) (b : List Byte) {c : Nat} (hc : c < 2) :
    ctlAt (mcStore d key b) c = { ctlAt d c with flash := withMicro (norOf d c) key b } := by
  simp only [mcStore, forEach_cons, forEach_nil, modNor, setNor_eq]
  rcases eq_of_lt_two hc with rfl | rfl
  · simp [withMicro]
  · have same : ctlAt (setCtl d 0 { ctlAt d 0 with flash := withMicro (norOf d 0) key b }) 1 = ctlAt d 1 := by simp
    rw [withMicro] at same
    simp [norOf_congr same, withMicro]

theorem keeps_mcStore {ps : List Part} {rs : Nat → Nat → Prop} (d : Device) (key : Nat) (b : List Byte) (h : Part.ctls ∈ ps) :
    Keeps ps rs d (mcStore d key b) :=
  keeps_forEach _ _ (fun _ _ _ => keeps_setCtl _ _ _ h) d

theorem tfind_micro_mcStore (d : Device) (key : Nat) (b : List Byte) {c : Nat} (hc : c < 2) :
    tfind (norOf (mcStore d key b) c).micro key = some b := by
  have same : ctlAt (mcStore d key b) c = ctlAt (setNor d c (withMicro (norOf d c) key b)) c := by
    rw [ctlAt_mcStore d key b hc, setNor_eq, ctlAt_setCtl, if_pos rfl]
  have programmed : (withMicro (norOf d c) key b).slotA ≠ 0 := slotA_norOf d c
  rw [norOf_congr same, norOf_setNor programmed, micro_bundled, withMicro, tfind_tput, if_pos rfl]

/-- The unit of pixel die p with its microcode found at fault. -/
def faultNoted (d : Device) (p : Nat) : Device :=
  raise (setMc d p { mcAt d p with fault := decide (0 < (mcAt d p).probation) }) (p + 2) 95 (mcObj p)

theorem mcFailOp_of_up {d : Device} {p : Nat} (h : pixUp d p = true) :
    mcFailOp d p = if 0 < (mcAt (faultNoted d p) p).probation then faultNoted d p
      else handled (faultNoted d p) (p + 2) [95] (mcObj p) := by
  rw [mcFailOp, if_pos h]
  rfl

theorem recorded_handled {d e : Device} {k code unit j : Nat} {codes : List Nat} {v : Nat} (h : Recorded d e k code unit) :
    Recorded d (handled e j codes v) k code unit := by
  rw [Recorded, handled, modRing_eq, ringAt_setRing]
  split
  · next hj =>
    subst hj
    exact h
  · exact h

theorem keeps_handled {ps : List Part} {rs : Nat → Nat → Prop} (d : Device) (k : Nat) (codes : List Nat) (unit : Nat)
    (h : Part.rings ∈ ps) : Keeps ps rs d (handled d k codes unit) := keeps_setRing _ _ _ h

theorem faultNoted_reads (d : Device) (p : Die) :
    mcAt (faultNoted d p) p = { mcAt d p with fault := decide (0 < (mcAt d p).probation) } ∧
    Recorded d (faultNoted d p) (p + 2) 95 (mcObj p) ∧ (∀ q, q ≠ p.val → mcAt (faultNoted d p) q = mcAt d q) ∧
    Keeps (.mcs :: eventParts) eventReg d (faultNoted d p) := by
  have raised := keeps_raise (ps := eventParts) (rs := eventReg)
    (setMc d p { mcAt d p with fault := decide (0 < (mcAt d p).probation) }) (p + 2) 95 (mcObj p) (by omega) (fun _ h => h)
    fun _ _ h => h
  have ring : ringAt (setMc d p { mcAt d p with fault := decide (0 < (mcAt d p).probation) }) (p + 2) = ringAt d (p + 2) :=
    ringAt_congr d _ rfl _
  have recorded := recorded_raise_of (code := 95) ring (mcObj p) (by decide)
  refine ⟨?_, recorded, fun q hq => ?_, ?_⟩
  · rw [faultNoted, raised.mcAt (by decide), mcAt_setMc, if_pos rfl]
  · rw [faultNoted, raised.mcAt (by decide), mcAt_setMc, if_neg hq.symm]
  · exact (keeps_setMc d p _ (by decide)).trans (raised.mono (by decide) fun _ _ h => h)

theorem mcFailOp_reads {d : Device} {p : Die} (h : pixUp d p = true) :
    mcAt (mcFailOp d p) p = { mcAt d p with fault := decide (0 < (mcAt d p).probation) } ∧
    Recorded d (mcFailOp d p) (p + 2) 95 (mcObj p) ∧ (∀ q, q ≠ p.val → mcAt (mcFailOp d p) q = mcAt d q) ∧
    Keeps (.mcs :: eventParts) eventReg d (mcFailOp d p) := by
  obtain ⟨fault, recorded, others, kept⟩ := faultNoted_reads d p
  rw [mcFailOp_of_up h]
  split
  · exact ⟨fault, recorded, others, kept⟩
  · have cleared := keeps_handled (ps := [.rings]) (rs := noReg) (faultNoted d p) (p + 2) [95] (mcObj p) (by simp)
    refine ⟨(cleared.mcAt (by simp) _).trans fault, recorded_handled recorded, fun q hq => ?_, ?_⟩
    · exact (cleared.mcAt (by simp) q).trans (others q hq)
    · exact kept.trans (cleared.mono (by decide) fun _ _ h => h.elim)

/-- Settles O40. -/
theorem imagesAreStagedAndProven : Obligations.ImagesAreStagedAndProven := by
  refine ⟨?staged, ?raised, ?proved, ?failed⟩
  case staged =>
    intro dt s d a hd state active
    refine does_of_act (f := fwStagingDoneOp) rfl hd ?_
    have kept := keeps_staging d
    rw [fwStagingDoneOp_of_active state active]
    refine ⟨?_, (regN_settle _ _ _ (by decide)).trans (regN_setFwUpdate _ _ _), fun c hc => ?_, ?_⟩
    · rw [← kept.sup_eq (by simp)]
      rfl
    · have ctl : ctlAt (settle (setFwUpdate (forEach d [0, 1] (stageRound d.sup.fwImage)) 3 1)) c = stagedCtl d c :=
        ctlAt_staging d hc
      obtain ⟨st, img, otherSt, otherImg⟩ := withStaged_reads (norOf d c) (freeSlot_lt d c) d.sup.fwImage
      simp only [norOf_of_stagedCtl ctl, slotSt_bundled, slotImg_bundled]
      exact ⟨st, img, otherSt, otherImg, by rw [roleOf, ctl]; rfl⟩
    · exact keeps_settled ((kept.mono (by simp) fun _ _ h => h.elim).trans (keeps_setFwUpdate _ _ _ (by simp) ⟨rfl, rfl⟩))
  case raised =>
    intro dt s d a v hd active hv slot long calm
    refine does_of_act (f := fwSecurityRaiseOp) rfl hd ?_
    subst hv
    by_cases older : fwSecurity d < Config.imageSecurityVersion (runningImage d a)
    · have op : fwSecurityRaiseOp d =
          { d with pins := { d.pins with secVer := Config.imageSecurityVersion (runningImage d a) } } := by
        simp only [fwSecurityRaiseOp, active, older, slot, long, calm, Bool.not_false, and_self, if_true]
      rw [op, if_pos older]
      refine ⟨rfl, ?_, keeps_settled (keeps_pins d _ (by simp))⟩
      rw [fwSecurity] at older
      show max Config.otpSecurityVersion (Config.imageSecurityVersion (runningImage d a)) = max (fwSecurity d) _
      rw [fwSecurity]
      omega
    · have op : fwSecurityRaiseOp d = d := by simp only [fwSecurityRaiseOp, active, older, false_and, if_false]
      rw [op, if_neg older]
      refine ⟨rfl, ?_, keeps_settled keeps_self⟩
      show fwSecurity d = _
      omega
  case proved =>
    intro dt s d p u hd hu probation sound
    subst hu
    refine does_of_act (f := (probationEndOp · p)) rfl hd ?_
    rw [probationEndOp_of_proven probation sound]
    have unit : mcAt (settle (setMc (mcStore d p (mcRunning (mcAt d p))) p (proven (mcAt d p)))) p = proven (mcAt d p) := by
      rw [mcAt_settle, mcAt_setMc, if_pos rfl]
    obtain ⟨running, idle, done, same⟩ := proven_reads (mcAt d p)
    have stored := keeps_mcStore (ps := [.ctls]) (rs := noReg) d p (mcRunning (mcAt d p)) (by simp)
    rw [unit]
    refine ⟨running, idle, done, same, fun c hc => tfind_micro_mcStore d p _ hc, fun q hq => ?_, ?_⟩
    · rw [mcAt_settle, mcAt_setMc, if_neg hq.symm, stored.mcAt (by simp)]
    · exact keeps_settled ((stored.mono (by simp) fun _ _ h => h).trans (keeps_setMc _ _ _ (by simp)))
  case failed =>
    intro dt s d p hd up
    refine does_of_act (f := (mcFailOp · p)) rfl hd ?_
    obtain ⟨fault, recorded, others, kept⟩ := mcFailOp_reads up
    exact ⟨fault, recorded_settle.mpr recorded, others, keeps_settled kept⟩

end Sys2Proof
end

section
/-! PROOFS. Heartbeats between the control dies (R365, R366, R462): how the two paths of a die are judged, what arrives, what stays
away, and what HBTEST does. -/

namespace Sys2Proof
open Machine Safety

/-! ### An event of one die -/

/-- An event leaves the rings of the other dies alone. -/
theorem ringAt_raiseFull_of_ne (d : Device) {k j : Nat} (h : j ≠ k) (code sev unit count : Nat) (detail : List Nat) (src : Option Nat) :
    ringAt (raiseFull d k code sev unit count detail src) j = ringAt d j := by
  have lostCount : ∀ (b : Bool) (x : Device) i s n, (bif b then bumpBy x i s n else x).rings = x.rings := fun b x i s n => by
    cases b <;> simp
  simp only [ringAt, raiseFull, emcyCheck_rings, emcyRecord_rings, deliverEvent_rings, bump_eq, ← Bool.cond_eq_ite, lostCount,
    bumpBy_fields, setRing_rings, tget_tput, if_neg h.symm]

theorem ringAt_raise_of_ne (d : Device) {k j : Nat} (h : j ≠ k) (code unit : Nat) : ringAt (raise d k code unit) j = ringAt d j :=
  ringAt_raiseFull_of_ne d h code _ unit 1 [] none

theorem recorded_of_keeps {ps : List Part} {rs : Nat → Nat → Prop} {x e : Device} {j code unit : Nat} {d : Device} (h : Keeps ps rs d x)
    (hp : Part.rings ∉ ps) (hn : Recorded x e j code unit) : Recorded d e j code unit := by
  rwa [Recorded, h.ringAt hp] at hn

/-- `y` is `x` but for control die c, its ring, and what its events bring. -/
structure OnlyDie (x y : Device) (c : Nat) : Prop where
  ctls  : ∀ j, j ≠ c → ctlAt y j = ctlAt x j
  rings : ∀ j, j ≠ c → ringAt y j = ringAt x j
  kept  : Keeps (.ctls :: eventParts) eventReg x y

theorem OnlyDie.refl (x : Device) (c : Nat) : OnlyDie x x c := ⟨fun _ _ => rfl, fun _ _ => rfl, keeps_self⟩

theorem OnlyDie.trans {x y z : Device} {c : Nat} (h : OnlyDie x y c) (g : OnlyDie y z c) : OnlyDie x z c :=
  ⟨fun j hj => (g.ctls j hj).trans (h.ctls j hj), fun j hj => (g.rings j hj).trans (h.rings j hj), h.kept.trans g.kept⟩

theorem onlyDie_setCtl (x : Device) (c : Nat) (v : CtlDie) : OnlyDie x (setCtl x c v) c :=
  ⟨fun j hj => by rw [ctlAt_setCtl, if_neg hj.symm], fun _ _ => rfl, keeps_setCtl _ _ _ (by simp)⟩

theorem onlyDie_raise (x : Device) {c : Nat} (hc : c < 2) (code unit : Nat) : OnlyDie x (raise x c code unit) c := by
  have raised := keeps_raise (ps := eventParts) (rs := eventReg) x c code unit (by omega) (fun _ h => h) fun _ _ h => h
  exact ⟨fun j _ => raised.ctlAt (by decide) j, fun j hj => ringAt_raise_of_ne x hj code unit, raised.mono (by decide) fun _ _ h => h⟩

theorem ctlAt_raise (x : Device) {c : Nat} (hc : c < 2) (code unit j : Nat) : ctlAt (raise x c code unit) j = ctlAt x j :=
  (keeps_raise (ps := eventParts) (rs := eventReg) x c code unit (by omega) (fun _ h => h) fun _ _ h => h).ctlAt (by decide) j

/-! ### One path is judged (R366) -/

/-- Whether a path counts as down: it is silent, and was down or the other path is alive. -/
def nowDown (now alive was : Bool) : Bool := now && (was || alive)

/-- One path of die c is judged; `x b` is the die with the path down or up. -/
def judged (d : Device) (c : Nat) (now silent was : Bool) (x : Bool → CtlDie) : Device :=
  if now ∧ !silent ∧ !was then raise (setCtl d c (x true)) c 64 0x2300
  else if !now ∧ was then raise (setCtl d c (x false)) c 65 0x2300 else d

/-- What judging a path brings: the path's mark, and an event where it changes. -/
structure PathJudged (d e : Device) (c : Nat) (was is_ : Bool) : Prop where
  only : OnlyDie d e c
  same : is_ = was → ringAt e c = ringAt d c
  down : was = false → is_ = true → Recorded d e c 64 0x2300
  up   : was = true → is_ = false → Noted d e c 65 0x2300

theorem judged_reads (d : Device) {c : Nat} (hc : c < 2) (now silent was : Bool) (x : Bool → CtlDie) (hx : x was = ctlAt d c) :
    ctlAt (judged d c now silent was x) c = x (nowDown now (!silent) was) ∧
    PathJudged d (judged d c now silent was x) c was (nowDown now (!silent) was) := by
  have raised : ∀ b code, ctlAt (raise (setCtl d c (x b)) c code 0x2300) c = x b := fun b code => by
    rw [ctlAt_raise _ hc, ctlAt_setCtl, if_pos rfl]
  have only : ∀ b code, OnlyDie d (raise (setCtl d c (x b)) c code 0x2300) c := fun b code =>
    (onlyDie_setCtl d c _).trans (onlyDie_raise _ hc _ _)
  have ring : ∀ b, ringAt (setCtl d c (x b)) c = ringAt d c := fun b => ringAt_congr _ _ rfl _
  rw [judged]
  split
  · next h =>
    obtain ⟨rfl, hs, hw⟩ := h
    simp only [Bool.not_eq_true'] at hs hw
    subst hs hw
    exact ⟨raised true 64, only true 64, fun h => Bool.noConfusion h, fun _ _ => recorded_raise_of (code := 64) (ring true) _ (by decide),
      fun h => Bool.noConfusion h⟩
  · split
    · next h =>
      obtain ⟨hn, rfl⟩ := h
      simp only [Bool.not_eq_true'] at hn
      subst hn
      exact ⟨raised false 65, only false 65, fun h => Bool.noConfusion h, fun h => Bool.noConfusion h,
        fun _ _ => noted_raise_of (ring false) rfl _ _⟩
    · next h1 h2 =>
      have stays : nowDown now (!silent) was = was := by
        cases now <;> cases silent <;> cases was <;> simp_all [nowDown]
      rw [stays]
      exact ⟨hx.symm, OnlyDie.refl d c, fun _ => rfl, fun a b => absurd (a.symm.trans b) (by decide),
        fun a b => absurd (a.symm.trans b) (by decide)⟩

/-- Both paths of die c, which was `v`, are judged, SADDLE first. -/
structure PathsJudged (d e : Device) (c : Nat) (v : CtlDie) (downS downW : Bool) : Prop where
  ctl  : ctlAt e c = { v with downS := downS, downW := downW }
  same : downS = v.downS → downW = v.downW → ringAt e c = ringAt d c
  lostS : v.downS = false → downS = true → downW = v.downW → Recorded d e c 64 0x2300
  backS : v.downS = true → downS = false → downW = v.downW → Noted d e c 65 0x2300
  lostW : downS = v.downS → v.downW = false → downW = true → Recorded d e c 64 0x2300
  backW : downS = v.downS → v.downW = true → downW = false → Noted d e c 65 0x2300

/-- Only die c's mark, its ring and its setting of notes matter. -/
theorem PathsJudged.congr {d e d' e' : Device} {c : Nat} {v : CtlDie} {a b : Bool} (h : PathsJudged d e c v a b)
    (ring : ringAt d' c = ringAt d c) (notes : regT d' (0x2600 + c) 8 = regT d (0x2600 + c) 8) (ctl' : ctlAt e' c = ctlAt e c)
    (ring' : ringAt e' c = ringAt e c) : PathsJudged d' e' c v a b := by
  obtain ⟨ctl, same, lostS, backS, lostW, backW⟩ := h
  simp only [Recorded, Noted, ← ring, ← ring', ← notes] at same lostS backS lostW backW
  exact ⟨ctl'.trans ctl, same, lostS, backS, lostW, backW⟩

theorem pathJudge_eq (d : Device) (c : Nat) : ∃ x,
    x = judged d c (ctlAt d c).silentS (wireSilent d c) (ctlAt d c).downS (fun b => { ctlAt d c with downS := b }) ∧
    pathJudge d c = judged x c (wireSilent d c) (ctlAt d c).silentS (ctlAt x c).downW (fun b => { ctlAt x c with downW := b }) :=
  ⟨_, rfl, rfl⟩

theorem pathJudge_reads (d : Device) {c : Nat} (hc : c < 2) :
    OnlyDie d (pathJudge d c) c ∧
    PathsJudged d (pathJudge d c) c (ctlAt d c) (nowDown (ctlAt d c).silentS (!wireSilent d c) (ctlAt d c).downS)
      (nowDown (wireSilent d c) (!(ctlAt d c).silentS) (ctlAt d c).downW) := by
  obtain ⟨x, hx, hj⟩ := pathJudge_eq d c
  obtain ⟨ctlS, first⟩ := judged_reads d hc (ctlAt d c).silentS (wireSilent d c) (ctlAt d c).downS
    (fun b => { ctlAt d c with downS := b }) rfl
  rw [← hx] at ctlS first
  obtain ⟨ctlW, second⟩ := judged_reads x hc (wireSilent d c) (ctlAt d c).silentS (ctlAt x c).downW
    (fun b => { ctlAt x c with downW := b }) rfl
  rw [← hj] at ctlW second
  have wasW : (ctlAt x c).downW = (ctlAt d c).downW := by rw [ctlS]
  rw [wasW] at ctlW second
  have regs : regT x (0x2600 + c) 8 = regT d (0x2600 + c) 8 := first.only.kept.regT (by decide) (by simp [eventReg])
  refine ⟨first.only.trans second.only, by rw [ctlW, ctlS], fun hs hw => (second.same hw).trans (first.same hs), fun was is_ hw => ?_,
    fun was is_ hw => ?_, fun hs was is_ => ?_, fun hs was is_ => ?_⟩
  · exact recorded_of_ring (first.down was is_) (second.same hw)
  · have noted := first.up was is_
    rwa [Noted, ← second.same hw] at noted
  · have recorded := second.down was is_
    rwa [Recorded, first.same hs] at recorded
  · have noted := second.up was is_
    rwa [Noted, first.same hs, regs] at noted

/-- Die c is judged as `v`. -/
theorem pathJudge_setCtl (d : Device) {c : Nat} (hc : c < 2) (v : CtlDie) :
    OnlyDie d (pathJudge (setCtl d c v) c) c ∧
    PathsJudged d (pathJudge (setCtl d c v) c) c v (nowDown v.silentS (!(v.silentW || d.pins.hbtest)) v.downS)
      (nowDown (v.silentW || d.pins.hbtest) (!v.silentS) v.downW) := by
  obtain ⟨only, h⟩ := pathJudge_reads (setCtl d c v) hc
  have own : ctlAt (setCtl d c v) c = v := by rw [ctlAt_setCtl, if_pos rfl]
  have wire : wireSilent (setCtl d c v) c = (v.silentW || d.pins.hbtest) := by rw [wireSilent, own]; rfl
  rw [own, wire] at h
  exact ⟨(onlyDie_setCtl d c v).trans only, h.congr rfl rfl rfl rfl⟩

/-- What arrives on a path ends what was lost. -/
def heardAgain (v : CtlDie) : CtlDie := { v with lost := false, minority := none }

theorem pathBack_setCtl (d : Device) {c : Nat} (hc : c < 2) (v : CtlDie) :
    OnlyDie d (pathBack (setCtl d c v) c) c ∧
    PathsJudged d (pathBack (setCtl d c v) c) c (heardAgain v) (nowDown v.silentS (!(v.silentW || d.pins.hbtest)) v.downS)
      (nowDown (v.silentW || d.pins.hbtest) (!v.silentS) v.downW) := by
  have again : pathBack (setCtl d c v) c = pathJudge (setCtl (setCtl d c v) c (heardAgain v)) c := by
    rw [pathBack, modCtl_eq, ctlAt_setCtl, if_pos rfl]
    rfl
  obtain ⟨only, h⟩ := pathJudge_setCtl (setCtl d c v) hc (heardAgain v)
  rw [again]
  exact ⟨(onlyDie_setCtl d c v).trans only, h.congr rfl rfl rfl rfl⟩

/-- Both control dies in turn, where each round is about its own die: either die is as its own round leaves it. -/
theorem bothDies {f : Device → Nat → Device} (only : ∀ x c, c < 2 → OnlyDie x (f x c) c) (d : Device) {c : Nat} (hc : c < 2) :
    ∃ x, ctlAt x c = ctlAt d c ∧ ringAt x c = ringAt d c ∧ Keeps (.ctls :: eventParts) eventReg d x ∧
      ctlAt (forEach d [0, 1] f) c = ctlAt (f x c) c ∧ ringAt (forEach d [0, 1] f) c = ringAt (f x c) c := by
  rcases eq_of_lt_two hc with rfl | rfl
  · exact ⟨d, rfl, rfl, keeps_self, (only (f d 0) 1 (by omega)).ctls 0 (by omega), (only (f d 0) 1 (by omega)).rings 0 (by omega)⟩
  · exact ⟨f d 0, (only d 0 (by omega)).ctls 1 (by omega), (only d 0 (by omega)).rings 1 (by omega), (only d 0 (by omega)).kept,
      rfl, rfl⟩

theorem keeps_bothDies {f : Device → Nat → Device} (only : ∀ x c, c < 2 → OnlyDie x (f x c) c) (d : Device) :
    Keeps (.ctls :: eventParts) eventReg d (forEach d [0, 1] f) :=
  keeps_forEach _ _ (fun x c hc => (only x c (by simp at hc; omega)).kept) d

/-! ### What arrives and what stays away (R366, R462) -/

theorem nowDown_false (alive was : Bool) : nowDown false alive was = false := rfl
theorem nowDown_alive (now was : Bool) : nowDown now true was = now := by simp [nowDown]
theorem nowDown_true (alive was : Bool) : nowDown true alive was = (was || alive) := by simp [nowDown]
theorem nowDown_other_silent (now was : Bool) : nowDown now false was = (was && now) := by simp [nowDown, Bool.and_comm]

/-- Die c after a heartbeat over SADDLE. -/
def saddleHeard (d : Device) (c : Nat) : CtlDie := { ctlAt d c with
  heardS := d.mono, silentS := false,
  gotBeat := some (otherCtl c + 1, (ctlAt d (otherCtl c)).beat,
    if isActive d (otherCtl c) = true then (ctlAt d (otherCtl c)).beatSeq else (ctlAt d (otherCtl c)).beatState) }

theorem heartbeatArrivalOp_saddle {d : Device} {c : Nat} {p : Die} (h : ctlUp d c = true) (hp : pixUp d p = true)
    (hs : (pixAt d p).state = 1) : heartbeatArrivalOp d c (.saddle p) = pathBack (setCtl d c (saddleHeard d c)) c := by
  simp only [heartbeatArrivalOp, h, hp, hs, Bool.not_true, Bool.false_eq_true, if_false, and_self, if_true]
  rfl

/-- Die c after a heartbeat over WIRE. -/
def wireHeard (d : Device) (c : Nat) : CtlDie := { ctlAt d c with heardW := d.mono, silentW := false }

theorem heartbeatArrivalOp_wire {d : Device} {c : Nat} (h : ctlUp d c = true) (hw : d.pins.hbtest = false) :
    heartbeatArrivalOp d c .wire = pathBack (setCtl d c (wireHeard d c)) c := by
  simp only [heartbeatArrivalOp, h, hw, Bool.not_true, Bool.false_eq_true, if_false]
  rfl

theorem pathSilentOp_saddle {d : Device} {c : Nat} {p : Die} (h : ctlUp d c = true) (hs : (ctlAt d c).silentS = false)
    (ht : (ctlAt d c).heardS + 3000000 ≤ d.mono) :
    pathSilentOp d c (.saddle p) = pathJudge (setCtl d c { ctlAt d c with silentS := true }) c := by
  simp [pathSilentOp, h, hs, Nat.not_lt.mpr ht]

theorem pathSilentOp_wire {d : Device} {c : Nat} (h : ctlUp d c = true) (hs : (ctlAt d c).silentW = false)
    (ht : (ctlAt d c).heardW + 3000000 ≤ d.mono) :
    pathSilentOp d c .wire = pathJudge (setCtl d c { ctlAt d c with silentW := true }) c := by
  simp [pathSilentOp, h, hs, Nat.not_lt.mpr ht]

/-! ### HBTEST (R462) -/

/-- One die at the rise of HBTEST. -/
def highRound (x : Device) (c : Nat) : Device := if ctlUp x c then pathJudge x c else x

theorem hbtestHighOp_of_low {d : Device} (h : d.pins.hbtest = false) (hp : d.pins.pwrgood = true) :
    hbtestHighOp d = forEach { d with pins := { d.pins with hbtest := true } } [0, 1] highRound := by
  simp only [hbtestHighOp, h, hp, Bool.not_true, Bool.false_eq_true, or_self, if_false]
  rfl

theorem onlyDie_highRound (x : Device) (c : Nat) (hc : c < 2) : OnlyDie x (highRound x c) c := by
  rw [highRound]
  split
  · exact (pathJudge_reads x hc).1
  · exact OnlyDie.refl x c

/-- One die at the fall of HBTEST. -/
def lowRound (x : Device) (c : Nat) : Device := if ctlUp x c then pathBack (setCtl x c (wireHeard x c)) c else x

theorem hbtestLowOp_of_high {d : Device} (h : d.pins.hbtest = true) :
    hbtestLowOp d = forEach { d with pins := { d.pins with hbtest := false } } [0, 1] lowRound := by
  simp only [hbtestLowOp, h, Bool.not_true, Bool.false_eq_true, if_false]
  rfl

theorem onlyDie_lowRound (x : Device) (c : Nat) (hc : c < 2) : OnlyDie x (lowRound x c) c := by
  rw [lowRound]
  split
  · exact (pathBack_setCtl x hc _).1
  · exact OnlyDie.refl x c

theorem highRound_of_up {d x : Device} {c : Nat} (hc : c < 2) (hw : x.pins.hbtest = true) (up : ctlUp x c = true)
    (ctl : ctlAt x c = ctlAt d c) (ring : ringAt x c = ringAt d c) (notes : regT x (0x2600 + c) 8 = regT d (0x2600 + c) 8) :
    PathsJudged d (highRound x c) c (ctlAt d c) ((ctlAt d c).downS && (ctlAt d c).silentS)
      ((ctlAt d c).downW || !(ctlAt d c).silentS) := by
  have h := (pathJudge_reads x hc).2
  rw [wireSilent, hw, Bool.or_true, Bool.not_true, nowDown_other_silent, nowDown_true, ctl] at h
  rw [highRound, if_pos up]
  exact h.congr ring.symm notes.symm rfl rfl

theorem lowRound_of_up {d x : Device} {c : Nat} (hc : c < 2) (hw : x.pins.hbtest = false) (up : ctlUp x c = true) (mono : x.mono = d.mono)
    (ctl : ctlAt x c = ctlAt d c) (ring : ringAt x c = ringAt d c) (notes : regT x (0x2600 + c) 8 = regT d (0x2600 + c) 8) :
    PathsJudged d (lowRound x c) c (heardAgain (wireHeard d c)) (ctlAt d c).silentS false := by
  have h := (pathBack_setCtl x hc (wireHeard x c)).2
  have heard : wireHeard x c = wireHeard d c := by rw [wireHeard, wireHeard, ctl, mono]
  have alive : ((wireHeard d c).silentW || x.pins.hbtest) = false := by rw [hw]; rfl
  rw [heard, alive, Bool.not_false, nowDown_alive, nowDown_false] at h
  rw [lowRound, if_pos up, heard]
  exact h.congr ring.symm notes.symm rfl rfl

/-! ### Heartbeats leave (R365, R461) -/

/-- Whether die c sends. -/
def Sends (d : Device) (c : Nat) : Prop := ctlUp d c = true ∧ (isActive d c = true ∨ roleOf d c ∈ [4, 5, 6, 7, 8])


/-- Die c after its heartbeat or beacon. -/
def beaten (d : Device) (c : Nat) : CtlDie := { ctlAt d c with
  beat := ((ctlAt d c).beat + 1) % 2 ^ 32, beatState := (ctlAt d c).role,
  beatSeq := if isActive d c = true then regN d 0x2310 1 % 2 ^ 63 else (ctlAt d c).beatSeq }

/-- HBMON of die c turns. -/
def monTurned (d : Device) (c : Nat) : Device :=
  { d with pins := { d.pins with hbmon := d.pins.hbmon.set c !(d.pins.hbmon.getD c false) } }

/-- Pixel die p hears die c. -/
def hearsRound (c : Nat) (d : Device) (p : Nat) : Device :=
  if pixUp d p ∧ (pixAt d p).state = 1 then setPix d p { pixAt d p with heard := (pixAt d p).heard.set c d.mono } else d

/-- One die of HEARTBEAT_SEND. -/
def beatRound (d : Device) (c : Nat) : Device :=
  if ctlUp d c ∧ (isActive d c ∨ [4, 5, 6, 7, 8].contains (roleOf d c)) then
    forEach (setCtl (monTurned d c) c (beaten d c)) (List.range 6) (hearsRound c)
  else d

theorem heartbeatSendOp_eq (d : Device) : heartbeatSendOp d = forEach d [0, 1] beatRound := rfl

theorem keeps_hearsRound (c : Nat) (d : Device) (p : Nat) : Keeps [.pix] noReg d (hearsRound c d p) := by
  rw [hearsRound]
  split
  · exact keeps_setPix _ _ _ (by simp)
  · exact keeps_self

/-- What pixel die p keeps of hearing die c at a time. -/
def hears (c t : Nat) (q : PixelDie) : PixelDie := if q.out ∧ q.state = 1 then { q with heard := q.heard.set c t } else q

theorem pixAt_hearing (c : Nat) (d : Device) (p : Nat) :
    pixAt (forEach d (List.range 6) (hearsRound c)) p = if p < 6 then hears c d.mono (pixAt d p) else pixAt d p := by
  have h := forEach_read (fun x p => (pixAt x p, x.mono)) (hearsRound c) (fun _ q => (hears c q.2 q.1, q.2))
    (fun x k => by
      have mono := (keeps_hearsRound c x k).mono_eq (by simp)
      rw [mono, hearsRound, hears, pixUp]
      split <;> simp)
    (fun x k j hj => by
      have mono := (keeps_hearsRound c x k).mono_eq (by simp)
      rw [mono, hearsRound]
      split <;> simp [hj])
    (List.nodup_range (n := 6)) d p
  have fst := congrArg Prod.fst h
  rw [apply_ite Prod.fst] at fst
  simpa using fst

theorem beatRound_of_sends {d : Device} {c : Nat} (h : Sends d c) :
    beatRound d c = forEach (setCtl (monTurned d c) c (beaten d c)) (List.range 6) (hearsRound c) := by
  rw [beatRound, if_pos (by simpa [Sends] using h)]

theorem beatRound_of_quiet {d : Device} {c : Nat} (h : ¬ Sends d c) : beatRound d c = d := by
  rw [beatRound, if_neg (by simpa [Sends] using h)]

theorem keeps_beatRound (d : Device) (c : Nat) : Keeps [.ctls, .pins, .pix] noReg d (beatRound d c) := by
  by_cases h : Sends d c
  · rw [beatRound_of_sends h]
    exact ((keeps_pins d _ (by simp)).trans (keeps_setCtl (monTurned d c) c _ (by simp))).trans
      (keeps_forEach _ _ (fun x p _ => (keeps_hearsRound c x p).mono (by simp) fun _ _ h => h) _)
  · rw [beatRound_of_quiet h]
    exact keeps_self

theorem getD_set {α : Type} (l : List α) (i j : Nat) (v w : α) :
    (l.set i v).getD j w = if i = j ∧ j < l.length then v else l.getD j w := by
  by_cases h : i = j
  · subst h
    by_cases hl : i < l.length <;> simp [List.getD_eq_getElem?_getD, hl]
  · simp [List.getD_eq_getElem?_getD, h]

theorem hears_reads (c t : Nat) (q : PixelDie) :
    (hears c t q).out = q.out ∧ (hears c t q).state = q.state ∧ (hears c t q).token = q.token ∧
    (hears c t q).heard.length = q.heard.length ∧
    ∀ j, (hears c t q).heard.getD j 0 = if c = j ∧ j < q.heard.length ∧ q.out = true ∧ q.state = 1 then t else q.heard.getD j 0 := by
  rw [hears]
  split
  · next h => exact ⟨rfl, rfl, rfl, List.length_set .., fun j => by rw [getD_set]; simp only [h, and_self, and_true]⟩
  · next h =>
    refine ⟨rfl, rfl, rfl, rfl, fun j => (if_neg ?_).symm⟩
    rintro ⟨-, -, out, st⟩
    exact h ⟨out, st⟩

/-- The unit of a die, its level on HBMON and when it was heard, after a device's own round. -/
theorem beatRound_reads {d : Device} {c : Nat} (h : Sends d c) :
    ctlAt (beatRound d c) c = beaten d c ∧
    (beatRound d c).pins.hbmon = d.pins.hbmon.set c (!(d.pins.hbmon.getD c false)) ∧
    ∀ p, p < 6 → pixAt (beatRound d c) p = hears c d.mono (pixAt d p) := by
  have loop : Keeps [.pix] noReg (setCtl (monTurned d c) c (beaten d c))
      (forEach (setCtl (monTurned d c) c (beaten d c)) (List.range 6) (hearsRound c)) :=
    keeps_forEach _ _ (fun x p _ => keeps_hearsRound c x p) _
  rw [beatRound_of_sends h]
  refine ⟨by rw [loop.ctlAt (by simp), ctlAt_setCtl, if_pos rfl], by rw [loop.pins_eq (by simp)]; rfl, fun p hp => ?_⟩
  rw [pixAt_hearing, if_pos hp]
  rfl

/-- What a round of one die leaves as it was of what the round of die j reads. -/
structure BeatSame (x y : Device) (j : Nat) : Prop where
  ctl    : ctlAt y j = ctlAt x j
  hbmon  : y.pins.hbmon.getD j false = x.pins.hbmon.getD j false
  wires  : y.pins.hbmon.length = x.pins.hbmon.length
  out    : ∀ p, p < 6 → (pixAt y p).out = (pixAt x p).out
  state  : ∀ p, p < 6 → (pixAt y p).state = (pixAt x p).state
  token  : ∀ p, p < 6 → (pixAt y p).token = (pixAt x p).token
  heard  : ∀ p, p < 6 → (pixAt y p).heard.getD j 0 = (pixAt x p).heard.getD j 0
  length : ∀ p, p < 6 → (pixAt y p).heard.length = (pixAt x p).heard.length

theorem beatSame_refl (x : Device) (j : Nat) : BeatSame x x j :=
  ⟨rfl, rfl, rfl, fun _ _ => rfl, fun _ _ => rfl, fun _ _ => rfl, fun _ _ => rfl, fun _ _ => rfl⟩

theorem beatSame_beatRound (d : Device) {c j : Nat} (hj : j ≠ c) : BeatSame d (beatRound d c) j := by
  by_cases h : Sends d c
  · obtain ⟨-, hbmon, pix⟩ := beatRound_reads h
    have loop : Keeps [.pix] noReg (setCtl (monTurned d c) c (beaten d c))
        (forEach (setCtl (monTurned d c) c (beaten d c)) (List.range 6) (hearsRound c)) :=
      keeps_forEach _ _ (fun x p _ => keeps_hearsRound c x p) _
    refine ⟨?_, by rw [hbmon, getD_set, if_neg fun same => hj same.1.symm], by rw [hbmon, List.length_set], fun p hp => ?_, fun p hp => ?_, fun p hp => ?_,
      fun p hp => ?_, fun p hp => ?_⟩
    · rw [beatRound_of_sends h, loop.ctlAt (by simp), ctlAt_setCtl, if_neg hj.symm]
      rfl
    all_goals obtain ⟨out, state, token, length, heard⟩ := hears_reads c d.mono (pixAt d p)
    · rw [pix p hp, out]
    · rw [pix p hp, state]
    · rw [pix p hp, token]
    · rw [pix p hp, heard, if_neg fun same => hj same.1.symm]
    · rw [pix p hp, length]
  · rw [beatRound_of_quiet h]
    exact beatSame_refl d j

theorem BeatSame.isActive {x y : Device} {j : Nat} (h : BeatSame x y j) : isActive y j = isActive x j := by
  have tokens : tokensOf y j = tokensOf x j := by
    refine List.filter_congr fun p hp => ?_
    have hp := List.mem_range.mp hp
    rw [pixUp, pixUp, h.out p hp, h.token p hp]
  rw [Machine.isActive, Machine.isActive, tokens, ctlUp, ctlUp, h.ctl]

theorem BeatSame.sends {x y : Device} {j : Nat} (h : BeatSame x y j) : Sends y j ↔ Sends x j := by
  rw [Sends, Sends, h.isActive, ctlUp, ctlUp, roleOf, roleOf, h.ctl]

/-- What HEARTBEAT_SEND leaves of die c. -/
structure BeatDone (d e : Device) (c : Nat) : Prop where
  sent : Sends d c → ctlAt e c = beaten d c ∧ e.pins.hbmon.getD c false = !(d.pins.hbmon.getD c false) ∧
    ∀ p, p < 6 → (pixAt e p).heard.getD c 0 =
      if pixUp d p = true ∧ (pixAt d p).state = 1 then d.mono else (pixAt d p).heard.getD c 0
  quiet : ¬ Sends d c → ctlAt e c = ctlAt d c ∧ e.pins.hbmon.getD c false = d.pins.hbmon.getD c false ∧
    ∀ p, p < 6 → (pixAt e p).heard.getD c 0 = (pixAt d p).heard.getD c 0

theorem beatDone_beatRound {d x : Device} {c : Nat} (same : BeatSame d x c) (kept : Keeps [.ctls, .pins, .pix] noReg d x)
    (wires : c < d.pins.hbmon.length) (slots : ∀ p, p < 6 → c < (pixAt d p).heard.length) : BeatDone d (beatRound x c) c := by
  refine ⟨fun h => ?_, fun h => ?_⟩
  · obtain ⟨ctl, hbmon, pix⟩ := beatRound_reads (same.sends.mpr h)
    have fields : beaten x c = beaten d c := by
      rw [beaten, beaten, same.ctl, same.isActive, kept.regN (by decide) id]
    refine ⟨ctl.trans fields, ?_, fun p hp => ?_⟩
    · rw [hbmon, getD_set, same.hbmon, same.wires, if_pos ⟨rfl, wires⟩]
    · obtain ⟨-, -, -, -, heard⟩ := hears_reads c x.mono (pixAt x p)
      rw [pix p hp, heard, same.out p hp, same.state p hp, same.length p hp, same.heard p hp, kept.mono_eq (by simp)]
      exact ite_congr (propext ⟨fun h => h.2.2, fun h => ⟨rfl, slots p hp, h⟩⟩) (fun _ => rfl) fun _ => rfl
  · rw [beatRound_of_quiet (fun k => h (same.sends.mp k))]
    exact ⟨same.ctl, same.hbmon, same.heard⟩

theorem beatDone_heartbeatSendOp {d : Device} (wires : d.pins.hbmon.length = 2) (slots : ∀ p, p < 6 → (pixAt d p).heard.length = 2)
    {c : Nat} (hc : c < 2) : BeatDone d (heartbeatSendOp d) c := by
  rw [heartbeatSendOp_eq, forEach_cons, forEach_cons, forEach_nil]
  rcases eq_of_lt_two hc with rfl | rfl
  · have done := beatDone_beatRound (beatSame_refl d 0) keeps_self (by omega) fun p hp => by rw [slots p hp]; omega
    have after := beatSame_beatRound (beatRound d 0) (c := 1) (j := 0) (by omega)
    refine ⟨fun h => ?_, fun h => ?_⟩
    · obtain ⟨ctl, hbmon, heard⟩ := done.sent h
      exact ⟨after.ctl.trans ctl, after.hbmon.trans hbmon, fun p hp => (after.heard p hp).trans (heard p hp)⟩
    · obtain ⟨ctl, hbmon, heard⟩ := done.quiet h
      exact ⟨after.ctl.trans ctl, after.hbmon.trans hbmon, fun p hp => (after.heard p hp).trans (heard p hp)⟩
  · exact beatDone_beatRound (beatSame_beatRound d (by omega)) (keeps_beatRound d 0) (by omega) fun p hp => by rw [slots p hp]; omega

theorem keeps_heartbeatSendOp (d : Device) : Keeps [.ctls, .pins, .pix] noReg d (heartbeatSendOp d) :=
  keeps_forEach _ _ (fun x c _ => keeps_beatRound x c) d

/-! ### The obligation -/

/-- What a judging of die c is, of a step's own settled device. -/
theorem PathsJudged.events {d e : Device} {c : Nat} {v : CtlDie} {a b : Bool} (h : PathsJudged d e c v a b) :
    (v.downS = true → a = false → b = v.downW → Noted d (settle e) c 65 0x2300) ∧
    (v.downW = true → b = false → a = v.downS → Noted d (settle e) c 65 0x2300) ∧
    (v.downS = false → a = true → b = v.downW → Recorded d (settle e) c 64 0x2300) ∧
    (v.downW = false → b = true → a = v.downS → Recorded d (settle e) c 64 0x2300) ∧
    (a = v.downS → b = v.downW → ringAt (settle e) c = ringAt d c) :=
  ⟨h.backS, fun w is_ s => h.backW s w is_, h.lostS, fun w is_ s => h.lostW s w is_, h.same⟩

theorem heartbeatSend_does (dt : Nat) (s : State) (d : Device) (hd : d = elapse s.dev dt) (wires : d.pins.hbmon.length = 2)
    (slots : ∀ p, p < 6 → (pixAt d p).heard.length = 2) : Does (.heartbeatSend dt) s fun e =>
      (∀ c, c < 2 → if ctlUp d c = true ∧ (isActive d c = true ∨ roleOf d c ∈ [4, 5, 6, 7, 8]) then
          ctlAt e c = beaten d c ∧ e.pins.hbmon.getD c false = !(d.pins.hbmon.getD c false) ∧
          (∀ p, p < 6 → (pixAt e p).heard.getD c 0 =
            (if pixUp d p = true ∧ (pixAt d p).state = 1 then d.mono else (pixAt d p).heard.getD c 0))
        else ctlAt e c = ctlAt d c ∧ e.pins.hbmon.getD c false = d.pins.hbmon.getD c false ∧
          (∀ p, p < 6 → (pixAt e p).heard.getD c 0 = (pixAt d p).heard.getD c 0)) ∧
      Keeps [.ctls, .pins, .pix] noReg d e := by
  refine does_of_act (f := heartbeatSendOp) rfl hd ⟨fun c hc => ?_, keeps_settled (keeps_heartbeatSendOp d)⟩
  have done := beatDone_heartbeatSendOp wires slots hc
  split
  · next h => exact done.sent h
  · next h => exact done.quiet h

/-- Settles O41: a path is judged by whether it is silent, was down, and whether the other path is alive. -/
theorem heartbeatsAreSentHeardAndMissed : Obligations.HeartbeatsAreSentHeardAndMissed := by
  refine ⟨heartbeatSend_does, ?saddle, ?wire, ?silentSaddle, ?silentWire, ?high, ?low⟩
  case saddle =>
    intro dt s d c p hd up pix state
    refine does_of_act (f := (heartbeatArrivalOp · c (.saddle p))) rfl hd ?_
    rw [heartbeatArrivalOp_saddle up pix state]
    obtain ⟨only, h⟩ := pathBack_setCtl d c.isLt (saddleHeard d c)
    rw [show (saddleHeard d c).silentS = false from rfl, nowDown_false, Bool.not_false, nowDown_alive] at h
    obtain ⟨backS, backW, -, lostW, same⟩ := h.events
    exact ⟨h.ctl, fun was is_ => backS was rfl is_.symm, fun s w is_ => backW w is_ s.symm,
      fun s w is_ => lostW w is_ s.symm, fun s w => same s.symm w.symm, fun j hj => only.ctls j hj, keeps_settled only.kept⟩
  case wire =>
    intro dt s d c hd up off
    refine does_of_act (f := (heartbeatArrivalOp · c .wire)) rfl hd ?_
    rw [heartbeatArrivalOp_wire up off]
    obtain ⟨only, h⟩ := pathBack_setCtl d c.isLt (wireHeard d c)
    rw [show ((wireHeard d c).silentW || d.pins.hbtest) = false by rw [off]; rfl, nowDown_false, Bool.not_false, nowDown_alive] at h
    obtain ⟨backS, backW, lostS, -, same⟩ := h.events
    exact ⟨h.ctl, fun was is_ => backW was rfl is_.symm, fun w s is_ => backS s is_ w.symm,
      fun w s is_ => lostS s is_ w.symm, fun w s => same s.symm w.symm, fun j hj => only.ctls j hj, keeps_settled only.kept⟩
  case silentSaddle =>
    intro dt s d c p hd up alive late
    refine does_of_act (f := (pathSilentOp · c (.saddle p))) rfl hd ?_
    rw [pathSilentOp_saddle up alive late]
    obtain ⟨only, h⟩ := pathJudge_setCtl d c.isLt { ctlAt d c with silentS := true }
    rw [nowDown_true, Bool.not_true, nowDown_other_silent] at h
    obtain ⟨-, -, lostS, -, same⟩ := h.events
    refine ⟨h.ctl, fun w was wasW => lostS was ?_ ?_, fun w => ?_, fun j hj => only.ctls j hj, keeps_settled only.kept⟩
    · show ((ctlAt d c).downS || !wireSilent d c) = true
      rw [w, Bool.not_false, Bool.or_true]
    · show ((ctlAt d c).downW && wireSilent d c) = (ctlAt d c).downW
      rw [wasW, Bool.false_and]
    · refine same ?_ ?_
      · show ((ctlAt d c).downS || !wireSilent d c) = (ctlAt d c).downS
        rw [w, Bool.not_true, Bool.or_false]
      · show ((ctlAt d c).downW && wireSilent d c) = (ctlAt d c).downW
        rw [w, Bool.and_true]
  case silentWire =>
    intro dt s d c hd up alive late
    refine does_of_act (f := (pathSilentOp · c .wire)) rfl hd ?_
    rw [pathSilentOp_wire up alive late]
    obtain ⟨only, h⟩ := pathJudge_setCtl d c.isLt { ctlAt d c with silentW := true }
    rw [Bool.true_or, nowDown_true, Bool.not_true, nowDown_other_silent] at h
    obtain ⟨-, -, -, lostW, same⟩ := h.events
    refine ⟨h.ctl, fun s was wasS => lostW was ?_ ?_, fun s => ?_, fun j hj => only.ctls j hj, keeps_settled only.kept⟩
    · show ((ctlAt d c).downW || !(ctlAt d c).silentS) = true
      rw [s, Bool.not_false, Bool.or_true]
    · show ((ctlAt d c).downS && (ctlAt d c).silentS) = (ctlAt d c).downS
      rw [wasS, Bool.false_and]
    · refine same ?_ ?_
      · show ((ctlAt d c).downS && (ctlAt d c).silentS) = (ctlAt d c).downS
        rw [s, Bool.and_true]
      · show ((ctlAt d c).downW || !(ctlAt d c).silentS) = (ctlAt d c).downW
        rw [s, Bool.not_true, Bool.or_false]
  case high =>
    intro dt s d hd off powered
    refine does_of_act (f := hbtestHighOp) rfl hd ?_
    rw [hbtestHighOp_of_low off powered]
    have raised := keeps_pins (ps := .pins :: .ctls :: eventParts) (rs := eventReg) d { d.pins with hbtest := true } (by decide)
    have loop := keeps_bothDies onlyDie_highRound { d with pins := { d.pins with hbtest := true } }
    refine ⟨loop.pins_eq (by decide), fun c hc => ?_,
      keeps_settled (raised.trans (loop.mono (by decide) fun _ _ h => h))⟩
    obtain ⟨x, ctl, ring, kept, own, ownRing⟩ := bothDies onlyDie_highRound { d with pins := { d.pins with hbtest := true } } hc
    by_cases up : ctlUp d c = true
    · have h := highRound_of_up (d := d) hc (by rw [kept.pins_eq (by decide)]) (by rw [ctlUp, ctl]; exact up) ctl ring
        (kept.regT (by decide) (by simp [eventReg]))
      have h := h.congr rfl rfl own ownRing
      rw [if_pos up]
      refine ⟨h.ctl, fun s w wasS => recorded_settle.mpr (h.lostW ?_ w ?_)⟩
      · rw [wasS, Bool.false_and]
      · rw [s, Bool.not_false, Bool.or_true]
    · rw [if_neg up, ctlAt_settle, own, highRound, if_neg (by rw [ctlUp, ctl]; exact up), ctl]
      rfl
  case low =>
    intro dt s d hd on
    refine does_of_act (f := hbtestLowOp) rfl hd ?_
    rw [hbtestLowOp_of_high on]
    have lowered := keeps_pins (ps := .pins :: .ctls :: eventParts) (rs := eventReg) d { d.pins with hbtest := false } (by decide)
    have loop := keeps_bothDies onlyDie_lowRound { d with pins := { d.pins with hbtest := false } }
    refine ⟨loop.pins_eq (by decide), fun c hc => ?_,
      keeps_settled (lowered.trans (loop.mono (by decide) fun _ _ h => h))⟩
    obtain ⟨x, ctl, ring, kept, own, ownRing⟩ := bothDies onlyDie_lowRound { d with pins := { d.pins with hbtest := false } } hc
    by_cases up : ctlUp d c = true
    · have h := lowRound_of_up (d := d) hc (by rw [kept.pins_eq (by decide)]) (by rw [ctlUp, ctl]; exact up) (kept.mono_eq (by decide))
        ctl ring (kept.regT (by decide) (by simp [eventReg]))
      have h := h.congr rfl rfl own ownRing
      rw [if_pos up]
      exact ⟨h.ctl, fun w s => noted_settle.mpr (h.backW s.symm w rfl)⟩
    · rw [if_neg up, ctlAt_settle, own, lowRound, if_neg (by rw [ctlUp, ctl]; exact up), ctl]
      rfl

end Sys2Proof
end

section
/-! PROOFS. Takeovers and tokens (R367 to R371): what moves when tokens move, and the commands of a die that falls silent, asks for
tokens, gives up or steps down. -/

namespace Sys2Proof
open Machine Safety

/-! ### Tokens move (R368) -/

/-- Control die c as it counts its tokens. -/
def counting (d : Device) (c : Nat) : CtlDie :=
  { ctlAt d c with few := if (tokensOf d c).length < 4 then some ((ctlAt d c).few.getD d.mono) else none }

theorem tokensOf_setCtl (d : Device) (k c : Nat) (x : CtlDie) : tokensOf (setCtl d k x) c = tokensOf d c := rfl

theorem ctlAt_tokensMoved (d : Device) (c : Nat) : ctlAt (tokensMoved d) c = if c < 2 then counting d c else ctlAt d c := by
  have first : tokensMoved d = setCtl (setCtl d 0 (counting d 0)) 1 (counting (setCtl d 0 (counting d 0)) 1) := rfl
  have second : counting (setCtl d 0 (counting d 0)) 1 = counting d 1 := by
    rw [counting, counting, tokensOf_setCtl, ctlAt_setCtl, if_neg (by omega), setCtl_mono]
    rfl
  rw [first, second, ctlAt_setCtl, ctlAt_setCtl]
  obtain rfl | rfl | h : c = 0 ∨ c = 1 ∨ 2 ≤ c := by omega
  · simp
  · simp
  · rw [if_neg (by omega), if_neg (by omega), if_neg (by omega)]

theorem keeps_tokensMoved (d : Device) : Keeps [.ctls] noReg d (tokensMoved d) :=
  keeps_forEach _ _ (fun _ _ _ => keeps_setCtl _ _ _ (by simp)) d

theorem tokensMoved_few (d : Device) (c : Nat) : ctlAt (tokensMoved d) c = { ctlAt d c with few := (ctlAt (tokensMoved d) c).few } := by
  rw [ctlAt_tokensMoved]
  split <;> rfl

/-- Pixel die q gives back the token of control die c. -/
def tokenBack (c : Nat) (q : PixelDie) : PixelDie := if q.token = c + 2 then { q with token := 1, released := true } else q

/-- One pixel die as the tokens of control die c go back. -/
def backRound (c : Nat) (d : Device) (p : Nat) : Device :=
  if (pixAt d p).token = c + 2 then setPix d p { pixAt d p with token := 1, released := true } else d

/-- Every pixel die has its token of control die c back. -/
def tokensBack (d : Device) (c : Nat) : Device := forEach d (List.range 6) (backRound c)

theorem returnTokens_eq (d : Device) (c : Nat) : returnTokens d c = tokensMoved (tokensBack d c) := rfl

theorem keeps_tokensBack (d : Device) (c : Nat) : Keeps [.pix] noReg d (tokensBack d c) := by
  refine keeps_forEach _ _ (fun x p _ => ?_) d
  rw [backRound]
  split
  · exact keeps_setPix _ _ _ (by simp)
  · exact keeps_self

theorem keeps_returnTokens (d : Device) (c : Nat) : Keeps [.ctls, .pix] noReg d (returnTokens d c) :=
  ((keeps_tokensBack d c).mono (by simp) fun _ _ h => h).trans ((keeps_tokensMoved _).mono (by simp) fun _ _ h => h)

theorem pixAt_tokensBack (d : Device) (c p : Nat) :
    pixAt (tokensBack d c) p = if p < 6 then tokenBack c (pixAt d p) else pixAt d p := by
  have h := forEach_read pixAt (backRound c) (fun _ q => tokenBack c q)
    (fun x k => by
      rw [backRound, tokenBack]
      split <;> simp)
    (fun x k j hj => by
      rw [backRound]
      split <;> simp [hj])
    (List.nodup_range (n := 6)) d p
  rw [tokensBack, h]
  simp only [List.mem_range]

theorem pixAt_returnTokens (d : Device) (c p : Nat) :
    pixAt (returnTokens d c) p = if p < 6 then tokenBack c (pixAt d p) else pixAt d p := by
  rw [returnTokens_eq, (keeps_tokensMoved _).pixAt (by simp), pixAt_tokensBack]

theorem token_returnTokens (d : Device) (c : Nat) {p : Nat} (hp : p < 6) :
    (pixAt (returnTokens d c) p).token = if (pixAt d p).token = c + 2 then 1 else (pixAt d p).token := by
  rw [pixAt_returnTokens, if_pos hp, tokenBack]
  split <;> rfl

theorem tokensOf_tokensBack (d : Device) (c : Nat) : tokensOf (tokensBack d c) c = [] := by
  rw [tokensOf, List.filter_eq_nil_iff]
  intro p hp
  rw [pixAt_tokensBack, if_pos (List.mem_range.mp hp), tokenBack]
  split
  · simp
  · next h => simp [h]

/-- The die that gave its tokens back has few, since when it has had few. -/
theorem ctlAt_returnTokens (d : Device) {c : Nat} (hc : c < 2) :
    ctlAt (returnTokens d c) c = { ctlAt d c with few := some ((ctlAt d c).few.getD d.mono) } := by
  have back := keeps_tokensBack d c
  rw [returnTokens_eq, ctlAt_tokensMoved, if_pos hc, counting, tokensOf_tokensBack d c, back.ctlAt (by simp), back.mono_eq (by simp)]
  rfl

theorem ctlAt_returnTokens_few (d : Device) (c j : Nat) :
    ctlAt (returnTokens d c) j = { ctlAt d j with few := (ctlAt (returnTokens d c) j).few } := by
  have h := tokensMoved_few (tokensBack d c) j
  rwa [(keeps_tokensBack d c).ctlAt (by simp), ← returnTokens_eq] at h

/-! ### Silence on both paths (R367) -/

/-- Whether die c has heard nothing for 5 ms. -/
def LongSilent (d : Device) (c : Nat) : Prop :=
  ctlUp d c = true ∧ bothSilent d c = true ∧ (ctlAt d c).heardS + 5000000 ≤ d.mono ∧
  (d.pins.hbtest = true ∨ (ctlAt d c).heardW + 5000000 ≤ d.mono)

theorem bothSilentOp_of_silent {d : Device} {c : Nat} (h : LongSilent d c) : bothSilentOp d c =
    if isActive d c then (if (ctlAt d c).lost then d else raise (setCtl d c { ctlAt d c with lost := true }) c 66 0x2300)
    else if mayTakeOver d c ∧ (ctlAt d c).minority.isNone ∧ (railAt d c).stage < 3 then raise (beginTakeover d c) c 68 0x2300
    else d := by
  obtain ⟨up, silent, saddle, wire⟩ := h
  have waits : (!ctlUp d c || !bothSilent d c || decide (d.mono < (ctlAt d c).heardS + 5000000) ||
      (!d.pins.hbtest && decide (d.mono < (ctlAt d c).heardW + 5000000))) = false := by
    simp only [up, silent, Bool.not_true, Bool.false_or, Bool.or_eq_false_iff, decide_eq_false_iff_not, Nat.not_lt, saddle, true_and,
      Bool.and_eq_false_iff, Bool.not_eq_false']
    exact wire
  rw [bothSilentOp]
  simp only [waits, Bool.false_eq_true, if_false]
  rfl

/-- Die c as it begins a takeover. -/
def takingOverCtl (d : Device) (c : Nat) : CtlDie := { ctlAt d c with
  role := 10, was := if (ctlAt d c).role = 5 ∨ (ctlAt d c).role = 7 then 4 else (ctlAt d c).role,
  warm := ((ctlAt d c).role == 5 || (ctlAt d c).role == 7) && d.cmp.based, takeover := some d.mono, retry := d.mono }

theorem beginTakeover_eq (d : Device) (c : Nat) : beginTakeover d c = setCtl d c (takingOverCtl d c) := rfl

theorem raisedCtl (d : Device) {c : Nat} (hc : c < 2) (v : CtlDie) (code : Nat) :
    ctlAt (raise (setCtl d c v) c code 0x2300) c = v ∧ OnlyDie d (raise (setCtl d c v) c code 0x2300) c :=
  ⟨by rw [ctlAt_raise _ hc, ctlAt_setCtl, if_pos rfl], (onlyDie_setCtl d c v).trans (onlyDie_raise _ hc _ _)⟩

theorem bothSilentOp_reads {d : Device} {c : Nat} (hc : c < 2) (h : LongSilent d c) :
    (isActive d c = true → ctlAt (bothSilentOp d c) c = { ctlAt d c with lost := true } ∧
      ((ctlAt d c).lost = false → Recorded d (bothSilentOp d c) c 66 0x2300)) ∧
    (isActive d c = false → mayTakeOver d c = true → (ctlAt d c).minority = none → (railAt d c).stage < 3 →
      ctlAt (bothSilentOp d c) c = takingOverCtl d c ∧ Noted d (bothSilentOp d c) c 68 0x2300) ∧
    (isActive d c = false → (mayTakeOver d c = false ∨ 3 ≤ (railAt d c).stage) → ctlAt (bothSilentOp d c) c = ctlAt d c) ∧
    OnlyDie d (bothSilentOp d c) c := by
  rw [bothSilentOp_of_silent h]
  have ring : ∀ v, ringAt (setCtl d c v) c = ringAt d c := fun v => ringAt_congr _ _ rfl _
  by_cases active : isActive d c = true
  · rw [if_pos active]
    by_cases lost : (ctlAt d c).lost = true
    · rw [if_pos lost]
      refine ⟨fun _ => ⟨by rw [← lost], fun h => absurd (lost.symm.trans h) (by decide)⟩, fun h => absurd (active.symm.trans h) (by decide),
        fun h => absurd (active.symm.trans h) (by decide), OnlyDie.refl d c⟩
    · rw [if_neg lost]
      obtain ⟨ctl, only⟩ := raisedCtl d hc { ctlAt d c with lost := true } 66
      exact ⟨fun _ => ⟨ctl, fun _ => recorded_raise_of (code := 66) (ring _) _ (by decide)⟩,
        fun h => absurd (active.symm.trans h) (by decide), fun h => absurd (active.symm.trans h) (by decide), only⟩
  · rw [if_neg active]
    by_cases begins : mayTakeOver d c ∧ (ctlAt d c).minority.isNone ∧ (railAt d c).stage < 3
    · rw [if_pos begins, beginTakeover_eq]
      obtain ⟨ctl, only⟩ := raisedCtl d hc (takingOverCtl d c) 68
      refine ⟨fun h => absurd h active, fun _ _ _ _ => ⟨ctl, noted_raise_of (ring _) rfl _ _⟩, fun _ h => ?_, only⟩
      obtain ⟨may, -, stage⟩ := begins
      obtain h | h := h
      · exact absurd (may.symm.trans h) (by decide)
      · omega
    · rw [if_neg begins]
      refine ⟨fun h => absurd h active, fun _ may fresh stage => absurd ⟨may, by rw [fresh]; rfl, stage⟩ begins, fun _ _ => rfl,
        OnlyDie.refl d c⟩

/-! ### Requests for tokens (R368) -/

/-- Pixel die p has given its token to die c. -/
def tokenGiven (d : Device) (p c : Nat) : Device := setPix d p { pixAt d p with token := c + 2, released := false }

theorem tokenRequestOp_eq {d : Device} {p c : Nat} (up : pixUp d p = true) (asks : asksTokens d c = true) :
    tokenRequestOp d p c = if grants d p c then tokensMoved (tokenGiven d p c) else d := by
  simp only [tokenRequestOp, up, asks, Bool.true_and]
  rfl

theorem tokenRequestOp_reads {d : Device} {p c : Nat} (up : pixUp d p = true) (asks : asksTokens d c = true) :
    (if grants d p c = true then
       pixAt (tokenRequestOp d p c) p = { pixAt d p with token := c + 2, released := false } ∧
       (∀ j, j < 2 → (ctlAt (tokenRequestOp d p c) j).few =
         (if (tokensOf (tokenRequestOp d p c) j).length < 4 then some ((ctlAt d j).few.getD d.mono) else none))
     else pixAt (tokenRequestOp d p c) p = pixAt d p ∧ (tokenRequestOp d p c).ctls = d.ctls) ∧
    (∀ q, q ≠ p → pixAt (tokenRequestOp d p c) q = pixAt d q) ∧
    (∀ j, ctlAt (tokenRequestOp d p c) j = { ctlAt d j with few := (ctlAt (tokenRequestOp d p c) j).few }) ∧
    Keeps [.pix, .ctls] noReg d (tokenRequestOp d p c) := by
  rw [tokenRequestOp_eq up asks]
  by_cases h : grants d p c = true
  · have moved := keeps_tokensMoved (tokenGiven d p c)
    have given := keeps_setPix (ps := [.pix]) (rs := noReg) d p { pixAt d p with token := c + 2, released := false } (by simp)
    rw [if_pos h, if_pos h]
    refine ⟨⟨?_, fun j hj => ?_⟩, fun q hq => ?_, fun j => tokensMoved_few (tokenGiven d p c) j, ?_⟩
    · rw [moved.pixAt (by simp), tokenGiven, pixAt_setPix, if_pos rfl]
    · have tokens : tokensOf (tokensMoved (tokenGiven d p c)) j = tokensOf (tokenGiven d p c) j := by
        simp only [tokensOf, pixUp, moved.pixAt (by simp)]
      rw [tokens, ctlAt_tokensMoved, if_pos hj, counting]
      rfl
    · rw [moved.pixAt (by simp), tokenGiven, pixAt_setPix, if_neg hq.symm]
    · exact (given.mono (by simp) fun _ _ h => h).trans (moved.mono (by simp) fun _ _ h => h)
  · rw [if_neg h, if_neg h]
    exact ⟨⟨rfl, rfl⟩, fun _ _ => rfl, fun _ => rfl, keeps_self⟩

/-! ### Repeated requests, no majority, demotion (R369 to R371) -/

theorem tokenRetryOp_of_role {d : Device} {c : Nat} (up : ctlUp d c = true) (h : (ctlAt d c).role = 10) : tokenRetryOp d c =
    if (ctlAt d c).retry + 100000 ≤ d.mono then setCtl d c { ctlAt d c with retry := d.mono } else d := by
  simp only [tokenRetryOp, up, Bool.not_true, Bool.false_eq_true, if_false]
  rw [if_pos h]
  rfl

theorem tokenRetryOp_of_minority {d : Device} {c t : Nat} (up : ctlUp d c = true) (h : (ctlAt d c).role ≠ 10)
    (ht : (ctlAt d c).minority = some t) : tokenRetryOp d c =
    if bothSilent d c ∧ mayTakeOver d c ∧ t + 100000000 ≤ d.mono ∧ (railAt d c).stage < 3 then beginTakeover d c else d := by
  simp only [tokenRetryOp, up, if_neg h, ht, Bool.not_true, Bool.false_eq_true, if_false]

theorem tokenRetryOp_of_none {d : Device} {c : Nat} (up : ctlUp d c = true) (h : (ctlAt d c).role ≠ 10)
    (ht : (ctlAt d c).minority = none) : tokenRetryOp d c = d := by
  simp only [tokenRetryOp, up, if_neg h, ht, Bool.not_true, Bool.false_eq_true, if_false]

/-- A repeated request changes die c alone. -/
theorem tokenRetryOp_eq (d : Device) (c : Nat) (up : ctlUp d c = true) : tokenRetryOp d c = d ∨ ∃ v, tokenRetryOp d c = setCtl d c v := by
  by_cases h : (ctlAt d c).role = 10
  · rw [tokenRetryOp_of_role up h]
    split
    · exact .inr ⟨_, rfl⟩
    · exact .inl rfl
  · cases ht : (ctlAt d c).minority with
    | none => exact .inl (tokenRetryOp_of_none up h ht)
    | some t =>
      rw [tokenRetryOp_of_minority up h ht]
      split
      · exact .inr ⟨_, beginTakeover_eq d c⟩
      · exact .inl rfl

/-- Die c as a takeover without a majority leaves it. -/
def minorityCtl (d : Device) (c : Nat) : CtlDie :=
  { ctlAt (returnTokens d c) c with role := (ctlAt (returnTokens d c) c).was, warm := false, takeover := none, minority := some d.mono }

theorem noMajorityOp_of_few {d : Device} {c t : Nat} (ht : (ctlAt d c).takeover = some t) (role : (ctlAt d c).role = 10)
    (late : t + 20000000 ≤ d.mono) (few : (tokensOf d c).length < 4) :
    noMajorityOp d c = raise (setCtl (returnTokens d c) c (minorityCtl d c)) c 67 0x2300 := by
  simp only [noMajorityOp, ht, role, late, few, and_self, if_true, modCtl_eq, minorityCtl]

theorem demotionOp_of_few {d : Device} {c t : Nat} (up : ctlUp d c = true) (role : roleOf d c = 3) (ht : (ctlAt d c).few = some t)
    (late : t + 5000000 ≤ d.mono) : demotionOp d c = noteFailed (raise (setRole (returnTokens d c) c 1) c 70 0x2300) c := by
  have few : (ctlAt d c).few.any (fun t => decide (t + 5000000 ≤ d.mono)) = true := by
    rw [ht, Option.any_some, decide_eq_true_eq]
    exact late
  exact if_pos ⟨up, role, few⟩

theorem demotionOp_of_recent {d : Device} {c : Nat} (h : ∀ t, (ctlAt d c).few = some t → d.mono < t + 5000000) : demotionOp d c = d := by
  refine if_neg fun ⟨_, _, few⟩ => ?_
  cases hf : (ctlAt d c).few with
  | none => simp [hf] at few
  | some t =>
    have recent := h t hf
    rw [hf, Option.any_some, decide_eq_true_eq] at few
    omega

theorem keeps_noteFailed (d : Device) (c : Nat) : Keeps [.sup] noReg d (noteFailed d c) := by
  rw [noteFailed]
  split
  · split
    · exact keeps_sup _ _ (by simp)
    · exact keeps_self
  · exact keeps_self

/-- A die that has given its tokens back, changed to `v`, with an event of its own. -/
theorem givenUp_reads (d : Device) {c : Nat} (hc : c < 2) (v : CtlDie) {code : Nat} (hs : 2 ≤ sevOf code) :
    ctlAt (raise (setCtl (returnTokens d c) c v) c code 0x2300) c = v ∧
    (∀ p, p < 6 → (pixAt (raise (setCtl (returnTokens d c) c v) c code 0x2300) p).token =
      (if (pixAt d p).token = c + 2 then 1 else (pixAt d p).token)) ∧
    Recorded d (raise (setCtl (returnTokens d c) c v) c code 0x2300) c code 0x2300 ∧
    (∀ j, j ≠ c → ctlAt (raise (setCtl (returnTokens d c) c v) c code 0x2300) j =
      { ctlAt d j with few := (ctlAt (raise (setCtl (returnTokens d c) c v) c code 0x2300) j).few }) ∧
    Keeps (.ctls :: .pix :: eventParts) eventReg d (raise (setCtl (returnTokens d c) c v) c code 0x2300) := by
  obtain ⟨ctl, only⟩ := raisedCtl (returnTokens d c) hc v code
  have back := keeps_returnTokens d c
  have moved : Keeps [.ctls] noReg (returnTokens d c) (setCtl (returnTokens d c) c v) := keeps_setCtl _ _ _ (by simp)
  have ring : ringAt (setCtl (returnTokens d c) c v) c = ringAt d c := (moved.ringAt (by simp) c).trans (back.ringAt (by simp) c)
  have recorded := recorded_raise_of (code := code) ring 0x2300 hs
  generalize raise (setCtl (returnTokens d c) c v) c code 0x2300 = e at *
  refine ⟨ctl, fun p hp => ?_, recorded, fun j hj => ?_, ?_⟩
  · rw [only.kept.pixAt (by decide), token_returnTokens d c hp]
  · rw [only.ctls j hj]
    exact ctlAt_returnTokens_few d c j
  · exact (back.mono (by decide) fun _ _ h => h.elim).trans (only.kept.mono (by decide) fun _ _ h => h)

/-- Settles O42. -/
theorem takeoversNeedFourTokens : Obligations.TakeoversNeedFourTokens := by
  refine ⟨?silent, ?request, ?retry, ?minority, ?holds, ?demoted⟩
  case silent =>
    intro dt s d c x hd hx up silent saddle wire
    subst hx
    obtain ⟨active, takes, waits, only⟩ := bothSilentOp_reads c.isLt ⟨up, silent, saddle, wire⟩
    refine does_of_act (f := (bothSilentOp · c)) rfl hd
      ⟨active, fun a m n st => ?_, waits, fun j hj => only.ctls j hj, keeps_settled only.kept⟩
    obtain ⟨ctl, noted⟩ := takes a m n st
    have ctl' : ctlAt (settle (bothSilentOp d c)) c = takingOverCtl d c := ctl
    rw [roleOf, ctl']
    exact ⟨rfl, rfl, rfl, rfl, noted_settle.mpr noted⟩
  case request =>
    intro dt s d p c hd up asks
    obtain ⟨granted, pix, ctls, kept⟩ := tokenRequestOp_reads up asks
    exact does_of_act (f := (tokenRequestOp · p c)) rfl hd ⟨granted, pix, ctls, keeps_settled kept⟩
  case retry =>
    intro dt s d c x hd hx up
    subst hx
    refine does_of_act (f := (tokenRetryOp · c)) rfl hd ⟨fun role due => ?_, fun t role ht silent may late stage => ?_, fun role fresh => ?_, ?_⟩
    · rw [ctlAt_settle, tokenRetryOp_of_role up role, if_pos due, ctlAt_setCtl, if_pos rfl]
    · have begun : ctlAt (settle (tokenRetryOp d c)) c = takingOverCtl d c := by
        rw [ctlAt_settle, tokenRetryOp_of_minority up role ht, if_pos ⟨silent, may, late, stage⟩, beginTakeover_eq, ctlAt_setCtl, if_pos rfl]
      rw [roleOf, begun]
      exact ⟨rfl, rfl⟩
    · rw [ctlAt_settle, tokenRetryOp_of_none up role fresh]
    · obtain h | ⟨v, h⟩ := tokenRetryOp_eq d c up
      · rw [h]
        exact ⟨fun _ _ => rfl, keeps_settled keeps_self⟩
      · rw [h]
        exact ⟨fun j hj => by rw [ctlAt_settle, ctlAt_setCtl, if_neg fun h => hj h.symm], keeps_settled (keeps_setCtl _ _ _ (by simp))⟩
  case minority =>
    intro dt s d c x t hd hx ht role late few
    subst hx
    obtain ⟨ctl, tokens, recorded, others, kept⟩ := givenUp_reads d c.isLt (minorityCtl d c) (code := 67) (by decide)
    refine does_of_act (f := (noMajorityOp · c)) rfl hd ?_
    rw [noMajorityOp_of_few ht role late few]
    generalize raise (setCtl (returnTokens d c) c (minorityCtl d c)) c 67 0x2300 = e at *
    refine ⟨?_, tokens, recorded_settle.mpr recorded, others, keeps_settled kept⟩
    rw [ctlAt_settle, ctl, minorityCtl, ctlAt_returnTokens d c.isLt]
  case holds =>
    intro dt s d c hd recent
    refine does_of_act (f := (demotionOp · c)) rfl hd ?_
    rw [demotionOp_of_recent recent]
    exact keeps_settled keeps_self
  case demoted =>
    intro dt s d c t hd up role ht late
    obtain ⟨ctl, tokens, recorded, others, kept⟩ :=
      givenUp_reads d c.isLt { ctlAt (returnTokens d c) c with role := 1 } (code := 70) (by decide)
    refine does_of_act (f := (demotionOp · c)) rfl hd ?_
    rw [demotionOp_of_few up role ht late, setRole, modCtl_eq]
    generalize raise (setCtl (returnTokens d c) c { ctlAt (returnTokens d c) c with role := 1 }) c 70 0x2300 = e at *
    have noted := keeps_noteFailed e c
    refine ⟨?_, fun p hp => ?_, ?_, fun j hj => ?_, keeps_settled (kept.trans (noted.mono (by decide) fun _ _ h => h.elim))⟩
    · rw [ctlAt_settle, noted.ctlAt (by simp), ctl, ctlAt_returnTokens d c.isLt, ht, Option.getD_some, ← ht]
    · rw [pixAt_settle, noted.pixAt (by simp), tokens p hp]
    · exact recorded_settle.mpr (recorded_of_ring recorded (noted.ringAt (by simp) c))
    · rw [ctlAt_settle, noted.ctlAt (by simp)]
      exact others j hj

end Sys2Proof
end

section
/-! PROOFS. What messages, events and audit records leave of the CAN side, of the supervisor and of the audit records in
programming (R323, R327, R357, R430). -/

namespace Sys2Proof
open Machine Safety

/-- `y` differs from `x`, of these units, in its sessions, in what the CAN side sends, and in audit records that are added. -/
structure Talk (x y : Device) : Prop where
  nmt      : y.can.nmt = x.can.nmt
  held     : y.can.held = x.can.held
  sup      : ∃ t, y.sup = { x.sup with sessions := t }
  awaiting : ∃ l, y.awaiting = x.awaiting ++ l

theorem Talk.refl (x : Device) : Talk x x := ⟨rfl, rfl, ⟨_, rfl⟩, ⟨[], (List.append_nil _).symm⟩⟩

theorem Talk.trans {x y z : Device} (h : Talk x y) (g : Talk y z) : Talk x z := by
  obtain ⟨t, ht⟩ := h.sup
  obtain ⟨u, hu⟩ := g.sup
  obtain ⟨l, hl⟩ := h.awaiting
  obtain ⟨m, hm⟩ := g.awaiting
  exact ⟨g.nmt.trans h.nmt, g.held.trans h.held, ⟨u, by rw [hu, ht]⟩, ⟨l ++ m, by rw [hm, hl, List.append_assoc]⟩⟩

theorem talk_of_keeps {ps : List Part} {rs : Nat → Nat → Prop} {x y : Device} (h : Keeps ps rs x y) (hc : Part.can ∉ ps)
    (hs : Part.sup ∉ ps) (ha : Part.awaiting ∉ ps) : Talk x y :=
  ⟨by rw [h.can_eq hc], by rw [h.can_eq hc], ⟨_, h.sup_eq hs⟩, ⟨[], by rw [h.awaiting_eq ha, List.append_nil]⟩⟩

theorem talk_setSess (x : Device) (k : Nat) (v : Session) : Talk x (setSess x k v) :=
  ⟨rfl, rfl, ⟨_, rfl⟩, ⟨[], (List.append_nil _).symm⟩⟩

theorem talk_forEach {α : Type} (l : List α) (f : Device → α → Device) (h : ∀ x, ∀ a ∈ l, Talk x (f x a)) (x : Device) :
    Talk x (forEach x l f) := by
  induction l generalizing x with
  | nil => exact Talk.refl x
  | cons a l ih => exact (h x a List.mem_cons_self).trans (ih (fun y b hb => h y b (List.mem_cons_of_mem _ hb)) _)

theorem talk_bumpBy (x : Device) (i s n : Nat) (hs : s < 256) : Talk x (bumpBy x i s n) :=
  talk_of_keeps (keeps_bumpBy (ps := []) (rs := anyReg) x i s n hs trivial) (by simp) (by simp) (by simp)

theorem talk_setN (x : Device) (i s n : Nat) (hs : s < 256) : Talk x (setN x i s n) :=
  talk_of_keeps (keeps_setN (ps := []) (rs := anyReg) x i s n hs trivial) (by simp) (by simp) (by simp)

theorem talk_send (x : Device) (port kind to_ : Nat) (b : List Byte) : Talk x (send x port kind to_ b) :=
  talk_of_keeps (keeps_send (ps := [.tx]) (rs := noReg) x port kind to_ b (by simp)) (by simp) (by simp) (by simp)

theorem talk_sendCan (x : Device) (cob : Nat) (b : List Byte) : Talk x (sendCan x cob b) :=
  talk_of_keeps (keeps_sendCan (ps := [.tx]) (rs := noReg) x cob b (by simp)) (by simp) (by simp) (by simp)

/-! ### Events -/

theorem talk_queueEvent (x : Device) (k : Nat) (r : EventRec) : Talk x (queueEvent x k r) := by
  rw [queueEvent]
  split
  · exact (talk_setSess x k _).trans (talk_bumpBy _ _ _ _ (by decide))
  · exact talk_setSess x k _

theorem talk_deliverEvent (x : Device) (r : EventRec) (src : Option Nat) : Talk x (deliverEvent x r src) := by
  refine talk_forEach (List.range 8) (fun d k => if sessOpen d k && subscribed d k r src then queueEvent d k r else d) (fun y k _ => ?_) x
  split
  · exact talk_queueEvent y k r
  · exact Talk.refl y

theorem talk_emcySend (x : Device) (r : EventRec) : Talk x (emcySend x r) := by
  have kept := keeps_emcySend x r
  exact ⟨by rw [can_emcySend], by rw [can_emcySend], ⟨_, kept.sup_eq (by simp)⟩, ⟨[], by rw [kept.awaiting_eq (by simp), List.append_nil]⟩⟩

theorem talk_can (x : Device) (c : CanUnit) (hn : c.nmt = x.can.nmt) (hh : c.held = x.can.held) : Talk x { x with can := c } :=
  ⟨hn, hh, ⟨_, rfl⟩, ⟨[], (List.append_nil _).symm⟩⟩

theorem talk_emcyRecord (x : Device) (r : EventRec) : Talk x (emcyRecord x r) := by
  rw [emcyRecord]
  split
  · exact Talk.refl x
  · split
    · exact Talk.refl x
    · split
      · exact talk_emcySend x r
      · exact talk_can x _ rfl rfl

theorem talk_emcyCheck (x : Device) : Talk x (emcyCheck x) := by
  have marked : ∀ n, Talk x { x with can := { x.can with errReg := n } } := fun n => talk_can x _ rfl rfl
  dsimp only [emcyCheck]
  split
  · exact (marked _).trans (talk_sendCan _ _ _)
  · exact marked _

theorem talk_setRing (x : Device) (k : Nat) (g : Ring) : Talk x (setRing x k g) := ⟨rfl, rfl, ⟨_, rfl⟩, ⟨[], (List.append_nil _).symm⟩⟩

theorem talk_raiseFull (x : Device) (k code sev unit count : Nat) (detail : List Nat) (src : Option Nat) :
    Talk x (raiseFull x k code sev unit count detail src) := by
  have lost : ∀ (b : Bool) (y : Device), Talk y (if b = true then bump y (0x2600 + k) 4 else y) := fun b y => by
    split
    · exact talk_bumpBy _ _ _ _ (by decide)
    · exact Talk.refl y
  exact ((((talk_setRing x k _).trans (talk_bumpBy _ _ _ _ (by decide))).trans (lost _ _)).trans (talk_deliverEvent _ _ _)).trans
    ((talk_emcyRecord _ _).trans (talk_emcyCheck _))

theorem talk_raiseD (x : Device) (k code unit : Nat) (detail : List Nat) : Talk x (raiseD x k code unit detail) :=
  talk_raiseFull x k code _ unit 1 detail none

theorem talk_raise (x : Device) (k code unit : Nat) : Talk x (raise x k code unit) := talk_raiseD x k code unit []

/-! ### Audit records, messages and sessions that close -/

theorem talk_auditPush (x : Device) (kind session roles target : Nat) (detail : List Byte) :
    Talk x (auditPush x kind session roles target detail) := ⟨rfl, rfl, ⟨_, rfl⟩, ⟨_, rfl⟩⟩

theorem talk_audit (x : Device) (l : List AuditRec) : Talk x { x with audit := l } :=
  ⟨rfl, rfl, ⟨_, rfl⟩, ⟨[], (List.append_nil _).symm⟩⟩

theorem talk_auditAdd (x : Device) (kind session roles target : Nat) (detail : List Byte) :
    Talk x (auditAdd x kind session roles target detail) := by
  have pushed := talk_auditPush x kind session roles target detail
  dsimp only [auditAdd]
  split
  · exact pushed
  · split
    · exact ((pushed.trans (talk_audit _ _)).trans (talk_auditPush _ _ _ _ _ _)).trans (talk_raise _ _ _ _)
    · exact ((pushed.trans (talk_audit _ _)).trans (talk_auditPush _ _ _ _ _ _)).trans (talk_raise _ _ _ _)

theorem talk_layers (x : Device) (l : Table LayerUnit) : Talk x { x with layers := l } :=
  ⟨rfl, rfl, ⟨_, rfl⟩, ⟨[], (List.append_nil _).symm⟩⟩

theorem talk_closeSession (x : Device) {k : Nat} (hk : k < 8) (reason : Nat) : Talk x (closeSession x k reason) := by
  unfold closeSession
  split
  · exact Talk.refl x
  · exact (((((talk_auditAdd x _ _ _ _ _).trans (talk_layers _ _)).trans (talk_setN _ _ _ _ (by omega))).trans
      (talk_setN _ _ _ _ (by omega))).trans (talk_setSess _ _ _)).trans ((talk_setN _ _ _ _ (by decide)).trans (talk_raiseD _ _ _ _ _))

theorem talk_dxpMessage (x : Device) {k : Nat} (hk : k < 8) (port kind op sub idx status : Nat) (payload : List Byte) :
    Talk x (dxpMessage x k port kind op sub idx status payload) := by
  unfold dxpMessage
  split
  · exact Talk.refl x
  · have sent := (talk_setSess x k { sessAt x k with counter := (sessAt x k).counter + 1 }).trans
      (talk_send _ port kind k (dxpSealed (sessAt x k).keys (dxpHeader k ((sessAt x k).counter + 1) op sub idx payload.length status)
        ((sessAt x k).counter + 1) payload))
    dsimp only
    split
    · exact sent.trans (talk_closeSession _ hk 4)
    · exact sent

theorem talk_dxpPushAll (x : Device) (op : Nat) (payload : List Byte) (p : Device → Nat → Bool) : Talk x (dxpPushAll x op payload p) := by
  refine talk_forEach _ _ (fun y k hk => ?_) x
  split
  · exact talk_dxpMessage y (List.mem_range.mp hk) _ _ _ _ _ _ _
  · exact Talk.refl y

theorem talk_deliverTouches (x : Device) (k : Nat) : Talk x (deliverTouches x k) := by
  have delivered : ∀ (y : Device) (t : TrackUnit), Talk y (setTrack y k t) := fun y t =>
    ⟨rfl, rfl, ⟨_, rfl⟩, ⟨[], (List.append_nil _).symm⟩⟩
  dsimp only [deliverTouches]
  split
  · exact Talk.refl x
  · split
    · exact (delivered x _).trans (talk_dxpPushAll _ _ _ _)
    · exact ((delivered x _).trans (talk_dxpPushAll _ _ _ _)).trans (talk_dxpPushAll _ _ _ _)

end Sys2Proof
end

section
/-! PROOFS. Comparisons of the two control dies (R377 to R379, R382): a die that goes cold or suspect, the end of an election, and
digests that match, differ or come late. -/

namespace Sys2Proof
open Machine Safety

/-! ### A die goes cold or suspect (R381) -/

/-- `y` is `x` but for die c's NOR, its ring and what its events bring. -/
structure FlashOnly (x y : Device) (c : Nat) : Prop where
  only  : OnlyDie x y c
  flash : ∃ f, ctlAt y c = { ctlAt x c with flash := f }
  talk  : Talk x y

theorem FlashOnly.refl (x : Device) (c : Nat) : FlashOnly x x c := ⟨OnlyDie.refl x c, ⟨_, rfl⟩, Talk.refl x⟩

theorem FlashOnly.trans {x y z : Device} {c : Nat} (h : FlashOnly x y c) (g : FlashOnly y z c) : FlashOnly x z c := by
  obtain ⟨f, hf⟩ := h.flash
  obtain ⟨u, hu⟩ := g.flash
  exact ⟨h.only.trans g.only, ⟨u, by rw [hu, hf]⟩, h.talk.trans g.talk⟩

theorem talk_setCtl (x : Device) (c : Nat) (v : CtlDie) : Talk x (setCtl x c v) :=
  talk_of_keeps (keeps_setCtl (ps := [.ctls]) (rs := noReg) x c v (by simp)) (by simp) (by simp) (by simp)

theorem flashOnly_modNor (x : Device) (c : Nat) (g : Flash → Flash) : FlashOnly x (modNor x c g) c := by
  rw [modNor, setNor_eq]
  exact ⟨onlyDie_setCtl x c _, ⟨g (norOf x c), by rw [ctlAt_setCtl, if_pos rfl]⟩, talk_setCtl x c _⟩

theorem flashOnly_firmwareRefused (x : Device) {c : Nat} (hc : c < 2) : FlashOnly x (firmwareRefused x c) c :=
  ⟨onlyDie_raise x hc 59 0x2520, ⟨(ctlAt x c).flash, ctlAt_raise x hc 59 0x2520 c⟩, talk_raise x c 59 0x2520⟩

theorem flashOnly_ite {p : Prop} [Decidable p] {x y z : Device} {c : Nat} (h : FlashOnly x y c) (g : FlashOnly x z c) :
    FlashOnly x (if p then y else z) c := by
  split
  · exact h
  · exact g

/-- A trial of slot i begins where the slot is on trial. -/
def trialBegun (x : Device) (c i : Nat) : Device :=
  if slotSt (norOf x c) i == 3 then modNor x c fun f => { f with used := true } else x

/-- The image of slot i is refused. -/
def slotRefused (x : Device) (c i : Nat) : Device :=
  firmwareRefused (if slotSt (norOf x c) i == 3 then modNor (trialBegun x c i) c fun f => putSlotSt f i 6 else trialBegun x c i) c

theorem bootSelect_of_some {x : Device} {c i : Nat} (h : bootChoice (norOf x c) = some i) : bootSelect x c =
    if imageOk (trialBegun x c i) (slotImg (norOf (trialBegun x c i) c) i) then (trialBegun x c i, some i)
    else if 2 ≤ slotSt (norOf (slotRefused x c i) c) (1 - i) ∧
        imageOk (slotRefused x c i) (slotImg (norOf (slotRefused x c i) c) (1 - i)) then (slotRefused x c i, some (1 - i))
    else (firmwareRefused (slotRefused x c i) c, none) := by
  unfold slotRefused trialBegun
  rw [bootSelect, h]

theorem bootSelect_of_none {x : Device} {c : Nat} (h : bootChoice (norOf x c) = none) :
    bootSelect x c = (firmwareRefused x c, none) := by
  rw [bootSelect, h]

theorem bootSelect_cases (x : Device) (c : Nat) : (bootSelect x c).1 = firmwareRefused x c ∨
    ∃ i, (bootSelect x c).1 = trialBegun x c i ∨ (bootSelect x c).1 = slotRefused x c i ∨
      (bootSelect x c).1 = firmwareRefused (slotRefused x c i) c := by
  cases h : bootChoice (norOf x c) with
  | none =>
    rw [bootSelect_of_none h]
    generalize firmwareRefused x c = w
    exact .inl rfl
  | some i =>
    rw [bootSelect_of_some h]
    refine .inr ⟨i, ?_⟩
    generalize slotRefused x c i = y
    generalize trialBegun x c i = z
    generalize firmwareRefused y c = w
    split
    · exact .inl rfl
    · split
      · exact .inr (.inl rfl)
      · exact .inr (.inr rfl)

theorem flashOnly_trialBegun (x : Device) (c i : Nat) : FlashOnly x (trialBegun x c i) c :=
  flashOnly_ite (flashOnly_modNor x c _) (FlashOnly.refl x c)

theorem flashOnly_slotRefused (x : Device) {c : Nat} (hc : c < 2) (i : Nat) : FlashOnly x (slotRefused x c i) c :=
  ((flashOnly_trialBegun x c i).trans (flashOnly_ite (flashOnly_modNor _ c _) (FlashOnly.refl _ c))).trans
    (flashOnly_firmwareRefused _ hc)

theorem flashOnly_bootSelect (x : Device) {c : Nat} (hc : c < 2) : FlashOnly x (bootSelect x c).1 c := by
  obtain h | ⟨i, h | h | h⟩ := bootSelect_cases x c
  · exact h ▸ flashOnly_firmwareRefused x hc
  · exact h ▸ flashOnly_trialBegun x c i
  · exact h ▸ flashOnly_slotRefused x hc i
  · exact h ▸ (flashOnly_slotRefused x hc i).trans (flashOnly_firmwareRefused _ hc)

/-- Die c in a role, its image retained. -/
def retired (x : Device) (c role : Nat) : Device := setRole (retain x c) c role

theorem goCold_eq (x : Device) (c : Nat) : goCold x c = retired x c 4 := rfl
theorem goSuspect_eq (x : Device) (c : Nat) : goSuspect x c = retired x c 8 := rfl

/-- What a die that goes cold or suspect is like, and what it leaves alone. -/
structure Retired (x y : Device) (c role : Nat) : Prop where
  only : OnlyDie x y c
  ctl  : ∃ f r, ctlAt y c = { ctlAt x c with flash := f, mirrored := [], retained := r, role := role }
  talk : Talk x y

theorem retired_reads (x : Device) {c : Nat} (hc : c < 2) (role : Nat) : Retired x (retired x c role) c role := by
  obtain ⟨only, ⟨f, hf⟩, talk⟩ := flashOnly_bootSelect x hc
  have eq : ∃ v w, retired x c role = setCtl (setCtl (bootSelect x c).1 c v) c w ∧
      ∃ r, w = { ctlAt (bootSelect x c).1 c with mirrored := [], retained := r, role := role } := by
    refine ⟨_, _, rfl, (bootSelect x c).2.map fun i => (i, slotImg (norOf (bootSelect x c).1 c) i), ?_⟩
    rw [retain, modCtl_eq, ctlAt_setCtl, if_pos rfl]
  obtain ⟨v, w, hy, r, hw⟩ := eq
  rw [hy]
  refine ⟨(only.trans (onlyDie_setCtl _ c v)).trans (onlyDie_setCtl _ c w), ⟨f, r, ?_⟩, (talk.trans (talk_setCtl _ c v)).trans (talk_setCtl _ c w)⟩
  rw [ctlAt_setCtl, if_pos rfl, hw, hf]

/-! ### The active die -/

theorem activeCtl_lt {d : Device} {a : Nat} (h : activeCtl d = some a) : a < 2 := by
  unfold activeCtl at h
  split at h
  · cases h; omega
  · split at h
    · cases h; omega
    · cases h

/-- What an active die's count of ticks or events brings: `activeCtl` looks at the dies alone. -/
theorem activeCtl_congr {x y : Device} (hc : y.ctls = x.ctls) (hp : y.pix = x.pix) : activeCtl y = activeCtl x := by
  have tokens : ∀ c, tokensOf y c = tokensOf x c := fun c => by simp only [tokensOf, pixUp, pixAt, hp]
  have same : ∀ c, isActive y c = isActive x c := fun c => by simp only [isActive, tokens, ctlUp, ctlAt, hc]
  simp only [activeCtl, same]

/-! ### The end of an election (R378) -/

/-- What the end of an election of die a changes: its own role, then the reports it delivers, then the other die. -/
def elected (x : Device) (a : Nat) : Device :=
  forEach (nowActive { x with sup := { x.sup with drillAt := x.mono } } a) (List.range 12) deliverTouches

theorem electionEnd_eq {x : Device} {a standby : Nat} (h : activeCtl x = some a) : electionEnd x standby =
    if ctlUp (elected x a) (otherCtl a) ∧ roleOf (elected x a) (otherCtl a) = 2 then
      (if standby = 4 then goCold (elected x a) (otherCtl a) else goSuspect (elected x a) (otherCtl a))
    else elected x a := by
  rw [electionEnd, h]
  rfl

/-- The parts that the end of an election changes. -/
def electionParts : List Part := .ctls :: .tracks :: pushParts

theorem nowActive_reads (x : Device) (a : Nat) :
    ctlAt (nowActive x a) a = { ctlAt x a with
      role := 3, bootAt := x.mono, takeover := none, minority := none, lost := false,
      slot0 := { CkptSlot.reset with st := 1 }, slot1 := { CkptSlot.reset with st := 1 } } ∧
    (∀ j, j ≠ a → ctlAt (nowActive x a) j = ctlAt x j) ∧ (nowActive x a).can.nmt = (if x.can.nmt = 0 then 3 else x.can.nmt) ∧
    (nowActive x a).rings = x.rings ∧ (nowActive x a).tracks = x.tracks ∧ Keeps [.ctls, .can, .sup] noReg x (nowActive x a) := by
  have eq : ∃ c s v, nowActive x a = setCtl { x with can := c, sup := s } a v ∧ c.nmt = (if x.can.nmt = 0 then 3 else x.can.nmt) ∧
      v = { ctlAt x a with
        role := 3, bootAt := x.mono, takeover := none, minority := none, lost := false,
        slot0 := { CkptSlot.reset with st := 1 }, slot1 := { CkptSlot.reset with st := 1 } } :=
    ⟨_, _, _, rfl, rfl, rfl⟩
  obtain ⟨c, s, v, eq, nmt, hv⟩ := eq
  rw [eq]
  refine ⟨by rw [ctlAt_setCtl, if_pos rfl, hv], fun j hj => by rw [ctlAt_setCtl, if_neg hj.symm]; rfl, nmt, rfl, rfl, ?_⟩
  exact ((keeps_can x c (by simp)).trans (keeps_sup { x with can := c } s (by simp))).trans (keeps_setCtl _ a v (by simp))

theorem keeps_deliverTouches (x : Device) (k : Nat) : Keeps electionParts pushReg x (deliverTouches x k) :=
  (deliverTouches_reads x k).2.2.mono (by decide) fun _ _ h => h

theorem deliverTouches_of_idle {x : Device} {k : Nat} (h : (trackAt x k).waiting = 0) : deliverTouches x k = x := by
  dsimp only [deliverTouches]
  rw [if_pos (.inl h)]

theorem forEach_of_idle {α : Type} (l : List α) (f : Device → α → Device) (x : Device) (h : ∀ a ∈ l, f x a = x) : forEach x l f = x := by
  induction l with
  | nil => rfl
  | cons a l ih =>
    rw [forEach_cons, h a List.mem_cons_self]
    exact ih fun b hb => h b (List.mem_cons_of_mem _ hb)

theorem elected_reads (x : Device) (a : Nat) :
    roleOf (elected x a) a = 3 ∧ (∀ j, j ≠ a → ctlAt (elected x a) j = ctlAt x j) ∧
    (elected x a).can.nmt = (if x.can.nmt = 0 then 3 else x.can.nmt) ∧
    ((∀ k, k < 12 → (trackAt x k).waiting = 0) → (elected x a).rings = x.rings) ∧ Keeps electionParts pushReg x (elected x a) := by
  have dated := keeps_sup (ps := electionParts) (rs := pushReg) x { x.sup with drillAt := x.mono } (by decide)
  obtain ⟨ctl, others, nmt, rings, tracks, active⟩ := nowActive_reads { x with sup := { x.sup with drillAt := x.mono } } a
  have loop : Keeps reportParts pushReg (nowActive { x with sup := { x.sup with drillAt := x.mono } } a) (elected x a) :=
    keeps_forEach _ _ (fun y k _ => (deliverTouches_reads y k).2.2) _
  have talk : Talk (nowActive { x with sup := { x.sup with drillAt := x.mono } } a) (elected x a) :=
    talk_forEach _ _ (fun y k _ => talk_deliverTouches y k) _
  refine ⟨by rw [roleOf, loop.ctlAt (by decide), ctl], fun j hj => ?_, talk.nmt.trans nmt, fun idle => ?_,
    (dated.trans (active.mono (by decide) fun _ _ h => h.elim)).trans (loop.mono (by decide) fun _ _ h => h)⟩
  · rw [loop.ctlAt (by decide), others j hj]
    rfl
  · rw [elected, forEach_of_idle _ _ _ fun k hk => deliverTouches_of_idle ?_, rings]
    rw [trackAt, tracks]
    exact idle k (List.mem_range.mp hk)

theorem electionEnd_reads {x : Device} {a : Nat} (h : activeCtl x = some a) (standby : Nat) :
    roleOf (electionEnd x standby) a = 3 ∧
    (ctlUp x (1 - a) = true → roleOf x (1 - a) = 2 → roleOf (electionEnd x standby) (1 - a) = if standby = 4 then 4 else 8) ∧
    (electionEnd x standby).can.nmt = (if x.can.nmt = 0 then 3 else x.can.nmt) ∧
    ((∀ k, k < 12 → (trackAt x k).waiting = 0) → ringAt (electionEnd x standby) a = ringAt x a) ∧
    Keeps electionParts pushReg x (electionEnd x standby) := by
  have ha := activeCtl_lt h
  have apart : a ≠ 1 - a := by omega
  obtain ⟨role, others, nmt, rings, kept⟩ := elected_reads x a
  have other := others (1 - a) apart.symm
  have up' : ctlUp (elected x a) (1 - a) = ctlUp x (1 - a) := by rw [ctlUp, ctlUp, other]
  have role' : roleOf (elected x a) (1 - a) = roleOf x (1 - a) := by rw [roleOf, roleOf, other]
  rw [electionEnd_eq h, otherCtl, up', role']
  split
  · have choice : (if standby = 4 then goCold (elected x a) (1 - a) else goSuspect (elected x a) (1 - a)) =
        retired (elected x a) (1 - a) (if standby = 4 then 4 else 8) := by
      split <;> rfl
    rw [choice]
    obtain ⟨only, ⟨f, r, ctl⟩, talk⟩ := retired_reads (elected x a) (c := 1 - a) (by omega) (if standby = 4 then 4 else 8)
    generalize retired (elected x a) (1 - a) (if standby = 4 then 4 else 8) = y at *
    refine ⟨?_, fun _ _ => by rw [roleOf, ctl], talk.nmt.trans nmt, fun idle => ?_,
      kept.trans (only.kept.mono (by decide) fun _ _ h => .inl h)⟩
    · rw [roleOf, only.ctls a apart]
      exact role
    · rw [only.rings a apart, ringAt, rings idle, ringAt]
  · next no => exact ⟨role, fun up two => absurd ⟨up, two⟩ no, nmt, fun idle => by rw [ringAt, rings idle, ringAt], kept⟩

/-! ### Digests (R377 to R379) -/

theorem shadowDigestOp_of_match {d : Device} (h0 : d.cmp.kind ≠ 0) (h6 : d.cmp.kind ≠ 6) (hd : d.cmp.digest ≠ [])
    (path : peerPath d = true) (intime : d.mono ≤ d.cmp.formedAt + 2000000) :
    shadowDigestOp d d.cmp.digest = { d with cmp := { d.cmp with matched := d.cmp.matched + 1, digest := [] } } := by
  simp [shadowDigestOp, h0, h6, hd, path, intime]

theorem shadowDigestOp_of_mismatch {d : Device} {dg : List Byte} (h0 : d.cmp.kind ≠ 0) (h6 : d.cmp.kind ≠ 6) (hd : d.cmp.digest ≠ [])
    (path : peerPath d = true) (h : dg ≠ d.cmp.digest ∨ d.cmp.formedAt + 2000000 < d.mono) : shadowDigestOp d dg = mismatchOp d := by
  have no : ¬ (dg = d.cmp.digest ∧ d.mono ≤ d.cmp.formedAt + 2000000) := fun ⟨same, intime⟩ => h.elim (· same) (by omega)
  simp only [shadowDigestOp, h0, h6, hd, path, no, Bool.not_true, Bool.false_eq_true, or_self, if_false]

theorem digestLateOp_of_late {d : Device} (h0 : d.cmp.kind ≠ 0) (h6 : d.cmp.kind ≠ 6) (hd : d.cmp.digest ≠ [])
    (late : d.cmp.formedAt + 2000000 ≤ d.mono) : digestLateOp d = mismatchOp d := by
  simp only [digestLateOp, h0, h6, hd, Nat.not_lt.mpr late, or_self, if_false]

theorem digestLateOp_of_idle {d : Device} (h : d.cmp.digest = [] ∨ d.mono < d.cmp.formedAt + 2000000) : digestLateOp d = d :=
  if_pos (h.elim (fun a => .inr (.inr (.inl a))) fun b => .inr (.inr (.inr b)))

/-- A comparison has ended badly: no handover comes of it. -/
def noHandover (d : Device) : Device := { d with sup := { d.sup with handover := false } }

/-- A comparison of `d` has ended, as RedDrillState and its kin show. -/
def compared (d : Device) (shown : Nat) : Device := { d with cmp := { CompareUnit.reset with shown := shown, matched := d.cmp.matched } }

theorem keeps_noHandover (d : Device) : Keeps [.sup] noReg d (noHandover d) := keeps_sup d _ (by simp)
theorem keeps_compared (d : Device) (shown : Nat) : Keeps [.cmp] noReg d (compared d shown) := keeps_cmp d _ (by simp)

/-- A drill ends with the standby in a role, a result, and an event of the active die. -/
def drillEnded (x : Device) (a role result code : Nat) : Device := raise (drillResult (retired x (1 - a) role) result) a code 0x2300

/-- Registers that the end of a drill writes. -/
def drillReg : Nat → Nat → Prop := fun x i => eventReg x i ∨ (x = 0x2300 ∧ (i = 8 ∨ i = 9))

theorem keeps_drillResult (x : Device) (code : Nat) : Keeps [] (fun i s => i = 0x2300 ∧ (s = 8 ∨ s = 9)) x (drillResult x code) :=
  (keeps_setN x _ _ _ (by decide) ⟨rfl, .inl rfl⟩).trans (keeps_setN _ _ _ _ (by decide) ⟨rfl, .inr rfl⟩)

theorem regN_drillResult (x : Device) (code : Nat) : regN (drillResult x code) 0x2300 8 = code := by
  simp [drillResult]

/-- What the end of a drill leaves. -/
structure DrillEnded (x e : Device) (a role result : Nat) : Prop where
  result : regN e 0x2300 8 = result
  other  : ∃ f r, ctlAt e (1 - a) = { ctlAt x (1 - a) with flash := f, mirrored := [], retained := r, role := role }
  own    : ctlAt e a = ctlAt x a
  kept   : Keeps (.ctls :: eventParts) drillReg x e

theorem drillEnded_reads (x : Device) {a : Nat} (ha : a < 2) (role result code : Nat) :
    DrillEnded x (drillEnded x a role result code) a role result ∧ Noted x (drillEnded x a role result code) a code 0x2300 ∧
    (2 ≤ sevOf code → Recorded x (drillEnded x a role result code) a code 0x2300) := by
  obtain ⟨only, ⟨f, r, ctl⟩, -⟩ := retired_reads x (c := 1 - a) (by omega) role
  have shown := keeps_drillResult (retired x (1 - a) role) result
  have raised := keeps_raise (ps := eventParts) (rs := eventReg) (drillResult (retired x (1 - a) role) result) a code 0x2300 (by omega)
    (fun _ h => h) fun _ _ h => h
  have ring : ringAt (drillResult (retired x (1 - a) role) result) a = ringAt x a :=
    (shown.ringAt (by simp) a).trans (only.rings a (by omega))
  have notes : regT (drillResult (retired x (1 - a) role) result) (0x2600 + a) 8 = regT x (0x2600 + a) 8 :=
    (shown.regT (by decide) (by omega)).trans (only.kept.regT (by decide) (by simp [eventReg]))
  refine ⟨⟨?_, ⟨f, r, ?_⟩, ?_, ?_⟩, noted_raise_of ring notes code 0x2300, fun hs => recorded_raise_of ring 0x2300 hs⟩
  · exact (raised.regN (by decide) (by simp [eventReg])).trans (regN_drillResult _ _)
  · exact ((raised.ctlAt (by decide) _).trans (shown.ctlAt (by simp) _)).trans ctl
  · exact ((raised.ctlAt (by decide) _).trans (shown.ctlAt (by simp) _)).trans (only.ctls a (by omega))
  · exact ((only.kept.mono (by decide) fun _ _ h => .inl h).trans (shown.mono (by simp) fun _ _ h => .inr h)).trans
      (raised.mono (by decide) fun _ _ h => .inl h)

theorem mismatchOp_of_drill {d : Device} {a : Nat} (ha : activeCtl d = some a) (hk : d.cmp.kind = 2) : mismatchOp d =
    drillEnded (setCtl (compared (noHandover d) 4) (1 - a) { ctlAt d (1 - a) with mismatch := true }) a 8 2 75 := by
  have marked : modCtl (endCompare (noHandover d) 4) (otherCtl a) (fun x => { x with mismatch := true }) =
      setCtl (compared (noHandover d) 4) (1 - a) { ctlAt d (1 - a) with mismatch := true } := rfl
  rw [mismatchOp, ha, ← marked]
  simp only [hk, show ¬ (2 = 1) by decide, if_false, if_true]
  simp only [drillEnded, ← goSuspect_eq, noHandover, otherCtl]

theorem mismatchOp_of_retry {d : Device} {a : Nat} (ha : activeCtl d = some a) (hk : d.cmp.kind = 1) (hf : d.cmp.failed < 2) :
    mismatchOp d = { noHandover d with cmp := { CompareUnit.reset with kind := 1, shown := 2, failed := d.cmp.failed + 1 } } := by
  simp only [mismatchOp, ha, hk, if_true]
  rw [if_neg (by omega)]
  rfl

/-- An election that three digests have failed. -/
def electionFailed (d : Device) (a : Nat) : Device := raise (compared (electionEnd (noHandover d) 8) 4) a 73 0x2300

theorem mismatchOp_of_failed {d : Device} {a : Nat} (ha : activeCtl d = some a) (hk : d.cmp.kind = 1) (hf : 2 ≤ d.cmp.failed) :
    mismatchOp d = setCtl (electionFailed d a) (1 - a) { ctlAt (electionFailed d a) (1 - a) with mismatch := true } := by
  simp only [mismatchOp, ha, hk, if_true]
  rw [if_pos (by omega)]
  rfl

theorem comparePassOp_of_election {d : Device} {a : Nat} (ha : activeCtl d = some a) (hk : d.cmp.kind = 1) (hm : 60 ≤ d.cmp.matched)
    (hh : d.sup.handover = false) : comparePassOp d = electionEnd (compared d 3) 4 := by
  have enough : ¬ d.cmp.matched < cmpLength 1 := by simpa [cmpLength] using hm
  simp [comparePassOp, ha, hk, hh, enough]
  rfl

theorem comparePassOp_of_drill {d : Device} {a : Nat} (ha : activeCtl d = some a) (hk : d.cmp.kind = 2) (hm : 600 ≤ d.cmp.matched)
    (hh : d.sup.handover = false) : comparePassOp d = drillEnded (compared d 3) a 4 1 74 := by
  have enough : ¬ d.cmp.matched < cmpLength 2 := by simpa [cmpLength] using hm
  simp [comparePassOp, ha, hk, hh, enough]
  rfl

theorem drillIntervalOp_of_due {d : Device} {a o : Nat} (hs : regN d 0x2300 7 ≠ 0) (ha : activeCtl d = some a)
    (due : d.sup.drillAt + regN d 0x2300 7 * 10 ^ 9 ≤ d.mono) (ho : standbyIn d [4] = some o) :
    drillIntervalOp d = { d with sup := { d.sup with drillDue := true } } := by
  rw [drillIntervalOp]
  exact if_pos ⟨hs, by rw [ha]; rfl, due, by rw [ho]; rfl⟩

/-- The supervisor no longer suspects die c. -/
def unsuspected (d : Device) (c : Nat) : Device := { d with sup := { d.sup with suspects := d.sup.suspects.filter (· != c) } }

theorem holdoffEndOp_of_over {d : Device} {c a : Nat} (up : ctlUp d c = true) (role : roleOf d c = 6)
    (late : (ctlAt d c).bootAt + regN d 0x2300 0x0A * 10 ^ 9 ≤ d.mono) (idle : d.cmp.kind = 0) (ha : activeCtl d = some a) :
    holdoffEndOp d c = if d.sup.suspects.contains c then retired (unsuspected d c) c 8
      else { setCtl d c { ctlAt d c with role := 7 } with cmp := { CompareUnit.reset with kind := 3, shown := 2 } } := by
  have role' : (ctlAt d c).role = 6 := role
  simp only [holdoffEndOp, up, role', idle, ha, Bool.not_true, bne_self_eq_false, Nat.not_lt.mpr late, decide_false, Option.isNone_some,
    Bool.or_self, Bool.false_eq_true, if_false]
  rfl

theorem electionFailed_reads {d : Device} {a : Nat} (ha : activeCtl d = some a) :
    (electionFailed d a).cmp.kind = 0 ∧ roleOf (electionFailed d a) a = 3 ∧
    (ctlUp d (1 - a) = true → roleOf d (1 - a) = 2 → roleOf (electionFailed d a) (1 - a) = 8) ∧
    ((∀ k, k < 12 → (trackAt d k).waiting = 0) → Recorded d (electionFailed d a) a 73 0x2300) ∧
    Keeps (.cmp :: electionParts) pushReg d (electionFailed d a) := by
  have lt := activeCtl_lt ha
  obtain ⟨role, other, -, ring, kept⟩ := electionEnd_reads (x := noHandover d) (a := a)
    ((activeCtl_congr rfl rfl).trans ha) 8
  have shown := keeps_compared (electionEnd (noHandover d) 8) 4
  have raised := keeps_raise (ps := eventParts) (rs := eventReg) (compared (electionEnd (noHandover d) 8) 4) a 73 0x2300 (by omega)
    (fun _ h => h) fun _ _ h => h
  have recorded : (∀ k, k < 12 → (trackAt d k).waiting = 0) → Recorded d (electionFailed d a) a 73 0x2300 := fun idle =>
    recorded_raise_of (code := 73) ((shown.ringAt (by simp) a).trans (ring idle)) 0x2300 (by decide)
  refine ⟨by rw [electionFailed, raised.cmp_eq (by decide)]; rfl, ?_, fun up two => ?_, recorded, ?_⟩
  · rw [roleOf, electionFailed, raised.ctlAt (by decide), shown.ctlAt (by simp)]
    exact role
  · rw [roleOf, electionFailed, raised.ctlAt (by decide), shown.ctlAt (by simp)]
    exact other up two
  · exact (((keeps_noHandover d).mono (by decide) fun _ _ h => h.elim).trans (kept.mono (by decide) fun _ _ h => h)).trans
      ((shown.mono (by decide) fun _ _ h => h.elim).trans (raised.mono (by decide) fun _ _ h => .inl h))

theorem drillFailed_reads {d : Device} {a : Nat} (ha : activeCtl d = some a) (hk : d.cmp.kind = 2) :
    (mismatchOp d).cmp.kind = 0 ∧ (mismatchOp d).cmp.shown = 4 ∧ regN (mismatchOp d) 0x2300 8 = 2 ∧ roleOf (mismatchOp d) (1 - a) = 8 ∧
    (ctlAt (mismatchOp d) (1 - a)).mismatch = true ∧ (ctlAt (mismatchOp d) (1 - a)).mirrored = [] ∧
    ctlAt (mismatchOp d) a = ctlAt d a ∧ Recorded d (mismatchOp d) a 75 0x2300 ∧
    Keeps (.ctls :: .cmp :: eventParts) drillReg d (mismatchOp d) := by
  have lt := activeCtl_lt ha
  have base : Keeps [.ctls, .sup, .cmp] noReg d
      (setCtl (compared (noHandover d) 4) (1 - a) { ctlAt d (1 - a) with mismatch := true }) :=
    (((keeps_noHandover d).mono (by simp) fun _ _ h => h).trans ((keeps_compared _ 4).mono (by simp) fun _ _ h => h)).trans
      (keeps_setCtl _ _ _ (by simp))
  have cmp : (setCtl (compared (noHandover d) 4) (1 - a) { ctlAt d (1 - a) with mismatch := true }).cmp =
      { CompareUnit.reset with shown := 4, matched := d.cmp.matched } := rfl
  have marked : ctlAt (setCtl (compared (noHandover d) 4) (1 - a) { ctlAt d (1 - a) with mismatch := true }) (1 - a) =
      { ctlAt d (1 - a) with mismatch := true } := by rw [ctlAt_setCtl, if_pos rfl]
  have own : ctlAt (setCtl (compared (noHandover d) 4) (1 - a) { ctlAt d (1 - a) with mismatch := true }) a = ctlAt d a := by
    rw [ctlAt_setCtl, if_neg (by omega)]
    rfl
  rw [mismatchOp_of_drill ha hk]
  generalize setCtl (compared (noHandover d) 4) (1 - a) { ctlAt d (1 - a) with mismatch := true } = x at *
  obtain ⟨⟨result, ⟨f, r, other⟩, same, kept⟩, -, recorded⟩ := drillEnded_reads x lt 8 2 75
  have recorded := recorded (by decide)
  generalize drillEnded x a 8 2 75 = e at *
  refine ⟨by rw [kept.cmp_eq (by decide), cmp]; rfl, by rw [kept.cmp_eq (by decide), cmp], result, by rw [roleOf, other],
    by rw [other, marked], by rw [other], same.trans own, recorded_of_keeps base (by simp) recorded, ?_⟩
  exact (base.mono (by decide) fun _ _ h => h.elim).trans (kept.mono (by decide) fun _ _ h => h)

theorem drillPassed_reads {d : Device} {a : Nat} (ha : activeCtl d = some a) (hk : d.cmp.kind = 2) (hm : 600 ≤ d.cmp.matched)
    (hh : d.sup.handover = false) :
    (comparePassOp d).cmp.kind = 0 ∧ (comparePassOp d).cmp.shown = 3 ∧ regN (comparePassOp d) 0x2300 8 = 1 ∧
    roleOf (comparePassOp d) (1 - a) = 4 ∧ (ctlAt (comparePassOp d) (1 - a)).mirrored = [] ∧ ctlAt (comparePassOp d) a = ctlAt d a ∧
    Noted d (comparePassOp d) a 74 0x2300 ∧ Keeps (.ctls :: .cmp :: eventParts) drillReg d (comparePassOp d) := by
  have base := keeps_compared d 3
  have cmp : (compared d 3).cmp = { CompareUnit.reset with shown := 3, matched := d.cmp.matched } := rfl
  rw [comparePassOp_of_drill ha hk hm hh]
  generalize compared d 3 = x at *
  obtain ⟨⟨result, ⟨f, r, other⟩, same, kept⟩, noted, -⟩ := drillEnded_reads x (activeCtl_lt ha) 4 1 74
  generalize drillEnded x a 4 1 74 = e at *
  refine ⟨by rw [kept.cmp_eq (by decide), cmp]; rfl, by rw [kept.cmp_eq (by decide), cmp], result, by rw [roleOf, other], by rw [other],
    same.trans (base.ctlAt (by simp) a), noted_of_keeps base (by simp) id noted, ?_⟩
  exact (base.mono (by decide) fun _ _ h => h.elim).trans (kept.mono (by decide) fun _ _ h => h)

theorem holdoffEndOp_reads {d : Device} {c a : Nat} (hc : c < 2) (up : ctlUp d c = true) (role : roleOf d c = 6)
    (late : (ctlAt d c).bootAt + regN d 0x2300 0x0A * 10 ^ 9 ≤ d.mono) (idle : d.cmp.kind = 0) (ha : activeCtl d = some a) :
    (if d.sup.suspects.contains c = true then
       roleOf (holdoffEndOp d c) c = 8 ∧ (holdoffEndOp d c).cmp = d.cmp ∧
       (holdoffEndOp d c).sup.suspects = d.sup.suspects.filter (· != c) ∧ (ctlAt (holdoffEndOp d c) c).mirrored = []
     else
       ctlAt (holdoffEndOp d c) c = { ctlAt d c with role := 7 } ∧
       (holdoffEndOp d c).cmp = { CompareUnit.reset with kind := 3, shown := 2 } ∧ (holdoffEndOp d c).sup = d.sup ∧
       (holdoffEndOp d c).rings = d.rings) ∧
    (∀ j, j ≠ c → ctlAt (holdoffEndOp d c) j = ctlAt d j) ∧ Keeps (.ctls :: .cmp :: eventParts) eventReg d (holdoffEndOp d c) := by
  rw [holdoffEndOp_of_over up role late idle ha]
  by_cases suspect : d.sup.suspects.contains c = true
  · rw [if_pos suspect, if_pos suspect]
    obtain ⟨only, ⟨f, r, ctl⟩, talk⟩ := retired_reads (unsuspected d c) hc 8
    obtain ⟨t, sup⟩ := talk.sup
    have cleared : Keeps [.sup] noReg d (unsuspected d c) := keeps_sup d _ (by simp)
    generalize retired (unsuspected d c) c 8 = e at *
    refine ⟨⟨by rw [roleOf, ctl], only.kept.cmp_eq (by decide), by rw [sup]; rfl, by rw [ctl]⟩, only.ctls, ?_⟩
    exact (cleared.mono (by decide) fun _ _ h => h.elim).trans (only.kept.mono (by decide) fun _ _ h => h)
  · rw [if_neg suspect, if_neg suspect]
    refine ⟨⟨?_, rfl, rfl, rfl⟩, fun j hj => ?_, ?_⟩
    · show ctlAt (setCtl d c { ctlAt d c with role := 7 }) c = _
      rw [ctlAt_setCtl, if_pos rfl]
    · show ctlAt (setCtl d c { ctlAt d c with role := 7 }) j = _
      rw [ctlAt_setCtl, if_neg hj.symm]
    · exact (keeps_setCtl d c _ (by simp)).trans (keeps_cmp (setCtl d c { ctlAt d c with role := 7 }) _ (by simp))

/-- Settles O43: each end of a comparison by what it does to the two dies. -/
theorem shadowsAreCompared : Obligations.ShadowsAreCompared := by
  refine ⟨?matched, ?drillFailed, ?retried, ?electionFailed, ?idle, ?electionPassed, ?drillPassed, ?drillDue, ?holdoff⟩
  case matched =>
    intro dt s d hd h0 h6 hdg path intime
    refine does_of_act (f := (shadowDigestOp · d.cmp.digest)) rfl hd ?_
    rw [shadowDigestOp_of_match h0 h6 hdg path intime]
    exact ⟨rfl, keeps_settled (keeps_cmp d _ (by simp))⟩
  case drillFailed =>
    intro dt s d dg a hd hk hdg h ha path
    refine does_of_act (f := (shadowDigestOp · dg)) rfl hd ?_
    rw [shadowDigestOp_of_mismatch (by omega) (by omega) hdg path h]
    obtain ⟨kind, shown, result, role, mismatch, mirrored, own, recorded, kept⟩ := drillFailed_reads ha hk
    generalize mismatchOp d = e at *
    exact ⟨kind, shown, (regN_settle _ _ _ (by decide)).trans result, role, mismatch, mirrored, own, recorded_settle.mpr recorded,
      keeps_settled kept⟩
  case retried =>
    intro dt s d a hd hk hdg ha hf late
    refine does_of_act (f := digestLateOp) rfl hd ?_
    rw [digestLateOp_of_late (by omega) (by omega) hdg late, mismatchOp_of_retry ha hk hf]
    exact ⟨rfl, rfl, keeps_settled (((keeps_noHandover d).mono (by simp) fun _ _ h => h).trans (keeps_cmp (noHandover d) _ (by simp)))⟩
  case electionFailed =>
    intro dt s d a hd hk hdg ha hf late
    have lt := activeCtl_lt ha
    refine does_of_act (f := digestLateOp) rfl hd ?_
    rw [digestLateOp_of_late (by omega) (by omega) hdg late, mismatchOp_of_failed ha hk hf]
    obtain ⟨kind, role, other, recorded, kept⟩ := electionFailed_reads ha
    generalize electionFailed d a = e at *
    refine ⟨kind, ?_, ?_, fun up two => ?_, recorded, ?_⟩
    · rw [roleOf, ctlAt_settle, ctlAt_setCtl, if_neg (by omega)]
      exact role
    · rw [ctlAt_settle, ctlAt_setCtl, if_pos rfl]
    · rw [roleOf, ctlAt_settle, ctlAt_setCtl, if_pos rfl]
      exact other up two
    · exact keeps_settled ((kept.mono (by decide) fun _ _ h => h).trans (keeps_setCtl _ _ _ (by decide)))
  case idle =>
    intro dt s d hd h
    refine does_of_act (f := digestLateOp) rfl hd ?_
    rw [digestLateOp_of_idle h]
    exact keeps_settled keeps_self
  case electionPassed =>
    intro dt s d a hd hk hm hh ha
    refine does_of_act (f := comparePassOp) rfl hd ?_
    rw [comparePassOp_of_election ha hk hm hh]
    obtain ⟨role, other, nmt, -, kept⟩ := electionEnd_reads (x := compared d 3) (a := a) ((activeCtl_congr rfl rfl).trans ha) 4
    have cmp : (electionEnd (compared d 3) 4).cmp = { CompareUnit.reset with shown := 3, matched := d.cmp.matched } :=
      kept.cmp_eq (by decide)
    have base := keeps_compared d 3
    generalize electionEnd (compared d 3) 4 = e at *
    refine ⟨congrArg CompareUnit.kind cmp, congrArg CompareUnit.shown cmp, role, other, nmt, keeps_settled ?_⟩
    exact (base.mono (by decide) fun _ _ h => h.elim).trans (kept.mono (by decide) fun _ _ h => h)
  case drillPassed =>
    intro dt s d a hd hk hm hh ha
    refine does_of_act (f := comparePassOp) rfl hd ?_
    obtain ⟨kind, shown, result, role, mirrored, own, noted, kept⟩ := drillPassed_reads ha hk hm hh
    generalize comparePassOp d = e at *
    exact ⟨kind, shown, (regN_settle _ _ _ (by decide)).trans result, role, mirrored, own, noted_settle.mpr noted, keeps_settled kept⟩
  case drillDue =>
    intro dt s d a o hd hs ha due ho
    refine does_of_act (f := drillIntervalOp) rfl hd ?_
    rw [drillIntervalOp_of_due hs ha due ho]
    exact ⟨rfl, keeps_settled (keeps_sup d _ (by simp))⟩
  case holdoff =>
    intro dt s d c a hd up role late idle ha
    refine does_of_act (f := (holdoffEndOp · c)) rfl hd ?_
    obtain ⟨ends, others, kept⟩ := holdoffEndOp_reads c.isLt up role late idle ha
    generalize holdoffEndOp d c = e at *
    exact ⟨ends, others, keeps_settled kept⟩

end Sys2Proof
end

section
/-! PROOFS. Checkpoints and audit records that are programmed, and the answers that wait for them (R323, R357, R361, R372 to R376). -/

namespace Sys2Proof
open Machine Safety

/-! ### What an event leaves of a session -/

theorem sessAt_setSess (x : Device) (k j : Nat) (v : Session) : sessAt (setSess x k v) j = if k = j then v else sessAt x j := by
  simp [sessAt, setSess]

theorem sessAt_of_sup {x y : Device} (h : y.sup = x.sup) (k : Nat) : sessAt y k = sessAt x k := by rw [sessAt, sessAt, h]

theorem sessAt_of_keeps {ps : List Part} {rs : Nat → Nat → Prop} {x y : Device} (h : Keeps ps rs x y) (hs : Part.sup ∉ ps) (k : Nat) :
    sessAt y k = sessAt x k := sessAt_of_sup (h.sup_eq hs) k

/-- `y` differs from `x` in its sessions by the events that wait for them. -/
def Heard (x y : Device) : Prop := ∀ k, ∃ ev, sessAt y k = { sessAt x k with events := ev }

theorem heard_of_sessAt {x y : Device} (h : ∀ k, sessAt y k = sessAt x k) : Heard x y := fun k => ⟨(sessAt x k).events, h k⟩

theorem Heard.refl (x : Device) : Heard x x := heard_of_sessAt fun _ => rfl

theorem Heard.trans {x y z : Device} (h : Heard x y) (g : Heard y z) : Heard x z := fun k => by
  obtain ⟨a, ha⟩ := h k
  obtain ⟨b, hb⟩ := g k
  exact ⟨b, by rw [hb, ha]⟩

theorem heard_bumpBy (x : Device) (i s n : Nat) (hs : s < 256) : Heard x (bumpBy x i s n) :=
  heard_of_sessAt (sessAt_of_keeps (keeps_bumpBy (ps := []) (rs := anyReg) x i s n hs trivial) (by simp))

theorem heard_events (x : Device) (k : Nat) (ev : List EventRec) : Heard x (modSess x k fun s => { s with events := ev }) := fun j => by
  rw [modSess, sessAt_setSess]
  split
  · next h => exact ⟨ev, by rw [h]⟩
  · exact ⟨(sessAt x j).events, rfl⟩

theorem heard_queueEvent (x : Device) (k : Nat) (r : EventRec) : Heard x (queueEvent x k r) := by
  rw [queueEvent]
  split
  · exact (heard_events x k _).trans (heard_bumpBy _ _ _ _ (by decide))
  · exact heard_events x k _

theorem heard_deliverEvent (x : Device) (r : EventRec) (src : Option Nat) : Heard x (deliverEvent x r src) := by
  rw [deliverEvent]
  generalize List.range 8 = l
  induction l generalizing x with
  | nil => exact Heard.refl x
  | cons k l ih =>
    refine Heard.trans ?_ (ih _)
    dsimp only
    split
    · exact heard_queueEvent x k r
    · exact Heard.refl x

theorem sup_emcyRecord (x : Device) (r : EventRec) : (emcyRecord x r).sup = x.sup := by
  rw [emcyRecord]
  split
  · rfl
  · split
    · rfl
    · split
      · exact (keeps_emcySend x r).sup_eq (by simp)
      · rfl

theorem sup_emcyCheck (x : Device) : (emcyCheck x).sup = x.sup := by
  dsimp only [emcyCheck]
  split
  · exact (keeps_sendCan (ps := [.tx]) (rs := noReg) _ _ _ (by simp)).sup_eq (by simp)
  · rfl

theorem heard_raiseFull (x : Device) (k code sev unit count : Nat) (detail : List Nat) (src : Option Nat) :
    Heard x (raiseFull x k code sev unit count detail src) := by
  have lost : ∀ (b : Bool) (y : Device), Heard y (if b = true then bump y (0x2600 + k) 4 else y) := fun b y => by
    split
    · exact heard_bumpBy _ _ _ _ (by decide)
    · exact Heard.refl y
  have ringed : ∀ (y : Device) (g : Ring), Heard y (setRing y k g) := fun y g => heard_of_sessAt fun _ => rfl
  have emcy : ∀ (y : Device) (r : EventRec), Heard y (emcyCheck (emcyRecord y r)) := fun y r =>
    heard_of_sessAt (sessAt_of_sup ((sup_emcyCheck _).trans (sup_emcyRecord y r)))
  exact ((((ringed x _).trans (heard_bumpBy _ _ _ _ (by decide))).trans (lost _ _)).trans (heard_deliverEvent _ _ _)).trans (emcy _ _)

theorem heard_raiseD (x : Device) (k code unit : Nat) (detail : List Nat) : Heard x (raiseD x k code unit detail) :=
  heard_raiseFull x k code _ unit 1 detail none

theorem heard_raise (x : Device) (k code unit : Nat) : Heard x (raise x k code unit) := heard_raiseD x k code unit []

theorem heard_auditAdd (x : Device) (kind session roles target : Nat) (detail : List Byte) :
    Heard x (auditAdd x kind session roles target detail) := by
  have push : ∀ (y : Device) (kind session roles target : Nat) (detail : List Byte),
      Heard y (auditPush y kind session roles target detail) := fun y _ _ _ _ _ => heard_of_sessAt fun _ => rfl
  have dropped : ∀ (y : Device) (l : List AuditRec), Heard y { y with audit := l } := fun y l => heard_of_sessAt fun _ => rfl
  have pushed := push x kind session roles target detail
  dsimp only [auditAdd]
  split
  · exact pushed
  · split
    · exact ((pushed.trans (dropped _ _)).trans (push _ _ _ _ _ _)).trans (heard_raise _ _ _ _)
    · exact ((pushed.trans (dropped _ _)).trans (push _ _ _ _ _ _)).trans (heard_raise _ _ _ _)

/-! ### Answers that wait -/

/-- Of the answers of `y` none waits that did not wait in `x`; a session that `x` holds stays so, or has no answer that waits. -/
structure Fewer (x y : Device) : Prop where
  unsent : ∀ k, ∀ a ∈ (sessAt y k).answers, a.sent = false → a ∈ (sessAt x k).answers
  stays  : ∀ k, sessOpen x k = true → sessOpen y k = true ∨ ∀ a ∈ (sessAt y k).answers, a.sent = true

theorem Fewer.refl (x : Device) : Fewer x x := ⟨fun _ _ ha _ => ha, fun _ h => .inl h⟩

theorem Fewer.trans {x y z : Device} (h : Fewer x y) (g : Fewer y z) : Fewer x z where
  unsent k a ha hw := h.unsent k a (g.unsent k a ha hw) hw
  stays k hk := by
    rcases h.stays k hk with hy | hy
    · exact g.stays k hy
    · refine .inr fun a ha => ?_
      refine Classical.byContradiction fun hw => ?_
      exact hw (hy a (g.unsent k a ha (by simpa using hw)))

theorem fewer_of_heard {x y : Device} (h : Heard x y) : Fewer x y where
  unsent k a ha _ := by
    obtain ⟨ev, he⟩ := h k
    rwa [he] at ha
  stays k hk := by
    obtain ⟨ev, he⟩ := h k
    exact .inl (by rw [sessOpen, he]; exact hk)

theorem fewer_of_sup {x y : Device} (h : y.sup = x.sup) : Fewer x y := fewer_of_heard (heard_of_sessAt (sessAt_of_sup h))

theorem fewer_send (x : Device) (port kind to_ : Nat) (b : List Byte) : Fewer x (send x port kind to_ b) :=
  fewer_of_sup ((keeps_send (ps := [.tx]) (rs := noReg) x port kind to_ b (by simp)).sup_eq (by simp))

theorem fewer_setSess (x : Device) (k : Nat) (v : Session) (hu : ∀ a ∈ v.answers, a.sent = false → a ∈ (sessAt x k).answers)
    (hs : v.state = (sessAt x k).state ∨ v.answers = []) : Fewer x (setSess x k v) where
  unsent j a ha hw := by
    rw [sessAt_setSess] at ha
    split at ha
    · next h => exact h ▸ hu a ha hw
    · exact ha
  stays j hj := by
    simp only [sessOpen, sessAt_setSess] at hj ⊢
    split
    · next h =>
      subst h
      rcases hs with hs | hs
      · exact .inl (hs ▸ hj)
      · exact .inr (by simp [hs])
    · exact .inl hj

theorem fewer_forEach {α : Type} (l : List α) (f : Device → α → Device) (h : ∀ x, ∀ a ∈ l, Fewer x (f x a)) (x : Device) :
    Fewer x (forEach x l f) := by
  induction l generalizing x with
  | nil => exact Fewer.refl x
  | cons a l ih => exact (h x a List.mem_cons_self).trans (ih (fun y b hb => h y b (List.mem_cons_of_mem _ hb)) _)

theorem sessAt_setN (x : Device) (i s n k : Nat) : sessAt (setN x i s n) k = sessAt x k := rfl

theorem fewer_closeSession (x : Device) (k reason : Nat) : Fewer x (closeSession x k reason) := by
  have set : ∀ (y : Device) (i s n : Nat), Fewer y (setN y i s n) := fun y i s n => fewer_of_heard (heard_of_sessAt (sessAt_setN y i s n))
  have owners : ∀ (y : Device) (l : Table LayerUnit), Fewer y { y with layers := l } := fun y l => fewer_of_sup rfl
  unfold closeSession
  split
  · exact Fewer.refl x
  · exact (((((fewer_of_heard (heard_auditAdd x _ _ _ _ _)).trans (owners _ _)).trans (set _ _ _ _)).trans (set _ _ _ _)).trans
      (fewer_setSess _ k _ (by simp [Session.reset]) (.inr rfl))).trans ((set _ _ _ _).trans (fewer_of_heard (heard_raiseD _ _ _ _ _)))

theorem fewer_dxpMessage (x : Device) (k port kind op sub idx status : Nat) (payload : List Byte) :
    Fewer x (dxpMessage x k port kind op sub idx status payload) := by
  unfold dxpMessage
  split
  · exact Fewer.refl x
  · have sent := (fewer_setSess x k { sessAt x k with counter := (sessAt x k).counter + 1 } (fun _ ha _ => ha) (.inl rfl)).trans
      (fewer_send _ port kind k (dxpSealed (sessAt x k).keys
        (dxpHeader k ((sessAt x k).counter + 1) op sub idx payload.length status) ((sessAt x k).counter + 1) payload))
    dsimp only
    split
    · exact sent.trans (fewer_closeSession _ k 4)
    · exact sent

theorem fewer_sendAnswer (x : Device) (k : Nat) (a : Answer) : Fewer x (sendAnswer x k a) := by
  have marked : Fewer x (modSess x k fun s => { s with answers := s.answers.map fun b => if b.seq = a.seq then { b with sent := true } else b }) := by
    refine fewer_setSess x k _ (fun b hb hw => ?_) (.inl rfl)
    obtain ⟨c, hc, rfl⟩ := List.mem_map.mp hb
    split at hw
    · cases hw
    · next h => rwa [if_neg h]
  have told := marked.trans (fewer_dxpMessage _ k a.port 1 (0x80 + a.op) a.sub a.idx a.status (beBytes 4 a.seq ++ a.payload))
  dsimp only [sendAnswer]
  split
  · exact told.trans (fewer_closeSession _ k 1)
  · split
    · exact told.trans (fewer_closeSession _ k 4)
    · exact told

theorem fewer_sendReady (x : Device) (k : Nat) : Fewer x (sendReady x k) := by
  refine fewer_forEach _ _ (fun y a _ => ?_) x
  split
  · exact fewer_sendAnswer y k a
  · exact Fewer.refl y

/-! ### Answers that are released -/

/-- The answers of session k, those that wait changed by f. -/
def changedAnswers (x : Device) (k : Nat) (f : Nat → Answer → Answer) : Device :=
  modSess x k fun s => { s with answers := s.answers.map fun a => if a.sent then a else f k a }

theorem releaseAnswers_eq (x : Device) (f : Nat → Answer → Answer) : releaseAnswers x f = forEach x (List.range 8) fun y k =>
    if sessOpen y k ∧ (sessAt y k).answers.any (fun a => !a.sent) then sendReady (changedAnswers y k f) k else y := rfl

theorem answers_changedAnswers (x : Device) (k : Nat) (f : Nat → Answer → Answer) :
    (sessAt (changedAnswers x k f) k).answers = (sessAt x k).answers.map fun a => if a.sent then a else f k a := by
  simp [changedAnswers, modSess, sessAt_setSess]

theorem sessAt_changedAnswers_of_ne (x : Device) {k j : Nat} (f : Nat → Answer → Answer) (h : k ≠ j) :
    sessAt (changedAnswers x k f) j = sessAt x j := by
  simp [changedAnswers, modSess, sessAt_setSess, h]

section
variable {ps : List Part} {rs : Nat → Nat → Prop}

theorem keeps_sendAnswer (x : Device) {k : Nat} (hk : k < 8) (a : Answer) (h : PushIn ps) (hr : ∀ i s, pushReg i s → rs i s) :
    Keeps ps rs x (sendAnswer x k a) := by
  have told := (keeps_setSess (ps := ps) (rs := rs) x k
      { sessAt x k with answers := (sessAt x k).answers.map fun b => if b.seq = a.seq then { b with sent := true } else b } h.sup).trans
    (keeps_dxpMessage _ hk a.port 1 (0x80 + a.op) a.sub a.idx a.status (beBytes 4 a.seq ++ a.payload) h hr)
  dsimp only [sendAnswer]
  split
  · exact told.trans (keeps_closeSession _ hk 1 h hr)
  · split
    · exact told.trans (keeps_closeSession _ hk 4 h hr)
    · exact told

theorem keeps_sendReady (x : Device) {k : Nat} (hk : k < 8) (h : PushIn ps) (hr : ∀ i s, pushReg i s → rs i s) :
    Keeps ps rs x (sendReady x k) := by
  refine keeps_forEach _ _ (fun y a _ => ?_) x
  split
  · exact keeps_sendAnswer y hk a h hr
  · exact keeps_self

theorem keeps_releaseAnswers (x : Device) (f : Nat → Answer → Answer) (h : PushIn ps) (hr : ∀ i s, pushReg i s → rs i s) :
    Keeps ps rs x (releaseAnswers x f) := by
  rw [releaseAnswers_eq]
  refine keeps_forEach _ _ (fun y k hk => ?_) x
  split
  · exact (keeps_setSess y k _ h.sup).trans (keeps_sendReady _ (List.mem_range.mp hk) h hr)
  · exact keeps_self
end

theorem talk_sendAnswer (x : Device) {k : Nat} (hk : k < 8) (a : Answer) : Talk x (sendAnswer x k a) := by
  have told := (talk_setSess x k
      { sessAt x k with answers := (sessAt x k).answers.map fun b => if b.seq = a.seq then { b with sent := true } else b }).trans
    (talk_dxpMessage _ hk a.port 1 (0x80 + a.op) a.sub a.idx a.status (beBytes 4 a.seq ++ a.payload))
  dsimp only [sendAnswer]
  split
  · exact told.trans (talk_closeSession _ hk 1)
  · split
    · exact told.trans (talk_closeSession _ hk 4)
    · exact told

theorem talk_releaseAnswers (x : Device) (f : Nat → Answer → Answer) : Talk x (releaseAnswers x f) := by
  rw [releaseAnswers_eq]
  refine talk_forEach _ _ (fun y k hk => ?_) x
  split
  · refine (talk_setSess y k _).trans (talk_forEach _ _ (fun z a _ => ?_) _)
    split
    · exact talk_sendAnswer z (List.mem_range.mp hk) a
    · exact Talk.refl z
  · exact Talk.refl y

/-! ### Answers that no longer wait for a record -/

/-- An answer of session k that waits, waits for a record after n. -/
def OwedAfter (n : Nat) (x : Device) (k : Nat) : Prop := ∀ a ∈ (sessAt x k).answers, a.sent = false → ∀ m, a.audit = some m → n < m

theorem OwedAfter.fewer {n : Nat} {x y : Device} {k : Nat} (h : OwedAfter n x k) (g : Fewer x y) : OwedAfter n y k :=
  fun a ha hw => h a (g.unsent k a ha hw) hw

/-- What the programming of record n makes of an answer that waits. -/
def recordKept (n : Nat) (a : Answer) : Answer := if a.audit.any (· ≤ n) then { a with audit := none } else a

theorem owedAfter_changedAnswers (x : Device) (k n : Nat) : OwedAfter n (changedAnswers x k fun _ => recordKept n) k := by
  intro b hb hw m hm
  rw [answers_changedAnswers] at hb
  obtain ⟨a, -, rfl⟩ := List.mem_map.mp hb
  cases hs : a.sent with
  | true => simp [hs] at hw
  | false =>
    simp only [hs, Bool.false_eq_true, if_false, recordKept] at hm
    split at hm
    · cases hm
    · next h =>
      rw [hm] at h
      simpa using h

/-- One session's step of a release: what else waits is as it was. -/
def releaseStep (f : Nat → Answer → Answer) (y : Device) (k : Nat) : Device :=
  if sessOpen y k ∧ (sessAt y k).answers.any (fun a => !a.sent) then sendReady (changedAnswers y k f) k else y

theorem releaseStep_other {f : Nat → Answer → Answer} {y : Device} {k j n : Nat} (h : k ≠ j) :
    (OwedAfter n y j → OwedAfter n (releaseStep f y k) j) ∧
    ((sessOpen y j = true ∨ ∀ a ∈ (sessAt y j).answers, a.sent = true) →
      sessOpen (releaseStep f y k) j = true ∨ ∀ a ∈ (sessAt (releaseStep f y k) j).answers, a.sent = true) := by
  have same := sessAt_changedAnswers_of_ne y f h
  have fewer := fewer_sendReady (changedAnswers y k f) k
  rw [releaseStep]
  split
  · refine ⟨fun hy => OwedAfter.fewer (x := changedAnswers y k f) ?_ fewer, fun hy => ?_⟩
    · rwa [OwedAfter, same]
    · rcases hy with hy | hy
      · exact fewer.stays j (by rwa [sessOpen, same])
      · refine .inr fun a ha => ?_
        refine Classical.byContradiction fun hw => ?_
        have ha' := fewer.unsent j a ha (by simpa using hw)
        rw [same] at ha'
        exact hw (hy a ha')
  · exact ⟨id, id⟩

theorem releaseStep_own {y : Device} {k n : Nat} (h : sessOpen y k = true ∨ ∀ a ∈ (sessAt y k).answers, a.sent = true) :
    OwedAfter n (releaseStep (fun _ => recordKept n) y k) k := by
  rw [releaseStep]
  split
  · exact (owedAfter_changedAnswers y k n).fewer (fewer_sendReady _ k)
  · next hn =>
    intro a ha hw
    have waits : (sessAt y k).answers.any (fun a => !a.sent) = true := List.any_eq_true.mpr ⟨a, ha, by simp [hw]⟩
    rcases h with h | h
    · exact absurd ⟨h, waits⟩ hn
    · rw [h a ha] at hw
      cases hw

theorem owedAfter_forEach {n k : Nat} (l : List Nat) (hk : k ∈ l) (x : Device)
    (h : sessOpen x k = true ∨ ∀ a ∈ (sessAt x k).answers, a.sent = true) (hl : l.Nodup) :
    OwedAfter n (forEach x l (releaseStep fun _ => recordKept n)) k := by
  have later : ∀ (l : List Nat) (y : Device), k ∉ l → OwedAfter n y k → OwedAfter n (forEach y l (releaseStep fun _ => recordKept n)) k := by
    intro l
    induction l with
    | nil => exact fun _ _ h => h
    | cons j l ih =>
      intro y hn hy
      exact ih _ (fun hm => hn (List.mem_cons_of_mem _ hm))
        ((releaseStep_other fun he : j = k => hn (he ▸ List.mem_cons_self)).1 hy)
  induction l generalizing x with
  | nil => cases hk
  | cons j l ih =>
    obtain ⟨hj, hl'⟩ := List.nodup_cons.mp hl
    by_cases he : j = k
    · subst he
      exact later l _ hj (releaseStep_own h)
    · exact ih ((List.mem_cons.mp hk).resolve_left fun h => he h.symm) _ ((releaseStep_other (n := n) he).2 h) hl'

theorem owedAfter_releaseAnswers {n k : Nat} (x : Device) (hk : k < 8) (h : sessOpen x k = true) :
    OwedAfter n (releaseAnswers x fun _ => recordKept n) k :=
  owedAfter_forEach (List.range 8) (List.mem_range.mpr hk) x (.inl h) List.nodup_range

/-! ### A commit of the checkpoint (R372 to R376) -/

theorem standbyIn_eq_some {d : Device} {l : List Nat} {o : Nat} (h : standbyIn d l = some o) : o < 2 := by
  unfold standbyIn at h
  split at h
  · cases h
  · next a ha =>
    split at h
    · obtain rfl := Option.some.inj h
      rw [otherCtl]
      omega
    · cases h

theorem spareSlot_lt (x : CtlDie) : spareSlot x < 2 := by
  rw [spareSlot]
  split <;> omega

theorem ckptAt_putCkpt (x : CtlDie) {i : Nat} (hi : i < 2) (s : CkptSlot) :
    ckptAt (putCkpt x i s) i = s ∧ ckptAt (putCkpt x i s) (1 - i) = ckptAt x (1 - i) := by
  rcases eq_of_lt_two hi with rfl | rfl <;> exact ⟨rfl, rfl⟩

/-- A denied access is reported, at most once a millisecond, and a report that is made is audited. -/
def denialTold (d : Device) (k master addr : Nat) (write : Bool) (entry : Option Nat) : Device :=
  let e := raiseLimited d k 55 0 master [master, word16 addr, if write then 2 else 1, entry.getD 0xFFFF] 1000000 none
  if (ringAt e k).last = (ringAt d k).last then e else auditDev e 12 0 (newestFormed e k)

theorem ruleDenied_eq (d : Device) (k master addr : Nat) (write : Bool) (entry : Option Nat) :
    ruleDenied d k master addr write entry =
      denialTold (match entry with | some e => bump d (0x2400 + e) 8 | none => d) k master addr write entry := rfl

theorem keeps_ruleDenied {ps : List Part} {rs : Nat → Nat → Prop} (d : Device) {k : Nat} (hk : k < 8) (master addr : Nat) (write : Bool)
    (entry : Option Nat) (hl : Part.limits ∈ ps) (h : AuditIn ps) (hr : ∀ i s, eventReg i s → rs i s) (h24 : ∀ i, 0x2400 ≤ i → rs i 8) :
    Keeps ps rs d (ruleDenied d k master addr write entry) := by
  have told : ∀ x, Keeps ps rs x (denialTold x k master addr write entry) := fun x => by
    have reported := keeps_raiseLimited (rs := rs) x k 55 0 master [master, word16 addr, if write then 2 else 1, entry.getD 0xFFFF]
      1000000 none hk hl h.events hr
    dsimp only [denialTold]
    rw [keeps_ite]
    exact ⟨fun _ => reported, fun _ => reported.trans (keeps_auditAdd _ 12 0xFF 0 0 _ h hr)⟩
  rw [ruleDenied_eq]
  refine Keeps.trans ?_ (told _)
  split
  · exact keeps_bumpBy d _ _ _ (by decide) (h24 _ (by omega))
  · exact keeps_self

theorem keeps_accessDenied {ps : List Part} {rs : Nat → Nat → Prop} (d : Device) {k : Nat} (hk : k < 8) (master : Nat) (write : Bool)
    (hl : Part.limits ∈ ps) (h : AuditIn ps) (hr : ∀ i s, eventReg i s → rs i s) (h24 : ∀ i, 0x2400 ≤ i → rs i 8) :
    Keeps ps rs d (accessDenied d k master write) := keeps_ruleDenied d hk _ _ _ _ hl h hr h24

theorem checkpointOp_of_holding {d : Device} (h : ckptHolding d = true) : checkpointOp d = ckptStart d := by
  simp [checkpointOp, releaseUnheld, h]

theorem ckptStart_of_let {d : Device} {a o : Nat} (ha : activeCtl d = some a) (ho : standbyIn d ckptRoles = some o)
    (h : peerPath d = true ∧ barred d a 5 false = false ∧ barred d o 5 true = false) :
    ckptStart d = setCtl d o (putCkpt (ctlAt d o) (spareSlot (ctlAt d o)) (ckptCapture d a (regN d 0x2310 1 % 2 ^ 63 + 1))) := by
  obtain ⟨hp, hr, hw⟩ := h
  simp [ckptStart, ha, ho, hp, hr, hw, modCtl]

theorem keeps_ckptStart_of_barred {d : Device} {a o : Nat} (ha : activeCtl d = some a) (ho : standbyIn d ckptRoles = some o)
    (h : ¬ (peerPath d = true ∧ barred d a 5 false = false ∧ barred d o 5 true = false)) :
    Keeps (.limits :: auditParts) (fun x j => eventReg x j ∨ (0x2400 ≤ x ∧ j = 8)) d (ckptStart d) := by
  have denied : ∀ {k : Nat}, k < 8 → ∀ write, Keeps (.limits :: auditParts) (fun x j => eventReg x j ∨ (0x2400 ≤ x ∧ j = 8)) d
      (accessDenied d k 5 write) := fun hk write =>
    keeps_accessDenied d hk 5 write (by decide) ⟨by decide, by decide, by decide⟩ (fun _ _ h => .inl h) (fun _ h => .inr ⟨h, rfl⟩)
  have hal := activeCtl_lt ha
  have hol := standbyIn_eq_some ho
  simp only [ckptStart, ha, ho]
  split
  · exact keeps_self
  · next hp =>
    split
    · exact denied (by omega) false
    · next hr =>
      split
      · exact denied (by omega) true
      · next hw => exact absurd ⟨by simpa using hp, by simpa using hr, by simpa using hw⟩ h

/-! ### A commit that is complete -/

theorem ckptWriting_eq_some {d : Device} {o i : Nat} (h : ckptWriting d = some (o, i)) : o < 2 ∧ i < 2 := by
  unfold ckptWriting at h
  split at h
  · cases h
  · next c hc =>
    have hcl := standbyIn_eq_some hc
    split at h
    · cases h
    · split at h
      · obtain ⟨rfl, rfl⟩ := Prod.mk.inj (Option.some.inj h)
        exact ⟨hcl, by decide⟩
      · split at h
        · obtain ⟨rfl, rfl⟩ := Prod.mk.inj (Option.some.inj h)
          exact ⟨hcl, by decide⟩
        · cases h

/-- Slot i of standby o once its commit record is written. -/
def committedSlot (d : Device) (o i : Nat) : CkptSlot :=
  { ckptAt (ctlAt d o) i with st := 3, record := commitRecord i (ckptAt (ctlAt d o) i) }

/-- The flash of standby o with the log as slot i carries it. -/
def loggedFlash (d : Device) (o n : Nat) : Flash := { norOf d o with log := d.audit.filter fun r => decide (r.num ≤ n) }

/-- Standby o once slot i is valid. -/
def committedCtl (d : Device) (o i : Nat) : CtlDie :=
  putCkpt { ctlAt d o with flash := loggedFlash d o (ckptAt (ctlAt d o) i).auditHead } i (committedSlot d o i)

theorem logProgram_eq (d : Device) (c n : Nat) : logProgram d c n = setCtl d c { ctlAt d c with flash := loggedFlash d c n } := rfl

theorem flash_putCkpt (x : CtlDie) (i : Nat) (s : CkptSlot) : (putCkpt x i s).flash = x.flash := by
  rw [putCkpt]
  split <;> rfl

theorem ckptAt_committedCtl (d : Device) (o : Nat) {i : Nat} (hi : i < 2) :
    ckptAt (committedCtl d o i) i = committedSlot d o i ∧ ckptAt (committedCtl d o i) (1 - i) = ckptAt (ctlAt d o) (1 - i) := by
  obtain ⟨own, other⟩ := ckptAt_putCkpt { ctlAt d o with flash := loggedFlash d o (ckptAt (ctlAt d o) i).auditHead } hi (committedSlot d o i)
  exact ⟨own, other⟩

theorem log_norOf_of_flash {e : Device} {c : Nat} {d : Device} {n : Nat} (h : (ctlAt e c).flash = loggedFlash d c n) :
    (norOf e c).log = d.audit.filter fun r => decide (r.num ≤ n) := by
  have programmed : (ctlAt e c).flash.slotA ≠ 0 := h ▸ slotA_norOf d c
  have same : norOf e c = bundled (ctlAt e c).flash := by simp [norOf, bundled, programmed]
  rw [same, log_bundled, h, loggedFlash]

theorem ckptFinish_reads (d : Device) (o i : Nat) :
    ctlAt (ckptFinish d o i) o = committedCtl d o i ∧ (∀ c, c ≠ o → ctlAt (ckptFinish d o i) c = ctlAt d c) ∧
    regN (ckptFinish d o i) 0x2310 1 = 2 ^ 63 + (ckptAt (ctlAt d o) i).seq % 2 ^ 63 ∧
    regN (ckptFinish d o i) 0x2310 4 = 2 ^ 63 + (ckptAt (ctlAt d o) i).tb3 ∧
    regN (ckptFinish d o i) 0x2310 3 = 2 ^ 31 + (ckptAt (ctlAt d o) i).payload.length ∧
    Counted d (ckptFinish d o i) 0x2310 5 1 ∧
    Keeps [.ctls, .fresh] (fun x _ => x = 0x2310) d (ckptFinish d o i) := by
  have finished : ckptFinish d o i = spend (setN (bump (setN (setN (setN (setCtl d o (committedCtl d o i))
      0x2310 1 (2 ^ 63 + (ckptAt (ctlAt d o) i).seq % 2 ^ 63)) 0x2310 3 (2 ^ 31 + (ckptAt (ctlAt d o) i).payload.length))
      0x2310 4 (2 ^ 63 + (ckptAt (ctlAt d o) i).tb3)) 0x2310 5) 0x2310 6
      (2 ^ 15 + max (regN d 0x2310 6 % 2 ^ 15) (freshVal d % 101))) := by
    simp [ckptFinish, logProgram_eq, modCtl, committedCtl, committedSlot, freshVal, spend]
  have ctlSpent : ∀ (x : Device) (c : Nat), ctlAt (spend x) c = ctlAt x c := fun _ _ => rfl
  have regSpent : ∀ (x : Device) (j r : Nat), regN (spend x) j r = regN x j r := fun _ _ _ => rfl
  rw [finished]
  refine ⟨by simp [ctlSpent], fun c hc => by simp [ctlSpent, hc.symm], by simp [regSpent], by simp [regSpent], by simp [regSpent], ?_, ?_⟩
  · simp [Counted, regSpent, bump, regN_bumpBy]
  · simp [bump]

/-! ### A record that is programmed (R357) -/

/-- The device once record n is in QSPI NOR, before anything leaves. -/
def recordProgrammed (d : Device) (n : Nat) (rest : List Nat) : Device :=
  setCtl { d with awaiting := rest } (supDie d) { ctlAt d (supDie d) with flash := loggedFlash d (supDie d) n }

/-- The USDO answers that waited for record n no longer do. -/
def heldPast (d : Device) (n : Nat) : Device := { d with can := { d.can with held := d.can.held.filter fun h => decide (n < h.1) } }

/-- The USDO answers that waited for record n leave. -/
def sendDue (d : Device) (due : List (Nat × Nat × List Byte)) : Device :=
  forEach d due fun d h => sendCanOn d h.2.1 (0x580 + d.can.nodes.getD h.2.1 0) h.2.2

/-- The device once record n is in QSPI NOR and the USDO answers that waited for it are sent. -/
def usdoReleased (d : Device) (n : Nat) (rest : List Nat) : Device :=
  sendDue (heldPast (recordProgrammed d n rest) n) (d.can.held.filter fun h => decide (h.1 ≤ n))

theorem auditProgrammedOp_of_cons {d : Device} {n : Nat} {rest : List Nat} (h : d.awaiting = n :: rest)
    (ha : (activeCtl d).isSome = true) :
    auditProgrammedOp d = releaseAnswers (usdoReleased d n rest) fun _ => recordKept n := by
  simp only [auditProgrammedOp, h, Option.isNone_eq_false_iff.mpr ha, Bool.false_eq_true, if_false]
  rfl

theorem keeps_sendDue (x : Device) (due : List (Nat × Nat × List Byte)) : Keeps [.tx] noReg x (sendDue x due) := by
  refine keeps_forEach _ _ (fun y h _ => ?_) x
  rw [sendCanOn]
  split
  · exact keeps_send y _ _ _ _ (by simp)
  · exact keeps_self

theorem usdoReleased_reads (d : Device) (n : Nat) (rest : List Nat) :
    (ctlAt (usdoReleased d n rest) (supDie d)).flash = loggedFlash d (supDie d) n ∧ (usdoReleased d n rest).awaiting = rest ∧
    (usdoReleased d n rest).can.held = (d.can.held.filter fun h => decide (n < h.1)) ∧ (usdoReleased d n rest).sup = d.sup ∧
    Keeps (.ctls :: pushParts) pushReg d (usdoReleased d n rest) := by
  have sent := keeps_sendDue (heldPast (recordProgrammed d n rest) n) (d.can.held.filter fun h => decide (h.1 ≤ n))
  have programmed : Keeps (.ctls :: pushParts) pushReg d (heldPast (recordProgrammed d n rest) n) :=
    ((keeps_awaiting d rest (by decide)).trans (keeps_setCtl _ _ _ (by decide))).trans (keeps_can _ _ (by decide))
  refine ⟨?_, sent.awaiting_eq (by simp), ?_, sent.sup_eq (by simp), programmed.trans (sent.mono (by decide) fun _ _ h => h.elim)⟩
  · rw [usdoReleased, sent.ctlAt (by simp)]
    have read : ctlAt (heldPast (recordProgrammed d n rest) n) (supDie d) = ctlAt (recordProgrammed d n rest) (supDie d) := rfl
    rw [read, recordProgrammed, ctlAt_setCtl, if_pos rfl]
  · rw [usdoReleased, sent.can_eq (by simp)]
    rfl

/-! ### The obligation -/

/-- Settles O51. -/
theorem checkpointsAndAuditRecordsRelease : Obligations.CheckpointsAndAuditRecordsRelease := by
  unfold Obligations.CheckpointsAndAuditRecordsRelease
  refine ⟨fun dt s d a o hd ha ho hh => ?_, fun dt s d o i hd hw => ?_, fun dt s d n rest hd hn hact => ?_⟩
  · refine does_of_act (f := checkpointOp) rfl hd ?_
    rw [checkpointOp_of_holding hh]
    split
    · next allowed =>
      obtain ⟨own, other⟩ := ckptAt_putCkpt (ctlAt d o) (spareSlot_lt (ctlAt d o)) (ckptCapture d a (regN d 0x2310 1 % 2 ^ 63 + 1))
      rw [ckptStart_of_let ha ho allowed]
      refine ⟨?_, ?_, fun c hc => ?_, ?_⟩
      · rw [ctlAt_settle, ctlAt_setCtl, if_pos rfl, own]
      · rw [ctlAt_settle, ctlAt_setCtl, if_pos rfl, other]
      · rw [ctlAt_settle, ctlAt_setCtl, if_neg hc.symm]
      · simp
    · next barred => exact keeps_settle_iff.mpr (keeps_ckptStart_of_barred ha ho barred)
  · obtain ⟨-, hi⟩ := ckptWriting_eq_some hw
    refine does_of_act (f := checkpointDoneOp) rfl hd ?_
    have finish : ∃ f, checkpointDoneOp d = releaseAnswers (ckptFinish d o i) f := by
      simp only [checkpointDoneOp, hw]
      exact ⟨_, rfl⟩
    obtain ⟨f, hf⟩ := finish
    obtain ⟨own, others, seq, tb3, len, count, finished⟩ := ckptFinish_reads d o i
    obtain ⟨slot, spare⟩ := ckptAt_committedCtl d o hi
    have released := keeps_settle_iff.mpr
      (keeps_releaseAnswers (rs := pushReg) (ckptFinish d o i) f pushIn_pushParts (fun _ _ h => h))
    rw [hf]
    generalize settle (releaseAnswers (ckptFinish d o i) f) = e at released ⊢
    have ctl : ∀ c, ctlAt e c = ctlAt (ckptFinish d o i) c := released.ctlAt (by decide)
    have reg : ∀ r, r < 256 → regN e 0x2310 r = regN (ckptFinish d o i) 0x2310 r := fun r hr =>
      released.regN hr (by simp [pushReg, eventReg])
    have flash : (ctlAt e o).flash = loggedFlash d o (ckptAt (ctlAt d o) i).auditHead := by
      rw [ctl, own, committedCtl, flash_putCkpt]
    refine ⟨by rw [ctl, own, slot, committedSlot], by rw [ctl, own, spare], by rw [reg 1 (by decide), seq],
      by rw [reg 4 (by decide), tb3], by rw [reg 3 (by decide), len], log_norOf_of_flash flash, ?_,
      fun c hc => by rw [ctl, others c hc], ?_⟩
    · rw [Counted, reg 5 (by decide)]
      exact count
    · exact (finished.mono (by simp) fun _ _ h => .inr h).trans (released.mono (by decide) fun _ _ h => .inl h)
  · refine does_of_act (f := auditProgrammedOp) rfl hd ?_
    obtain ⟨flash, awaiting, held, sup, kept⟩ := usdoReleased_reads d n rest
    have released := keeps_settle_iff.mpr
      (keeps_releaseAnswers (rs := pushReg) (usdoReleased d n rest) (fun _ => recordKept n) pushIn_pushParts (fun _ _ h => h))
    have talked := talk_releaseAnswers (usdoReleased d n rest) fun _ => recordKept n
    have owed : ∀ k, k < 8 → sessOpen d k = true → OwedAfter n (releaseAnswers (usdoReleased d n rest) fun _ => recordKept n) k :=
      fun k hk ho => owedAfter_releaseAnswers _ hk (by rwa [sessOpen, sessAt_of_sup sup])
    rw [auditProgrammedOp_of_cons hn hact]
    generalize releaseAnswers (usdoReleased d n rest) (fun _ => recordKept n) = x at released talked owed ⊢
    have settled := keeps_settle [] noReg x
    have sessions : ∀ k, sessAt (settle x) k = sessAt x k := sessAt_of_keeps settled (by simp)
    obtain ⟨l, hl⟩ := talked.awaiting
    refine ⟨⟨l, by rw [settled.awaiting_eq (by simp), hl, awaiting]⟩, log_norOf_of_flash ?_, ?_, fun k m hk ho a ha hw hm => ?_, ?_⟩
    · rw [released.ctlAt (by decide), flash]
    · rw [settled.can_eq (by simp), talked.held, held]
    · exact owed k hk ho a (sessions k ▸ ha) hw m hm
    · exact kept.trans (released.mono (by decide) fun _ _ h => h)

end Sys2Proof
end

section
/-! PROOFS. ARP and echo, datagrams that are dropped, and handshakes (R315, R316, R319 to R322, R357). -/

namespace Sys2Proof
open Machine Safety

/-! ### Messages and audit records -/

theorem tx_send_of_up (x : Device) {port : Nat} (kind to_ : Nat) (b : List Byte) (h : 4 ≤ port ∨ ctlUp x (ctlOfPort port) = true) :
    (send x port kind to_ b).tx = x.tx ++ [Msg.mk port kind to_ b] := by
  rw [send, if_neg]
  rintro ⟨hp, hu⟩
  rcases h with h | h
  · omega
  · simp [h] at hu

theorem ctlUp_of_hostPort {d : Device} {port : Nat} (h : hostPort d port = true) : ctlUp d (ctlOfPort port) = true :=
  (Bool.and_eq_true_iff.mp h).2

theorem logged_of_parts {d x e : Device} {kind target : Nat} (h : Logged d x kind target) (ha : e.audit = x.audit)
    (hw : e.awaiting = x.awaiting) : Logged d e kind target := by
  obtain ⟨r, hr, hk, ht, hn, hm, hp⟩ := h
  exact ⟨r, ha ▸ hr, hk, ht, hn, hw ▸ hm, hp⟩

theorem logged_of_audit {c d x : Device} {kind target : Nat} (h : Logged d x kind target) (ha : d.audit = c.audit) :
    Logged c x kind target := by
  obtain ⟨r, hr, hk, ht, hn, hm, hp⟩ := h
  rw [auditHead, auditLast, ha] at hn
  rw [auditLast, ha] at hp
  exact ⟨r, hr, hk, ht, hn, hm, hp⟩

/-- The record that an entry adds, and the queue of records in programming that holds its number. -/
theorem auditPush_reads (x : Device) (kind session roles target : Nat) (detail : List Byte) :
    ∃ r, (auditPush x kind session roles target detail).audit = x.audit ++ [r] ∧ r.kind = kind ∧ r.target = target ∧
      r.num = auditHead x + 1 ∧ r.prev = ((auditLast x).map (·.hash)).getD certDigest ∧
      (auditPush x kind session roles target detail).awaiting = x.awaiting ++ [auditHead x + 1] := by
  refine ⟨_, rfl, rfl, rfl, rfl, ?_, rfl⟩
  dsimp only
  cases auditLast x <;> rfl

theorem logged_auditPush (x : Device) (kind session roles target : Nat) (detail : List Byte) :
    Logged x (auditPush x kind session roles target detail) kind target := by
  obtain ⟨r, ha, hk, ht, hn, hp, hw⟩ := auditPush_reads x kind session roles target detail
  exact ⟨r, by simp [ha], hk, ht, hn, by simp [hw, hn], hp⟩

/-- The log without the records of a sector. -/
def auditDropped (x : Device) (s : Nat) : Device := { x with audit := x.audit.filter fun r => auditSector r.num != s }

/-- The drop of the oldest sector leaves the record of a newer one. -/
theorem logged_auditDropped {x : Device} {s kind session roles target : Nat} {detail : List Byte}
    (h : auditSector (auditHead x + 1) ≠ s) :
    Logged x (auditDropped (auditPush x kind session roles target detail) s) kind target := by
  obtain ⟨r, hr, hk, ht, hn, hm, hp⟩ := logged_auditPush x kind session roles target detail
  exact ⟨r, List.mem_filter.mpr ⟨hr, by simp [hn, h]⟩, hk, ht, hn, hm, hp⟩

theorem logged_push {d x : Device} {kind target : Nat} (h : Logged d x kind target) (kind' session roles target' : Nat)
    (detail : List Byte) : Logged d (auditPush x kind' session roles target' detail) kind target := by
  obtain ⟨r, hr, hk, ht, hn, hm, hp⟩ := h
  exact ⟨r, List.mem_append_left _ hr, hk, ht, hn, List.mem_append_left _ hm, hp⟩

theorem logged_raise {d x : Device} {kind target k : Nat} (h : Logged d x kind target) (hk : k < 8) (code unit : Nat) :
    Logged d (raise x k code unit) kind target := by
  have kept := keeps_raise (ps := eventParts) (rs := eventReg) x k code unit hk (fun _ hp => hp) (fun _ _ h => h)
  exact logged_of_parts h (kept.audit_eq (by decide)) (kept.awaiting_eq (by decide))

theorem auditHead_auditPush (x : Device) (kind session roles target : Nat) (detail : List Byte) :
    auditHead (auditPush x kind session roles target detail) = auditHead x + 1 := by
  obtain ⟨r, ha, -, -, hn, -⟩ := auditPush_reads x kind session roles target detail
  simp [auditHead, auditLast, ha] at hn ⊢
  exact hn

theorem logged_auditAdd (x : Device) (kind session roles target : Nat) (detail : List Byte) :
    Logged x (auditAdd x kind session roles target detail) kind target := by
  have pushed := logged_auditPush x kind session roles target detail
  have head := auditHead_auditPush x kind session roles target detail
  dsimp only [auditAdd]
  split
  · exact pushed
  · next full =>
    have newer : auditSector (auditHead x + 1) ≠ auditSector (auditOldest (auditPush x kind session roles target detail)) := by
      rw [head] at full
      omega
    have dropped := logged_auditDropped (kind := kind) (session := session) (roles := roles) (target := target) (detail := detail) newer
    split
    · exact logged_raise (logged_push dropped 19 0xFF 0 0 _) (supDie_lt_eight _) 62 0x2500
    · exact logged_raise (logged_push dropped 19 0xFF 0 0 _) (supDie_lt_eight _) 63 0x2500

/-! ### Datagrams that are dropped (R316, R319) -/

theorem authFailure_reads (d : Device) : Counted d (authFailure d) 0x2020 0x0E 1 ∧
    Keeps (.limits :: eventParts) (fun x i => eventReg x i ∨ (x = 0x2020 ∧ i = 0x0E)) d (authFailure d) := by
  have told := keeps_raiseLimited (ps := .limits :: eventParts) (rs := eventReg) (bump d 0x2020 0x0E) (supDie d) 51 0x2020 0 [] (10 ^ 9) none
    (supDie_lt_eight d) (by decide) (by decide) (fun _ _ h => h)
  refine ⟨?_, (keeps_bumpBy d 0x2020 0x0E 1 (by decide) (.inr ⟨rfl, rfl⟩)).trans (told.mono (by decide) fun _ _ h => .inl h)⟩
  rw [Counted, authFailure, told.regN (by decide) (by simp [eventReg])]
  exact counted_bump d 0x2020 (r := 0x0E) (by decide)

/-! ### A handshake that is dropped -/

/-- The sessions of an address's handshakes are free again. -/
def sessionsFreed (d : Device) (peer : Endpoint) : Device :=
  forEach d (d.sup.handshakes.filter fun h => h.peer.ip == peer.ip) fun d h =>
    if (sessAt d h.session).state = 2 then setSess d h.session { Session.reset with state := 1 } else d

theorem dropHandshake_eq (d : Device) (peer : Endpoint) : dropHandshake d peer = { sessionsFreed d peer with
    sup := { (sessionsFreed d peer).sup with
      handshakes := (sessionsFreed d peer).sup.handshakes.filter fun h => h.peer.ip != peer.ip } } := rfl

theorem sessionsFreed_reads (d : Device) (peer : Endpoint) :
    Talk d (sessionsFreed d peer) ∧ Keeps [.sup] noReg d (sessionsFreed d peer) := by
  refine ⟨talk_forEach _ _ (fun y h _ => ?_) d, keeps_forEach _ _ (fun y h _ => ?_) d⟩
  · split
    · exact talk_setSess y _ _
    · exact Talk.refl y
  · split
    · exact keeps_setSess y _ _ (by simp)
    · exact keeps_self

theorem dropHandshake_reads (d : Device) (peer : Endpoint) :
    (dropHandshake d peer).sup.handshakes = (d.sup.handshakes.filter fun h => h.peer.ip != peer.ip) ∧
    Keeps [.sup] noReg d (dropHandshake d peer) := by
  obtain ⟨talked, kept⟩ := sessionsFreed_reads d peer
  obtain ⟨t, ht⟩ := talked.sup
  rw [dropHandshake_eq]
  refine ⟨?_, kept.trans (keeps_sup _ _ (by simp))⟩
  simp [ht]

theorem handshakeOf_none_of_dropped {d e : Device} {peer : Endpoint}
    (h : e.sup.handshakes = d.sup.handshakes.filter fun h => h.peer.ip != peer.ip) : handshakeOf e peer = none := by
  rw [handshakeOf, h, List.find?_eq_none]
  rintro x hx heq
  have hp : x.peer = peer := by simpa using heq
  simp [hp] at hx

theorem handshakes_of_talk {x y : Device} (h : Talk x y) : y.sup.handshakes = x.sup.handshakes := by
  obtain ⟨t, ht⟩ := h.sup
  rw [ht]

/-! ### REJECT -/

/-- The registers that the account of a handshake's end changes. -/
def rejectReg : Nat → Nat → Prop := fun x i => eventReg x i ∨ (x = 0x2020 ∧ (i = 0x0C ∨ i = 0x0D))

/-- The device once a REJECT is sent and counted. -/
def rejectCounted (d : Device) (port : Nat) (peer : Endpoint) (code : Nat) : Device :=
  setN (bump (sendHandshake d port 0xF5 peer (beBytes 1 code ++ [0, 0, 0])) 0x2020 0x0C) 0x2020 0x0D code

theorem rejectHandshake_eq (d : Device) (port : Nat) (peer : Endpoint) (roles code : Nat) (leaf : List Byte) :
    rejectHandshake d port peer roles code leaf =
      auditAdd (rejectCounted d port peer code) 7 0xFF (roles % 32) (0x20200000 + code) (sha256 leaf) := rfl

theorem rejectCounted_reads (d : Device) (port : Nat) (peer : Endpoint) (code : Nat) :
    Counted d (rejectCounted d port peer code) 0x2020 0x0C 1 ∧ regN (rejectCounted d port peer code) 0x2020 0x0D = code ∧
    Keeps [.tx] rejectReg d (rejectCounted d port peer code) := by
  have sent := keeps_send (ps := [.tx]) (rs := noReg) d port 3 (endpointWord peer)
    (dxpHeader 0xFF 0 0xF5 0 0 (beBytes 1 code ++ [0, 0, 0]).length 0 ++ (beBytes 1 code ++ [0, 0, 0])) (by simp)
  refine ⟨by simp [Counted, rejectCounted, sendHandshake, bump, regN_bumpBy], by simp [rejectCounted], ?_⟩
  exact ((sent.mono (by simp) fun _ _ h => h.elim).trans (keeps_bumpBy _ _ _ _ (by decide) (.inr ⟨rfl, .inl rfl⟩))).trans
    (keeps_setN _ _ _ _ (by decide) (.inr ⟨rfl, .inr rfl⟩))

theorem rejectHandshake_reads (d : Device) (port : Nat) (peer : Endpoint) (roles code : Nat) (leaf : List Byte) :
    Counted d (rejectHandshake d port peer roles code leaf) 0x2020 0x0C 1 ∧
    regN (rejectHandshake d port peer roles code leaf) 0x2020 0x0D = code ∧
    Logged d (rejectHandshake d port peer roles code leaf) 7 (0x20200000 + code) ∧
    (rejectHandshake d port peer roles code leaf).sup.handshakes = d.sup.handshakes ∧
    Keeps auditParts rejectReg d (rejectHandshake d port peer roles code leaf) := by
  obtain ⟨count, last, counted⟩ := rejectCounted_reads d port peer code
  rw [rejectHandshake_eq]
  generalize rejectCounted d port peer code = x at count last counted
  have logged := logged_auditAdd x 7 0xFF (roles % 32) (0x20200000 + code) (sha256 leaf)
  have talked := talk_auditAdd x 7 0xFF (roles % 32) (0x20200000 + code) (sha256 leaf)
  have audited := keeps_auditAdd (rs := eventReg) x 7 0xFF (roles % 32) (0x20200000 + code) (sha256 leaf) auditIn_auditParts (fun _ _ h => h)
  refine ⟨?_, ?_, logged_of_audit logged (counted.audit_eq (by simp)), ?_, ?_⟩
  · rwa [Counted, audited.regN (by decide) (by simp [eventReg])]
  · rw [audited.regN (by decide) (by simp [eventReg]), last]
  · rw [handshakes_of_talk talked, counted.sup_eq (by simp)]
  · exact (counted.mono (by decide) fun _ _ h => h).trans (audited.mono (by simp) fun _ _ h => .inl h)

theorem droppedRejected_reads (d : Device) (port : Nat) (peer : Endpoint) (roles code : Nat) (leaf : List Byte) :
    Counted d (rejectHandshake (dropHandshake d peer) port peer roles code leaf) 0x2020 0x0C 1 ∧
    regN (rejectHandshake (dropHandshake d peer) port peer roles code leaf) 0x2020 0x0D = code ∧
    Logged d (rejectHandshake (dropHandshake d peer) port peer roles code leaf) 7 (0x20200000 + code) ∧
    handshakeOf (rejectHandshake (dropHandshake d peer) port peer roles code leaf) peer = none ∧
    Keeps auditParts rejectReg d (rejectHandshake (dropHandshake d peer) port peer roles code leaf) := by
  obtain ⟨dropped, kept⟩ := dropHandshake_reads d peer
  obtain ⟨count, last, logged, same, rejected⟩ := rejectHandshake_reads (dropHandshake d peer) port peer roles code leaf
  refine ⟨?_, last, logged_of_audit logged (kept.audit_eq (by simp)), handshakeOf_none_of_dropped (d := d) (same.trans dropped),
    (kept.mono (by decide) fun _ _ h => h.elim).trans rejected⟩
  rwa [Counted, kept.regN (by decide) id] at count

/-! ### ACCEPT (R321, R322) -/

/-- The session as it opens. -/
def openedSession (d : Device) (h : Handshake) (e roles : Nat) (sig : List Byte) : Session :=
  { Session.reset with
    state := 3, roles := roles, peer := h.peer, port := e, leaf := Config.chainLeaf h.hello.chain,
    openedAt := (ctlAt d (supDie d)).tb3.ns % 2 ^ 63, lastReq := d.mono, keys := sessionKeys h sig }

/-- The device once a session is open and counted, before its record. -/
def sessionCounted (d : Device) (h : Handshake) (e roles : Nat) (sig : List Byte) : Device :=
  bump (forEach (setSess d h.session (openedSession d h e roles sig)) [0x0A, 0x0B, 0x0C, 0x0D]
    fun d sub => setN d (0x2030 + h.session) sub 0) 0x2020 0x0B

/-- The device once the record of a session that opens is added. -/
def sessionLogged (d : Device) (h : Handshake) (e roles : Nat) (sig : List Byte) : Device :=
  auditAdd (sessionCounted d h e roles sig) 6 h.session roles ((0x2030 + h.session) * 65536 + 1)
    (sha256 (Config.chainLeaf h.hello.chain))

/-- The payload of ACCEPT. -/
def acceptPayload (d : Device) (k roles : Nat) : List Byte := beBytes 1 k ++ beBytes 1 roles ++ [0, 0] ++ beBytes 2 (regN d 0x2020 3)

theorem openSession_eq (d : Device) (h : Handshake) (e roles : Nat) (sig : List Byte) :
    openSession d h e roles sig = send (sessionLogged d h e roles sig) e 3 (endpointWord h.peer)
      (dxpSealed (sessionKeys h sig)
        (dxpHeader 0xFF 0 0xF4 0 0 (acceptPayload (sessionLogged d h e roles sig) h.session roles).length 0) 0
        (acceptPayload (sessionLogged d h e roles sig) h.session roles)) := rfl

/-- The registers that a session that opens changes. -/
def openReg (k : Nat) : Nat → Nat → Prop := fun x i =>
  eventReg x i ∨ (x = 0x2020 ∧ 0x0B ≤ i ∧ i ≤ 0x0D) ∨ (x = 0x2030 + k ∧ 0x0A ≤ i ∧ i ≤ 0x0D)

theorem sessionCounted_reads (d : Device) (h : Handshake) (e roles : Nat) (sig : List Byte) :
    sessAt (sessionCounted d h e roles sig) h.session = openedSession d h e roles sig ∧
    Counted d (sessionCounted d h e roles sig) 0x2020 0x0B 1 ∧
    (sessionCounted d h e roles sig).sup.handshakes = d.sup.handshakes ∧
    Keeps [.sup] (openReg h.session) d (sessionCounted d h e roles sig) := by
  have cleared : Keeps [] (fun x i => x = 0x2030 + h.session ∧ 0x0A ≤ i ∧ i ≤ 0x0D)
      (setSess d h.session (openedSession d h e roles sig))
      (forEach (setSess d h.session (openedSession d h e roles sig)) [0x0A, 0x0B, 0x0C, 0x0D]
        fun d sub => setN d (0x2030 + h.session) sub 0) := by
    simp [forEach_cons, forEach_nil]
  have counted := keeps_bumpBy (ps := []) (rs := fun x i => x = 0x2020 ∧ i = 0x0B)
    (forEach (setSess d h.session (openedSession d h e roles sig)) [0x0A, 0x0B, 0x0C, 0x0D]
      fun d sub => setN d (0x2030 + h.session) sub 0) 0x2020 0x0B 1 (by decide) ⟨rfl, rfl⟩
  have stored := keeps_setSess (ps := [.sup]) (rs := noReg) d h.session (openedSession d h e roles sig) (by simp)
  refine ⟨?_, ?_, ?_, ?_⟩
  · rw [sessionCounted, bump, sessAt_of_keeps counted (by simp), sessAt_of_keeps cleared (by simp), sessAt_setSess, if_pos rfl]
  · have apart : regN (forEach (setSess d h.session (openedSession d h e roles sig)) [0x0A, 0x0B, 0x0C, 0x0D]
        fun d sub => setN d (0x2030 + h.session) sub 0) 0x2020 0x0B = regN d 0x2020 0x0B :=
      (cleared.regN (by decide) (by omega)).trans (stored.regN (by decide) id)
    have bumped := counted_bump (forEach (setSess d h.session (openedSession d h e roles sig)) [0x0A, 0x0B, 0x0C, 0x0D]
      fun d sub => setN d (0x2030 + h.session) sub 0) 0x2020 (r := 0x0B) (by decide)
    rwa [Counted, apart] at bumped
  · rw [sessionCounted, bump, counted.sup_eq (by simp), cleared.sup_eq (by simp)]
    rfl
  · exact ((stored.mono (by simp) fun _ _ h => h.elim).trans (cleared.mono (by simp) fun _ _ h => .inr (.inr h))).trans
      (counted.mono (by simp) fun _ i h => .inr (.inl ⟨h.1, by omega⟩))

theorem openSession_reads (d : Device) (h : Handshake) (e roles : Nat) (sig : List Byte) :
    (∃ ev, sessAt (openSession d h e roles sig) h.session = { openedSession d h e roles sig with events := ev }) ∧
    Counted d (openSession d h e roles sig) 0x2020 0x0B 1 ∧
    Logged d (openSession d h e roles sig) 6 ((0x2030 + h.session) * 65536 + 1) ∧
    (openSession d h e roles sig).sup.handshakes = d.sup.handshakes ∧
    Keeps auditParts (openReg h.session) d (openSession d h e roles sig) := by
  obtain ⟨session, count, handshakes, counted⟩ := sessionCounted_reads d h e roles sig
  rw [openSession_eq, sessionLogged]
  generalize sessionCounted d h e roles sig = x at session count handshakes counted ⊢
  have logged := logged_auditAdd x 6 h.session roles ((0x2030 + h.session) * 65536 + 1) (sha256 (Config.chainLeaf h.hello.chain))
  have talked := talk_auditAdd x 6 h.session roles ((0x2030 + h.session) * 65536 + 1) (sha256 (Config.chainLeaf h.hello.chain))
  have heard := heard_auditAdd x 6 h.session roles ((0x2030 + h.session) * 65536 + 1) (sha256 (Config.chainLeaf h.hello.chain)) h.session
  have audited := keeps_auditAdd (rs := eventReg) x 6 h.session roles ((0x2030 + h.session) * 65536 + 1)
    (sha256 (Config.chainLeaf h.hello.chain)) auditIn_auditParts (fun _ _ h => h)
  generalize auditAdd x 6 h.session roles ((0x2030 + h.session) * 65536 + 1) (sha256 (Config.chainLeaf h.hello.chain)) = y
    at logged talked heard audited ⊢
  have sent := keeps_send (ps := [.tx]) (rs := noReg) y e 3 (endpointWord h.peer) (dxpSealed (sessionKeys h sig)
    (dxpHeader 0xFF 0 0xF4 0 0 (acceptPayload y h.session roles).length 0) 0 (acceptPayload y h.session roles)) (by simp)
  obtain ⟨ev, hev⟩ := heard
  refine ⟨⟨ev, by rw [sessAt_of_keeps sent (by simp), hev, session]⟩, ?_, ?_, ?_, ?_⟩
  · rwa [Counted, sent.regN (by decide) id, audited.regN (by decide) (by simp [eventReg])]
  · exact logged_of_parts (logged_of_audit logged (counted.audit_eq (by simp))) (sent.audit_eq (by simp)) (sent.awaiting_eq (by simp))
  · rw [sent.sup_eq (by simp), handshakes_of_talk talked, handshakes]
  · exact ((counted.mono (by decide) fun _ _ h => h).trans (audited.mono (by simp) fun _ _ h => .inl h)).trans
      (sent.mono (by decide) fun _ _ h => h.elim)

/-! ### HELLO and PROVE -/

/-- The handshake that a HELLO begins. -/
def begunHandshake (d : Device) (port : Nat) (peer : Endpoint) (k : Nat) (m : Hello) : Handshake :=
  { peer := peer, port := port, session := k, hello := m, nonce := padTo 32 (Config.randomBytes d.fresh), seed := d.fresh,
    challenge := challengeBytes d k m, since := d.mono }

/-- The device once a HELLO has a session number. -/
def helloTaken (d : Device) (k : Nat) : Device := modSess (spend d) k fun x => { x with state := 2 }

/-- The device once a handshake has begun. -/
def helloBegun (d : Device) (port : Nat) (peer : Endpoint) (k : Nat) (m : Hello) : Device :=
  { helloTaken d k with sup := { (helloTaken d k).sup with
      handshakes := (helloTaken d k).sup.handshakes ++ [begunHandshake d port peer k m] } }

theorem dxpHelloOp_of_taken {d : Device} {port : Nat} {peer : Endpoint} {m : Hello} {k : Nat} (hh : dxpHeard d port = true)
    (hk : helloSession (dropHandshake d peer) m = (k, 0)) :
    dxpHelloOp d port peer m = sendHandshake (helloBegun (dropHandshake d peer) port peer k m) port 0xF2 peer
      (challengeBytes (dropHandshake d peer) k m) := by
  simp only [dxpHelloOp, hh, hk, Bool.not_true, Bool.false_eq_true, if_false, ne_eq, not_true_eq_false]
  rfl

theorem dxpHelloOp_of_refused {d : Device} {port : Nat} {peer : Endpoint} {m : Hello} {k code : Nat} (hh : dxpHeard d port = true)
    (hk : helloSession (dropHandshake d peer) m = (k, code)) (hc : code ≠ 0) :
    dxpHelloOp d port peer m = rejectHandshake (dropHandshake d peer) port peer m.roles code (Config.chainLeaf m.chain) := by
  simp [dxpHelloOp, hh, hk, hc]

theorem helloBegun_reads (d : Device) (port : Nat) (peer : Endpoint) (k : Nat) (m : Hello) :
    (sessAt (helloBegun d port peer k m) k).state = 2 ∧
    (helloBegun d port peer k m).sup.handshakes = d.sup.handshakes ++ [begunHandshake d port peer k m] ∧
    (helloBegun d port peer k m).fresh = d.fresh + 1 ∧ Keeps [.sup, .fresh] noReg d (helloBegun d port peer k m) := by
  have taken : Keeps [.sup, .fresh] noReg d (helloTaken d k) :=
    (keeps_fresh d (d.fresh + 1) (by simp)).trans (keeps_setSess (spend d) k _ (by simp))
  refine ⟨?_, rfl, rfl, taken.trans (keeps_sup _ _ (by simp))⟩
  have session : sessAt (helloBegun d port peer k m) k = sessAt (helloTaken d k) k := rfl
  rw [session, helloTaken, modSess, sessAt_setSess, if_pos rfl]

theorem peer_of_handshakeOf {d : Device} {peer : Endpoint} {h : Handshake} (hh : handshakeOf d peer = some h) : h.peer = peer := by
  simpa using List.find?_some hh

/-- The device once a PROVE whose time base cannot tell the time is reported. -/
def proofTold (d : Device) (h : Handshake) : Device :=
  if (Config.chainAnchor (regB d 0x2020 9) h.hello.chain).isSome = true ∧ (baseOf (ctlAt d (supDie d)) 0).st = 1 then
    raise d (supDie d) 52 0x2020 else d

theorem proofTold_reads (d : Device) (h : Handshake) :
    (proofTold d h).sup.handshakes = d.sup.handshakes ∧ Keeps eventParts eventReg d (proofTold d h) := by
  rw [proofTold]
  split
  · exact ⟨handshakes_of_talk (talk_raise d _ _ _), keeps_raise d _ _ _ (supDie_lt_eight d) (fun _ hp => hp) (fun _ _ h => h)⟩
  · exact ⟨rfl, keeps_self⟩

theorem dxpProveOp_of_timely {d : Device} {port : Nat} {peer : Endpoint} {sig : List Byte} {h : Handshake} {roles code : Nat}
    (hh : dxpHeard d port = true) (hs : handshakeOf d peer = some h) (hl : handshakeLate d h = false)
    (hc : proveCheck (proofTold d h) h sig = (roles, code)) :
    dxpProveOp d port peer sig = if code ≠ 0 then failHandshake (proofTold d h) h port code
      else openSession (dropHandshake (proofTold d h) peer) h port roles sig := by
  rw [proofTold] at hc ⊢
  simp only [dxpProveOp, hh, hs, hl, hc, Bool.not_true, Bool.false_eq_true, if_false]

theorem handshakeTimeoutOp_of_late {d : Device} {peer : Endpoint} {h : Handshake} (hs : handshakeOf d peer = some h)
    (ha : (activeCtl d).isSome = true) (hl : handshakeLate d h = true) :
    handshakeTimeoutOp d peer = failHandshake d h h.port 55 := by
  simp [handshakeTimeoutOp, hs, ha, hl]

/-- What the end of a handshake by REJECT leaves, in the device once its time has passed. -/
theorem rejected_settle {c d : Device} (port : Nat) (peer : Endpoint) (roles code : Nat) (leaf : List Byte)
    (h : Keeps eventParts eventReg c d) :
    Counted c (settle (rejectHandshake (dropHandshake d peer) port peer roles code leaf)) 0x2020 0x0C 1 ∧
    regN (settle (rejectHandshake (dropHandshake d peer) port peer roles code leaf)) 0x2020 0x0D = code ∧
    Logged c (settle (rejectHandshake (dropHandshake d peer) port peer roles code leaf)) 7 (0x20200000 + code) ∧
    handshakeOf (settle (rejectHandshake (dropHandshake d peer) port peer roles code leaf)) peer = none ∧
    Keeps auditParts rejectReg c (settle (rejectHandshake (dropHandshake d peer) port peer roles code leaf)) := by
  obtain ⟨count, last, logged, gone, kept⟩ := droppedRejected_reads d port peer roles code leaf
  generalize rejectHandshake (dropHandshake d peer) port peer roles code leaf = x at count last logged gone kept ⊢
  have settled := keeps_settle [] noReg x
  rw [Counted, h.regN (by decide) (by simp [eventReg])] at count
  refine ⟨?_, ?_, ?_, ?_, keeps_settle_iff.mpr ((h.mono (by decide) fun _ _ h => .inl h).trans kept)⟩
  · rwa [Counted, regN_settle _ _ _ (by decide)]
  · rw [regN_settle _ _ _ (by decide), last]
  · exact logged_of_parts (logged_of_audit logged (h.audit_eq (by decide))) (settled.audit_eq (by simp)) (settled.awaiting_eq (by simp))
  · rw [handshakeOf, settled.sup_eq (by simp)]
    exact gone

/-- Settles O48. -/
theorem handshakesOpenSessions : Obligations.HandshakesOpenSessions := by
  unfold Obligations.HandshakesOpenSessions
  refine ⟨fun dt s d port echo peer hd hp => ?_, fun dt s d port k hd hp => ⟨?_, fun hk => ?_, fun hk => ?_⟩,
    fun dt s d g port peer m k c hd hh hg hk hc => ?_, fun dt s d g port peer m k code hd hh hg hk hc => ?_,
    fun dt s d g port peer sig h roles code hd hh hs hl hg hc => ?_, fun dt s d peer h hd hs ha hl => ?_⟩
  · refine does_of_act (f := (arpIcmpOp · port echo peer)) rfl hd ?_
    simp only [arpIcmpOp, hp, if_true]
    refine ⟨?_, by simp⟩
    rw [(keeps_settle [] noReg _).tx_eq (by simp), tx_send_of_up d 4 _ _ (.inr (ctlUp_of_hostPort hp))]
  · refine does_of_act (f := (dxpDroppedOp · port .header)) rfl hd ?_
    simp [dxpDroppedOp]
  · refine does_of_act (f := (dxpDroppedOp · port (.tag k))) rfl hd ?_
    obtain ⟨count, kept⟩ := authFailure_reads d
    simp only [dxpDroppedOp, hp, hk, Bool.not_true, Bool.false_eq_true, if_false, if_true]
    exact ⟨by rwa [Counted, regN_settle _ _ _ (by decide)], keeps_settle_iff.mpr kept⟩
  · refine does_of_act (f := (dxpDroppedOp · port (.noSession k))) rfl hd ?_
    obtain ⟨count, kept⟩ := authFailure_reads d
    simp only [dxpDroppedOp, hp, hk, Bool.not_true, Bool.false_eq_true, if_false]
    exact ⟨by rwa [Counted, regN_settle _ _ _ (by decide)], keeps_settle_iff.mpr kept⟩
  · refine does_of_act (f := (dxpHelloOp · port peer m)) rfl hd ?_
    subst hg hc
    obtain ⟨dropped, freed⟩ := dropHandshake_reads d peer
    obtain ⟨session, handshakes, fresh, begun⟩ := helloBegun_reads (dropHandshake d peer) port peer k m
    have fresh' := freed.fresh_eq (by simp)
    have challenge : challengeBytes (dropHandshake d peer) k m = challengeBytes d k m := by
      rw [challengeBytes, challengeHead, fresh', challengeBytes, challengeHead]
    have first : begunHandshake (dropHandshake d peer) port peer k m =
        Handshake.mk peer port k m (padTo 32 (Config.randomBytes d.fresh)) d.fresh (challengeBytes d k m) d.mono := by
      rw [begunHandshake, challenge, fresh', freed.mono_eq (by simp)]
    have up : ctlUp (helloBegun (dropHandshake d peer) port peer k m) (ctlOfPort port) = true := by
      have same : ctlAt (helloBegun (dropHandshake d peer) port peer k m) (ctlOfPort port) = ctlAt d (ctlOfPort port) := by
        rw [begun.ctlAt (by simp), freed.ctlAt (by simp)]
      have served := ctlUp_of_hostPort (Bool.and_eq_true_iff.mp (Bool.and_eq_true_iff.mp hh).1).1
      rwa [ctlUp, same]
    rw [dxpHelloOp_of_taken hh hk, sendHandshake, challenge]
    have sent := tx_send_of_up (helloBegun (dropHandshake d peer) port peer k m) 3 (endpointWord peer)
      (dxpHeader 0xFF 0 0xF2 0 0 (challengeBytes d k m).length 0 ++ challengeBytes d k m) (.inr up)
    have left := keeps_settle_iff.mpr (keeps_send (ps := [.tx]) (rs := noReg) (helloBegun (dropHandshake d peer) port peer k m) port 3
      (endpointWord peer) (dxpHeader 0xFF 0 0xF2 0 0 (challengeBytes d k m).length 0 ++ challengeBytes d k m) (by simp))
    rw [← (keeps_settle [] noReg _).tx_eq (by simp)] at sent
    refine ⟨?_, ?_, ?_, ?_, ?_⟩
    · rw [sessAt_of_keeps left (by simp), session]
    · rw [left.sup_eq (by simp), handshakes, dropped, first]
    · rw [sent, begun.tx_eq (by simp), freed.tx_eq (by simp)]
    · rw [left.fresh_eq (by simp), fresh, fresh']
    · exact ((freed.mono (by simp) fun _ _ h => h).trans (begun.mono (by simp) fun _ _ h => h)).trans (left.mono (by simp) fun _ _ h => h)
  · refine does_of_act (f := (dxpHelloOp · port peer m)) rfl hd ?_
    subst hg
    rw [dxpHelloOp_of_refused hh hk hc]
    obtain ⟨count, last, logged, gone, kept⟩ := rejected_settle (c := d) port peer m.roles code (Config.chainLeaf m.chain) keeps_self
    exact ⟨count, last, logged, gone, kept⟩
  · refine does_of_act (f := (dxpProveOp · port peer sig)) rfl hd ?_
    have told : g = proofTold d h := hg
    subst told
    obtain ⟨handshakes, noted⟩ := proofTold_reads d h
    obtain rfl := peer_of_handshakeOf hs
    rw [dxpProveOp_of_timely hh hs hl hc]
    by_cases hz : code = 0
    · rw [if_neg (Classical.not_not.mpr hz)]
      obtain ⟨dropped, freed⟩ := dropHandshake_reads (proofTold d h) h.peer
      obtain ⟨⟨ev, session⟩, count, logged, same, kept⟩ := openSession_reads (dropHandshake (proofTold d h) h.peer) h port roles sig
      generalize openSession (dropHandshake (proofTold d h) h.peer) h port roles sig = x at session count logged same kept ⊢
      have settled := keeps_settle [] noReg x
      rw [← sessAt_of_keeps settled (by simp)] at session
      refine ⟨fun _ => ⟨by rw [session]; rfl, by rw [session]; rfl, by rw [session]; rfl, by rw [session]; rfl, by rw [session]; rfl,
        by rw [session]; rfl, by rw [session]; rfl, ?_, ?_⟩, fun hn => absurd hz hn, ?_, ?_⟩
      · rwa [Counted, freed.regN (by decide) id, noted.regN (by decide) (by simp [eventReg]), ← regN_settle _ _ _ (by decide)] at count
      · exact logged_of_parts (logged_of_audit logged ((freed.audit_eq (by simp)).trans (noted.audit_eq (by decide))))
          (settled.audit_eq (by simp)) (settled.awaiting_eq (by simp))
      · rw [handshakeOf, settled.sup_eq (by simp)]
        exact handshakeOf_none_of_dropped (d := proofTold d h) (same.trans dropped)
      · exact keeps_settle_iff.mpr (((noted.mono (by decide) fun _ _ h => .inl h).trans
          (freed.mono (by decide) fun _ _ h => h.elim)).trans kept)
    · rw [if_pos hz, failHandshake]
      obtain ⟨count, last, logged, gone, kept⟩ := rejected_settle port h.peer h.hello.roles code (Config.chainLeaf h.hello.chain) noted
      refine ⟨fun h => absurd h hz, fun _ => ⟨count, last, logged⟩, gone, kept.mono (fun _ h => h) fun x i hr => ?_⟩
      rcases hr with hr | ⟨hx, hr⟩
      · exact .inl hr
      · exact .inr (.inl ⟨hx, by omega, by omega⟩)
  · refine does_of_act (f := (handshakeTimeoutOp · peer)) rfl hd ?_
    obtain rfl := peer_of_handshakeOf hs
    rw [handshakeTimeoutOp_of_late hs ha hl, failHandshake]
    obtain ⟨count, last, logged, gone, kept⟩ :=
      rejected_settle (c := d) h.port h.peer h.hello.roles 55 (Config.chainLeaf h.hello.chain) keeps_self
    exact ⟨gone, count, last, logged, kept⟩

end Sys2Proof
end

section
/-! PROOFS. Pixel dies that come out of reset: repair, microcode, and the configuration they take back (R302, R348, R389 to R392). -/

namespace Sys2Proof
open Machine Safety

/-! ### Microcode that is loaded (R348, R389) -/

/-- The image that a die out of reset loads. -/
def loadedImage (d : Device) (p : Nat) : List Byte := (mcToInstall d p).getD (mcStored d p)

/-- The banks of a die once an image is loaded. -/
def loadedMc (img : List Byte) : McUnit := { mcLoad (mcLoad McUnit.reset 0 img 3) 1 [] 1 with running := 0 }

/-- The device with the image that was to be installed stored, and no longer to be installed. -/
def installStored (d : Device) (p : Nat) : Device :=
  if (mcToInstall d p).isSome then mcMark (mcStore d p (loadedImage d p)) p false else d

/-- The device whose die p fails for want of a good image. -/
def microFailed (d : Device) (p : Nat) : Device :=
  raise (setPix d p { pixAt d p with state := 7, out := false }) (supDie d) 95 (mcObj p)

theorem loadMicro_eq (d : Device) (p : Nat) : loadMicro d p =
    if Config.imageSigned (loadedImage d p) then
      extendMeas (setMc (installStored d p) p (loadedMc (loadedImage d p)))
        (supDie (setMc (installStored d p) p (loadedMc (loadedImage d p)))) 2 (sha256 (loadedImage d p))
    else handled (microFailed d p) (supDie d) [95] (mcObj p) := rfl

theorem keeps_mcMark {ps : List Part} {rs : Nat → Nat → Prop} (d : Device) (p : Nat) (on : Bool) (h : Part.ctls ∈ ps) :
    Keeps ps rs d (mcMark d p on) :=
  keeps_forEach _ _ (fun _ _ _ => keeps_setCtl _ _ _ h) d

theorem keeps_installStored (d : Device) (p : Nat) : Keeps [.ctls] noReg d (installStored d p) := by
  rw [installStored]
  split
  · exact (keeps_mcStore d _ _ (by simp)).trans (keeps_mcMark _ _ _ (by simp))
  · exact keeps_self

theorem keeps_extendMeas_micro (d : Device) (c : Nat) (dg : List Byte) :
    Keeps (.ctls :: auditParts) eventReg d (extendMeas d c 2 dg) :=
  (keeps_setCtl (ps := .ctls :: auditParts) (rs := eventReg) d c _ (by decide)).trans
    (keeps_auditAdd (extendDie d c 2 dg) 13 0xFF 0 0 dg ⟨by decide, by decide, by decide⟩ (fun _ _ h => h))

/-- What the load of microcode may change. -/
def loadParts : List Part := .pix :: .mcs :: .ctls :: auditParts

theorem loadMicro_of_signed {d : Device} {p : Nat} (h : Config.imageSigned (loadedImage d p) = true) :
    mcAt (loadMicro d p) p = loadedMc (loadedImage d p) ∧ (∀ j, pixAt (loadMicro d p) j = pixAt d j) ∧
    Keeps loadParts eventReg d (loadMicro d p) := by
  rw [loadMicro_eq, if_pos h]
  have stored := keeps_installStored d p
  generalize installStored d p = x at stored
  have measured := keeps_extendMeas_micro (setMc x p (loadedMc (loadedImage d p))) (supDie (setMc x p (loadedMc (loadedImage d p))))
    (sha256 (loadedImage d p))
  refine ⟨?_, fun j => ?_, ?_⟩
  · rw [measured.mcAt (by decide), mcAt_setMc, if_pos rfl]
  · rw [measured.pixAt (by decide)]
    exact stored.pixAt (by simp) j
  · exact ((stored.mono (by decide) fun _ _ h => h.elim).trans (keeps_setMc _ _ _ (by decide))).trans
      (measured.mono (by decide) fun _ _ h => h)

theorem loadMicro_of_unsigned {d : Device} {p : Nat} (h : Config.imageSigned (loadedImage d p) = false) :
    (∀ j, pixAt (loadMicro d p) j = if p = j then { pixAt d p with state := 7, out := false } else pixAt d j) ∧
    Keeps loadParts eventReg d (loadMicro d p) := by
  rw [loadMicro_eq, if_neg (by simp [h])]
  have failed := keeps_raise (ps := eventParts) (rs := eventReg) (setPix d p { pixAt d p with state := 7, out := false }) (supDie d) 95
    (mcObj p) (supDie_lt_eight d) (fun _ h => h) (fun _ _ h => h)
  rw [microFailed]
  generalize raise (setPix d p { pixAt d p with state := 7, out := false }) (supDie d) 95 (mcObj p) = x at failed ⊢
  have cleared := keeps_handled (ps := [.rings]) (rs := noReg) x (supDie d) [95] (mcObj p) (by simp)
  refine ⟨fun j => ?_, ?_⟩
  · rw [cleared.pixAt (by simp), failed.pixAt (by decide), pixAt_setPix]
  · exact ((keeps_setPix d p _ (by decide)).trans (failed.mono (by decide) fun _ _ h => h)).trans
      (cleared.mono (by decide) fun _ _ h => h.elim)

theorem loadMicro_pix (d : Device) (p : Nat) :
    (∃ st out, pixAt (loadMicro d p) p = { pixAt d p with state := st, out := out }) ∧ (∀ j, j ≠ p → pixAt (loadMicro d p) j = pixAt d j) ∧
    Keeps loadParts eventReg d (loadMicro d p) := by
  cases h : Config.imageSigned (loadedImage d p) with
  | true =>
    obtain ⟨-, pix, kept⟩ := loadMicro_of_signed h
    exact ⟨⟨(pixAt d p).state, (pixAt d p).out, pix p⟩, fun j _ => pix j, kept⟩
  | false =>
    obtain ⟨pix, kept⟩ := loadMicro_of_unsigned h
    exact ⟨⟨7, false, by rw [pix, if_pos rfl]⟩, fun j hj => by rw [pix, if_neg hj.symm], kept⟩

theorem loadedImage_of_install {d : Device} {p : Nat} {img : List Byte} (h : (mcAt d p).install = some img) : loadedImage d p = img := by
  simp [loadedImage, mcToInstall, h]

/-! ### A die that comes out of reset (R390) -/

/-- What a pixel die's way out of reset may change, and the registers of it. -/
def restartParts : List Part := .pix :: .ifs :: .rules :: .mcs :: .ctls :: auditParts
def restartReg : Nat → Nat → Prop := fun x i => eventReg x i ∨ (0x2400 ≤ x ∧ x < 0x2480 ∧ i = 0x0A)

theorem restartPixel_eq (d : Device) (p : Nat) :
    restartPixel d p = if leaderRuns (releasePixel d p) then loadMicro (releasePixel d p) p else releasePixel d p := rfl

theorem pixAt_releasePixel (d : Device) (p j : Nat) :
    pixAt (releasePixel d p) j = if p = j then { pixAt d p with out := true, state := 3 } else pixAt d j := by
  rw [(keeps_releasePixel_pixelOut d p).pixAt (by simp), pixAt_pixelOut]

theorem memIfAt_releasePixel (d : Device) (p : Nat) {m : Nat} (hm : m < 4) : (memIfAt (releasePixel d p) (ifKey p m)).state = 2 := by
  rw [(keeps_releasePixel_pixelOut d p).memIfAt (by simp), memIfAt_pixelOut d p hm]

theorem activeCtl_of_down {d : Device} (h : ∀ c, c < 2 → ctlUp d c = false) : activeCtl d = none := by
  simp [activeCtl, isActive, h]

theorem leaderRuns_of_down {d : Device} (h : ∀ c, c < 2 → ctlUp d c = false) : leaderRuns d = false := by
  simp [leaderRuns, activeCtl_of_down h, h 0 (by decide), h 1 (by decide)]

theorem leaderRuns_of_up {d : Device} {c : Nat} (hc : c < 2) (hu : ctlUp d c = true) (hr : roleOf d c = 2) : leaderRuns d = true := by
  have some : ([0, 1].any fun c => ctlUp d c && roleOf d c == 2) = true :=
    List.any_eq_true.mpr ⟨c, by simp only [List.mem_cons, List.not_mem_nil, or_false]; omega, by simp [hu, hr]⟩
  rw [leaderRuns, some, Bool.or_true]

theorem ctl_releasePixel (d : Device) (p c : Nat) : ctlAt (releasePixel d p) c = ctlAt d c := (keeps_releasePixel d p).ctlAt (by simp) c

theorem restartPixel_of_down {d : Device} (p : Nat) (h : ∀ c, c < 2 → ctlUp d c = false) : restartPixel d p = releasePixel d p := by
  have down : leaderRuns (releasePixel d p) = false := leaderRuns_of_down fun c hc => by rw [ctlUp, ctl_releasePixel]; exact h c hc
  rw [restartPixel_eq, down, if_neg (by decide)]

theorem restartPixel_of_leader {d : Device} (p : Nat) {c : Nat} (hc : c < 2) (hu : ctlUp d c = true) (hr : roleOf d c = 2) :
    restartPixel d p = loadMicro (releasePixel d p) p := by
  have up : leaderRuns (releasePixel d p) = true :=
    leaderRuns_of_up hc (by rwa [ctlUp, ctl_releasePixel]) (by rwa [roleOf, ctl_releasePixel])
  rw [restartPixel_eq, up, if_pos rfl]

theorem keeps_releasePixel_restart (d : Device) (p : Nat) : Keeps restartParts restartReg d (releasePixel d p) :=
  (keeps_releasePixel d p).mono (by decide) fun _ _ h => .inr h

theorem keeps_loadMicro_restart (d : Device) (p : Nat) : Keeps restartParts restartReg d (loadMicro d p) :=
  (loadMicro_pix d p).2.2.mono (by decide) fun _ _ h => .inl h

theorem restartPixel_reads (d : Device) (p : Nat) :
    (∃ st out, pixAt (restartPixel d p) p = { pixAt d p with state := st, out := out }) ∧
    (∀ j, j ≠ p → pixAt (restartPixel d p) j = pixAt d j) ∧ (∀ m, m < 4 → (memIfAt (restartPixel d p) (ifKey p m)).state = 2) ∧
    Keeps restartParts restartReg d (restartPixel d p) := by
  rw [restartPixel_eq]
  have released := keeps_releasePixel_restart d p
  split
  · obtain ⟨⟨st, out, own⟩, other, kept⟩ := loadMicro_pix (releasePixel d p) p
    refine ⟨⟨st, out, ?_⟩, fun j hj => ?_, fun m hm => ?_, released.trans (keeps_loadMicro_restart _ p)⟩
    · rw [own, pixAt_releasePixel, if_pos rfl]
    · rw [other j hj, pixAt_releasePixel, if_neg hj.symm]
    · rw [kept.memIfAt (by decide), memIfAt_releasePixel d p hm]
  · refine ⟨⟨3, true, ?_⟩, fun j hj => ?_, fun m hm => memIfAt_releasePixel d p hm, released⟩
    · rw [pixAt_releasePixel, if_pos rfl]
    · rw [pixAt_releasePixel, if_neg hj.symm]

theorem resetReleaseOp_of_due {d : Device} {p : Nat} (ho : (pixAt d p).out = false) (hs : (pixAt d p).state = 3)
    (ht : (pixAt d p).resetAt + 1000000 ≤ d.mono) (hh : (railAt d (p + 2)).held = false) (hp : d.pins.pwrgood = true)
    (hr : d.pins.resetn = true) (hl : 3 ≤ (clockAt d (p + 2)).pll) :
    resetReleaseOp d p = if (pixAt d p).repair then setPix d p { pixAt d p with state := 4 } else restartPixel d p := by
  simp [resetReleaseOp, ho, hs, hh, hp, hr, Nat.not_lt.mpr ht, Nat.not_lt.mpr hl, modPix]

/-! ### Repair (R391) -/

/-- The die whose spare columns took the failing ones. -/
def repairedDie (q : PixelDie) (failing : Nat) : PixelDie :=
  { q with repair := false, spare := q.spare - failing, repairs := min (q.repairs + 1) 0x7FFFFFFF }

/-- The die that has fewer spare columns than fail. -/
def brokenDie (q : PixelDie) : PixelDie := { q with state := 7, repair := false, spare := 0 }

theorem repairDoneOp_of_test {d : Device} {p failing : Nat} (h : (pixAt d p).state = 4) :
    repairDoneOp d p failing = if (pixAt d p).spare < failing then raise (setPix d p (brokenDie (pixAt d p))) (p + 2) 83 0
      else restartPixel (setPix d p (repairedDie (pixAt d p) failing)) p := by
  simp [repairDoneOp, h, modPix, brokenDie, repairedDie]

/-! ### The configuration of a die comes back (R302, R392) -/

theorem storeGet_keyPut (t : Table Val) (k i x : Nat) (v : Val) (hx : x < 256) :
    storeGet (keyPut t k v) i x = if k = regKey i x then v else storeGet t i x := by
  have reset : keyReset (regKey i x) = resetVal i x := by
    have hi : keyIdx (regKey i x) = i := by simp only [keyIdx, regKey]; omega
    have hs : keySub (regKey i x) = x := by simp only [keySub, regKey]; omega
    rw [keyReset, hi, hs]
  simp only [storeGet_eq, keyPut, tset]
  by_cases hk : k = regKey i x
  · rw [if_pos hk, hk, reset]
    split
    · next h => simp [h]
    · simp
  · rw [if_neg hk]
    split
    · simp [hk]
    · simp [hk]

theorem tfind_of_rising_head {j : Nat} {a : Val} {l : Table Val} (h : Rising ((j, a) :: l)) : tfind l j = none := by
  cases hf : tfind l j with
  | none => rfl
  | some v => exact absurd (lt_of_tfind_tail h hf) (Nat.lt_irrefl j)

/-- A store into which a table with one entry a key is put reads that table first. -/
theorem storeGet_keyPuts (l : Table Val) (h : Rising l) (t : Table Val) (i x : Nat) (hx : x < 256) :
    storeGet (keyPuts t l) i x = (tfind l (regKey i x)).getD (storeGet t i x) := by
  induction l generalizing t with
  | nil => rfl
  | cons e l ih =>
    obtain ⟨j, a⟩ := e
    have step : keyPuts t ((j, a) :: l) = keyPuts (keyPut t j a) l := rfl
    rw [step, ih ((rising_cons (j, a) l).mp h).2, storeGet_keyPut t j i x a hx, tfind]
    split
    · next hj =>
      subst hj
      rw [tfind_of_rising_head h]
      rfl
    · rfl

theorem tfind_filter_key {α : Type} (f : Nat → Bool) (t : Table α) (k : Nat) :
    tfind (t.filter fun e => f e.1) k = if f k then tfind t k else none := by
  induction t with
  | nil => simp [tfind]
  | cons e t ih =>
    obtain ⟨j, a⟩ := e
    by_cases hj : j = k
    · subst hj
      cases hf : f j <;> simp_all [tfind]
    · cases hf : f j <;> simp [hf, tfind, hj, ih]

theorem rising_filter {t : Table Val} (f : Nat × Val → Bool) (h : Rising t) : Rising (t.filter f) :=
  List.Pairwise.sublist (List.Sublist.map _ List.filter_sublist) h

/-- The records that name units of die p. -/
def dieRecord (d : Device) (p : Nat) : Table Val := d.record.filter fun e => entryDie d.record e.1 == some p

theorem tfind_dieRecord (d : Device) {p k : Nat} (h : entryDie d.record k = some p) : tfind (dieRecord d p) k = tfind d.record k := by
  rw [dieRecord, tfind_filter_key (fun j => entryDie d.record j == some p), if_pos (by simp [h])]

theorem reload_eq (d : Device) (p : Nat) : reload d p =
    forEach { d with force := keyPuts d.force (dieRecord d p) }
      (((dieRecord d p).map fun e => keyIdx e.1).filter fun i => decide (0x10000 ≤ i)) fun d i => markUnit d (i % 0x10000) := rfl

theorem keeps_markUnit (d : Device) (i : Nat) : Keeps [.layers, .heads, .tags, .wbs] noReg d (markUnit d i) := by
  rw [markUnit]
  split
  · exact keeps_self
  · split
    · exact keeps_setLayer _ _ _ (by simp)
    · split
      · exact keeps_setHead _ _ _ (by simp)
      · split
        · exact keeps_setTag _ _ _ (by simp)
        · split
          · exact keeps_setWb _ _ _ (by simp)
          · exact keeps_self

theorem keeps_reload_marked (d : Device) (p : Nat) :
    Keeps [.layers, .heads, .tags, .wbs] noReg { d with force := keyPuts d.force (dieRecord d p) } (reload d p) :=
  keeps_forEach _ _ (fun x _ _ => keeps_markUnit x _) _

/-- The registers that show a camera input's state. -/
def inputReg : Nat → Nat → Prop := fun x i => 0x5480 ≤ x ∧ i = 0x41

theorem keeps_reviveInputs (d : Device) (p : Nat) : Keeps [.cams, .links] inputReg d (reviveInputs d p) := by
  refine Keeps.trans (keeps_forEach _ _ (fun x i _ => ?_) d) (keeps_forEach _ _ (fun x k _ => ?_) _)
  · exact (keeps_setCam x i _ (by simp)).trans (keeps_setN _ _ _ _ (by decide) ⟨by omega, rfl⟩)
  · split
    · exact keeps_touchStart x false (by simp)
    · exact keeps_self

theorem configReloadedOp_of_ready {d : Device} {p a : Nat} (ha : activeCtl d = some a) (ho : (pixAt d p).out = true)
    (hs : (pixAt d p).state = 3) (ht : (pixAt d p).token = a + 2) (hl : (pixAt d p).tb1.loaded = true) (hm : (mcAt d p).state0 ≠ 0)
    (hi : ∀ m, m < 4 → (memIfAt d (ifKey p m)).state ≠ 2) :
    configReloadedOp d p = modPix (reviveInputs (reload d p) p) p fun q => { q with state := 5 } := by
  have trained : ((List.range 4).any fun m => (memIfAt d (ifKey p m)).state == 2) = false := by
    rw [List.any_eq_false]
    exact fun m hmem => by simpa using hi m (List.mem_range.mp hmem)
  simp [configReloadedOp, ha, ho, hs, ht, hl, hm, trained]

theorem keeps_force_of {d : Device} (v : Table Val) : Keeps [.force] noReg d { d with force := v } :=
  ⟨fun p hp => by cases p <;> simp_all [Same, memByte], fun _ _ _ _ => rfl⟩

/-- What the return of a die's configuration leaves, and what its stores then hold. -/
theorem reloaded_reads (d : Device) (p : Nat) :
    (∀ i x, x < 256 → (∃ v, tfind d.record (regKey i x) = some v) → Rising d.record → entryDie d.record (regKey i x) = some p →
      storeGet (reviveInputs (reload d p) p).force i x = storeGet d.record i x) ∧
    Keeps [.force, .layers, .heads, .tags, .wbs, .cams, .links] inputReg d (reviveInputs (reload d p) p) := by
  have stored := keeps_force_of (d := d) (keyPuts d.force (dieRecord d p))
  have marked := keeps_reload_marked d p
  have revived := keeps_reviveInputs (reload d p) p
  refine ⟨fun i x hx ⟨v, hv⟩ hr hp => ?_, ((stored.mono (by simp) fun _ _ h => h.elim).trans
    (marked.mono (by simp) fun _ _ h => h.elim)).trans (revived.mono (by simp) fun _ _ h => h)⟩
  have same : storeGet (reviveInputs (reload d p) p).force i x = storeGet (keyPuts d.force (dieRecord d p)) i x :=
    (revived.frc hx (by simp)).trans (marked.frc hx (by simp))
  rw [same, storeGet_keyPuts _ (show Rising (dieRecord d p) from rising_filter _ hr) _ _ _ hx, tfind_dieRecord d hp, hv, storeGet_eq d.record, hv]
  rfl

/-! ### The obligation -/

/-- Settles O45. -/
theorem pixelDiesComeBack : Obligations.PixelDiesComeBack := by
  unfold Obligations.PixelDiesComeBack
  refine ⟨fun dt s d p q hd hq ho hs ht hh hp hr hl => ?_, fun dt s d p failing q hd hq hs => ?_,
    fun dt s d p q a hd hq ha ho hs ht hl hm hi => ?_⟩
  · refine does_of_act (f := (resetReleaseOp · p)) rfl hd ?_
    subst hq
    rw [resetReleaseOp_of_due ho hs ht hh hp hr hl]
    have apart : ∀ {P : Prop}, (pixAt d p).repair = true → (pixAt d p).repair = false → P := fun h g => absurd (h.symm.trans g) (by decide)
    obtain hrep | hrep := Bool.eq_false_or_eq_true (pixAt d p).repair
    · rw [if_pos hrep]
      refine ⟨fun _ => ⟨?_, ?_⟩, apart hrep, fun _ _ h => apart hrep h, apart hrep, fun j hj => ?_, ?_⟩
      · rw [pixAt_settle, pixAt_setPix, if_pos rfl]
      · rw [mcAt_settle]
        rfl
      · rw [pixAt_settle, pixAt_setPix, if_neg hj.symm]
      · exact keeps_settle_iff.mpr (keeps_setPix _ _ _ (by decide))
    · obtain ⟨-, others, ifs, kept⟩ := restartPixel_reads d p
      have out : { pixAt d p with out := true, state := 3 } = { pixAt d p with out := true } := by rw [← hs]
      rw [if_neg (by simp [hrep])]
      refine ⟨fun h => apart h hrep, fun _ hdown => ?_, fun img c _ hc hu hr2 hins => ?_, fun _ m hm => ?_, fun j hj => ?_, keeps_settle_iff.mpr kept⟩
      · rw [restartPixel_of_down p hdown, pixAt_settle, pixAt_releasePixel, if_pos rfl, mcAt_settle]
        exact ⟨out, (keeps_releasePixel d p).mcAt (by simp) p⟩
      · have image : loadedImage (releasePixel d p) p = img :=
          loadedImage_of_install (by rw [(keeps_releasePixel d p).mcAt (by simp), hins])
        rw [restartPixel_of_leader p hc hu hr2]
        split
        · next signed =>
          obtain ⟨mc, pix, -⟩ := loadMicro_of_signed (d := releasePixel d p) (p := p) (image ▸ signed)
          rw [pixAt_settle, mcAt_settle, mc, pix, pixAt_releasePixel, if_pos rfl, image]
          exact ⟨out, rfl, rfl, rfl⟩
        · next unsigned =>
          obtain ⟨pix, -⟩ := loadMicro_of_unsigned (d := releasePixel d p) (p := p) (by rw [image]; simpa using unsigned)
          rw [pixAt_settle, pix, if_pos rfl, pixAt_releasePixel, if_pos rfl, ← ho]
      · rw [memIfAt_settle, ifs m hm]
      · rw [pixAt_settle, others j hj]
  · refine does_of_act (f := (repairDoneOp · p failing)) rfl hd ?_
    subst hq
    rw [repairDoneOp_of_test hs]
    split
    · next hlt =>
      have raised := keeps_raise (ps := eventParts) (rs := eventReg) (setPix d p (brokenDie (pixAt d p))) (p + 2) 83 0 (by omega)
        (fun _ h => h) (fun _ _ h => h)
      have recorded := recorded_raise_of (d := d) (x := setPix d p (brokenDie (pixAt d p))) (k := p + 2) (code := 83) (unit := 0) rfl (by decide)
      generalize raise (setPix d p (brokenDie (pixAt d p))) (p + 2) 83 0 = e at raised recorded ⊢
      refine ⟨fun _ => ⟨?_, recorded_settle.mpr recorded⟩, fun hle => absurd hlt (Nat.not_lt.mpr hle), fun j hj => ?_, ?_⟩
      · rw [pixAt_settle, raised.pixAt (by decide), pixAt_setPix, if_pos rfl, brokenDie]
      · rw [pixAt_settle, raised.pixAt (by decide), pixAt_setPix, if_neg hj.symm]
      · exact keeps_settle_iff.mpr ((keeps_setPix d p _ (by decide)).trans (raised.mono (by decide) fun _ _ h => .inl h))
    · next hge =>
      obtain ⟨⟨st, out, own⟩, others, -, kept⟩ := restartPixel_reads (setPix d p (repairedDie (pixAt d p) failing)) p
      rw [pixAt_setPix, if_pos rfl] at own
      refine ⟨fun hlt => absurd hlt hge, fun _ => ⟨?_, ?_, ?_, fun hdown => ?_⟩, fun j hj => ?_, ?_⟩
      · rw [pixAt_settle, own, repairedDie]
      · rw [pixAt_settle, own, repairedDie]
      · rw [pixAt_settle, own, repairedDie]
      · have down : ∀ c, c < 2 → ctlUp (setPix d p (repairedDie (pixAt d p) failing)) c = false := hdown
        rw [pixAt_settle, restartPixel_of_down p down, pixAt_releasePixel, if_pos rfl]
        exact ⟨rfl, rfl⟩
      · rw [pixAt_settle, others j hj, pixAt_setPix, if_neg hj.symm]
      · exact keeps_settle_iff.mpr ((keeps_setPix d p _ (by decide)).trans kept)
  · refine does_of_act (f := (configReloadedOp · p)) rfl hd ?_
    subst hq
    rw [configReloadedOp_of_ready ha ho hs ht hl hm hi]
    obtain ⟨store, kept⟩ := reloaded_reads d p
    generalize reviveInputs (reload d p) p = x at store kept ⊢
    have pix : ∀ j, pixAt x j = pixAt d j := kept.pixAt (by simp)
    have settled := keeps_settle [] noReg (modPix x p fun q => { q with state := 5 })
    refine ⟨?_, fun j hj => ?_, fun i y hy hv hr hp => ?_, ?_⟩
    · rw [pixAt_settle, modPix, pixAt_setPix, if_pos rfl, pix]
    · rw [pixAt_settle, modPix, pixAt_setPix, if_neg hj.symm, pix]
    · exact (settled.frc hy (by simp)).trans (store i y hy hv hr hp)
    · exact keeps_settle_iff.mpr ((kept.mono (by simp) fun _ _ h => h).trans (keeps_setPix _ _ _ (by simp)))

end Sys2Proof
end

section
/-! PROOFS. Scanout: what a line, the end of a stream and the end of a scan leave of a head (R179, R181, R183, R187, R199). -/

namespace Sys2Proof
open Machine Safety

/-! ### What a step of a scan leaves -/

/-- The parts that a line of a scan changes beside the writeback, and its registers. -/
def scanParts : List Part := .scans :: .layers :: .heads :: .fresh :: eventParts
def scanReg (h : Nat) : Nat → Nat → Prop := fun x r => eventReg x r ∨ x = 0x4880 + h ∨ (r = 0x0B ∧ 0x4100 ≤ x ∧ x < 0x4100 + 192)

/-- `y` is `x` after a step of head h's scan that launches no line; where q holds, the step leaves the frame on screen as it was. -/
structure Scanned (q : Prop) (h : Nat) (x y : Device) : Prop where
  lines  : (scanAt y h).lines = (scanAt x h).lines
  cur    : (scanAt y h).cur.isSome = (scanAt x h).cur.isSome
  same   : q → (scanAt y h).cur = (scanAt x h).cur
  count  : (headAt y h).frameCount = (headAt x h).frameCount
  others : ∀ j, j ≠ h → headAt y j = headAt x j ∧ scanAt y j = scanAt x j
  kept   : Keeps scanParts (scanReg h) x y

theorem Scanned.refl {q : Prop} (h : Nat) (x : Device) : Scanned q h x x := ⟨rfl, rfl, fun _ => rfl, rfl, fun _ _ => ⟨rfl, rfl⟩, keeps_self⟩

theorem Scanned.trans {q : Prop} {h : Nat} {x y z : Device} (f : Scanned q h x y) (g : Scanned q h y z) : Scanned q h x z where
  lines := g.lines.trans f.lines
  cur := g.cur.trans f.cur
  same hq := (g.same hq).trans (f.same hq)
  count := g.count.trans f.count
  others j hj := ⟨(g.others j hj).1.trans (f.others j hj).1, (g.others j hj).2.trans (f.others j hj).2⟩
  kept := f.kept.trans g.kept

theorem scanned_of_keeps {q : Prop} {ps : List Part} {rs : Nat → Nat → Prop} {h : Nat} {x y : Device} (k : Keeps ps rs x y)
    (hs : Part.scans ∉ ps) (hh : Part.heads ∉ ps) (hp : ∀ p ∈ ps, p ∈ scanParts) (hr : ∀ i s, rs i s → scanReg h i s) : Scanned q h x y where
  lines := by rw [k.scanAt hs]
  cur := by rw [k.scanAt hs]
  same _ := by rw [k.scanAt hs]
  count := by rw [k.headAt hh]
  others j _ := ⟨k.headAt hh j, k.scanAt hs j⟩
  kept := k.mono hp hr

theorem scanned_setScan_of_isSome {h : Nat} (x : Device) (v : HeadScan) (hl : v.lines = (scanAt x h).lines)
    (hc : v.cur.isSome = (scanAt x h).cur.isSome) : Scanned False h x (setScan x h v) where
  lines := by simp [hl]
  cur := by simp [hc]
  same := False.elim
  count := rfl
  others j hj := ⟨rfl, by simp [hj.symm]⟩
  kept := keeps_setScan x h v (by decide)

section
variable {q : Prop}

theorem scanned_setScan {h : Nat} (x : Device) (v : HeadScan) (hl : v.lines = (scanAt x h).lines)
    (hc : v.cur = (scanAt x h).cur) : Scanned q h x (setScan x h v) where
  lines := by simp [hl]
  cur := by simp [hc]
  same _ := by simp [hc]
  count := rfl
  others j hj := ⟨rfl, by simp [hj.symm]⟩
  kept := keeps_setScan x h v (by decide)

theorem scanned_setHead {h : Nat} (x : Device) (v : HeadUnit) (hf : v.frameCount = (headAt x h).frameCount) :
    Scanned q h x (setHead x h v) where
  lines := rfl
  cur := rfl
  same _ := rfl
  count := by simp [hf]
  others j hj := ⟨by simp [hj.symm], rfl⟩
  kept := keeps_setHead x h v (by decide)

theorem scanned_setN {h : Nat} (x : Device) (r n : Nat) (hr : r < 256) : Scanned q h x (setN x (0x4880 + h) r n) :=
  scanned_of_keeps (keeps_setN (ps := []) (rs := fun i _ => i = 0x4880 + h) x _ r n hr rfl) (by simp) (by simp) (by simp)
    fun _ _ h => .inr (.inl h)

theorem scanned_setB {h : Nat} (x : Device) (r : Nat) (b : List Byte) (hr : r < 256) : Scanned q h x (setB x (0x4880 + h) r b) :=
  scanned_of_keeps (keeps_setB (ps := []) (rs := fun i _ => i = 0x4880 + h) x _ r b hr rfl) (by simp) (by simp) (by simp)
    fun _ _ h => .inr (.inl h)

theorem scanned_bump {h : Nat} (x : Device) (r : Nat) (hr : r < 256) : Scanned q h x (bump x (0x4880 + h) r) :=
  scanned_of_keeps (keeps_bumpBy (ps := []) (rs := fun i _ => i = 0x4880 + h) x _ r 1 hr rfl) (by simp) (by simp) (by simp)
    fun _ _ h => .inr (.inl h)

theorem scanned_raiseFull {h : Nat} (x : Device) {k : Nat} (hk : k < 8) (code sev unit count : Nat) (detail : List Nat) (src : Option Nat) :
    Scanned q h x (raiseFull x k code sev unit count detail src) :=
  scanned_of_keeps (keeps_raiseFull (ps := eventParts) (rs := eventReg) x k code sev unit count detail src hk (fun _ h => h) fun _ _ h => h)
    (by decide) (by decide) (by decide) fun _ _ h => .inl h

theorem scanned_forEach {α : Type} {h : Nat} (l : List α) (f : Device → α → Device) (step : ∀ y, ∀ a ∈ l, Scanned q h y (f y a)) (x : Device) :
    Scanned q h x (forEach x l f) := by
  induction l generalizing x with
  | nil => exact Scanned.refl h x
  | cons a l ih => exact (step x a List.mem_cons_self).trans (ih (fun y b hb => step y b (List.mem_cons_of_mem _ hb)) _)

theorem scanned_ite {h : Nat} {p : Prop} [Decidable p] {x y z : Device} (f : Scanned q h x y) (g : Scanned q h x z) :
    Scanned q h x (if p then y else z) := by
  split
  · exact f
  · exact g

/-! ### The mark at its last line (R183) -/

theorem scanned_linkOff {h : Nat} (x : Device) : Scanned q h x (linkOff x h) :=
  (scanned_setHead x { headAt x h with trained := none, payloads := [false, false, false, false], rising := [] } rfl).trans
    (scanned_setScan _ _ rfl rfl)

/-- The head whose output a wrong mark froze. -/
def frozenHead (u : HeadUnit) (latched : Bool) (now : Nat) : HeadUnit :=
  { u with link := if latched then .latched else .frozen now, tries := [] }

/-- The scan of a head whose output a wrong mark froze. -/
def frozenScan (u : HeadScan) (times : List Nat) (resume : Nat) : HeadScan :=
  { u with frozen := true, frozenTimes := times, resumeTick := resume }

theorem scanned_outputFrozen {h : Nat} (hh : h < 24) (x : Device) (k : Nat) : Scanned q h x (outputFrozen x h k) := by
  have die : headDie h < 8 := by simp only [headDie, dieNo, dieOfHead]; omega
  have told : Scanned q h x (bump (raiseD x (headDie h) 16 (headUnitIdx h) [k]) (headStat h) 0x10) :=
    (scanned_raiseFull x die 16 (sevOf 16) (headUnitIdx h) 1 [k] none).trans (scanned_bump _ 0x10 (by decide))
  have shut : ∀ (y : Device) (l : Bool) (now resume : Nat) (times : List Nat),
      Scanned q h y (modScan (modHead (linkOff y h) h fun u => frozenHead u l now) h fun u => frozenScan u times resume) :=
    fun y l now resume times => ((scanned_linkOff y).trans (scanned_setHead _ (frozenHead (headAt _ h) l now) rfl)).trans
      (scanned_setScan _ (frozenScan (scanAt _ h) times resume) rfl rfl)
  have clear : ∀ y, Scanned q h y (handled y (headDie h) [16] (headUnitIdx h)) := fun y =>
    scanned_of_keeps (keeps_handled (ps := [.rings]) (rs := noReg) y _ _ _ (by simp)) (by simp) (by simp) (by decide) fun _ _ h => h.elim
  dsimp only [outputFrozen]
  generalize bump (raiseD x (headDie h) 16 (headUnitIdx h) [k]) (headStat h) 0x10 = y at told ⊢
  exact told.trans (scanned_ite ((shut y _ _ _ _).trans (clear _)) (shut y _ _ _ _))

/-- The scan of a head once stream k's mark is compared. -/
def markedScan (u : HeadScan) (k crc : Nat) (good : Bool) : HeadScan :=
  { u with lastMark := u.lastMark.set k crc, markState := u.markState.set k (if good then 2 else 3) }

theorem scanned_markCheck {h : Nat} (hh : h < 24) (x : Device) (k : Nat) (S : Scan) : Scanned q h x (markCheck x h k S) := by
  have compared : ∀ crc good b, Scanned q h x (setB (modScan x h fun u => markedScan u k crc good) (headStat h) 0x11 b) := fun crc good b =>
    (scanned_setScan x (markedScan (scanAt x h) k crc good) rfl rfl).trans (scanned_setB _ _ b (by decide))
  dsimp only [markCheck]
  refine (compared _ _ _).trans (scanned_ite (scanned_outputFrozen hh _ k) (scanned_ite ?_ (Scanned.refl h _)))
  exact scanned_setScan _ _ (by rfl) (by rfl)

theorem scanned_layerScanned {h : Nat} (x : Device) (S : Scan) (L : ScanLayer) : Scanned q h x (layerScanned x S L) := by
  rw [layerScanned]
  split
  · exact scanned_of_keeps (keeps_setLayer (ps := [.layers]) (rs := noReg) x _ _ (by simp)) (by simp) (by simp) (by decide)
      fun _ _ h => h.elim
  · exact Scanned.refl h x

theorem scanned_lineEnds {h : Nat} (hh : h < 24) (x : Device) (k line : Nat) (S : Scan) : Scanned q h x (lineEnds x h k line S) := by
  have panes := scanned_forEach (q := q) (panesEnding S k line) (fun d L => layerScanned d S L) (fun y L _ => scanned_layerScanned (h := h) y S L) x
  dsimp only [lineEnds]
  split
  · exact panes.trans (scanned_markCheck hh _ k S)
  · exact panes

/-! ### A line that launches -/

theorem scanned_parityFail {h : Nat} (x : Device) (k line : Nat) (e : LayerNo × Nat) : Scanned False h x (parityFail x h k line e) := by
  unfold parityFail
  split
  · exact Scanned.refl h x
  · next S hS =>
    split
    · exact Scanned.refl h x
    · next L hL =>
      have layer : L.n = e.1.val := by simpa using List.find?_some hL
      have hn : L.n < 192 := by omega
      split
      · exact Scanned.refl h x
      · next f hf =>
        dsimp only
        split
        · refine (scanned_setScan_of_isSome x _ (by rfl) (by rw [hS]; rfl)).trans
            (scanned_of_keeps (tileFailed_reads hn _ f.source e.2 6).2.2.2 (by decide) (by decide) (by decide) fun i r hr => ?_)
          rcases hr with hr | ⟨hi, hr⟩
          · exact .inl hr
          · exact .inr (.inr ⟨hr, by omega, by omega⟩)
        · exact Scanned.refl h x

/-- The device once an underrun of head h is counted and its cause shown. -/
def underCounted (x : Device) (h : Nat) : Device :=
  let y := bump x (headStat h) 0x0A
  setN (if (scanAt x h).underFrame then y else bump y (headStat h) 0x0B) (headStat h) 0x0C
    (underCause (if (scanAt x h).underFrame then y else bump y (headStat h) 0x0B) (dieOfHead h))

theorem scanned_underCounted {h : Nat} (x : Device) : Scanned q h x (underCounted x h) :=
  ((scanned_bump x 0x0A (by decide)).trans (scanned_ite (Scanned.refl h _) (scanned_bump _ 0x0B (by decide)))).trans
    (scanned_setN _ 0x0C _ (by decide))

/-- The scan of a head once its underrun is noted. -/
def underScan (u : HeadScan) (n : Nat) (event : Option Nat) : HeadScan := { u with underFrame := true, underSince := n, underEvent := event }

theorem scanned_underrunOn {h : Nat} (hh : h < 24) (x : Device) : Scanned q h x (underrunOn x h) := by
  have die : headDie h < 8 := by simp only [headDie, dieNo, dieOfHead]; omega
  have shape : ∃ (p : Prop) (_ : Decidable p) (n m c : Nat) (ev ev' : Option Nat) (l : List Nat), underrunOn x h =
      if p then raiseFull (setScan (underCounted x h) h (underScan (scanAt (underCounted x h) h) n ev)) (headDie h) 22 (sevOf 22)
          (headUnitIdx h) m l none
        else setScan (underCounted x h) h (underScan (scanAt (underCounted x h) h) c ev') :=
    ⟨_, _, _, _, _, _, _, _, rfl⟩
  obtain ⟨p, inst, n, m, c, ev, ev', l, shape⟩ := shape
  rw [shape]
  exact (scanned_underCounted x).trans (scanned_ite ((scanned_setScan _ _ (by rfl) (by rfl)).trans (scanned_raiseFull _ die _ _ _ _ _ _))
    (scanned_setScan _ _ (by rfl) (by rfl)))

theorem scanned_lineSent {h : Nat} (x : Device) (k y : Nat) (S : Scan) (row : List Rgb) (stuck : Bool) :
    Scanned q h x (lineSent x h k y S row stuck) := scanned_setScan x _ (by rfl) (by rfl)

theorem scanned_lineCrcs {h : Nat} (x : Device) (k y : Nat) (S : Scan) (row : List Rgb) (stuck : Bool) :
    Scanned q h x (lineCrcs x h k y S row stuck) := by
  have spent : ∀ z, Scanned q h z (spend z) := fun z =>
    scanned_of_keeps (keeps_fresh (ps := [.fresh]) (rs := noReg) z (z.fresh + 1) (by simp)) (by simp) (by simp) (by decide)
      fun _ _ h => h.elim
  dsimp only [lineCrcs]
  split
  · exact (scanned_setScan x _ (by rfl) (by rfl)).trans (spent _)
  · exact scanned_setScan x _ (by rfl) (by rfl)

/-- The device after what ends as line `line` launches, and after the parity errors of its tiles. -/
def lineBegun (d : Device) (h k line : Nat) (parity : List (LayerNo × Nat)) (S : Scan) : Device :=
  forEach (lineEnds d h k line S) parity fun d e => parityFail d h k line e

theorem scanned_lineBegun {h : Nat} (hh : h < 24) (x : Device) (k line : Nat) (parity : List (LayerNo × Nat)) (S : Scan) :
    Scanned False h x (lineBegun x h k line parity S) :=
  (scanned_lineEnds hh x k line S).trans (scanned_forEach _ _ (fun y e _ => scanned_parityFail y k line e) _)

/-- The device once a line's underrun is noted. -/
def lineLate (x : Device) (h : Nat) (late : Bool) : Device := if late then underrunOn x h else x

/-- The scan of a head once line `line` of stream k has launched. -/
def launchedScan (u : HeadScan) (k line : Nat) (maps : List PaneMap) : HeadScan := { u with lines := u.lines.set k (line + 1), maps := maps }

theorem rasterLineOp_of_line {d : Device} {h k line : Nat} {S : Scan} (parity : List (LayerNo × Nat)) (stuck : Bool)
    (hc : (scanAt d h).cur = some S) (hu : pixUp d (dieOfHead h) = true) (hr : (headAt d h).running = true) (hk : k < hv S.hcfg 5)
    (hl : (scanAt d h).lines.getD k 0 = line) (hlt : line < vActive S.hcfg) (hdue : lineDue d h line S = true) :
    ∃ (late : Bool) (T : Scan) (row : List Rgb) (packed : List Nat) (maps : HeadScan → List PaneMap),
      rasterLineOp d h k line parity stuck =
      modScan (wbLine (lineCrcs (lineSent (lineLate (lineBegun d h k line parity S) h late) h k line T row stuck) h k line T row stuck)
        h k packed) h fun u => launchedScan u k line (maps u) := by
  simp only [rasterLineOp, hc, hu, hr, hl, hdue, Nat.not_le.mpr hk, Nat.not_lt.mpr (Nat.le_of_lt hlt), Nat.ne_of_lt hlt, Bool.not_true,
    bne_self_eq_false, decide_false, Bool.or_self, Bool.false_eq_true, if_false]
  exact ⟨_, _, _, _, _, rfl⟩

/-- What the capture of a line leaves: the writeback, with one more row where it captures this stream. -/
theorem wbLine_reads (x : Device) (h k : Nat) (row : List Nat) :
    Keeps [.wbs] noReg x (wbLine x h k row) ∧
    (wbv (wbAt x (dieOfHead h)).capture 1 = 1 → wbv (wbAt x (dieOfHead h)).capture 2 = h → wbv (wbAt x (dieOfHead h)).capture 3 = k →
      (wbAt x (dieOfHead h)).spoiled = false →
      (wbAt (wbLine x h k row) (dieOfHead h)).rows.length = (wbAt x (dieOfHead h)).rows.length + 1) := by
  dsimp only [wbLine]
  split
  · refine ⟨keeps_setWb x _ _ (by simp), fun _ _ _ _ => ?_⟩
    simp [modWb]
  · next hn => exact ⟨keeps_self, fun h1 h2 h3 h4 => absurd ⟨h1, h2, h3, by simp [h4]⟩ hn⟩

/-- What a line of a scan leaves, beside what its effect on the scan's lines and on the writeback says. -/
theorem rasterLine_reads {d : Device} {h k line : Nat} {S : Scan} (parity : List (LayerNo × Nat)) (stuck : Bool) (hh : h < 24)
    (hc : (scanAt d h).cur = some S) (hu : pixUp d (dieOfHead h) = true) (hr : (headAt d h).running = true) (hk : k < hv S.hcfg 5)
    (hl : (scanAt d h).lines.getD k 0 = line) (hlt : line < vActive S.hcfg) (hdue : lineDue d h line S = true) :
    (scanAt (rasterLineOp d h k line parity stuck) h).lines = (scanAt d h).lines.set k (line + 1) ∧
    (scanAt (rasterLineOp d h k line parity stuck) h).cur.isSome = true ∧
    (headAt (rasterLineOp d h k line parity stuck) h).frameCount = (headAt d h).frameCount ∧
    (wbv (wbAt d (dieOfHead h)).capture 1 = 1 → wbv (wbAt d (dieOfHead h)).capture 2 = h → wbv (wbAt d (dieOfHead h)).capture 3 = k →
      (wbAt d (dieOfHead h)).spoiled = false →
      (wbAt (rasterLineOp d h k line parity stuck) (dieOfHead h)).rows.length = (wbAt d (dieOfHead h)).rows.length + 1) ∧
    (∀ j, j ≠ h → headAt (rasterLineOp d h k line parity stuck) j = headAt d j ∧
      scanAt (rasterLineOp d h k line parity stuck) j = scanAt d j) ∧
    Keeps (.scans :: .layers :: .heads :: .wbs :: .fresh :: eventParts) (scanReg h) d (rasterLineOp d h k line parity stuck) := by
  obtain ⟨late, T, row, packed, maps, launched⟩ := rasterLineOp_of_line parity stuck hc hu hr hk hl hlt hdue
  have composed : Scanned False h d (lineCrcs (lineSent (lineLate (lineBegun d h k line parity S) h late) h k line T row stuck) h k line T row
      stuck) :=
    (((scanned_lineBegun hh d k line parity S).trans (scanned_ite (scanned_underrunOn hh _) (Scanned.refl h _))).trans
      (scanned_lineSent _ k line T row stuck)).trans (scanned_lineCrcs _ k line T row stuck)
  rw [launched]
  generalize lineCrcs (lineSent (lineLate (lineBegun d h k line parity S) h late) h k line T row stuck) h k line T row stuck = x
    at composed ⊢
  obtain ⟨wb, captured⟩ := wbLine_reads x h k packed
  generalize wbLine x h k packed = y at wb captured ⊢
  have scan : ∀ j, scanAt (modScan y h fun u => launchedScan u k line (maps u)) j =
      if h = j then launchedScan (scanAt x h) k line (maps (scanAt x h)) else scanAt x j := fun j => by
    rw [modScan, scanAt_setScan, wb.scanAt (by simp), wb.scanAt (by simp)]
  have head : ∀ j, headAt (modScan y h fun u => launchedScan u k line (maps u)) j = headAt x j := wb.headAt (by simp)
  have wbs : wbAt (modScan y h fun u => launchedScan u k line (maps u)) (dieOfHead h) = wbAt y (dieOfHead h) := rfl
  have same : wbAt x (dieOfHead h) = wbAt d (dieOfHead h) := composed.kept.wbAt (by decide) _
  refine ⟨?_, ?_, by rw [head, composed.count], ?_, fun j hj => ⟨by rw [head, (composed.others j hj).1], ?_⟩, ?_⟩
  · rw [scan, if_pos rfl, launchedScan, composed.lines]
  · rw [scan, if_pos rfl, launchedScan, composed.cur, hc]
    rfl
  · rw [wbs, ← same]
    exact captured
  · rw [scan, if_neg hj.symm, (composed.others j hj).2]
  · exact ((composed.kept.mono (by decide) fun _ _ h => h).trans (wb.mono (by decide) fun _ _ h => h.elim)).trans
      (keeps_setScan y h _ (by decide))
end

/-! ### The reset that GREY frames announced (R420) -/

theorem tget_dropKeys {α : Type} (t : Table α) {f : Nat → Bool} {k : Nat} (h : f k = true) (dflt : α) :
    tget (dropKeys t f) k dflt = dflt := by
  rw [tget_eq, dropKeys, tfind_filter_key (fun j => !f j), if_neg (by simp [h])]
  rfl

theorem pixelReset_reads (x : Device) (p : Nat) :
    pixUp (pixelReset x p) p = false ∧ ∀ h, h / 4 = p → scanAt (pixelReset x p) h = HeadScan.reset := by
  have cleared : ∃ (z : Device) (t : Table HeadScan) (q : PixelDie), q.out = false ∧ z.scans = dropKeys t (fun h => h / 4 == p) ∧
      pixelReset x p = clockRestart (tokensMoved (setPix z p q)) (dieNo p) := ⟨_, _, _, rfl, rfl, rfl⟩
  obtain ⟨z, t, q, out, dropped, cleared⟩ := cleared
  rw [cleared]
  have moved := (keeps_tokensMoved (setPix z p q)).mono (qs := [.ctls, .clocks]) (by simp) fun _ _ h => h
  have restarted : Keeps [.ctls, .clocks] noReg (tokensMoved (setPix z p q)) (clockRestart (tokensMoved (setPix z p q)) (dieNo p)) :=
    keeps_setClock _ _ _ (by simp)
  have all := moved.trans restarted
  refine ⟨?_, fun h hh => ?_⟩
  · rw [pixUp, all.pixAt (by simp), pixAt_setPix, if_pos rfl, out]
  · have read : scanAt (setPix z p q) h = tget z.scans h HeadScan.reset := rfl
    rw [all.scanAt (by simp), read, dropped, tget_dropKeys t (by simp [hh])]

/-- A device whose die p's reset leaves it in reset, its heads scanning nothing. -/
def DieDown (p : Nat) (x : Device) : Prop := pixUp x p = false ∧ ∀ h, h / 4 = p → (scanAt x h).cur = none

theorem dieDown_pixelReset (x : Device) (p : Nat) : DieDown p (pixelReset x p) := by
  obtain ⟨out, scans⟩ := pixelReset_reads x p
  exact ⟨out, fun h hh => by rw [scans h hh]; rfl⟩

theorem dieDown_supplyReset (x : Device) (p : Nat) : DieDown p (supplyReset x (dieNo p)) := by
  dsimp only [supplyReset]
  generalize logReset _ _ = y
  rw [if_neg (by simp)]
  exact dieDown_pixelReset y p

theorem dieDown_resetAssert (x : Device) (p : Nat) : DieDown p (resetAssert x p) := by
  dsimp only [resetAssert]
  generalize logReset _ _ = y
  obtain ⟨out, scans⟩ := dieDown_pixelReset y p
  generalize pixelReset y p = z at out scans ⊢
  refine ⟨?_, scans⟩
  rw [pixUp, modPix, pixAt_setPix, if_pos rfl]
  exact out

theorem announcedReset_cases (x : Device) (p : Nat) : announcedReset x p = x ∨ DieDown p (announcedReset x p) := by
  unfold announcedReset
  split
  · right
    exact dieDown_supplyReset x p
  · split
    · exact .inr (dieDown_resetAssert x p)
    · exact .inl rfl

/-! ### The end of a scan (R199) -/

/-- What publication of a captured frame may change. -/
theorem keeps_publishSealed {p : Nat} (hp : p < 6) (d : Device) (s seq capture decl : Nat) (px : Nat → Nat → Px) :
    Keeps tppParts anyReg d (publishSealed d s p seq capture decl px).1 := by
  have taken := fun l => (allocTiles_reads hp l d).1.mono (qs := tppParts) (ts := anyReg) (by decide) fun _ _ _ => trivial
  have published : ∀ (x : Device) (f : Frame) (written : List Nat), Keeps tppParts anyReg x (publish x s p f written false) := fun x f w => by
    obtain ⟨-, -, -, -, stored⟩ := publishOn_reads x s p f w
    rw [publish_eq]
    generalize publishOn x s p f w = y at stored
    obtain ⟨-, shown, -⟩ := statusShown_reads y s f
    generalize statusShown y s f = z at shown
    have exported := (exported_exportFrame z s p ((srcUnit z s p).frame.getD f) w false).kept
    exact ((stored.mono (by decide) fun _ _ _ => trivial).trans (shown.mono (by decide) fun _ _ _ => trivial)).trans
      (exported.mono (by decide) fun _ _ _ => trivial)
  dsimp only [publishSealed]
  have all := taken ((List.range (gridTiles (srcW d s) (srcH d s))).map fun i =>
    (i, sealTile s seq capture (srcW d s) (srcH d s) i true (tilePayload (srcCfg d s 4) (srcW d s) (srcH d s) i px),
      tilePayload (srcCfg d s 4) (srcW d s) (srcH d s) i px))
  split
  · next x h =>
    rw [h] at all
    exact all
  · next x t h =>
    rw [h] at all
    exact all.trans (published x _ _)

/-- What the end of a scan may change before the reset that it was waited for, beside the head's frame on screen. -/
def closeParts : List Part := .layers :: .wbs :: tppParts

theorem keeps_wbPublish {p : Nat} (hp : p < 6) (x : Device) (S : Scan) : Keeps closeParts anyReg x (wbPublish x p S) := by
  have bumped : ∀ (y : Device) (o r : Nat), r < 256 → Keeps closeParts anyReg y (bump y o r) := fun y o r hr =>
    keeps_bumpBy y o r 1 hr trivial
  dsimp only [wbPublish]
  split
  · exact keeps_self
  · split
    · exact bumped x _ 0x0A (by decide)
    · have published := keeps_publishSealed hp x (wbv (wbAt x p).capture 4)
        (((srcUnit x (wbv (wbAt x p).capture 4) p).count + 1) % 65536) (wbCapture S (wbv (wbAt x p).capture 3) (wbAt x p).launch).1
        (wbCapture S (wbv (wbAt x p).capture 3) (wbAt x p).launch).2 (wbPixel (wbAt x p).rows (rasterScale S.hcfg))
      replace published := published.mono (qs := closeParts) (by decide) fun _ _ h => h
      split
      · exact (published.trans (bumped _ _ 9 (by decide))).trans (keeps_setSrc _ _ _ (by decide))
      · exact published.trans (bumped _ _ 0x0A (by decide))

theorem keeps_freeOldStrips (x : Device) (h : Nat) : Keeps [.layers] noReg x (freeOldStrips x h) := by
  refine keeps_forEach _ _ (fun y n _ => ?_) x
  split
  · exact keeps_setLayer y _ _ (by simp)
  · exact keeps_self

/-- The device once a completed scan's CRCs are shown. -/
def crcsShown (d : Device) (h : Nat) (S : Scan) : Device :=
  if hv S.hcfg 0x18 = 1 then
    setB d (headStat h) 0x12 (beBytes 4 (headAt d h).frameCount ++ (List.range 4).flatMap fun k =>
      beBytes 4 (if k < hv S.hcfg 5 then ((scanAt d h).outs.getD k 0) ^^^ 0xFFFFFFFF else 0))
  else d

/-- The device once a completed scan's capture is published. -/
def captureClosed (d : Device) (h : Nat) (S : Scan) : Device :=
  if wbv (wbAt d (dieOfHead h)).capture 1 = 1 ∧ wbv (wbAt d (dieOfHead h)).capture 2 = h then
    modWb (wbPublish d (dieOfHead h) S) (dieOfHead h) fun w => { w with capture := [], rows := [] } else d

/-- The device once a completed scan is off the screen. -/
def scanClosed (d : Device) (h : Nat) (S : Scan) : Device :=
  freeOldStrips (modScan (captureClosed (crcsShown d h S) h S) h fun x => { x with cur := none }) h

theorem scanComplete_eq (d : Device) (h : Nat) (S : Scan) : scanComplete d h S =
    if scansEnded (scanClosed d h S) (dieOfHead h) then announcedReset (scanClosed d h S) (dieOfHead h) else scanClosed d h S := rfl

theorem scanClosed_reads {h : Nat} (hh : h < 24) (d : Device) (S : Scan) :
    (scanAt (scanClosed d h S) h).cur = none ∧ (∀ j, headAt (scanClosed d h S) j = headAt d j) ∧
    ∀ j, pixAt (scanClosed d h S) j = pixAt d j := by
  have die : dieOfHead h < 6 := by rw [dieOfHead]; omega
  have shown : Keeps closeParts anyReg d (crcsShown d h S) := by
    rw [crcsShown, keeps_ite]
    exact ⟨fun _ => keeps_setB _ _ _ _ (by decide) trivial, fun _ => keeps_self⟩
  have captured : ∀ x, Keeps closeParts anyReg x (captureClosed x h S) := fun x => by
    rw [captureClosed, keeps_ite]
    exact ⟨fun _ => (keeps_wbPublish die x S).trans (keeps_setWb _ _ _ (by decide)), fun _ => keeps_self⟩
  have closed := shown.trans (captured _)
  rw [scanClosed]
  generalize captureClosed (crcsShown d h S) h S = x at closed
  have freed := keeps_freeOldStrips (modScan x h fun u => { u with cur := none }) h
  refine ⟨?_, fun j => ?_, fun j => ?_⟩
  · rw [freed.scanAt (by simp), modScan, scanAt_setScan, if_pos rfl]
  · exact (freed.headAt (by simp) j).trans (closed.headAt (by decide) j)
  · exact (freed.pixAt (by simp) j).trans (closed.pixAt (by decide) j)

theorem scanComplete_reads {h : Nat} (hh : h < 24) (d : Device) (S : Scan) :
    (scanAt (scanComplete d h S) h).cur = none ∧
    (pixUp (scanComplete d h S) (dieOfHead h) = true → headAt (scanComplete d h S) h = headAt d h) := by
  obtain ⟨cur, head, -⟩ := scanClosed_reads hh d S
  rw [scanComplete_eq]
  generalize scanClosed d h S = x at cur head ⊢
  split
  · rcases announcedReset_cases x (dieOfHead h) with hx | ⟨out, scans⟩
    · rw [hx]
      exact ⟨cur, fun _ => head h⟩
    · exact ⟨scans h rfl, fun up => absurd (out.symm.trans up) (by decide)⟩
  · exact ⟨cur, fun _ => head h⟩

theorem scanComplete_down {h : Nat} (hh : h < 24) {d : Device} (S : Scan) (hd : pixUp d (dieOfHead h) = false) :
    pixUp (scanComplete d h S) (dieOfHead h) = false := by
  obtain ⟨-, -, pix⟩ := scanClosed_reads hh d S
  have down : pixUp (scanClosed d h S) (dieOfHead h) = false := by rwa [pixUp, pix]
  rw [scanComplete_eq]
  generalize scanClosed d h S = x at down ⊢
  split
  · rcases announcedReset_cases x (dieOfHead h) with hx | ⟨out, -⟩
    · rwa [hx]
    · exact out
  · exact down

/-! ### The end of a stream (R187) -/

/-- The device once stream k's last active line has ended, before the scan's end. -/
def streamDone (d : Device) (h k : Nat) (S : Scan) : Device :=
  modScan (lineEnds d h k (vActive S.hcfg) S) h fun x => { x with lines := x.lines.set k (vActive S.hcfg + 1) }

theorem streamEnds_eq (d : Device) (h k : Nat) (S : Scan) : streamEnds d h k S =
    if (List.range (hv S.hcfg 5)).all fun j => decide (vActive S.hcfg < (scanAt (streamDone d h k S) h).lines.getD j 0) then
      scanComplete (streamDone d h k S) h S else streamDone d h k S := rfl

theorem streamDone_reads {h : Nat} (hh : h < 24) (d : Device) (k : Nat) (S : Scan) :
    (scanAt (streamDone d h k S) h).cur = (scanAt d h).cur ∧
    (scanAt (streamDone d h k S) h).lines = (scanAt d h).lines.set k (vActive S.hcfg + 1) ∧
    (headAt (streamDone d h k S) h).frameCount = (headAt d h).frameCount ∧ ∀ j, pixAt (streamDone d h k S) j = pixAt d j := by
  have ended := scanned_lineEnds (q := True) hh d k (vActive S.hcfg) S
  rw [streamDone]
  generalize lineEnds d h k (vActive S.hcfg) S = x at ended
  refine ⟨?_, ?_, ended.count, ended.kept.pixAt (by decide)⟩
  · rw [modScan, scanAt_setScan, if_pos rfl]
    exact ended.same trivial
  · rw [modScan, scanAt_setScan, if_pos rfl, ended.lines]

/-- While die p is out of reset, head h shows frame count n. -/
def CountedUp (h n : Nat) (x : Device) : Prop := pixUp x (dieOfHead h) = true → (headAt x h).frameCount = n

theorem countedUp_streamEnds {h n : Nat} (hh : h < 24) (d : Device) (k : Nat) (S : Scan) (hd : CountedUp h n d) :
    CountedUp h n (streamEnds d h k S) := by
  obtain ⟨-, -, count, pix⟩ := streamDone_reads hh d k S
  have done : CountedUp h n (streamDone d h k S) := fun up => by
    rw [count]
    exact hd (by rwa [pixUp, pix] at up)
  rw [streamEnds_eq]
  generalize streamDone d h k S = x at done ⊢
  split
  · intro up
    cases hx : pixUp x (dieOfHead h) with
    | true => rw [(scanComplete_reads hh x S).2 up, done hx]
    | false => exact absurd ((scanComplete_down hh S hx).symm.trans up) (by decide)
  · exact done

theorem countedUp_scanEnds {h n : Nat} (hh : h < 24) (d : Device) (hd : CountedUp h n d) : CountedUp h n (scanEnds d h) := by
  unfold scanEnds
  split
  · exact hd
  · next S hS =>
    dsimp only
    generalize (List.range (hv S.hcfg 5)).filter _ = l
    clear hS
    induction l generalizing d with
    | nil => exact hd
    | cons k l ih => exact ih _ (countedUp_streamEnds hh d k S hd)

/-! ### A frame that launches (R179, R181) -/

theorem getD_foldl_set (ks : List Nat) {k : Nat} (l : List Bool) (hl : k < l.length) (h : k ∈ ks ∨ l.getD k false = true) :
    (ks.foldl (fun l k => l.set k true) l).getD k false = true := by
  induction ks generalizing l with
  | nil => exact h.resolve_left (by simp)
  | cons j ks ih =>
    refine ih (l.set j true) (by simpa using hl) ?_
    by_cases hj : j = k
    · exact .inr (by simp [hj, hl])
    · rcases h with h | h
      · exact .inl ((List.mem_cons.mp h).resolve_left fun e => hj e.symm)
      · exact .inr (by simpa [List.getD_eq_getElem?_getD, List.getElem?_set_ne hj] using h)

theorem streamsRise_reads (x : Device) (h : Nat) :
    (∀ k ∈ (headAt x h).rising, k < (headAt x h).payloads.length → (headAt (streamsRise x h) h).payloads.getD k false = true) ∧
    (∀ j, j ≠ h → headAt (streamsRise x h) j = headAt x j) ∧ Keeps [.heads, .rings] noReg x (streamsRise x h) := by
  dsimp only [streamsRise]
  by_cases hn : (headAt x h).rising = []
  · rw [if_pos hn]
    exact ⟨fun k hk => absurd hk (by simp [hn]), fun _ _ => rfl, keeps_self⟩
  · rw [if_neg hn]
    refine ⟨fun k hk hl => ?_, fun j hj => ?_, (keeps_setHead x h _ (by simp)).trans (keeps_setRing _ _ _ (by simp))⟩
    · simp only [modRing_eq, units_setRing, modHead, headAt_setHead, if_true]
      exact getD_foldl_set _ _ hl (.inl hk)
    · simp only [modRing_eq, units_setRing, modHead, headAt_setHead, if_neg hj.symm]

theorem keeps_wbLaunch (x : Device) (h : Nat) : Keeps [.wbs, .srcs] noReg x (wbLaunch x h) := by
  have wrote : ∀ (y : Device) (p : Nat) (w : WbUnit), Keeps [.wbs, .srcs] noReg y (setWb y p w) := fun y p w => keeps_setWb y p w (by simp)
  have signal : ∀ s, Keeps [.wbs, .srcs] noReg x (if (srcUnit x s (dieOfHead h)).present then srcSignal x s (dieOfHead h) else x) := fun s => by
    rw [keeps_ite]
    exact ⟨fun _ => keeps_setSrc _ _ _ (by simp), fun _ => keeps_self⟩
  dsimp only [wbLaunch]
  split
  · rw [keeps_ite]
    exact ⟨fun _ => wrote _ _ _, fun _ => keeps_self⟩
  · rw [keeps_ite]
    exact ⟨fun _ => (signal _).trans (wrote _ _ _), fun _ => (signal _).trans (wrote _ _ _)⟩

/-- The head as a frame launches. -/
def launchedHead (u : HeadUnit) (q : PixelDie) (S : Scan) (count : Nat) : HeadUnit :=
  { u with frameCount := count, curTick := q.ticks, launchAt := q.tb1.ns,
           phaseErr := some (Int.ofNat q.tb1.ns - (Int.ofNat q.tickAt + Int.ofNat (hv S.hcfg 0x0E * 1000))) }

/-- The scan as a frame launches. -/
def begunScan (u : HeadScan) (S : Scan) (sent : Bool) (now : Nat) (maps : List PaneMap) : HeadScan :=
  { u with cur := some S, ready := none, sent := sent, begun := now, lines := [0, 0, 0, 0], marks := List.replicate 4 0xFFFFFFFF,
           outs := List.replicate 4 0xFFFFFFFF, underFrame := false, maps := keepMaps (u.maps ++ maps) }

/-- Whether the link sends the frame that launches. -/
def frameSent (c : Device) (q : PixelDie) (h : Nat) : Bool := (headAt c h).link == .up && decide ((scanAt c h).resumeTick ≤ q.ticks)

/-- The head's streams that rise have risen, and the head is as the frame launches. -/
def headLaunched (c : Device) (q : PixelDie) (h : Nat) (S : Scan) : Device :=
  modHead (streamsRise c h) h fun u => launchedHead u q S (nextCount (headAt c h).frameCount)

theorem frameLaunchOp_of_due {d : Device} {h : Nat} {S : Scan} (hs : (scanAt d h).ready = some S) (hu : pixUp d (dieOfHead h) = true)
    (hr : (headAt d h).running = true) (ht : (headAt d h).curTick ≠ (pixAt d (dieOfHead h)).ticks) (hd : launchDue d h S = true)
    (cu : pixUp (scanEnds d h) (dieOfHead h) = true) (cr : (headAt (scanEnds d h) h).running = true) :
    ∃ maps, frameLaunchOp d h = wbLaunch (modScan (headLaunched (scanEnds d h) (pixAt d (dieOfHead h)) h S) h fun x =>
      begunScan x S (frameSent (scanEnds d h) (pixAt d (dieOfHead h)) h)
        (headLaunched (scanEnds d h) (pixAt d (dieOfHead h)) h S).mono maps) h := by
  have ht' : ((headAt d h).curTick == (pixAt d (dieOfHead h)).ticks) = false := by simpa using ht
  simp only [frameLaunchOp, hs, hu, hr, ht', hd, cu, cr, Bool.not_true, Bool.or_self, Bool.false_eq_true, if_false]
  exact ⟨_, rfl⟩

/-- Settles O22. -/
theorem headFramesLaunchAndScan : Obligations.HeadFramesLaunchAndScan := by
  unfold Obligations.HeadFramesLaunchAndScan
  refine ⟨fun dt s d c h S hd hs hu hr ht hdue hc cu cr => ?_, fun dt s d h k line parity stuck S hd hc hu hr hk _ hl hlt hdue => ?_,
    fun dt s d h k parity stuck S hd hc hu hr hk hlen hl hdue => ?_⟩
  · refine does_of_act (f := (frameLaunchOp · h)) rfl hd ?_
    subst hc
    have count := countedUp_scanEnds h.isLt d (fun _ => rfl) cu
    obtain ⟨maps, launched⟩ := frameLaunchOp_of_due hs hu hr ht hdue cu cr
    rw [launched]
    generalize scanEnds d h = c at count ⊢
    obtain ⟨risen, others, rose⟩ := streamsRise_reads c h
    have head : ∀ j, headAt (headLaunched c (pixAt d (dieOfHead h)) h S) j =
        if h.val = j then launchedHead (headAt (streamsRise c h) h) (pixAt d (dieOfHead h)) S (nextCount (headAt c h).frameCount)
        else headAt (streamsRise c h) j := fun j => by rw [headLaunched, modHead, headAt_setHead]
    have kept : Keeps [.heads, .rings] noReg c (headLaunched c (pixAt d (dieOfHead h)) h S) := rose.trans (keeps_setHead _ _ _ (by simp))
    generalize headLaunched c (pixAt d (dieOfHead h)) h S = x at head kept ⊢
    have ended := keeps_settle_iff.mpr (keeps_wbLaunch (modScan x h fun u =>
      begunScan u S (frameSent c (pixAt d (dieOfHead h)) h) x.mono maps) h)
    generalize settle (wbLaunch _ h) = e at ended
    have scan : ∀ j, scanAt e j =
        if h.val = j then begunScan (scanAt c h) S (frameSent c (pixAt d (dieOfHead h)) h) x.mono maps else scanAt c j := fun j => by
      rw [ended.scanAt (by simp), modScan, scanAt_setScan, kept.scanAt (by simp), kept.scanAt (by simp)]
    have heads : ∀ j, headAt e j = headAt x j := ended.headAt (by simp)
    have own : headAt e h = launchedHead (headAt (streamsRise c h) h) (pixAt d (dieOfHead h)) S (nextCount (headAt c h).frameCount) := by
      rw [heads, head, if_pos rfl]
    have ownScan := scan h
    rw [if_pos rfl] at ownScan
    refine ⟨by rw [ownScan]; rfl, by rw [ownScan]; rfl, by rw [ownScan]; rfl, by rw [own]; rfl, ?_, by rw [own]; rfl, ?_, ?_, fun j hj => ?_, ?_⟩
    · rw [own, launchedHead, count, nextCount]
    · rw [ownScan]
      simp [begunScan, frameSent]
    · rw [own]
      exact risen
    · have hj' : ¬ h.val = j := fun e => hj e.symm
      rw [heads, head, if_neg hj', scan, if_neg hj']
      exact ⟨others j hj, rfl⟩
    · exact ((kept.mono (by simp) fun _ _ h => h).trans (keeps_setScan x h _ (by simp))).trans (ended.mono (by simp) fun _ _ h => h)
  · refine does_of_act (f := (rasterLineOp · h k line parity stuck)) rfl hd ?_
    obtain ⟨lines, cur, count, rows, others, kept⟩ := rasterLine_reads parity stuck h.isLt hc hu hr hk hl hlt hdue
    generalize rasterLineOp d h k line parity stuck = x at lines cur count rows others kept ⊢
    refine ⟨by rw [scanAt_settle, lines], by rw [scanAt_settle, cur], by rw [headAt_settle, count], ?_, fun j hj => ?_,
      keeps_settle_iff.mpr kept⟩
    · rw [wbAt_settle]
      exact rows
    · rw [headAt_settle, scanAt_settle]
      exact others j hj
  · refine does_of_act (f := (rasterLineOp · h k (vActive S.hcfg) parity stuck)) rfl hd ?_
    have ends : rasterLineOp d h k (vActive S.hcfg) parity stuck = streamEnds d h k S := by
      simp only [rasterLineOp, hc, hu, hr, hl, hdue, Nat.not_le.mpr hk, Nat.lt_irrefl, Bool.not_true, bne_self_eq_false, decide_false,
        Bool.or_self, Bool.false_eq_true, if_false, if_true]
    obtain ⟨cur, lines, -, -⟩ := streamDone_reads h.isLt d k S
    have last : ((List.range (hv S.hcfg 5)).all fun j => decide (vActive S.hcfg < (scanAt (streamDone d h k S) h).lines.getD j 0)) = true ↔
        ¬ ∃ j, j < hv S.hcfg 5 ∧ j ≠ k.val ∧ (scanAt d h).lines.getD j 0 ≤ vActive S.hcfg := by
      have line : ∀ j, (scanAt (streamDone d h k S) h).lines.getD j 0 =
          if k.val = j then vActive S.hcfg + 1 else (scanAt d h).lines.getD j 0 := fun j => by
        have short : k.val = j → j < 4 := fun e => e ▸ k.isLt
        rw [lines, getD_set, hlen]
        exact ite_congr (propext (and_iff_left_of_imp short)) (fun _ => rfl) fun _ => rfl
      simp only [List.all_eq_true, List.mem_range, decide_eq_true_eq, line, not_exists, not_and, Nat.not_le]
      refine ⟨fun all j hj hne => ?_, fun all j hj => ?_⟩
      · have := all j hj
        rwa [if_neg fun e => hne e.symm] at this
      · split
        · omega
        · next hne => exact all j hj fun e => hne e.symm
    rw [ends, streamEnds_eq]
    split
    · next waits =>
      rw [if_neg fun all => last.mp all waits, scanAt_settle, cur, hc]
      exact ⟨rfl, lines⟩
    · next none =>
      rw [if_pos (last.mpr none), scanAt_settle]
      exact (scanComplete_reads h.isLt _ S).1

end Sys2Proof
end

section
/-! PROOFS. Control dies boot and take over (R370, R375, R380, R385). Whether an image is signed (R348) is a free value of the model,
`Config.imageSigned`, and the statement turns on it: it holds where no image is signed, for then no die boots and no microcode is
loaded, and it fails where one is, for the microcode that a takeover then loads is programmed in the NOR of a peer that is down. -/

namespace Sys2Proof
open Machine Safety

/-! ### Parts of a takeover -/

/-- Die c of `y` is that of `x` but for its measurements, and the other die is as it was. -/
structure MeasOnly (x y : Device) (c : Nat) : Prop where
  own   : ∃ m, ctlAt y c = { ctlAt x c with meas := m }
  other : ∀ j, j ≠ c → ctlAt y j = ctlAt x j
  kept  : Keeps [.ctls] noReg x y

theorem MeasOnly.trans {x y z : Device} {c : Nat} (h : MeasOnly x y c) (g : MeasOnly y z c) : MeasOnly x z c := by
  obtain ⟨m, hm⟩ := h.own
  obtain ⟨n, hn⟩ := g.own
  exact ⟨⟨n, by rw [hn, hm]⟩, fun j hj => (g.other j hj).trans (h.other j hj), h.kept.trans g.kept⟩

theorem measOnly_setCtl (x : Device) (c : Nat) (m : List (List Byte)) : MeasOnly x (setCtl x c { ctlAt x c with meas := m }) c :=
  ⟨⟨m, by rw [ctlAt_setCtl, if_pos rfl]⟩, fun j hj => by rw [ctlAt_setCtl, if_neg hj.symm], keeps_setCtl _ _ _ (by simp)⟩

theorem measOnly_extendDie (x : Device) (c i : Nat) (dg : List Byte) : MeasOnly x (extendDie x c i dg) c := measOnly_setCtl x c _

theorem measOnly_replayMeas (x : Device) (c : Nat) : MeasOnly x (replayMeas x c) c := by
  have loop : ∀ (l : List (Nat × List Byte)) (y : Device), MeasOnly x y c → MeasOnly x (forEach y l fun d e => extendDie d c e.1 e.2) c := by
    intro l
    induction l with
    | nil => exact fun y h => h
    | cons e l ih => exact fun y h => ih _ (h.trans (measOnly_extendDie y c e.1 e.2))
  exact loop _ _ (measOnly_setCtl x c _)

theorem keeps_updateLost (x : Device) {c : Nat} (hc : c < 2) : Keeps eventParts eventReg x (updateLost x c) := by
  rw [updateLost]
  split
  · exact (keeps_sup x _ (by decide)).trans (keeps_raise _ _ _ _ (by omega) (fun _ h => h) fun _ _ h => h)
  · exact keeps_self

theorem keeps_telegramGo (x : Device) (t : Telegram) : Keeps pushParts pushReg x (telegramGo x t) := by
  have counted : ∀ (y : Device) (r : Nat), r < 256 → Keeps pushParts pushReg y (bump y 0x2700 r) := fun y r hr =>
    keeps_bumpBy y _ r 1 hr (.inr (.inl rfl))
  have told : ∀ (vals : List (Nat × Nat)) (time : Nat) (late timed : Bool),
      Keeps pushParts pushReg x (tpdoSend x t.tpdo vals time late timed) := fun vals time late timed => by
    dsimp only [tpdoSend]
    refine Keeps.trans (Keeps.trans ?_ (keeps_dxpPushAll _ 0xC3 _ _ pushIn_pushParts (fun _ _ h => h))) (keeps_can _ _ (by decide))
    rw [keeps_ite]
    exact ⟨fun _ => keeps_sendCan _ _ _ (by decide), fun _ => keeps_self⟩
  rw [telegramGo, telegramLate]
  rw [keeps_ite]
  exact ⟨fun _ => ((told _ _ _ _).trans (counted _ 0x14 (by decide))).trans (counted _ 0x13 (by decide)),
    fun _ => (told _ _ _ _).trans (counted _ 0x14 (by decide))⟩

theorem keeps_lateTelegrams (x : Device) : Keeps pushParts pushReg x (lateTelegrams x) := by
  dsimp only [lateTelegrams, telegramDueOp]
  split
  · exact keeps_sup x _ (by decide)
  · exact ((keeps_sup x _ (by decide)).trans (keeps_sup _ _ (by decide))).trans
      (keeps_forEach _ _ (fun y t _ => keeps_telegramGo y t) _)

theorem keeps_emcyInhibitEnd (x : Device) : Keeps [.can, .tx] noReg x (emcyInhibitEndOp x) := by
  rw [emcyInhibitEndOp]
  split
  · rw [keeps_ite]
    exact ⟨fun _ => keeps_emcySend x _, fun _ => keeps_self⟩
  · exact keeps_self

theorem failoverTime_eq (x : Device) (last : Nat) (warm : Bool) :
    ∃ n f s, failoverTime x last warm = { setN x 0x2300 6 n with fresh := f, sup := s } :=
  ⟨_, _, _, rfl⟩

theorem keeps_failoverTime (x : Device) (last : Nat) (warm : Bool) :
    Keeps [.fresh, .sup] (fun i s => i = 0x2300 ∧ s = 6) x (failoverTime x last warm) := by
  obtain ⟨n, f, s, eq⟩ := failoverTime_eq x last warm
  have timed := keeps_setN (ps := [.fresh, .sup]) (rs := fun i s => i = 0x2300 ∧ s = 6) x 0x2300 6 n (by decide) ⟨rfl, rfl⟩
  rw [eq]
  generalize setN x 0x2300 6 n = y at *
  exact timed.trans ((keeps_fresh y f (by decide)).trans (keeps_sup { y with fresh := f } s (by decide)))

/-- The peer's part of a takeover. -/
def peerReset (u : CtlDie) : CtlDie :=
  { u with role := 1, mismatch := false, takeover := none, minority := none, warm := false,
           slot0 := { CkptSlot.reset with st := 1 }, slot1 := { CkptSlot.reset with st := 1 } }

theorem resetPeer_of_down {x : Device} {o : Nat} (h : ctlUp x o = false) : resetPeer x o = x := by
  rw [resetPeer, h]
  rfl

theorem resetPeer_of_up {x : Device} {o : Nat} (h : ctlUp x o = true) : resetPeer x o =
    setCtl (noteFailed (logReset x o) o) o (peerReset (ctlAt (noteFailed (logReset x o) o) o)) := by
  rw [resetPeer, h]
  rfl

theorem resetPeer_reads (x : Device) {o : Nat} :
    ctlAt (resetPeer x o) o = (if ctlUp x o = true then peerReset (ctlAt x o) else ctlAt x o) ∧
    (∀ j, j ≠ o → ctlAt (resetPeer x o) j = ctlAt x j) ∧ Keeps (.ctls :: pushParts) pushReg x (resetPeer x o) := by
  cases up : ctlUp x o with
  | false =>
    rw [resetPeer_of_down up]
    exact ⟨rfl, fun _ _ => rfl, keeps_self⟩
  | true =>
    have logged : Keeps pushParts pushReg x (logReset x o) :=
      keeps_auditAdd x 15 0xFF 0 0 _ ⟨by decide, by decide, by decide⟩ fun _ _ h => .inl h
    have kept := logged.trans ((keeps_noteFailed (logReset x o) o).mono (by decide) fun _ _ h => h.elim)
    rw [resetPeer_of_up up]
    generalize noteFailed (logReset x o) o = y at kept
    refine ⟨?_, fun j hj => ?_, (kept.mono (by decide) fun _ _ h => h).trans (keeps_setCtl _ _ _ (by decide))⟩
    · rw [ctlAt_setCtl, if_pos rfl, if_pos rfl, kept.ctlAt (by decide)]
    · rw [ctlAt_setCtl, if_neg hj.symm, kept.ctlAt (by decide)]

/-! ### The takeover of a running shadow -/

/-- The device that a running shadow takes over, from its own state. -/
def warmStart (d : Device) (c : Nat) : Device := updateLost (restored { d with cmp := CompareUnit.reset } c) c

/-- The running shadow is active, and the time of its takeover is set. -/
def warmActive (d : Device) (c : Nat) : Device :=
  failoverTime (nowActive (modCtl (warmStart d c) c fun x => { x with warm := false }) c) (max (ctlAt d c).heardS (ctlAt d c).heardW)
    (ctlAt d c).warm

/-- The takeover is counted and audited, and the peer is reset. -/
def warmCounted (d : Device) (c : Nat) : Device :=
  resetPeer (auditDev (bump (warmActive d c) 0x2300 5) 14 0 (beBytes 8 (headHeld d c))) (otherCtl c)

/-- What goes out once the pixel dies are served. -/
def tookOver (x : Device) (c : Nat) : Device :=
  forEach (lateTelegrams (raise (handledAll (emcyCheck (emcyInhibitEndOp { x with can := { x.can with held := [] } })) c) c 69 0x2300))
    (List.range 12) deliverTouches

theorem failover_eq (d : Device) (c : Nat) : failover d c = tookOver (serveStarted (warmCounted d c)) c := by
  simp only [failover, tookOver, warmCounted, warmActive, warmStart]

theorem tokenGrantOp_of_warm {d : Device} {c p t : Nat} (ht : (ctlAt d c).takeover = some t) (up : ctlUp d c = true)
    (role : (ctlAt d c).role = 10) (token : (pixAt d p).token = c + 2) (four : 4 ≤ (tokensOf d c).length) (intime : d.mono ≤ t + 20000000)
    (warm : (ctlAt d c).warm = true) : tokenGrantOp d c p = failover d c := by
  simp only [tokenGrantOp, ht]
  rw [if_neg (by simp [up, role, token]; omega), if_pos warm]

theorem restored_of_warm {x : Device} {c : Nat} (h : (ctlAt x c).warm = true) : ∃ s, restored x c = replayMeas { x with sup := s } c := by
  rw [restored, if_pos h]
  exact ⟨_, rfl⟩

theorem warmStart_reads {d : Device} {c : Nat} (hc : c < 2) (h : (ctlAt d c).warm = true) :
    (∃ m, ctlAt (warmStart d c) c = { ctlAt d c with meas := m }) ∧ (∀ j, j ≠ c → ctlAt (warmStart d c) j = ctlAt d j) ∧
    (warmStart d c).cmp = CompareUnit.reset ∧ Keeps (.ctls :: .cmp :: eventParts) eventReg d (warmStart d c) := by
  obtain ⟨s, eq⟩ := restored_of_warm (x := { d with cmp := CompareUnit.reset }) (c := c) h
  rw [warmStart, eq]
  have base : Keeps (.ctls :: .cmp :: eventParts) eventReg d { d with cmp := CompareUnit.reset, sup := s } :=
    (keeps_cmp d CompareUnit.reset (by decide)).trans (keeps_sup { d with cmp := CompareUnit.reset } s (by decide))
  have dies : ∀ j, ctlAt { d with cmp := CompareUnit.reset, sup := s } j = ctlAt d j := fun _ => rfl
  have cmp : ({ d with cmp := CompareUnit.reset, sup := s } : Device).cmp = CompareUnit.reset := rfl
  generalize ({ d with cmp := CompareUnit.reset, sup := s } : Device) = x at *
  obtain ⟨⟨m, own⟩, other, replayed⟩ := measOnly_replayMeas x c
  generalize replayMeas x c = y at *
  have ended := keeps_updateLost y hc
  refine ⟨⟨m, by rw [ended.ctlAt (by decide), own, dies]⟩, fun j hj => by rw [ended.ctlAt (by decide), other j hj, dies], ?_, ?_⟩
  · rw [ended.cmp_eq (by decide), replayed.cmp_eq (by simp), cmp]
  · exact (base.trans (replayed.mono (by decide) fun _ _ h => h.elim)).trans (ended.mono (by decide) fun _ _ h => h)

/-- The running shadow as its takeover leaves it, at any step after it is active. -/
structure WarmShadow (d x : Device) (c : Nat) : Prop where
  role     : roleOf x c = 3
  takeover : (ctlAt x c).takeover = none
  warm     : (ctlAt x c).warm = false
  booted   : (ctlAt x c).booted = (ctlAt d c).booted
  other    : ∀ j, j ≠ c → ctlAt x j = ctlAt d j
  cmp      : x.cmp = CompareUnit.reset

/-- What a takeover may change before the pixel dies are served. -/
def takeoverParts : List Part := .ctls :: .cmp :: .fresh :: pushParts
def takeoverReg : Nat → Nat → Prop := fun i s => pushReg i s ∨ (i = 0x2300 ∧ (s = 5 ∨ s = 6))

theorem warmActive_reads {d : Device} {c : Nat} (hc : c < 2) (h : (ctlAt d c).warm = true) :
    WarmShadow d (warmActive d c) c ∧ regN (warmActive d c) 0x2300 5 = regN d 0x2300 5 ∧ Keeps takeoverParts takeoverReg d (warmActive d c) := by
  obtain ⟨⟨m, own⟩, other, cmp, started⟩ := warmStart_reads hc h
  rw [warmActive, modCtl_eq]
  generalize warmStart d c = x at *
  have cleared := keeps_setCtl (ps := [.ctls]) (rs := noReg) x c { ctlAt x c with warm := false } (by simp)
  have own' : ctlAt (setCtl x c { ctlAt x c with warm := false }) c = { ctlAt x c with warm := false } := by rw [ctlAt_setCtl, if_pos rfl]
  have other' : ∀ j, j ≠ c → ctlAt (setCtl x c { ctlAt x c with warm := false }) j = ctlAt x j := fun j hj => by
    rw [ctlAt_setCtl, if_neg hj.symm]
  generalize setCtl x c { ctlAt x c with warm := false } = y at *
  obtain ⟨ctl, others, -, -, -, active⟩ := nowActive_reads y c
  generalize nowActive y c = z at *
  have timed := keeps_failoverTime z (max (ctlAt d c).heardS (ctlAt d c).heardW) (ctlAt d c).warm
  generalize failoverTime z (max (ctlAt d c).heardS (ctlAt d c).heardW) (ctlAt d c).warm = w at *
  rw [own', own] at ctl
  have ctl' := (timed.ctlAt (by simp) c).trans ctl
  refine ⟨⟨by rw [roleOf, ctl'], by rw [ctl'], by rw [ctl'], by rw [ctl'], fun j hj => ?_, ?_⟩, ?_, ?_⟩
  · rw [timed.ctlAt (by simp), others j hj, other' j hj, other j hj]
  · rw [timed.cmp_eq (by simp), active.cmp_eq (by simp), cleared.cmp_eq (by simp), cmp]
  · rw [timed.regN (by decide) (by simp), active.regN (by decide) (by simp [noReg]), cleared.regN (by decide) (by simp [noReg]),
      started.regN (by decide) (by simp [eventReg])]
  · exact (((started.mono (by decide) fun _ _ h => .inl (.inl h)).trans (cleared.mono (by decide) fun _ _ h => h.elim)).trans
      (active.mono (by decide) fun _ _ h => h.elim)).trans (timed.mono (by decide) fun _ _ ⟨hi, hs⟩ => .inr ⟨hi, .inr hs⟩)

/-- The running shadow and its peer once the takeover is counted and the peer reset. -/
structure WarmTaken (d x : Device) (c : Nat) : Prop where
  role     : roleOf x c = 3
  takeover : (ctlAt x c).takeover = none
  warm     : (ctlAt x c).warm = false
  booted   : (ctlAt x c).booted = (ctlAt d c).booted
  peer     : ctlAt x (1 - c) = if ctlUp d (1 - c) = true then peerReset (ctlAt d (1 - c)) else ctlAt d (1 - c)
  cmp      : x.cmp = CompareUnit.reset
  count    : Counted d x 0x2300 5 1
  kept     : Keeps takeoverParts takeoverReg d x

theorem warmCounted_reads {d : Device} {c : Nat} (hc : c < 2) (h : (ctlAt d c).warm = true) : WarmTaken d (warmCounted d c) c := by
  obtain ⟨shadow, before, active⟩ := warmActive_reads hc h
  rw [warmCounted, auditDev, show otherCtl c = 1 - c from rfl]
  generalize warmActive d c = x at *
  have counted : Counted d (bump x 0x2300 5) 0x2300 5 1 := by
    simpa only [Counted, before] using counted_bump x 0x2300 (r := 5) (by decide)
  have bumped : Keeps takeoverParts takeoverReg x (bump x 0x2300 5) := keeps_bumpBy x 0x2300 5 1 (by decide) (.inr ⟨rfl, .inl rfl⟩)
  have dies : ∀ j, ctlAt (bump x 0x2300 5) j = ctlAt x j := fun _ => rfl
  have cmp : (bump x 0x2300 5).cmp = x.cmp := rfl
  generalize bump x 0x2300 5 = y at *
  have logged := keeps_auditAdd (ps := auditParts) (rs := eventReg) y 14 0xFF 0 0 (beBytes 8 (headHeld d c))
    ⟨by decide, by decide, by decide⟩ fun _ _ h => h
  generalize auditAdd y 14 0xFF 0 0 (beBytes 8 (headHeld d c)) = z at *
  obtain ⟨peer, own, reset⟩ := resetPeer_reads z (o := 1 - c)
  generalize resetPeer z (1 - c) = e at *
  have same : ∀ j, ctlAt z j = ctlAt x j := fun j => (logged.ctlAt (by decide) j).trans (dies j)
  have other : ctlAt z (1 - c) = ctlAt d (1 - c) := (same _).trans (shadow.other _ (by omega))
  have self : ctlAt e c = ctlAt x c := (own c (by omega)).trans (same c)
  refine ⟨by rw [roleOf, self]; exact shadow.role, by rw [self]; exact shadow.takeover, by rw [self]; exact shadow.warm,
    by rw [self]; exact shadow.booted, by rw [peer, ctlUp, other]; rfl, ?_, ?_, ?_⟩
  · rw [reset.cmp_eq (by decide), logged.cmp_eq (by decide), cmp]
    exact shadow.cmp
  · rw [Counted, reset.regN (by decide) (by simp [pushReg, eventReg]), logged.regN (by decide) (by simp [eventReg])]
    exact counted
  · exact ((active.trans bumped).trans (logged.mono (by decide) fun _ _ h => .inl (.inl h))).trans (reset.mono (by decide) fun _ _ h => .inl h)

theorem keeps_tookOver (x : Device) {c : Nat} (hc : c < 2) : Keeps (.tracks :: pushParts) pushReg x (tookOver x c) := by
  have held := keeps_can (ps := [.can, .tx]) (rs := noReg) x { x.can with held := [] } (by simp)
  have told := (held.trans (keeps_emcyInhibitEnd _)).trans (keeps_emcyCheck _ (by simp) (by simp))
  rw [tookOver]
  generalize emcyCheck (emcyInhibitEndOp { x with can := { x.can with held := [] } }) = y at told
  have handled : Keeps eventParts eventReg y (handledAll y c) := keeps_setRing _ _ _ (by decide)
  have raised := keeps_raise (ps := eventParts) (rs := eventReg) (handledAll y c) c 69 0x2300 (by omega) (fun _ h => h) fun _ _ h => h
  generalize raise (handledAll y c) c 69 0x2300 = z at raised
  have delivered : Keeps (.tracks :: pushParts) pushReg (lateTelegrams z) (forEach (lateTelegrams z) (List.range 12) deliverTouches) :=
    keeps_forEach _ _ (fun y k _ => (deliverTouches_reads y k).2.2.mono (by decide) fun _ _ h => h) _
  exact ((((told.mono (by decide) fun _ _ h => h.elim).trans (handled.mono (by decide) fun _ _ h => .inl h)).trans
    (raised.mono (by decide) fun _ _ h => .inl h)).trans ((keeps_lateTelegrams z).mono (by decide) fun _ _ h => h)).trans delivered

/-- Pixel die p is up and has no microcode. -/
def Bare (x : Device) (p : Nat) : Prop := pixUp x p = true ∧ (mcAt x p).state0 = 0

theorem serveStep_of_not_bare {x : Device} {p : Nat} (h : ¬ Bare x p) :
    (if pixUp x p && (mcAt x p).state0 == 0 then ruleReload (loadMicro x p) (dieNo p) else x) = x :=
  if_neg (by simpa [Bare] using h)

theorem serveStarted_of_loaded {x : Device} (h : ∀ p, p < 6 → ¬ Bare x p) : serveStarted x = x :=
  forEach_of_idle _ _ _ fun p hp => serveStep_of_not_bare (h p (List.mem_range.mp hp))

/-! ### Where no image is signed -/

section
variable (unsigned : ∀ img, Config.imageSigned img = false)
include unsigned

theorem imageOk_of_unsigned (x : Device) (img : List Byte) : imageOk x img = false := by
  simp [imageOk, unsigned]

theorem bootSelect_of_unsigned (x : Device) (c : Nat) : (bootSelect x c).2 = none := by
  cases h : bootChoice (norOf x c) with
  | none => rw [bootSelect_of_none h]
  | some i =>
    rw [bootSelect_of_some h, imageOk_of_unsigned unsigned, imageOk_of_unsigned unsigned]
    simp

theorem keeps_loadMicro_of_unsigned (x : Device) (p : Nat) : Keeps (.pix :: eventParts) eventReg x (loadMicro x p) := by
  rw [loadMicro_eq, if_neg (by simp [unsigned]), microFailed]
  have failed := keeps_raise (ps := eventParts) (rs := eventReg) (setPix x p { pixAt x p with state := 7, out := false }) (supDie x) 95
    (mcObj p) (supDie_lt_eight x) (fun _ h => h) (fun _ _ h => h)
  generalize raise (setPix x p { pixAt x p with state := 7, out := false }) (supDie x) 95 (mcObj p) = y at failed ⊢
  exact ((keeps_setPix x p _ (by decide)).trans (failed.mono (by decide) fun _ _ h => h)).trans (keeps_handled y _ _ _ (by decide))

theorem keeps_serveStarted_of_unsigned (x : Device) :
    Keeps (.pix :: .rules :: eventParts) (fun i s => eventReg i s ∨ ruleCommitReg i s) x (serveStarted x) := by
  rw [serveStarted]
  refine keeps_forEach _ _ (fun y p _ => ?_) _
  rw [keeps_ite]
  exact ⟨fun _ => ((keeps_loadMicro_of_unsigned unsigned y p).mono (by decide) fun _ _ h => .inl h).trans
    ((keeps_ruleReload _ _).mono (by decide) fun _ _ h => .inr h), fun _ => keeps_self⟩

/-- A running shadow with the fourth token takes over (R370, R380). -/
theorem warmTakeover_of_unsigned {d : Device} {c : Nat} (hc : c < 2) (warm : (ctlAt d c).warm = true) :
    ∃ e, settle (failover d c) = e ∧ roleOf e c = 3 ∧ (ctlAt e c).takeover = none ∧ (ctlAt e c).warm = false ∧
      (ctlAt e c).booted = (ctlAt d c).booted ∧ (ctlUp d (1 - c) = true → roleOf e (1 - c) = 1) ∧
      (ctlUp d (1 - c) = false → ctlAt e (1 - c) = ctlAt d (1 - c)) ∧ e.cmp = CompareUnit.reset ∧ Counted d e 0x2300 5 1 ∧
      ((∀ q, q < 6 → pixUp d q = true → (mcAt d q).state0 ≠ 0) → e.pix = d.pix) ∧ (∀ i x, x < 256 → frc e i x = frc d i x) ∧
      e.heads = d.heads ∧ e.scans = d.scans := by
  obtain ⟨role, takeover, cold, booted, peer, cmp, count, taken⟩ := warmCounted_reads hc warm
  rw [failover_eq]
  generalize warmCounted d c = x at *
  have served := keeps_serveStarted_of_unsigned unsigned x
  have idle := serveStarted_of_loaded (x := x)
  generalize serveStarted x = y at *
  have told := keeps_tookOver y hc
  generalize tookOver y c = e at *
  have ctl : ∀ j, ctlAt (settle e) j = ctlAt x j := fun j => by rw [ctlAt_settle, told.ctlAt (by decide), served.ctlAt (by decide)]
  have kept : Keeps (.pix :: .rules :: .tracks :: takeoverParts) (fun _ _ => True) d (settle e) :=
    keeps_settled (((taken.mono (by decide) fun _ _ _ => trivial).trans (served.mono (by decide) fun _ _ _ => trivial)).trans
      (told.mono (by decide) fun _ _ _ => trivial))
  refine ⟨settle e, rfl, by rw [roleOf, ctl]; exact role, by rw [ctl, takeover], by rw [ctl, cold], by rw [ctl, booted], fun up => ?_,
    fun down => ?_, ?_, ?_, fun loaded => ?_, fun i s hs => kept.frc hs (by decide), kept.parts .heads (by decide),
    kept.parts .scans (by decide)⟩
  · rw [roleOf, ctl, peer, if_pos up]
    rfl
  · rw [ctl, peer, if_neg (by simp [down])]
  · exact (told.cmp_eq (by decide)).trans ((served.cmp_eq (by decide)).trans cmp)
  · rw [Counted, regN_settle _ _ _ (by decide), told.regN (by decide) (by simp [pushReg, eventReg]),
      served.regN (by decide) (by simp [ruleCommitReg, eventReg])]
    exact count
  · have served' : ∀ p, p < 6 → ¬ Bare x p := fun p hp ⟨up, bare⟩ => by
      rw [pixUp, taken.pixAt (by decide)] at up
      rw [taken.mcAt (by decide)] at bare
      exact loaded p hp up bare
    have pix : y.pix = d.pix := by
      rw [idle served']
      exact taken.parts .pix (by decide)
    exact Eq.trans (told.parts .pix (by decide)) pix

theorem wakeRetained_of_unsigned (d : Device) (c : Nat) : wakeRetained d c = (setRole (firmwareRefused d c) c 9, false) := by
  rw [wakeRetained]
  cases (ctlAt d c).retained with
  | none => rfl
  | some r =>
    simp only [imageOk_of_unsigned unsigned]
    rfl

theorem tokenGrantOp_of_unsigned {d : Device} {c p t : Nat} (ht : (ctlAt d c).takeover = some t) (up : ctlUp d c = true)
    (role : (ctlAt d c).role = 10) (token : (pixAt d p).token = c + 2) (four : 4 ≤ (tokensOf d c).length) (intime : d.mono ≤ t + 20000000)
    (cold : (ctlAt d c).warm = false) : tokenGrantOp d c p = returnTokens (setRole (firmwareRefused d c) c 9) c := by
  simp only [tokenGrantOp, ht]
  rw [if_neg (by simp [up, role, token]; omega), if_neg (by simp [cold]), wakeRetained_of_unsigned unsigned]
  rfl

end

/-- A cold die whose retained image is refused gives its tokens back. -/
theorem refusedTakeover_reads (d : Device) {c : Nat} (hc : c < 2) :
    roleOf (returnTokens (setRole (firmwareRefused d c) c 9) c) c = 9 ∧
    (∀ q, q < 6 → (pixAt (returnTokens (setRole (firmwareRefused d c) c 9) c) q).token ≠ c + 2) ∧
    Keeps (.pix :: .ctls :: eventParts) eventReg d (returnTokens (setRole (firmwareRefused d c) c 9) c) := by
  have refused := (flashOnly_firmwareRefused d hc).only.kept
  rw [setRole, modCtl_eq]
  generalize firmwareRefused d c = x at *
  have out := keeps_setCtl (ps := [.ctls]) (rs := noReg) x c { ctlAt x c with role := 9 } (by simp)
  have own : ctlAt (setCtl x c { ctlAt x c with role := 9 }) c = { ctlAt x c with role := 9 } := by rw [ctlAt_setCtl, if_pos rfl]
  generalize setCtl x c { ctlAt x c with role := 9 } = y at *
  refine ⟨by rw [roleOf, ctlAt_returnTokens y hc, own], fun q hq => ?_, ?_⟩
  · rw [token_returnTokens y c hq]
    split <;> omega
  · exact ((refused.mono (by decide) fun _ _ h => h).trans (out.mono (by decide) fun _ _ h => h.elim)).trans
      ((keeps_returnTokens y c).mono (by decide) fun _ _ h => h.elim)

/-! ### A boot that selects no slot (R348, R385) -/

/-- What a boot that ends without an image may change. -/
def refusedParts : List Part := .ctls :: auditParts

theorem keeps_extendOwn (x : Device) (c i : Nat) (dg : List Byte) : Keeps refusedParts eventReg x (extendOwn x c i dg) :=
  (keeps_setCtl x c _ (by decide)).trans (keeps_auditAdd (extendDie x c i dg) 13 0xFF 0 0 dg ⟨by decide, by decide, by decide⟩ fun _ _ h => h)

theorem ctlAt_extendOwn (x : Device) (c i : Nat) (dg : List Byte) : ∃ m, ctlAt (extendOwn x c i dg) c = { ctlAt x c with meas := m } := by
  have logged := keeps_auditAdd (ps := auditParts) (rs := eventReg) (extendDie x c i dg) 13 0xFF 0 0 dg
    ⟨by decide, by decide, by decide⟩ fun _ _ h => h
  rw [extendOwn, auditDev, logged.ctlAt (by decide)]
  exact (measOnly_extendDie x c i dg).own

theorem bootRom_eq (x : Device) (c : Nat) : ∃ m a b, bootRom x c = extendOwn (extendOwn (setCtl x c { ctlAt x c with meas := m }) c 0 a) c 0 b :=
  ⟨_, _, _, rfl⟩

theorem bootRom_reads (x : Device) (c : Nat) :
    (∃ m, ctlAt (bootRom x c) c = { ctlAt x c with meas := m }) ∧ Keeps refusedParts eventReg x (bootRom x c) := by
  obtain ⟨m, a, b, eq⟩ := bootRom_eq x c
  obtain ⟨n, first⟩ := ctlAt_extendOwn (setCtl x c { ctlAt x c with meas := m }) c 0 a
  obtain ⟨o, second⟩ := ctlAt_extendOwn (extendOwn (setCtl x c { ctlAt x c with meas := m }) c 0 a) c 0 b
  rw [ctlAt_setCtl, if_pos rfl] at first
  rw [eq]
  exact ⟨⟨o, by rw [second, first]⟩, ((keeps_setCtl x c _ (by decide)).trans (keeps_extendOwn _ c 0 a)).trans (keeps_extendOwn _ c 0 b)⟩

/-- The die takes no part, and an update that was under way has ended. -/
def bootEnded (x : Device) (c : Nat) : Device := updateLost (setCtl x c { ctlAt x c with role := 9 }) (supDie x)

theorem bootFailed_eq (x : Device) (c : Nat) : bootFailed x c =
    if (activeCtl (bootEnded x c)).isSome then raise (bootEnded x c) (supDie (bootEnded x c)) 66 0x2300 else bootEnded x c := rfl

theorem bootFailed_reads (x : Device) (c : Nat) :
    ctlAt (bootFailed x c) c = { ctlAt x c with role := 9 } ∧ Keeps refusedParts eventReg x (bootFailed x c) := by
  have out := keeps_setCtl (ps := refusedParts) (rs := eventReg) x c { ctlAt x c with role := 9 } (by decide)
  have ended := keeps_updateLost (setCtl x c { ctlAt x c with role := 9 }) (supDie_lt x)
  have kept : Keeps refusedParts eventReg x (bootEnded x c) := out.trans (ended.mono (by decide) fun _ _ h => h)
  have own : ctlAt (bootEnded x c) c = { ctlAt x c with role := 9 } := by rw [bootEnded, ended.ctlAt (by decide), ctlAt_setCtl, if_pos rfl]
  rw [bootFailed_eq]
  generalize bootEnded x c = y at *
  have raised := keeps_raise (ps := eventParts) (rs := eventReg) y (supDie y) 66 0x2300 (supDie_lt_eight y) (fun _ h => h) fun _ _ h => h
  split
  · exact ⟨(raised.ctlAt (by decide) c).trans own, kept.trans (raised.mono (by decide) fun _ _ h => h)⟩
  · exact ⟨own, kept⟩

theorem keeps_bootLog (x : Device) (c : Nat) : Keeps [.audit, .awaiting] noReg x (bootLog x c) := by
  rw [bootLog]
  split
  · exact keeps_self
  · exact (keeps_audit x (norOf x c).log (by decide)).trans (keeps_awaiting { x with audit := (norOf x c).log } [] (by decide))

/-- The device as the boot ROM of die c finds it: its CAN port and clock noted, its log and TB3 taken up. -/
def bootBegun (d : Device) (c : Nat) : Device :=
  modCtl (bootLog (modClock
    { d with can := { d.can with errs := d.can.errs.set c (if d.can.errs.getD c 0 = 0 then 3 else d.can.errs.getD c 0) } } c fun x =>
      { x with faults := x.faults.filter (· != 4) }) c) c
    fun x => { x with tb3 := { x.tb3 with ns := max (bootTb3 d c) x.tb3.ns, frac := 0, slew := 0 } }

theorem bootBegun_reads (d : Device) (c : Nat) :
    (ctlAt (bootBegun d c) c).tb3.ns = max (bootTb3 d c) (ctlAt d c).tb3.ns ∧
    Keeps (.clocks :: refusedParts) eventReg d (bootBegun d c) := by
  rw [bootBegun]
  refine ⟨?_, (((keeps_can d _ (by decide)).trans (keeps_setClock _ c _ (by decide))).trans
    ((keeps_bootLog _ c).mono (by decide) fun _ _ h => h.elim)).trans (keeps_setCtl _ c _ (by decide))⟩
  rw [modCtl, ctlAt_setCtl, if_pos rfl, (keeps_bootLog _ _).ctlAt (by simp)]
  rfl

theorem controlBootOp_of_refused {d : Device} {c : Nat} (ready : ctlReady d c = true) (selfTest : Bool)
    (refused : (bootSelect (bootRom (bootBegun d c) c) c).2 = none) :
    controlBootOp d c selfTest = bootFailed (bootSelect (bootRom (bootBegun d c) c) c).1 c := by
  rw [controlBootOp, ready]
  change (match (bootSelect (bootRom (bootBegun d c) c) c).2 with | none => _ | some _ => _) = _
  rw [refused]
  rfl

/-- The failed boot of die c: it is failed, its TB3 goes on, and beside it only its part of the record of the boot has changed. -/
theorem refusedBoot_reads (d : Device) {c : Nat} (hc : c < 2) :
    (ctlAt (bootFailed (bootSelect (bootRom (bootBegun d c) c) c).1 c) c).tb3.ns = max (bootTb3 d c) (ctlAt d c).tb3.ns ∧
    roleOf (bootFailed (bootSelect (bootRom (bootBegun d c) c) c).1 c) c = 9 ∧
    Keeps (.clocks :: refusedParts) eventReg d (bootFailed (bootSelect (bootRom (bootBegun d c) c) c).1 c) := by
  obtain ⟨tb3, begun⟩ := bootBegun_reads d c
  generalize bootBegun d c = x at *
  obtain ⟨⟨m, rom⟩, measured⟩ := bootRom_reads x c
  generalize bootRom x c = y at *
  have selected := flashOnly_bootSelect y hc
  obtain ⟨f, slot⟩ := selected.flash
  have kept := selected.only.kept
  generalize (bootSelect y c).1 = z at *
  obtain ⟨own, failed⟩ := bootFailed_reads z c
  rw [slot, rom] at own
  refine ⟨by rw [own]; exact tb3, by rw [roleOf, own], ?_⟩
  exact ((begun.trans (measured.mono (by decide) fun _ _ h => h)).trans (kept.mono (by decide) fun _ _ h => h)).trans
    (failed.mono (by decide) fun _ _ h => h)

/-- Where no image is signed, the statement holds: no die boots, and a takeover loads no microcode. -/
theorem controlDiesBootAndTakeOver_of_unsigned (unsigned : ∀ img, Config.imageSigned img = false) :
    Obligations.ControlDiesBootAndTakeOver := by
  refine ⟨fun dt s d c p x t hd hx ht up role token four intime warm => ?_,
    fun dt s d c p x t j hd hx ht up role token four intime cold _ => ?_, fun dt s d f g c selfTest r hd ready hf hg => ?_⟩
  · subst hx
    refine (does_act _ dt s (fun d => tokenGrantOp d c p) _ rfl).mpr ?_
    rw [← hd, tokenGrantOp_of_warm ht up role token four intime warm]
    obtain ⟨e, he, taken⟩ := warmTakeover_of_unsigned unsigned c.isLt warm
    exact he ▸ taken
  · subst hx
    refine (does_act _ dt s (fun d => tokenGrantOp d c p) _ rfl).mpr ?_
    obtain ⟨out, tokens, kept⟩ := refusedTakeover_reads d c.isLt
    rw [← hd, tokenGrantOp_of_unsigned unsigned ht up role token four intime cold, if_neg (by simp [imageOk_of_unsigned unsigned])]
    generalize returnTokens (setRole (firmwareRefused d c) c 9) c = e at *
    have kept := keeps_settled kept
    exact ⟨⟨out, tokens⟩, fun i x hx => kept.frc hx (by decide), kept.parts .heads (by decide), kept.parts .scans (by decide)⟩
  · have refused : ∀ y, (bootSelect y c).2 = none := fun y => bootSelect_of_unsigned unsigned y c
    have noSlot : r = none := by rw [← refused (bootRom f c), hg]
    subst noSlot
    refine (does_act _ dt s (fun d => controlBootOp d c selfTest) _ rfl).mpr ?_
    obtain ⟨tb3, out, kept⟩ := refusedBoot_reads d c.isLt
    rw [← hd, controlBootOp_of_refused ready selfTest (refused _)]
    generalize bootFailed (bootSelect (bootRom (bootBegun d c) c) c).1 c = e at *
    exact ⟨tb3, fun _ => out, fun _ h => (nomatch h), fun _ h => (nomatch h),
      fun _ => keeps_settled (kept.mono (by decide) fun _ _ h => .inl h)⟩

/-! ### Where an image is signed -/

/-- Die 0 shadowed and takes over with the tokens of four pixel dies; die 1 is down, and die 0 of the pixel dies has an image to install. -/
def shadowDie : CtlDie := { CtlDie.reset with out := true, role := 10, takeover := some 0, warm := true }
def tokenDie : PixelDie := { PixelDie.reset with out := true, token := 2 }
def loadedUnit : McUnit := { McUnit.reset with state0 := 3 }
def takeoverDevice (img : List Byte) : Device :=
  { Device.reset with
    ctls := [(0, shadowDie)], pix := [(0, tokenDie), (1, tokenDie), (2, tokenDie), (3, tokenDie)],
    mcs := [(0, { McUnit.reset with install := some img }), (1, loadedUnit), (2, loadedUnit), (3, loadedUnit)] }

theorem tokensOf_takeoverDevice (img : List Byte) : 4 ≤ (tokensOf (takeoverDevice img) 0).length :=
  Nat.le_of_eq (congrArg List.length (show tokensOf (takeoverDevice img) 0 = [0, 1, 2, 3] from rfl)).symm

theorem slotA_mcMark (x : Device) (p : Nat) (on : Bool) {c : Nat} (hc : c < 2) : (ctlAt (mcMark x p on) c).flash.slotA ≠ 0 := by
  rw [mcMark, forEach_cons, forEach_cons]
  simp only [forEach, List.foldl_nil, modNor, setNor_eq]
  rcases eq_of_lt_two hc with rfl | rfl
  · rw [ctlAt_setCtl, if_neg (by decide), ctlAt_setCtl, if_pos rfl]
    exact slotA_norOf _ _
  · rw [ctlAt_setCtl, if_pos rfl]
    exact slotA_norOf _ _

theorem flash_extendMeas_micro (x : Device) (c : Nat) (dg : List Byte) (j : Nat) :
    (ctlAt (extendMeas x c 2 dg) j).flash = (ctlAt x j).flash := by
  have logged : Keeps auditParts eventReg (extendDie x c 2 dg) (extendMeas x c 2 dg) :=
    keeps_auditAdd (extendDie x c 2 dg) 13 0xFF 0 0 dg ⟨by decide, by decide, by decide⟩ fun _ _ h => h
  rw [logged.ctlAt (by decide)]
  by_cases h : j = c
  · obtain ⟨m, own⟩ := (measOnly_extendDie x c 2 dg).own
    rw [h, own]
  · rw [(measOnly_extendDie x c 2 dg).other j h]

/-- The install of a signed image programs the NOR of both control dies, and touches no other die's microcode. -/
theorem loadMicro_programs {x : Device} {p : Nat} (signed : Config.imageSigned (loadedImage x p) = true)
    (install : (mcToInstall x p).isSome = true) :
    (∀ c, c < 2 → (ctlAt (loadMicro x p) c).flash.slotA ≠ 0) ∧ (∀ j, j ≠ p → mcAt (loadMicro x p) j = mcAt x j) := by
  have stored := keeps_installStored x p
  have slots : ∀ c, c < 2 → (ctlAt (installStored x p) c).flash.slotA ≠ 0 := fun c hc => by
    rw [installStored, if_pos install]
    exact slotA_mcMark _ _ _ hc
  rw [loadMicro_eq, if_pos signed]
  generalize installStored x p = y at *
  refine ⟨fun c hc => ?_, fun j hj => ?_⟩
  · rw [flash_extendMeas_micro]
    exact slots c hc
  · rw [(keeps_extendMeas_micro _ _ _).mcAt (by decide), mcAt_setMc, if_neg hj.symm, stored.mcAt (by simp)]

theorem serveStarted_of_first {x y : Device} (bare : Bare x 0) (hy : y = ruleReload (loadMicro x 0) (dieNo 0))
    (loaded : ∀ p, 0 < p → p < 6 → ¬ Bare y p) : serveStarted x = y := by
  obtain ⟨up, empty⟩ := bare
  rw [serveStarted, show List.range 6 = 0 :: [1, 2, 3, 4, 5] by decide, forEach_cons, if_pos (by simp [up, empty]), ← hy]
  refine forEach_of_idle _ _ _ fun p hp => serveStep_of_not_bare ?_
  simp only [List.mem_cons, List.not_mem_nil, or_false] at hp
  exact loaded p (by omega) (by omega)

/-- Of the pixel dies of the takeover only die 0 has no microcode. -/
theorem not_bare_takeoverDevice (img : List Byte) {p : Nat} (h0 : 0 < p) (h6 : p < 6) : ¬ Bare (takeoverDevice img) p := by
  intro ⟨up, bare⟩
  have cases : p = 1 ∨ p = 2 ∨ p = 3 ∨ p = 4 ∨ p = 5 := by omega
  rcases cases with rfl | rfl | rfl | rfl | rfl
  · exact nomatch (bare : 3 = 0)
  · exact nomatch (bare : 3 = 0)
  · exact nomatch (bare : 3 = 0)
  · exact nomatch (up : false = true)
  · exact nomatch (up : false = true)

/-- The takeover programs the NOR of the peer, though that is down. -/
theorem slotA_failover_takeoverDevice {img : List Byte} (signed : Config.imageSigned img = true) :
    (ctlAt (failover (takeoverDevice img) 0) 1).flash.slotA ≠ 0 := by
  have taken := (warmCounted_reads (d := takeoverDevice img) (c := 0) (by decide) rfl).kept
  have only : ∀ p, 0 < p → p < 6 → ¬ Bare (takeoverDevice img) p := fun p h0 h6 => not_bare_takeoverDevice img h0 h6
  have bare : Bare (takeoverDevice img) 0 := ⟨rfl, rfl⟩
  have install : (mcAt (takeoverDevice img) 0).install = some img := rfl
  rw [failover_eq, (keeps_tookOver _ (by decide)).ctlAt (by decide)]
  generalize takeoverDevice img = d at *
  have same : ∀ p, Bare (warmCounted d 0) p ↔ Bare d p := fun p => by
    rw [Bare, Bare, pixUp, pixUp, taken.pixAt (by decide), taken.mcAt (by decide)]
  rw [← taken.mcAt (by decide) 0] at install
  generalize warmCounted d 0 = x at *
  have chosen : mcToInstall x 0 = some img := by rw [mcToInstall, install]
  have image : loadedImage x 0 = img := by rw [loadedImage, chosen]; rfl
  have signed' : Config.imageSigned (loadedImage x 0) = true := by rw [image]; exact signed
  obtain ⟨slots, others⟩ := loadMicro_programs signed' (by rw [chosen]; rfl)
  obtain ⟨-, dies, -⟩ := loadMicro_of_signed signed'
  have reloaded := keeps_ruleReload (loadMicro x 0) (dieNo 0)
  have loaded : ∀ p, 0 < p → p < 6 → ¬ Bare (ruleReload (loadMicro x 0) (dieNo 0)) p := fun p h0 h6 h => by
    rw [Bare, pixUp, reloaded.pixAt (by simp), dies, reloaded.mcAt (by simp), others p (by omega)] at h
    exact only p h0 h6 ((same p).mp h)
  rw [serveStarted_of_first ((same 0).mpr bare) rfl loaded, reloaded.ctlAt (by simp)]
  exact slots 1 (by decide)

/-- Where an image is signed, the statement fails: its first clause leaves a peer that is down as it was. -/
theorem not_controlDiesBootAndTakeOver_of_signed {img : List Byte} (signed : Config.imageSigned img = true) :
    ¬ Obligations.ControlDiesBootAndTakeOver := by
  intro ⟨warmed, _, _⟩
  have does := warmed 0 { State.reset with dev := takeoverDevice img } (takeoverDevice img) 0 0 shadowDie 0 rfl rfl rfl rfl rfl rfl
    (tokensOf_takeoverDevice img) (Nat.zero_le _) rfl
  obtain ⟨-, -, -, -, -, peer, -⟩ := (does_act _ 0 _ (fun d => tokenGrantOp d 0 0) _ rfl).mp does
  have down : ctlAt (settle (tokenGrantOp (takeoverDevice img) 0 0)) 1 = CtlDie.reset := peer rfl
  have grant : tokenGrantOp (takeoverDevice img) 0 0 = failover (takeoverDevice img) 0 :=
    tokenGrantOp_of_warm (t := 0) rfl rfl rfl rfl (tokensOf_takeoverDevice img) (Nat.zero_le _) rfl
  rw [ctlAt_settle, grant] at down
  exact slotA_failover_takeoverDevice signed (by rw [down]; rfl)

/-- The statement is the claim that no image is signed. The model leaves open which are, so neither it nor its negation follows. -/
theorem controlDiesBootAndTakeOver_iff : Obligations.ControlDiesBootAndTakeOver ↔ ∀ img, Config.imageSigned img = false := by
  refine ⟨fun holds img => ?_, controlDiesBootAndTakeOver_of_unsigned⟩
  cases signed : Config.imageSigned img with
  | false => rfl
  | true => exact absurd holds (not_controlDiesBootAndTakeOver_of_signed signed)

end Sys2Proof
end
